-- ==== Sys2Proof/Word.lean ====
section
/-! DEFINITION. The words of the SOL384: bytes, 32-bit words, and the two sparse shapes every later file uses. -/

namespace Sys2Proof

/-- One byte of a frame, a queue, a window or a memory (R7). -/
abbrev Byte := BitVec 8

/-- One 32-bit link-register or staging word (R53). -/
abbrev Word := BitVec 32

/-- A sample count: bits [50:3] of the tide (R18). -/
abbrev Smp := BitVec 48

/-- A numbered family of blocks: the entries that were written, by ascending number.
A number that is not listed stands for the block's reset value, which the reader names. -/
abbrev Bank (α : Type) := List (Nat × α)

/-- Sparse bytes: ascending addresses, no byte equal to 0, and 0 for every address not listed. -/
abbrev Memory := List (Nat × BitVec 8)

end Sys2Proof
end

