-- ==== Sys2Proof/Syntax.lean ====
section
/-! DEFINITION. The commands of the block: one constructor of `Instr` for each row of spec/opcode_table.json,
with the operands the row needs. What an operand means is said at its type; what a row does is said at its meaning. -/

namespace Sys2Proof

/-- The ordering variant (Table 00-1). -/
inductive Variant where
  | f | d
  deriving DecidableEq, Repr, Inhabited

/-- One of the eight tenants T0 to T7 (R63). -/
abbrev Tenant := Fin 8

/-- A tag of a command header, 7 bits (Table 04-1). -/
abbrev Tag := Fin 128

/-- Another unit that drives the read phase of a confirm frame (R58, R59). -/
structure Rival where
  /-- true: it already holds the offered address and sends ENUM_NEW 0. -/
  holder : Bool
  dieId : BitVec 64
  deriving DecidableEq, Repr, Inhabited

/-- A frame as the unit receives it, from the falling edge of LK_CS_N to the rising edge (R35, Table 02-4). -/
structure RawFrame where
  /-- the bytes received in the header phase: 6 unless the frame ended inside its header. -/
  hdr : List Byte
  /-- bytes the host clocks between the header and the request payload, turnarounds left out: its read phase (R40). -/
  read : Nat
  /-- the bytes the host sends after its read phase: the request payload and its CRC-32, as far as they came. -/
  body : List Byte
  /-- tail clocks with LK_CS_N low after the payload CRC-32 (R42). -/
  tail : Nat
  /-- true: the host used quad mode for this frame (R36). -/
  quad : Bool
  /-- the level of ENUM_IN at the commit (R57). -/
  enumIn : Bool
  /-- the other units that drive the read phase when this is a confirm frame (R58). -/
  rivals : List Rival
  deriving DecidableEq, Repr, Inhabited

/-- What exchange-RAM ECC finds while the firmware reads a submission entry or an echo entry (Table 12-5). -/
inductive EntryEcc where
  | clean | corrected | entryBad | echoBad
  deriving DecidableEq, Repr, Inhabited

/-- What the hardware answers while a command executes. -/
structure HwAnswer where
  /-- every MRAM word the command wrote reads back right (R337). -/
  verify : Bool
  /-- the memory the command reads holds an uncorrectable word (Table 12-5). -/
  eccBad : Bool
  deriving DecidableEq, Repr, Inhabited

/-- A record pair of MRAM, or the firmware images (Table 12-2). -/
inductive NvmRec where
  | slot | life | advance | tampered | maker | rollback | vault | cal | counts | image
  deriving DecidableEq, Repr, Inhabited

/-- What MRAM answers while a boot reads and writes it: the copies in which it meets an uncorrectable word (true: copy B or
slot B), and whether every word it writes reads back right (R303, R337, R343). -/
structure BootRead where
  bad : List (NvmRec × Bool)
  verify : Bool
  deriving DecidableEq, Repr, Inhabited

/-- A condition that the tamper monitors see (Table 12-9, R318). -/
inductive TamperSeen where
  /-- TAMPER_N low. -/
  | pin (lowNs : Nat)
  /-- a supply, VDD_ENG or else VDD_AON, at `mv` for `ns`: `poweredUs` have passed since it first entered its range, and
  `fallNs` is how long it took from its nominal value to its low threshold, when it fell. -/
  | glitch (eng : Bool) (mv ns poweredUs : Nat) (fallNs : Option Nat)
  /-- the always-on sensor. -/
  | temperature (celsius : Int)
  deriving DecidableEq, Repr, Inhabited

/-- A set of the 346 voice parameters by parameter ID (R147); an ID not listed has its default. -/
abbrev ParamSet := List (Nat × Int)

/-- A CV or a gate output, which share limit handling (R210). -/
inductive OutRef where
  | cv (n : Fin 16) | gt (n : Fin 8)
  deriving DecidableEq, Repr, Inhabited

/-- An output that can leave LIMIT: CV, gate or line (R199, R210). -/
inductive LimRef where
  | out (o : OutRef) | line (n : Fin 4)
  deriving DecidableEq, Repr, Inhabited

/-- What the key matrix shows during one full scan (R228, R233). -/
structure ScanReadings where
  /-- per pass, the codes of the 128 cells; ten passes in CONTACT mode, one in ANALOG mode. -/
  passes : List (List Nat)
  /-- per sense line, by how much the injection moves its code (injection scan only). -/
  senseMove : List Nat
  /-- per drive line, the current out of it in microamperes (injection scan only). -/
  driveUa : List Nat
  deriving DecidableEq, Repr, Inhabited

/-- A wake source (Table 13-7, `power.last_wake`). -/
inductive WakeSrc where
  | none | link | schedule | event | wakeN | sc (n : Fin 4) | timer | key
  deriving DecidableEq, Repr, Inhabited

/-- The power states of Table 13-6. -/
inductive PState where
  | run | doze | nap | hibernate
  deriving DecidableEq, Repr, Inhabited

/-- The tamper sources of Table 12-9. -/
inductive TamperSrc where
  | pin | glitch | temperature
  deriving DecidableEq, Repr, Inhabited

/-- The memories MEM_BANK_STATE names (Table 04-12). -/
inductive BankKind where
  | wave | patch | firmware
  deriving DecidableEq, Repr, Inhabited

/-- The marker section of a ring frame as it arrives (Table 11-2). -/
structure Marker where
  keeperId : BitVec 64
  /-- the keeper's sample count at the opening boundary. -/
  smp : Smp
  fsIndex : Nat
  /-- D_max in 1/16 smp. -/
  dMax : Nat
  /-- accumulated hop latency in ns. -/
  hopNs : Nat
  epoch : Nat
  grant : Bool
  crcOk : Bool
  /-- the latency of the incoming lane-A hop this unit measures, in ns (R276). -/
  ownHopNs : Nat
  /-- by how many 1/1000 smp the unit's boundary lies from the marker's (R277). -/
  drift : Int
  deriving DecidableEq, Repr, Inhabited

/-- One entry of the gossip section (Table 11-2). -/
structure GossipEntry where
  present : Bool
  free : Nat
  groupDelay : Nat
  nap : Bool
  hard : Bool
  mismatch : Bool
  deriving DecidableEq, Repr, Inhabited

/-- Sender and sequence number that a record carries (R273): a ring position, or 16 for a unit that joins. -/
structure RingHead where
  unit : Nat
  seq : BitVec 16
  deriving DecidableEq, Repr, Inhabited

/-- A spilled note as it travels on the ring (Table 11-2, R163). -/
structure RingNote where
  /-- ring position of the origin. -/
  origin : Nat
  tenant : Tenant
  noteId : BitVec 32
  part : Nat
  key : Nat
  velocity : Nat
  detune : Int
  et : Nat
  /-- the sample at which the note would have started at its origin. -/
  start : Smp
  copy : ParamSet
  /-- the sender's ring sequence number (R273). -/
  seq : BitVec 16
  /-- the CRC-32 of its section holds (R271). -/
  crcOk : Bool := true
  deriving DecidableEq, Repr, Inhabited

/-- A command to a spilled note, as its record carries it (R284). -/
inductive NoteCmd where
  | off (release : Nat)
  | bend (cents : Int)
  | pressure (v : Nat)
  | retarget (key : Nat)
  | params (entries : List (Nat × Int))
  | allRelease (part : Option Nat) (fade : Bool)
  | mute
  /-- the MUTE of the note's tenant is lifted (R67 step 3, R357). -/
  | unmute
  /-- a NOTE_ON that names the note: the voice retriggers (R99, R154). -/
  | retrigger (key vel : Nat) (detune : Int)
  /-- UMP per-note pitch bend, as a numerator over 2^31, and a per-note controller with its 32-bit value (Table 04-19). -/
  | umpBend (num : Int)
  | umpCtl (assignable : Bool) (index v : Nat)
  deriving DecidableEq, Repr, Inhabited

/-- A command record that arrives for a spilled-in note (R284). -/
structure SpillCommand where
  origin : Nat
  tenant : Tenant
  /-- the tag the command is in flight on at its origin; none when no command waits for it (R357). -/
  tag : Option Tag
  noteId : BitVec 32
  cmd : NoteCmd
  /-- the sample and et at which the command would have taken effect at the origin. -/
  at_ : Smp
  et : Nat
  seq : BitVec 16
  deriving DecidableEq, Repr, Inhabited

/-- What the command records of R284 carry: a command to the receiving unit, its report back to the origin, the news that a
spilled-in voice of the origin's tenant plays a bank that is not ON (R297, R357), or the end record of R285. A section of
records whose CRC-32 fails brings none of its records (R271). -/
inductive SpillRecord where
  | command (c : SpillCommand)
  | report (h : RingHead) (t : Tenant) (g : Tag) (noteId : BitVec 32) (found late : Bool) (landed : Smp)
  | bankOff (h : RingHead) (t : Tenant) (noteId : BitVec 32) (bank : Nat)
  | endOrder (h : RingHead) (t : Tenant) (noteId : BitVec 32)
  | crcBad
  deriving DecidableEq, Repr, Inhabited

/-- What a keeper record tells a unit in its election window (R275, Table 11-5). -/
structure KeeperRecord where
  dieId : BitVec 64
  fsIndex : Nat
  smp : Smp
  dMax : Nat
  deriving DecidableEq, Repr, Inhabited

/-- What takes effect at a join boundary or a heal (R270, R279, R287, R289). -/
structure Membership where
  /-- the unit that joins, or 0. -/
  newId : BitVec 64
  newPosition : Nat
  /-- this unit's position after the boundary. -/
  position : Nat
  units : Nat
  keeperId : BitVec 64
  dMax : Nat
  /-- the keeper's sample count at the boundary. -/
  smp : Smp
  /-- the units lost: former position and die ID (0 when unknown). -/
  lost : List (Nat × BitVec 64)
  /-- no fold is left anywhere on the ring. -/
  whole : Bool
  /-- the links of this unit carry two locked lanes again: the side of lane A's receiver, and the other (R269, R288). -/
  lockA : Bool := false
  lockB : Bool := false
  /-- `decim.group_delay` of the unit that joins, none when it joins in RATE_MISMATCH (R279). -/
  newDelay : Option Nat := none
  deriving DecidableEq, Repr, Inhabited

/-- A measured trim of one target: index as in CAL_RUN's masks, offset in microvolts, gain in ppm (R345-R347). -/
structure Measured where
  target : Nat
  offset : Int
  gain : Int
  deriving DecidableEq, Repr, Inhabited

/-- The rows of spec/opcode_table.json. A row of a Belelxus command names the tenant and the tag on which that
command is in flight; its payload stands in the state, where TAKE_ENTRY put it. -/
inductive Instr where
  -- link port
  | submitCommit (f : RawFrame)
  | reapCommit (f : RawFrame) (bad : List Nat)
  | lreadCommit (f : RawFrame)
  | lwriteCommit (f : RawFrame)
  | enumerateCommit (f : RawFrame)
  | confirmFrameCommit (f : RawFrame)
  | bulkWriteCommit (f : RawFrame)
  | bulkReadCommit (f : RawFrame)
  | frameDiscard (f : RawFrame)
  | unitAddrWrite (v : Word)
  | irqSumClear (v : Word)
  | linkRegisterWrite (off : BitVec 8) (v : Word)
  -- firmware
  | takeEntry (ecc : EntryEcc)
  | commandDue (t : Tenant) (g : Tag) (hw : HwAnswer)
  -- session
  | nop (t : Tenant) (g : Tag)
  | identify (t : Tenant) (g : Tag)
  | tenantOpen (t : Tenant) (g : Tag)
  | tenantClose (t : Tenant) (g : Tag)
  | tenantReset (t : Tenant) (g : Tag)
  | tenantResetDone (t : Tenant)
  | heartbeat (t : Tenant) (g : Tag)
  | abort (t : Tenant) (g : Tag)
  | propGet (t : Tenant) (g : Tag)
  | propSet (t : Tenant) (g : Tag)
  | engRunStop (t : Tenant) (g : Tag)
  | engRunRun (t : Tenant) (g : Tag)
  | busStopFadeEnd
  | tenantBeatReset (t : Tenant) (g : Tag)
  | tenantWindowResize (t : Tenant) (g : Tag)
  | tpEnableWrite (t : Tenant) (g : Tag)
  | gtEnableWrite (t : Tenant) (g : Tag)
  | vaultTamperedClear (t : Tenant) (g : Tag)
  -- notes
  | noteOn (t : Tenant) (g : Tag)
  | noteOff (t : Tenant) (g : Tag)
  | noteChangeBend (t : Tenant) (g : Tag)
  | noteChangePressure (t : Tenant) (g : Tag)
  | noteChangeRetarget (t : Tenant) (g : Tag)
  | allRelease (t : Tenant) (g : Tag)
  | allReleaseFade (t : Tenant) (g : Tag)
  | ump (t : Tenant) (g : Tag)
  | voiceParam (t : Tenant) (g : Tag)
  | partParam (t : Tenant) (g : Tag)
  -- patches and wave memory
  | patchWrite (t : Tenant) (g : Tag)
  | patchRead (t : Tenant) (g : Tag) (hw : HwAnswer)
  | patchSelect (t : Tenant) (g : Tag) (hw : HwAnswer)
  | waveWrite (t : Tenant) (g : Tag)
  | waveRead (t : Tenant) (g : Tag)
  | waveMap (t : Tenant) (g : Tag)
  | waveLoadSealed (t : Tenant) (g : Tag) (hw : HwAnswer)
  | sealedLoadDone (t : Tenant) (g : Tag)
  -- buses
  | busConfigGain (t : Tenant) (g : Tag)
  | busConfigEnable (t : Tenant) (g : Tag)
  | busConfigResync (t : Tenant) (g : Tag)
  | busConfigRing (t : Tenant) (g : Tag)
  | decimConfig (t : Tenant) (g : Tag)
  | coefLoad (t : Tenant) (g : Tag)
  | coefSwitch (t : Tenant) (g : Tag)
  | coefFadeEnd (bus : Fin 32)
  | detectRead (t : Tenant) (g : Tag)
  -- field outputs and inputs
  | cvConfig (t : Tenant) (g : Tag)
  | cvSet (t : Tenant) (g : Tag)
  | cvQueue (t : Tenant) (g : Tag)
  | gateSet (t : Tenant) (g : Tag)
  | lineConfig (t : Tenant) (g : Tag)
  | padRelease (t : Tenant) (g : Tag)
  | ciConfig (t : Tenant) (g : Tag)
  | keyscanConfig (t : Tenant) (g : Tag)
  | keyscanStatus (t : Tenant) (g : Tag)
  -- serial channels
  | scConfig (t : Tenant) (g : Tag)
  | scSend (t : Tenant) (g : Tag)
  | scBreak (t : Tenant) (g : Tag)
  | cardSessionStart (t : Tenant) (g : Tag)
  | cardSessionExchange (t : Tenant) (g : Tag)
  | cardSessionStop (t : Tenant) (g : Tag)
  -- chain
  | chainInfo (t : Tenant) (g : Tag)
  | ringStart (t : Tenant) (g : Tag)
  | ringStatus (t : Tenant) (g : Tag)
  | ringLeave (t : Tenant) (g : Tag)
  -- memory, security, power
  | memBankState (t : Tenant) (g : Tag)
  | bankTransitionDone (kind : BankKind) (bank : Fin 16)
  | vaultKeyLoad (t : Tenant) (g : Tag) (hw : HwAnswer)
  | vaultKeyErase (t : Tenant) (g : Tag) (hw : HwAnswer)
  | lifecycleAdvance (t : Tenant) (g : Tag) (hw : HwAnswer)
  | powerPolicy (t : Tenant) (g : Tag)
  | powerEnterDoze (t : Tenant) (g : Tag)
  | powerEnterNap (t : Tenant) (g : Tag)
  | powerEnterHibernate (t : Tenant) (g : Tag)
  | wakeConfig (t : Tenant) (g : Tag)
  -- calibration, tests, firmware, reset
  | calRun (t : Tenant) (g : Tag)
  | calRunDone (m : List Measured)
  | calStore (t : Tenant) (g : Tag)
  | calRead (t : Tenant) (g : Tag)
  | selftest (t : Tenant) (g : Tag)
  | laneServiceOut (t : Tenant) (g : Tag)
  | laneServiceIn (t : Tenant) (g : Tag)
  | laneSelftestDone (lane : Fin 8) (pass : Bool)
  | laneDrainLimit (lane : Fin 8) (elapsedMs : Nat)
  | fwStage (t : Tenant) (g : Tag) (hw : HwAnswer)
  | fwActivate (t : Tenant) (g : Tag) (hw : HwAnswer)
  | deviceReset (t : Tenant) (g : Tag)
  | warmReset (rd : BootRead)
  -- engine time
  | engineTick
  | stealFadeEnd (lane : Fin 8) (slot : Fin 48)
  | blockBoundary
  -- tenants and the control processor
  | hostLossTimeout (t : Tenant) (elapsedMs : Nat)
  | eventsDroppedNotice (t : Tenant)
  /-- `sramBad`: an uncorrectable word of this firmware bank is the cause (Table 12-5). -/
  | ctlWatchdogRestart (sramBad : Option (Fin 8))
  | ctlFirmwareReturn
  -- resets, boot, supplies
  /-- `nvmUp`: VDD_NVM is in range when the boot reaches step 4. -/
  | powerOnReset (nvmUp : Bool)
  | resetNAssert (lowNs : Nat)
  | bootComplete (laneFail : BitVec 8) (rd : BootRead)
  | vddEngTimeout
  | tamperDetect (seen : TamperSeen)
  /-- `vfUp`: VFP and VFN are in range. -/
  | fieldSelftestPass (vfUp : Bool)
  | fieldLinkSilence
  | fieldLinkDark
  | fieldLinkRecover
  | fieldDieFault (cause : Fin 4)
  | fieldSupplyLow
  | vddFaRise
  | mclkLoss
  | mclkRestore
  | frameEdgeCapture (rising : Bool)
  | thermalSample (tjC : Int)
  | thermalSoftStep
  -- ring
  | markerArrival (m : Marker)
  | gossipSection (entries : List GossipEntry) (crcOk : Bool)
  | sumSection (sums : List (List Int)) (crcOk : Bool)
  | totalSection (sums : List (List Int)) (crcOk : Bool)
  | startRecordReceived (dieId : BitVec 64) (fsIndex : Nat)
  | startRecordTimer
  | keeperRecordReceived (r : KeeperRecord)
  | electionWindowEnd
  | joinNoticeReceived (h : RingHead) (dieId : BitVec 64)
  | joinBoundary (m : Membership)
  | leaveNoticeReceived (h : RingHead) (dieId : BitVec 64)
  | ringLeaveBoundary
  | ringLaneLoss (laneA : Bool) (neighbour : BitVec 64)
  | ringHeal (m : Membership)
  | ringUnfold (m : Membership)
  | spilledNoteArrival (n : RingNote)
  | spilledNoteStart (origin : Fin 16) (t : Tenant) (noteId : BitVec 32)
  | spillStartReport (h : RingHead) (t : Tenant) (noteId : BitVec 32)
  | spillRefusal (h : RingHead) (t : Tenant) (noteId : BitVec 32)
  | spillFallbackSteal (t : Tenant) (noteId : BitVec 32)
  | spillCommandRecord (r : SpillRecord)
  | spillEndRecord (h : RingHead) (t : Tenant) (noteId : BitVec 32) (stolen : Bool)
  | ringAckReceived (seq : BitVec 16)
  | ringItemResend
  | ringItemGiveUp (seq : BitVec 16)
  | spillReportTimeout (t : Tenant) (g : Tag)
  | originSilent (origin : Fin 16)
  -- field outputs in time
  | cvSafeEnd (n : Fin 16)
  | lineSafeEnd (n : Fin 4)
  | lineDisableEnd (n : Fin 4)
  | cvLimitBegin (o : OutRef) (positive : Bool)
  | cvLimitTimeout (o : OutRef)
  | cvRetryTimer (o : OutRef)
  | cvRetryEnd (o : OutRef) (limited : Bool)
  | cvEpisodeEnd (o : OutRef)
  | pairSuspect (a b : OutRef)
  | lineLimitBegin (n : Fin 4)
  | lineLimitClear (n : Fin 4)
  | senseInjection (n : Fin 16) (diffMv : Nat)
  | senseOpenDetect (n : Fin 16) (diffMv : Nat)
  -- field inputs
  | ciSample (c : Fin 8) (bits : BitVec 128)
  | ciOverloadEnd (c : Fin 8)
  | keyScan (r : ScanReadings)
  | keyRestCaptureDone
  | keyCellFaultClear (cell : Fin 128)
  -- serial channels in time
  /-- `edges`: the times in FWO cycles after the start edge at which the line changes level. -/
  | scCharReceived (ch : Fin 4) (edges : List Nat) (ctsHigh : Bool)
  | scLineRise (ch : Fin 4) (lowCycles : Nat)
  | scBreakSaturate (ch : Fin 4)
  | scRxDeliver (ch : Fin 4) (oldestMs : Nat)
  /-- `ctsHigh`: SCn_CTS_N is high; on the channel in CARD mode: the card signals an error on the character last sent. -/
  | scTxCharacter (ch : Fin 4) (ctsHigh : Bool)
  | scTxBreakStart (ch : Fin 4) (ctsHigh : Bool)
  | scTxBreakEnd (ch : Fin 4)
  | scWakeEdge (ch : Fin 4)
  | scWakeRearm (ch : Fin 4)
  | cardDetectChange (present : Bool)
  | cardActivationTimer
  /-- the ten moments of TS, true for Z, and the FWO cycles from its start edge to its second falling edge. -/
  | cardTsReceived (moments : List Bool) (t3 : Nat)
  | cardTsTimeout
  | cardCharReceived (moments : BitVec 9)
  | cardWaitTimeout
  -- TDM ports
  | tdmSlaveFrame (p : Fin 6) (bclks : Nat) (words : List Int)
  | tdmNoClock (p : Fin 6)
  -- power in time
  | idleTimerExpiry (idleMs : Nat)
  | idlenessEnd
  | powerEntryBegin
  | hibernateEntry
  | hibernateQuiesceDone
  | wakeDuringEntry (src : WakeSrc)
  | napTideComparator
  | napWake (src : WakeSrc)
  | wakeNEdge (lowNs : Nat)
  | aonTimerWake (elapsedS : Nat)
  | keyPressWake
  | hibernateWake (src : WakeSrc) (saveBad digestBad : Bool) (rd : BootRead)
  /-- `found`: words of wave memory with an error, true when uncorrectable; `corrected`: one bank code of R303 for each word
  that a read of any memory has corrected since the scrub before. -/
  | waveScrub (found : List (Nat × Bool)) (corrected : List Nat)
  | lifeSecond
  | lifeHourlyStore (hw : HwAnswer)
  | periodicTrim (elapsedS : Nat)
  | limitExit (o : LimRef)
  | vddNvmInRange (rd : BootRead)
  | vddEngOutOfRange
  | selftestDone (failMask : BitVec 32)
  | periodicTrimDone (m : List Measured)
  | calStoreDone (verify : Bool)
  | waveWriteDone (t : Tenant) (g : Tag)
  | foldNoticeReceived (h : RingHead) (dieId : BitVec 64)
  deriving DecidableEq, Repr

end Sys2Proof
end

