-- ==== Sys2Proof/Config.lean ====
section
/-! DEFINITION. What the spec leaves open. Real-valued functions whose precision no rule fixes, the constants of filters
known only by their response, cryptographic primitives, free values, and inputs that no row carries. Each is a constant
without a body: no proof sees its value. See the assumption log, entries 5, 6 and 9. -/

namespace Sys2Proof.Config

/-! ## Free values (log entry 6) -/

/-- The n-th free value drawn. -/
opaque freeWord : Nat → BitVec 64

/-! ## Real functions (log entry 5) -/

/-- 2 to the x. -/
opaque exp2 : Rat → Rat
/-- 10 to the x. -/
opaque exp10 : Rat → Rat
/-- e to the x. -/
opaque expE : Rat → Rat
/-- Logarithm to base 10. -/
opaque log10 : Rat → Rat
/-- Square root. -/
opaque sqrt : Rat → Rat
/-- Sine of an angle in radians. -/
opaque sinR : Rat → Rat
/-- Cosine of an angle in radians. -/
opaque cosR : Rat → Rat
/-- The number pi. -/
opaque pi : Rat
/-- Rounding of a value between two integers where no rule says how (R169, R177). -/
opaque roundMid : Rat → Int

/-! ## Voice engine -/

/-- First state of a voice's noise generator and random source, from the note ID (R117). -/
opaque rngSeed : BitVec 32 → BitVec 32
/-- Next state of the generator (R126). -/
opaque rngNext : BitVec 32 → BitVec 32
/-- polyBLEP and polyBLAMP correction of a VA shape at a phase, with the increment and the pulse width (Table 05-1). -/
opaque blep : Nat → Nat → Nat → Rat → Rat
/-- BLEP residual of a hard-sync step: place r, height, and which of the two ticks (R128). -/
opaque syncBlep : Rat → Rat → Nat → Rat
/-- Windowed-sinc tap k of 8 at a fraction (Table 05-1). -/
opaque sincTap : Nat → Rat → Rat
/-- Output of a NOISE oscillator whose stored `osc.shape` no row of Table 05-1 lists, from the state of its generator. -/
opaque noShape : BitVec 32 → Rat
/-- The pink filter: state and white sample to state and output (R126). -/
opaque pink : List Rat → Rat → List Rat × Rat
/-- One tick of an SVF: mode, frequency over engine rate, resonance, state, input (Table 05-2). -/
opaque svf : Nat → Rat → Rat → List Rat → Rat → List Rat × Rat
/-- One tick of a ladder: frequency over engine rate, resonance, drive in dB, state, input (Table 05-2). -/
opaque lad : Rat → Rat → Rat → List Rat → Rat → List Rat × Rat

/-- At this engine tick the loader has already written this line of a WAVE_WRITE that is still copying (R301). -/
opaque lineCopied : Nat → Nat → Bool

/-! ## Buses and inputs -/

/-- Coefficient i of a halfband stage of a preset (R173). -/
opaque halfTap : Nat → Nat → Rat
/-- Words that arrive in frame n on a master IN port (R188). -/
opaque tdmIn : Nat → Nat → List Int
/-- A ring sum of two 32-bit values that falls outside 32 bits (R280 states no result). -/
opaque ringOver : Int → Int → Int
/-- Coefficient i of a CV-input FIR bank, of the 31 that its symmetry and its gain of 1 leave open (R221). -/
opaque ciTap : Nat → Nat → Rat

/-! ## Cryptography (log entry 9) -/

/-- AES key unwrap under the vault's key-encryption key: the key, or none when the check fails (R307). -/
opaque unwrap : List (BitVec 8) → List (BitVec 8) → Option (List (BitVec 8))
/-- AES-GCM decryption of IV, ciphertext and tag under a key with additional data: the plaintext, or none (R103). -/
opaque gcmOpen : List (BitVec 8) → List (BitVec 8) → List (BitVec 8) → Option (List (BitVec 8))
/-- SHA-256 (Table 12-7). -/
opaque sha256 : List (BitVec 8) → List (BitVec 8)
/-- HMAC-SHA-256 of a key and a message, of which HKDF is made (R306). -/
opaque hmacSha256 : List (BitVec 8) → List (BitVec 8) → List (BitVec 8)
/-- ECDSA P-256: public key, hash, signature (Table 12-7, R312). -/
opaque ecdsaP256 : List (BitVec 8) → List (BitVec 8) → List (BitVec 8) → Bool
/-- Grennex's public key (Table 12-8). -/
opaque grennexKey : List (BitVec 8)
/-- ECDH P-256: private key and public key to the shared secret (R306). -/
opaque ecdhP256 : List (BitVec 8) → List (BitVec 8) → List (BitVec 8)
/-- The bytes of the identity key (false) or the storage key (true) of a fused device secret (Table 12-6). -/
opaque deviceKey : Bool → BitVec 256 → List (BitVec 8)

/-! ## MRAM (log entry 23) -/

/-- What a settings record of MRAM reads as when neither of its copies is valid, by record: no rule states it (log entry 23). -/
opaque lostRecord : Nat → Nat

/-! ## Revisions (log entry 8) -/

/-- The patch version that IDENTIFY bytes 12 and 13 report (R1 gives 4.2 only). -/
opaque patchVersion : BitVec 16

end Sys2Proof.Config
end

