-- ==== Sys2Proof/Machine/Bank.lean ====
section
/-! DEFINITION. Sparse banks and sparse memories: reading, writing, and the canonical form (addresses strictly rising,
and in a memory no byte equal to 0). -/

namespace Sys2Proof.Machine

/-- The entry of number `n`, if it is listed. -/
def bankGet {α : Type} : Bank α → Nat → Option α
  | [], _ => none
  | (k, v) :: r, n => if k = n then some v else bankGet r n

/-- Writes entry `n`, keeping the numbers rising. -/
def bankPut {α : Type} : Bank α → Nat → α → Bank α
  | [], n, x => [(n, x)]
  | (k, v) :: r, n, x =>
    if n < k then (n, x) :: (k, v) :: r
    else if n = k then (n, x) :: r
    else (k, v) :: bankPut r n x

/-- Removes entry `n`. -/
def bankDel {α : Type} : Bank α → Nat → Bank α
  | [], _ => []
  | (k, v) :: r, n => if k = n then r else (k, v) :: bankDel r n

/-- Entry `n`, or the block's reset value `d` when it is not listed. -/
def bankAt {α : Type} (b : Bank α) (n : Nat) (d : α) : α := (bankGet b n).getD d

/-- The numbers rise strictly from above `lo`. -/
def bankRising {α : Type} : Nat → Bank α → Bool
  | _, [] => true
  | lo, (k, _) :: r => decide (lo ≤ k) && bankRising (k + 1) r

/-- The canonical form of a bank: numbers strictly rising. -/
def bankWf {α : Type} (b : Bank α) : Bool := bankRising 0 b

/-- The byte at an address; an address that is not listed reads 0. -/
def memRead (m : Memory) (a : Nat) : Byte := (bankGet m a).getD 0

/-- Writes one byte, keeping the canonical form. -/
def memWrite (m : Memory) (a : Nat) (b : Byte) : Memory := if b = 0 then bankDel m a else bankPut m a b

/-- `n` bytes from address `a`. -/
def memReadN (m : Memory) (a : Nat) : Nat → List Byte
  | 0 => []
  | n + 1 => memRead m a :: memReadN m (a + 1) n

/-- Writes bytes from address `a` on. -/
def memWriteN (m : Memory) (a : Nat) : List Byte → Memory
  | [] => m
  | b :: r => memWriteN (memWrite m a b) (a + 1) r

/-- Fills `n` bytes from address `a` with zeros. -/
def memClear (m : Memory) (a n : Nat) : Memory := m.filter fun p => decide (p.1 < a) || decide (a + n ≤ p.1)

/-- The bytes below address `n`. -/
def memTake (m : Memory) (n : Nat) : Memory := m.filter fun p => decide (p.1 < n)

/-- No listed byte is 0. -/
def memNonzero (m : Memory) : Bool := m.all fun p => p.2 != 0

/-- The canonical form of a memory. -/
def Memory.wf (m : Memory) : Bool := bankWf m && memNonzero m

end Sys2Proof.Machine
end

