-- ==== Sys2Proof/Machine/Bytes.lean ====
section
/-! DEFINITION. Byte strings: little-endian fields and the two CRCs of the link (R37). -/

namespace Sys2Proof.Machine

/-- The unsigned value of little-endian bytes. -/
def leNat : List Byte → Nat
  | [] => 0
  | b :: r => b.toNat + 256 * leNat r

/-- `n` little-endian bytes of a value. -/
def leBytes : Nat → Nat → List Byte
  | 0, _ => []
  | n + 1, v => BitVec.ofNat 8 v :: leBytes n (v / 256)

/-- `n` little-endian bytes of a signed value, in two's complement. -/
def leInt (n : Nat) (v : Int) : List Byte := leBytes n (v % (256 ^ n : Nat)).toNat

/-- The `n`-byte little-endian field at offset `o`. -/
def field (p : List Byte) (o n : Nat) : Nat := leNat ((p.drop o).take n)

/-- The byte at offset `o`, 0 beyond the end. -/
def byteAt (p : List Byte) (o : Nat) : Nat := ((p.drop o).headD 0).toNat

/-- A two's-complement value of `n` bits. -/
def signed (n v : Nat) : Int := if v < 2 ^ (n - 1) then (v : Int) else (v : Int) - (2 ^ n : Nat)

/-- Bytes brought to length `n` with zeros. -/
def padTo (n : Nat) (b : List Byte) : List Byte := (b ++ List.replicate (n - b.length) 0).take n

/-- Pieces of `n` bytes, the last one padded with zeros; `k` pieces. -/
def pieces (n : Nat) : Nat → List Byte → List (List Byte)
  | 0, _ => []
  | k + 1, b => padTo n b :: pieces n k (b.drop n)

/-- One bit of the CRC-16 of polynomial 0x1021. -/
def crc16Step (c : BitVec 16) : BitVec 16 := if c.msb then (c <<< 1) ^^^ 0x1021#16 else c <<< 1

/-- Repeats a step. -/
def repeatN {α : Type} (f : α → α) : Nat → α → α
  | 0, x => x
  | n + 1, x => repeatN f n (f x)

/-- Header CRC-16: polynomial 0x1021, initial value 0xFFFF, no reflection, no final XOR (R37). -/
def crc16 (b : List Byte) : BitVec 16 :=
  b.foldl (fun c x => repeatN crc16Step 8 (c ^^^ BitVec.ofNat 16 (x.toNat * 256))) 0xFFFF#16

/-- One bit of the reflected CRC-32. -/
def crc32Step (c : BitVec 32) : BitVec 32 := if c.getLsbD 0 then (c >>> 1) ^^^ 0xEDB88320#32 else c >>> 1

/-- The IEEE 802.3 CRC-32 (R37). -/
def crc32 (b : List Byte) : BitVec 32 :=
  (b.foldl (fun c x => repeatN crc32Step 8 (c ^^^ BitVec.ofNat 32 x.toNat)) 0xFFFFFFFF#32) ^^^ 0xFFFFFFFF#32

/-- Every byte is 0. -/
def zeros (b : List Byte) : Bool := b.all (· == 0)

/-- Round to the nearest integer, a half towards plus infinity. -/
def roundHalfUp (x : Rat) : Int := (x + 1 / 2).floor

end Sys2Proof.Machine
end

