-- ==== Sys2Proof/Machine/Types.lean ====
section
/-! DEFINITION. The data the firmware handles: statuses, events, properties, decoded payloads, completion records,
executed writes that have not landed yet. -/

namespace Sys2Proof.Machine

/-! ## Statuses and accept codes -/

/-- Status codes (Table 04-16). -/
inductive Status where
  | ok | okLate | okLimited | aborted | tooLate | notFound | lost
  | badFrame | badOpcode | badField | busyClassX | notPresent | noRights | staleSeq | badTag | seqGap | fadePending
  | noVoice | bankOff | rateMismatch | ringBusy | notInRing | cardAbsent | cardTimeout | cardProtocol
  | tenantFaulted | tenantClosed | fieldDown
  | storeFailed | vaultLocked | signatureBad | crcBad | selftestFailed | lifecycleDenied | eccUncorrected
  deriving DecidableEq, Repr, Inhabited

/-- Accept codes of SUBMIT and BULK_WRITE (Table 02-8). -/
inductive Accept where
  | queued | sqFull | lenMismatch | notReady | windowRange
  deriving DecidableEq, Repr, Inhabited

/-- Event codes (Table 04-17), in the order of their codes 0x00 to 0x1F. -/
inductive Event where
  | ctlRestarted | eventsDropped | hostLost | tenantForced | frameEdge | mclkLost | mclkRestored | fieldLinkLost
  | fieldFault | fieldReady | cvFault | pairSuspect | lineFault | keyNote | keyFault | ciOverload
  | scRx | scLine | cardState | noteStolen | bankOff | laneFault | laneState | thermalSoft
  | thermalHard | ringState | rateMismatch | calSlotReverted | calDrift | powerState | tamperRecorded | eccError
  deriving DecidableEq, Repr, Inhabited

/-! ## Enumerations of the properties -/

/-- Tenant states (R65), in the order of `tenant.state`. -/
inductive TState where
  | closed | opened | faulted | resetting
  deriving DecidableEq, Repr, Inhabited

/-- `tenant.fault_reason` (Table 03-9). -/
inductive FaultReason where
  | none | ctlRestart | hostLoss
  deriving DecidableEq, Repr, Inhabited

/-- `tenant.host_loss_action` (Table 03-8). -/
inductive LossAction where
  | hold | release | mute
  deriving DecidableEq, Repr, Inhabited

/-- `tenant.steal_policy` (Table 06-1). -/
inductive StealPolicy where
  | quietest | oldest | sameNoteFirst | never
  deriving DecidableEq, Repr, Inhabited

/-- Field-output states (Table 08-1). -/
inductive OutState where
  | hiz | safe | driven | limit | hizRetrying | hizLatched | held
  deriving DecidableEq, Repr, Inhabited

/-- Bank power states (Table 12-3). -/
inductive BankSt where
  | on | retain | off
  deriving DecidableEq, Repr, Inhabited

/-- Life-cycle states (Table 12-8). -/
inductive Life where
  | blank | maker | field | ret
  deriving DecidableEq, Repr, Inhabited

/-- Decimation presets (Table 07-1). -/
inductive Preset where
  | sandpiper | heron | bittern
  deriving DecidableEq, Repr, Inhabited

/-- Serial channel modes (Table 10-3). -/
inductive ScMode where
  | off | midi | general | ir | card
  deriving DecidableEq, Repr, Inhabited

/-- The properties, one name for each row of the property tables 01-8, 03-9, 05-3, 06-5, 07-4, 07-8, 08-6, 09-5,
09-7, 10-6, 11-7, 12-11, 13-13 and 14-10. -/
inductive PropKind where
  | engRun | engFs | engOsr | clkSource | ctlLossAction | tideNow | tideFrameEdge | tideFrameOverruns
  | tenState | tenFaultReason | tenHostLossMs | tenHostLossAction | tenEvents | tenEventsDropped | tenWindowKib | tenSeqHigh
  | tenTempo | tenBeatReset | tenLfoShape | tenLfoRate | tenLfoSync | tenLfoPeriod | tenLfoPhase | tenLfoPolarity
  | tenVoiceReserve | tenVoiceReserveEff | tenVoiceCeiling | tenVoices | tenStealPolicy | tenSpill
  | allocStealFadeUs | allocDrainLimitMs | allocSpillInCeiling | allocCapacity | allocLanes | allocThermalLanes
  | busPeakHoldMs | busPeakDecay | busRmsMs | busEnvAttackUs | busEnvReleaseUs | busClipMask | decimPreset | decimGroupDelay
  | tpEnable | tpDirection | tpClock | tpFormat | tpSlots | tpWordBits | tpFsDelay | tpSlotK | tpState | tpFifoFrames | tpSlips
  | loTap | loState | loFlags | loUnderruns
  | cvSense | cvState | cvCode | cvFlags | cvQueueFill | cvUnderruns | cvRetries
  | gtEnable | gtLevel | gtFaultPolicy | gtState | gtFlags | gtRetries | gateTimerSmp
  | ciValue | ciRank | ciFirBank | ciFlags | ciOverloads
  | keyBaseKey | keyVelFastUs | keyVelSlowUs | keyStartThreshold | keyOffThreshold | keyOnThreshold | keyAnalogSpan
  | keyPressureStep | keyCellMin | keyCellMax | keyOrderErrors | keyCheckFails
  | scState | scLocked | scBaudN | scBaudF | scRxFill | scTxFill | scFramingErrors | scParityErrors | scOverruns
  | scRxDiscards | scCtsIgnored | cardClkDiv
  | ringRole | ringState | ringPosition | ringDMax | ringAlignDelay | ringAlignResidual | ringHopNs | ringContribMask
  | ringSlips | ringHibernateGrant
  | memWaveState | memPatchState | memFwState | memEccCorrected | memEccUncorrected
  | vaultSlotsLo | vaultSlotsHi | vaultSealedRegions | vaultTampered | lifecycleState | fwRollback
  | powerDozeIdleMs | powerNapIdleMs | powerHibernateIdleS | powerEntryPolicy | powerState | powerLastWake | powerLastReset
  | calTrimActive | calTrimPeriodS | calAutoStore | calDriftLimitUv | calSlot | calSeq | fwSlot | fwSlotState
  | lifeHours | lifeEquivHours
  deriving DecidableEq, Repr, Inhabited

/-- A property with the numbers in its name (`tp2.slot11` has i = 2 and j = 11; `tenant.lfo3.rate` has i = 3). -/
structure PropRef where
  kind : PropKind
  i : Nat := 0
  j : Nat := 0
  deriving DecidableEq, Repr, Inhabited

/-! ## Payloads as TAKE_ENTRY decodes them -/

/-- Payload of NOTE_ON (Table 04-4). -/
structure NoteOnArgs where
  noteId : BitVec 32
  part : Nat
  key : Nat
  velocity : Nat
  noSpill : Bool
  noSteal : Bool
  /-- signed cents x 100, which is pitch units. -/
  detune : Int
  deriving DecidableEq, Repr, Inhabited

/-- A packet of a UMP command that has an effect (Table 04-19). Channel n addresses part n. -/
inductive UmpOp where
  | noteOn (part key velocity : Nat)
  | noteOff (part key velocity : Nat)
  | polyPressure (part key v : Nat) (full : Nat)
  | chanPressure (part v : Nat) (full : Nat)
  | control (part index v : Nat) (full : Nat)
  | program (part program : Nat) (bank : Option Nat)
  | pitchBend (part v : Nat) (full : Nat)
  | perNoteCtl (part key index v : Nat) (assignable : Bool)
  | perNoteBend (part key v : Nat)
  | bendRange (part semitones : Nat)
  | ignored
  deriving DecidableEq, Repr, Inhabited

/-- Payload of WAVE_MAP (Table 04-6). -/
structure MapArgs where
  id : Nat
  bank : Nat
  format : Nat
  offset : Nat
  length : Nat
  loopStart : Nat
  loopEnd : Nat
  loopMode : Nat
  rootKey : Nat
  deriving DecidableEq, Repr, Inhabited

/-- Payload of WAVE_LOAD_SEALED (Table 04-6); `aad` is payload bytes 0-15 (R103). -/
structure SealedArgs where
  patch : Bool
  keySlot : Nat
  target : Nat
  offset : Nat
  window : Nat
  length : Nat
  aad : List Byte
  deriving DecidableEq, Repr, Inhabited

/-- Payload of CV_CONFIG (Table 04-8). Glide kind 0 OFF, 1 TIME, 2 RATE. -/
structure CvArgs where
  out : Fin 16
  span : Nat
  queue : Bool
  glide : Nat
  glideVal : Nat
  period : Nat
  latch : Bool
  enable : Bool
  deriving DecidableEq, Repr, Inhabited

/-- One entry of CV_SET (Table 04-8). -/
structure CvEntry where
  out : Fin 16
  noGlide : Bool
  code : BitVec 16
  deriving DecidableEq, Repr, Inhabited

/-- Payload of LINE_CONFIG. -/
structure LineArgs where
  out : Fin 4
  consumer : Bool
  source : Nat
  enable : Bool
  deriving DecidableEq, Repr, Inhabited

/-- Payload of SC_CONFIG (Table 04-10). -/
structure ScArgs where
  ch : Fin 4
  mode : ScMode
  loopback : Bool
  echo : Bool
  flow : Bool
  autobaud : Bool
  dataBits : Nat
  /-- 0 none, 1 even, 2 odd. -/
  parity : Nat
  twoStop : Bool
  divN : Nat
  divF : Nat
  owner : Tenant
  high : Nat
  low : Nat
  deriving DecidableEq, Repr, Inhabited

/-- Direction of a card exchange (R264). -/
inductive CardDir where
  | none | inward | outward
  deriving DecidableEq, Repr, Inhabited

/-- Payload of POWER_POLICY. -/
structure PolicyArgs where
  dozeMs : Nat
  napMs : Nat
  hibernateS : Nat
  abandon : Bool
  deriving DecidableEq, Repr, Inhabited

/-- A command's payload after the checks of R89 and R90. -/
inductive Body where
  | nop | identify | heartbeat | tenantClose | keyscanStatus | padRelease | chainInfo | ringStart | ringStatus | ringLeave
  | calStore | fwActivate | deviceReset
  | tenantOpen (release : Bool)
  | tenantReset (target : Tenant)
  | abort (target : Tag)
  | propGet (t : Tenant) (p : PropRef)
  | propSet (t : Tenant) (p : PropRef) (v : Int)
  | noteOn (a : NoteOnArgs)
  | noteOff (noteId : BitVec 32) (release : Nat)
  | noteBend (noteId : BitVec 32) (cents : Int)
  | notePressure (noteId : BitVec 32) (v : Nat)
  | noteRetarget (noteId : BitVec 32) (key : Nat)
  | allRelease (part : Option Nat) (fade : Bool)
  | ump (ops : List UmpOp)
  | voiceParam (noteId : BitVec 32) (entries : List (Nat × Int))
  | partParam (part : Nat) (entries : List (Nat × Int))
  | patchWrite (slot window : Nat)
  | patchRead (slot window : Nat)
  | patchSelect (part slot : Nat)
  | waveWrite (bank offset window length : Nat)
  | waveRead (bank offset window length : Nat)
  | waveMap (a : MapArgs)
  | waveLoadSealed (a : SealedArgs)
  | busGain (bus : Option Nat) (cB : Int)
  | busEnable (bus : Option Nat) (on : Bool)
  | busResync (bus : Option Nat)
  | busRing (bus : Option Nat) (on : Bool)
  | decimConfig (p : Preset)
  | coefLoad (mask : BitVec 32) (coefs : List Int)
  | coefSwitch (mask : BitVec 32)
  | detectBuses (detectors : BitVec 3) (mask : BitVec 32)
  | detectNote (detectors : BitVec 3) (noteId : BitVec 32)
  | cvConfig (a : CvArgs)
  | cvSet (entries : List CvEntry)
  | cvQueue (out : Fin 16) (codes : List (BitVec 16))
  | gateSet (mask levels : BitVec 8)
  | lineConfig (a : LineArgs)
  | ciConfig (input : Option Nat) (rank bank : Nat)
  | keyscanConfig (mode : Nat) (t : Tenant) (part : Nat)
  | scConfig (a : ScArgs)
  | scSend (ch : Fin 4) (bytes : List Byte)
  | scBreak (ch : Fin 4) (bits : Nat)
  | cardStart
  | cardExchange (dir : CardDir) (header : List Byte) (data : List Byte)
  | cardStop
  | memBankState (kind : BankKind) (bank : Nat) (st : BankSt)
  | vaultLoad (slot : Nat) (wrapped : List Byte)
  | vaultErase (slot : Nat)
  | lifecycle (target : Nat) (dieLo : BitVec 32) (key : List Byte)
  | powerPolicy (a : PolicyArgs)
  | powerEnter (st : PState)
  | wakeConfig (mask : BitVec 7) (timerS : Nat)
  | calRun (target mask : Nat)
  | calRead (target index : Nat)
  | selftest (target : Nat) (mask : BitVec 32)
  | laneService (lane : Fin 8) (inward : Bool)
  | fwStage (offset window length : Nat) (final : Bool)
  deriving DecidableEq, Repr, Inhabited

/-! ## Queues and records -/

/-- A published submission-queue entry: the 16 header bytes and the payload (R68). -/
structure SqEntry where
  header : List Byte
  payload : List Byte
  /-- queued before a control-processor restart: its LOST record is due (R85). -/
  lost : Bool := false
  deriving DecidableEq, Repr, Inhabited

/-- A completion or event record (Table 04-2). -/
structure Rec where
  /-- opcode, or the event code. -/
  op : Byte
  status : Byte
  seq : BitVec 16
  tag : BitVec 7
  /-- Table 03-6: bit 0 DUP, 1 LATE, 2 EVT, 3 MORE. -/
  flags : Byte
  len : BitVec 16
  tide : Smp
  short : BitVec 16
  deriving DecidableEq, Repr, Inhabited

/-- A slot of a completion queue: a record, or 16 continuation bytes (R79). -/
inductive CqSlot where
  | record (r : Rec)
  | cont (bytes : List Byte)
  deriving DecidableEq, Repr, Inhabited

/-- Where an in-flight command stands (R77, R83). -/
inductive Phase where
  | waiting | scheduled | executing
  deriving DecidableEq, Repr, Inhabited

/-- What an ABORT found on its target's tag at the moment it was taken (Table 03-7): not judged yet; a target that waited
and is ABORTED; one that executed or had committed; no command. The number is the target's. -/
inductive Aim where
  | unjudged
  | hit (q : BitVec 16)
  | ran (q : BitVec 16)
  | nothing
  deriving DecidableEq, Repr, Inhabited

/-- A command in flight on its tag (R77). -/
structure InFlight where
  tag : Tag
  seq : BitVec 16
  op : Byte
  timed : Bool
  fence : Bool
  quiet : Bool
  /-- the due sample and et of a timed command (R21, R91). -/
  due : Smp
  et : Nat
  /-- classed LATE by R22 or R23. -/
  late : Bool
  phase : Phase
  /-- completion-queue slots reserved for it (R80). -/
  reserve : Nat
  body : Body
  /-- sample count of the tick at which its change was executed, where that was on another unit (R88, R284). -/
  execAt : Option Smp
  /-- of an ABORT: what it found when it was taken (R83). -/
  aim : Aim := .unjudged
  deriving DecidableEq, Repr, Inhabited

/-- Result of a command before it is put in a record (R79). -/
inductive Result where
  /-- no result, or a SHORT value that is no result (BAD_FIELD, R90). -/
  | note (short : BitVec 16)
  /-- result bytes, little-endian. -/
  | bytes (b : List Byte)
  deriving DecidableEq, Repr, Inhabited

/-! ## Executed writes that have not landed (R26) -/

/-- A write of class L or B, as the landing applies it. -/
inductive Write where
  | prop (t : Tenant) (p : PropRef) (v : Int)
  | voiceParam (t : Tenant) (noteId : BitVec 32) (pid : Nat) (v : Int)
  | spilledParam (origin : Nat) (t : Tenant) (noteId : BitVec 32) (pid : Nat) (v : Int)
  | partParam (t : Tenant) (part pid : Nat) (v : Int)
  | note (t : Tenant) (noteId : BitVec 32) (c : NoteCmd)
  | partPressure (t : Tenant) (part : Nat) (v : Rat)
  | partBend (t : Tenant) (part : Nat) (v : Rat)
  | partCc (t : Tenant) (part index : Nat) (v : Rat)
  | busGain (bus : Nat) (cB : Int)
  | busEnable (bus : Nat) (on : Bool)
  | busResync (bus : Nat)
  | busRing (bus : Nat) (on : Bool)
  | coefSwitch (mask : BitVec 32) (t : Tenant) (g : Tag)
  | cvConfig (a : CvArgs)
  | lineSpanEnable (a : LineArgs)
  | lineSource (out : Nat) (bus : Nat)
  | ciConfig (input : Nat) (rank bank : Nat)
  | laneOut (lane : Nat) (t : Tenant) (g : Tag)
  | laneIn (lane : Nat) (t : Tenant) (g : Tag)
  | powerEnter (st : PState)
  | wakeConfig (mask : BitVec 7) (timer : Nat)
  /-- the pads that PAD_RELEASE names are freed (R96, R215, R336). -/
  | padRelease
  deriving DecidableEq, Repr, Inhabited

end Sys2Proof.Machine
end

