-- ==== Sys2Proof/Machine/VoiceState.lean ====
section
/-! DEFINITION. The state of one sounding voice and of the slot that holds it (R115 to R144, R155 to R161). -/

namespace Sys2Proof.Machine

/-- Segments of an envelope (R132). -/
inductive Seg where
  | delay | attack | hold | decay | sustain | release | done
  deriving DecidableEq, Repr, Inhabited

/-- One envelope: `x` is the completed fraction of the segment (R132, R133), `start` the level at which the running
curve began, `level` the present level. -/
structure EnvSt where
  seg : Seg := .delay
  x : Rat := 0
  start : Rat := 0
  level : Rat := 0
  deriving DecidableEq, Repr, Inhabited

/-- One oscillator (R120 to R128). -/
structure OscSt where
  /-- 32-bit phase accumulator (R120). -/
  phase : BitVec 32 := 0
  /-- SMP position in samples (R124). -/
  pos : Rat := 0
  /-- ALTERNATE plays backwards (R124). -/
  back : Bool := false
  /-- raw output before its level, at this tick and at the two before (R125). -/
  y : Rat := 0
  y1 : Rat := 0
  y2 : Rat := 0
  /-- mip level in use; none before a WT oscillator has taken one (R123). -/
  mip : Option Nat := none
  /-- SMP has jumped or turned inside its loop since its start (R124). -/
  looped : Bool := false
  /-- the increment of this tick and whether the accumulator wrapped or was reset in it (R128, R131). -/
  inc : Nat := 0
  wrapped : Bool := false
  reset : Bool := false
  /-- the part of a sync step's residual that falls on the next tick (R128). -/
  carry : Rat := 0
  /-- state of the pink filter (R126). -/
  pink : List Rat := []
  deriving DecidableEq, Repr, Inhabited

/-- One filter: poles of SVF and LAD, and the COMB line, newest output first (R129, R130). -/
structure FiltSt where
  poles : List Rat := []
  line : List Rat := []
  deriving DecidableEq, Repr, Inhabited

/-- One LFO (R135): phase in cycles, ticks since the start, random values. -/
structure LfoSt where
  phase : Rat := 0
  age : Nat := 0
  rnd : Rat := 0
  rndNext : Rat := 0
  deriving DecidableEq, Repr, Inhabited

/-- Whose voice it is: a tenant of this unit, or the tenant of the unit that spilled it here (R357). -/
inductive Owner where
  | tenant (t : Tenant)
  | spilled (origin : Nat) (t : Tenant)
  deriving DecidableEq, Repr, Inhabited

/-- What a slot's voice does: it waits for its start tick (at a sample and et, or at the present tick), it sounds, or it
is in tick `k` of a steal fade of `len` ticks (R159). -/
inductive VLife where
  | starting (at_ : Option (Smp × Nat))
  | sounding
  | fading (k len : Nat)
  deriving DecidableEq, Repr, Inhabited

/-- Why a slot fades (R151, R154): a note stole it; R168 removed its voice; the drain limit of its lane came; ALL_RELEASE
in mode FADE ends its note. -/
inductive FadeKind where
  | steal | excess | drain | release
  deriving DecidableEq, Repr, Inhabited

/-- A mapped wave map ID (R102). -/
structure WaveMap where
  bank : Nat
  format : Nat
  offset : Nat
  length : Nat
  loopStart : Nat
  loopEnd : Nat
  loopMode : Nat
  rootKey : Nat
  owner : Tenant
  deriving DecidableEq, Repr, Inhabited

/-- The note that waits for a fade to end (R159, R161). -/
structure Succ where
  owner : Owner
  noteId : BitVec 32
  part : Nat
  key : Nat
  vel : Nat
  detune : Int
  copy : ParamSet
  /-- the NOTE_ON it completes; none for a UMP note. -/
  ref : Option (Tenant × Tag) := none
  /-- added latency in et (R100). -/
  latency : Nat := 0
  /-- commands held until the start, in execution order (R161). -/
  holding : List NoteCmd := []
  deriving DecidableEq, Repr, Inhabited

/-- A retrigger that acts at the coming tick (R99, R134). -/
structure Retrig where
  key : Nat
  vel : Nat
  detune : Int
  ref : Option (Tenant × Tag) := none
  deriving DecidableEq, Repr, Inhabited

/-- One occupied slot: lane and slot (R149), owner (R357), note ID (R98), part and key (R116). -/
structure Voice where
  lane : Nat
  slot : Nat
  owner : Owner
  noteId : BitVec 32
  part : Nat
  key : Nat
  /-- velocity 0 to 65,535 (Table 04-4). -/
  vel : Nat
  /-- detune, signed, cents x 100 (Table 04-4). -/
  detune : Int
  /-- where the voice is in its life (R117, R159). -/
  life : VLife
  /-- why the slot fades, while it does (R151). -/
  fade : FadeKind := .steal
  /-- the note that starts when the fade ends (R159, R161). -/
  succ : Option Succ := none
  /-- number of the engine tick at which it started, for OLDEST (Table 06-1). -/
  startNo : Nat := 0
  /-- the note's own copy of its parameters (R116), and the values in effect. -/
  copy : ParamSet := []
  eff : ParamSet := []
  /-- OSC1 to OSC4 (R120 to R128), FILT1 and FILT2 (R129), ENV1 to ENV6 (R132), LFO1 to LFO4 (R135). -/
  oscs : List OscSt := [{}, {}, {}, {}]
  filts : List FiltSt := [{}, {}]
  envs : List EnvSt := [{}, {}, {}, {}, {}, {}]
  lfos : List LfoSt := [{}, {}, {}, {}]
  /-- glide: present G, target, the G it began from, and the fraction done (R142, R143). -/
  g : Rat := 0
  gTarget : Rat := 0
  gFrom : Rat := 0
  gDone : Rat := 1
  /-- the tuning image captured at the start (R144). -/
  tune : Option (List Byte) := none
  /-- the wave maps of OSC1 to OSC4 as they stood at the start (R102, class V). -/
  maps : List (Option WaveMap) := []
  /-- per-note bend in pitch units (R121). -/
  bend : Rat := 0
  /-- sources of the note: pressure and release velocity (Table 05-4), and whether it has been released (R119). -/
  pressure : Rat := 0
  relVel : Nat := 0
  released : Bool := false
  /-- the random source drawn at each start, and the noise generator, both from the note ID (R117, R126). -/
  random : Rat := 0
  rng : BitVec 32 := 0
  /-- registered and assignable per-note controllers of UMP (Table 04-19, Table 05-4). -/
  regCtl : Bank Rat := []
  asgCtl : Bank Rat := []
  /-- ticks since a MUTE began (R84). -/
  mute : Option Nat := none
  /-- filter output x, amp gain and the squares of the latest 10 ms, newest first (R156). -/
  x : Rat := 0
  gain : Rat := 0
  rms : List Rat := []
  /-- audibility score in dB x 100; -32,768 is silence (R156). -/
  score : Int := -32768
  /-- what the matrix added to each destination at the latest tick (R139). -/
  mods : List (Nat × Rat) := []
  /-- BANK_OFF has been raised for this note (R297). -/
  bankOffRaised : Bool := false
  /-- a retrigger for the coming tick (R99). -/
  retrig : Option Retrig := none
  /-- the NOTE_ON that completes at the start, and its added latency in et (R100). -/
  ref : Option (Tenant × Tag) := none
  latency : Nat := 0
  deriving DecidableEq, Repr, Inhabited

/-- What a slot keeps when its voice has gone (R127, R130). -/
structure SlotMem where
  oscs : List OscSt := [{}, {}, {}, {}]
  filts : List FiltSt := [{}, {}]
  deriving DecidableEq, Repr, Inhabited

end Sys2Proof.Machine
end

