-- ==== Sys2Proof/Machine/State.lean ====
section
/-! DEFINITION. The state of the block: every register, queue, buffer, counter and mode the spec gives the unit,
each at its reset value as its default. `State.reset` is the unit right after the release of power-on reset, with the
boot of Table 13-3 in its lane self-test and the queue of commands empty. -/

namespace Sys2Proof.Machine

/-! ## Link port -/

/-- Why a frame was discarded (R43, Table 02-9). -/
inductive Discard where
  | short | hdr | pay | kind
  deriving DecidableEq, Repr, Inhabited

structure Link where
  /-- the link port is powered and out of reset (Table 13-3 step 3). Reset: yes. -/
  up : Bool := true
  /-- UNIT_ADDR, 5 bits (Table 02-9). Reset: 30. -/
  unitAddr : BitVec 5 := 30
  /-- LINK_CFG.QUAD (Table 02-9). Reset: 0. -/
  quad : Bool := false
  /-- LINK_CFG.IRQ_OD (Table 02-9). Reset: 1. -/
  irqOd : Bool := true
  /-- LINK_STAT.ENUM_IN, the level at the last commit (Table 02-9). Reset: 0, DESIGN CHOICE, log entry 8. -/
  enumIn : Bool := false
  /-- the offered address whose confirm frame is the next frame on the bus (R58). Reset: none. -/
  offer : Option (BitVec 5) := none
  /-- TENTATIVE, with the offered address (R57, R60). Reset: none. -/
  tentative : Option (BitVec 5) := none
  /-- a confirm frame was discarded, so TENTATIVE waits for a later frame to its address (R60). Reset: no. -/
  tentHold : Bool := false
  /-- IRQ_EN, 10 bits (Table 02-9). Reset: 0. -/
  irqEn : BitVec 10 := 0
  /-- IRQ_SUM.FW_READY (Table 02-9). Reset: 0. -/
  fwReady : Bool := false
  /-- IRQ_SUM.LINK_ERR (Table 02-9). Reset: 0. -/
  linkErr : Bool := false
  /-- ERR_SHORT (Table 02-9). Reset: 0. -/
  errShort : Word := 0
  /-- ERR_HDR (Table 02-9). Reset: 0. -/
  errHdr : Word := 0
  /-- ERR_PAY (Table 02-9). Reset: 0. -/
  errPay : Word := 0
  /-- ERR_KIND (Table 02-9). Reset: 0. -/
  errKind : Word := 0
  /-- BCAST_DROP (Table 02-9). Reset: 0. -/
  bcastDrop : Word := 0
  /-- FRAMES_OK (Table 02-9). Reset: 0. -/
  framesOk : Word := 0
  /-- discards that the next commit on the bus counts (R43). Reset: none. -/
  uncounted : List Discard := []
  /-- the latched status word (R45, Table 02-6). Reset: bits [3:0] of address 30, all else 0. -/
  status : Word := 14
  /-- the staged response (R46). Reset: none. -/
  staged : Option (List Byte) := none
  /-- the bytes driven in the latest read phase; none: high impedance (R39, R41). Reset: none. -/
  driven : Option (List Byte) := none
  deriving DecidableEq, Repr, Inhabited

/-! ## Tenants -/

/-- A completed command's entry in the echo store (R72 to R75). -/
structure EchoEntry where
  seq : BitVec 16
  record : Rec
  deriving DecidableEq, Repr, Inhabited

/-- Session work that waits for executing commands to end (R67 step 2, R76). -/
inductive Session where
  | none | opening (g : Tag) (release : Bool) | closing (g : Tag)
  deriving DecidableEq, Repr, Inhabited

/-- A tenant LFO (R137, Table 05-3). -/
structure TenLfo where
  /-- `tenant.lfoN.shape`. Reset: SINE. -/
  shape : Nat := 0
  /-- `tenant.lfoN.rate`, mHz. Reset: 1,000. -/
  rate : Nat := 1000
  /-- `tenant.lfoN.sync` TIDE. Reset: FREE. -/
  sync : Bool := false
  /-- `tenant.lfoN.period_beats`. Reset: 4,000. -/
  period : Nat := 4000
  /-- `tenant.lfoN.phase`. Reset: 0. -/
  phase : Nat := 0
  /-- `tenant.lfoN.polarity` UNIPOLAR. Reset: BIPOLAR. -/
  unipolar : Bool := false
  /-- the running phase in cycles and the random values (R135). Reset: 0. -/
  run : LfoSt := {}
  deriving DecidableEq, Repr, Inhabited

/-- A part of a tenant: working parameter set, sources and UMP selections (R116, R142, Table 05-4, Table 04-19). -/
structure Part where
  /-- the working parameter set (R116). Reset: every parameter at its default, log entry 8. -/
  workset : ParamSet := []
  /-- the selected patch slot. Reset: none, log entry 8. -/
  slot : Option Nat := none
  /-- channel pressure, bend and control changes. Reset: 0, log entry 8. -/
  pressure : Rat := 0
  bend : Rat := 0
  cc : Bank Rat := []
  /-- program bank (CC 32) and the RPN selected by CC 101 and 100. Reset: 0 and none, log entry 8. -/
  bank : Nat := 0
  rpnMsb : Option Nat := none
  rpnLsb : Option Nat := none
  /-- the part's last pitch (R142). Reset: none. -/
  lastPitch : Option Rat := none
  deriving DecidableEq, Repr, Inhabited

/-- A note this tenant spilled to another unit (R163, R282 to R285). -/
structure SpilledOut where
  noteId : BitVec 32
  part : Nat
  key : Nat
  vel : Nat
  detune : Int
  copy : ParamSet
  /-- ring position of the receiving unit. -/
  unit : Nat
  /-- the NOTE_ON that waits for the start report. -/
  ref : Option (Tenant × Tag)
  /-- the receiving unit reported the start. -/
  reported : Bool := false
  /-- refused: the steal part of R157 waits for its tick (R283). -/
  refused : Bool := false
  /-- the sample and et at which the note would have started here. -/
  start : Smp
  et : Nat
  noSteal : Bool := false
  /-- ring sequence number of its forwarding (R273). -/
  seq : BitVec 16
  /-- commands held while the steal of R283 waits, in execution order. -/
  holding : List NoteCmd := []
  /-- frames since the one that carried the note (R283). -/
  frames : Nat := 0
  deriving DecidableEq, Repr, Inhabited

structure TenantSt where
  /-- `tenant.state` (R65). Reset: CLOSED. -/
  st : TState := .closed
  /-- `tenant.fault_reason` (Table 03-9). Reset: NONE. -/
  fault : FaultReason := .none
  /-- H, `tenant.seq_high`, 16 bits (Table 03-9). Reset: 0. -/
  seqHigh : BitVec 16 := 0
  /-- submission queue, oldest first (R68). Reset: empty. -/
  sq : List SqEntry := []
  /-- completion queue, unreaped slots, oldest first (R71). Reset: empty. -/
  cq : List CqSlot := []
  /-- consumer index, 16 bits (R71); the producer index is consumer + the number of slots. Reset: 0. -/
  cons : BitVec 16 := 0
  /-- echo store, entry s mod 128 (R72). Reset: empty. -/
  echo : Bank EchoEntry := []
  /-- commands in flight, in the order they were taken (R77). Reset: none. -/
  inflight : List InFlight := []
  /-- the sequence number last committed on each tag (R83). Reset: none. -/
  doneTags : Bank (BitVec 16) := []
  /-- staging window (R70). Reset: zero. -/
  window : Memory := []
  /-- `tenant.window_kib`, 8 bits (Table 03-9). Reset: 3. -/
  windowKib : Nat := 3
  /-- `tenant.host_loss_ms`, 16 bits (Table 03-9). Reset: 0. -/
  hostLossMs : Nat := 0
  /-- `tenant.host_loss_action` (Table 03-9). Reset: RELEASE. -/
  hostLossAction : LossAction := .release
  /-- milliseconds that the firmware has counted on the tenant's host-loss watchdog since it last restarted (R62, R84).
  Reset: 0. -/
  lossMs : Nat := 0
  /-- a MUTE is in place (R84). Reset: no. -/
  muted : Bool := false
  /-- `tenant.events`, 32 bits (Table 03-9). Reset: 0xFFFF_FFFF. -/
  events : BitVec 32 := 0xFFFFFFFF
  /-- `tenant.events_dropped`, 32 bits (Table 03-9). Reset: 0. -/
  eventsDropped : BitVec 32 := 0
  /-- events dropped since the last notice (R81). Reset: 0. -/
  droppedSince : Nat := 0
  /-- event sequence number, 16 bits (R82). Reset: 0, DESIGN CHOICE, log entry 8. -/
  evSeq : BitVec 16 := 0
  /-- session work under way (R67, R76). Reset: none. -/
  session : Session := .none
  /-- the tenant whose TENANT_RESET this tenant serves, with its tag (R67). Reset: none. -/
  resetBy : Option (Tenant × Tag) := none
  /-- the owner has been OPEN since the last HIBERNATE wake (R331). Reset: yes. -/
  openedSinceWake : Bool := true
  /-- `tenant.voice_reserve`, 16 bits (Table 06-5). Reset: 0. -/
  reserve : Nat := 0
  /-- `tenant.voice_ceiling`, 16 bits (Table 06-5). Reset: 384. -/
  ceiling : Nat := 384
  /-- `tenant.steal_policy` (Table 06-5). Reset: QUIETEST. -/
  policy : StealPolicy := .quietest
  /-- `tenant.spill` (Table 06-5). Reset: OFF. -/
  spill : Bool := false
  /-- `tenant.tempo`, BPM x 100 (Table 05-3). Reset: 12,000. -/
  tempo : Nat := 12000
  /-- beat position B, running, and a reset to 0 due at the next boundary (R136). Reset: 0, no, no. -/
  beat : Rat := 0
  beatOn : Bool := false
  beatZero : Bool := false
  /-- tenant LFOs 1 to 8 (R137). Reset: Table 05-3. -/
  lfos : Bank TenLfo := []
  /-- parts 0 to 15 (R116). Reset: defaults. -/
  parts : Bank Part := []
  /-- notes spilled to other units (R163). Reset: none. -/
  spilledOut : List SpilledOut := []
  deriving DecidableEq, Repr, Inhabited

/-- The image a unit is shipped with, as far as the model looks into it (Table 12-7): magic, length 256, revision B,
rollback counter 0, and 64 bytes that stand for Grennex's signature. DESIGN CHOICE, log entry 8. -/
def shippedImage : Memory :=
  [(0, 0x42), (1, 0x4C), (2, 0x58), (3, 0x46), (5, 1), (12, 0x42)] ++ (List.range 64).map fun i => (256 + i, 1)

/-! ## Firmware and boot -/

/-- The boot of Table 13-3. -/
inductive Boot where
  /-- steps 1 to 3 of a cold boot: PWR_EN_CORE rises, and VDD_ENG comes into range (R317). -/
  | powering
  /-- steps 1 to 3 done, VDD_NVM out of range at step 4. -/
  | waitNvm (warm : Bool)
  /-- the lane self-test of step 8 runs. -/
  | laneTest (warm : Bool)
  /-- both firmware slots failed (R343). -/
  | stopped (warm : Bool)
  /-- step 9 is past. -/
  | done
  deriving DecidableEq, Repr, Inhabited

/-- An event kept for T0 (R322). -/
structure Kept where
  ev : Event
  arg : BitVec 16
  cont : List Byte
  /-- the sample count at which it was raised (R82). -/
  tide : Smp
  deriving DecidableEq, Repr, Inhabited

/-- An event that arises while the firmware is halted or restarting and is raised when it runs again (R12, R330, R362);
`dest` is the tenant, or none for the steward. -/
structure Held where
  dest : Option Tenant
  ev : Event
  arg : BitVec 16
  cont : List Byte
  /-- the sample count at which it arose (R82). -/
  tide : Smp
  deriving DecidableEq, Repr, Inhabited

structure Firmware where
  /-- FW_UP (Table 02-6). Reset: 0. -/
  up : Bool := false
  /-- the control processor is stopped by a watchdog restart (R85). Reset: no. -/
  restarting : Bool := false
  /-- the tenant the round robin looks at first (R69). Reset: T0, DESIGN CHOICE, log entry 8. -/
  rr : Tenant := 0
  /-- events kept for T0, oldest code first (R322). Reset: none. -/
  kept : List Kept := []
  /-- events that wait for the firmware to run (R330, R362). Reset: none. -/
  held : List Held := []
  /-- boot phase (Table 13-3). Reset: the lane self-test runs. -/
  boot : Boot := .laneTest false
  /-- the firmware slot that runs is B (R343). Reset: A, DESIGN CHOICE, log entry 8. -/
  slotB : Bool := false
  /-- firmware SRAM: bytes 0 to L - 1 of the running image (R294). Reset: those of the shipped image. -/
  sram : Memory := shippedImage.filter fun c => decide (c.1 < 256)
  /-- a warm reset follows 10 ms after DEVICE_RESET or FW_ACTIVATE (R111). Reset: no. -/
  resetDue : Bool := false
  /-- ECC_ERROR codes raised in the running second (R303). Reset: none. -/
  eccRaised : List Nat := []
  deriving DecidableEq, Repr, Inhabited

/-! ## Engine core -/

/-- `eng.run` and the stop fade (R31). -/
inductive Run where
  | running | stopping | stopped
  deriving DecidableEq, Repr, Inhabited

/-- The tide (R18). -/
structure Tide where
  smp : Smp := 0
  et : Nat := 0
  deriving DecidableEq, Repr, Inhabited

structure Core where
  /-- the engine runs, fades to a stop, or is stopped (R31). Reset: RUN (Table 13-3 step 9). -/
  run : Run := .running
  /-- samples into the 20 ms stop fade (R31). Reset: 0. -/
  stopPos : Nat := 0
  /-- `eng.fs` as its index (Table 01-8). Reset: 1, which is 48,000. -/
  fs : Nat := 1
  /-- `eng.osr` (Table 01-8). Reset: 4. -/
  osr : Nat := 4
  /-- `clk.source` MCLK_IN (Table 01-8). Reset: PLL. -/
  mclkIn : Bool := false
  /-- `ctl.loss_action` HOLD (Table 01-8). Reset: RELEASE. -/
  lossHold : Bool := false
  /-- the tide, 51 bits (R18). Reset: 0. -/
  tide : Tide := {}
  /-- engine ticks since reset: the model's own count of strobes, log entry 6. Reset: 0. -/
  ticks : Nat := 0
  /-- the class-B writes of the present boundary have landed (R20). Reset: no. -/
  boundaryDone : Bool := false
  /-- `tide.frame_edge` as its index (Table 01-8). Reset: OFF. -/
  frameEdge : Nat := 0
  /-- `tide.frame_overruns`, 32 bits (Table 01-8). Reset: 0. -/
  frameOverruns : Word := 0
  /-- the tick number of the latest FRAME_IN capture (R24). Reset: none. -/
  captured : Option Nat := none
  /-- MCLK_IN is lost (R33). Reset: no. -/
  mclkLost : Bool := false
  deriving DecidableEq, Repr, Inhabited

/-! ## Lanes and heat -/

/-- A voice lane's service (R166, R167). -/
inductive LaneSt where
  | inService | draining | parked | testing
  deriving DecidableEq, Repr, Inhabited

/-- A voice lane (R149, R166, R167). -/
structure Lane where
  /-- service state (R166). Reset: in service (`alloc.lanes` 0xFF). -/
  st : LaneSt := .inService
  /-- the LANE_SERVICE that runs on the lane, and the voices it released (Table 06-3). Reset: none, 0. -/
  ref : Option (Tenant × Tag) := none
  released : Nat := 0
  /-- a passed lane joins at the next block boundary (R167). Reset: no. -/
  joining : Bool := false
  deriving DecidableEq, Repr, Inhabited

/-- Thermal states (Table 06-4). -/
inductive Thermal where
  | normal | soft | hard
  deriving DecidableEq, Repr, Inhabited

structure Alloc where
  /-- lanes 0 to 7. Reset: in service. -/
  lanes : Bank Lane := []
  /-- `alloc.steal_fade_us` (Table 06-5). Reset: 1,000. -/
  fadeUs : Nat := 1000
  /-- `alloc.drain_limit_ms` (Table 06-5). Reset: 2,000. -/
  drainMs : Nat := 2000
  /-- `alloc.spill_in_ceiling` (Table 06-5). Reset: 384. -/
  spillIn : Nat := 384
  /-- thermal state and lanes allowed (Table 06-4). Reset: NORMAL, 8. -/
  thermal : Thermal := .normal
  allowed : Nat := 8
  deriving DecidableEq, Repr, Inhabited

/-! ## Buses and ports -/

/-- The default shaping coefficients: c[0] = 0x4000_0000 (1.0 in Q2.30) and 63 zeros (R177). -/
def coefUnit : List Int := 1073741824 :: List.replicate 63 0

/-- A linear ramp over 32 samples (R171, R278). -/
structure Ramp where
  origin : Rat
  target : Rat
  /-- samples done, 32 when at rest. -/
  pos : Nat := 32
  deriving DecidableEq, Repr, Inhabited

/-- A COEF_LOAD that waits for the fades of the buses it names (R105). -/
structure CoefWait where
  t : Tenant
  g : Tag
  mask : BitVec 32
  coefs : List Int
  deriving DecidableEq, Repr, Inhabited

/-- Where a COEF_SWITCH stands (R105, R178, R182): executed, its landing to come; fading; queued behind a fade; put off by a
reset to the next block boundary, in the tick of that reset or later. -/
inductive SwPhase where
  | landing | fading | queued
  | putOff (fresh : Bool)
  deriving DecidableEq, Repr, Inhabited

/-- A COEF_SWITCH: its command, unless that was lost, the buses it names, and where it stands (R105, R179). -/
structure CoefSw where
  ref : Option (Tenant × Tag)
  mask : BitVec 32
  phase : SwPhase
  deriving DecidableEq, Repr, Inhabited

/-- A mix bus and its detector (R169 to R186, Table 07-4). -/
structure Bus where
  /-- gain, dB x 100 (R171). Reset: 0. -/
  cB : Int := 0
  /-- enabled (R171). Reset: yes. -/
  on : Bool := true
  /-- the linear gain ramp (R171). Reset: 1, at rest. -/
  ramp : Ramp := { origin := 1, target := 1 }
  /-- ring contribution and its ramp (R278). Reset: off. -/
  contrib : Bool := false
  contribRamp : Ramp := { origin := 0, target := 0 }
  /-- the sum of the sends at this tick, 48 bits (R169, R170). Reset: 0. -/
  send : Int := 0
  /-- delay lines of the halfband stages, newest first (R173). Reset: zero. -/
  stages : List (List Int) := [[], [], []]
  /-- shaping-FIR banks, and whether bank B is active (R177, R178). Reset: unit coefficients, A. -/
  coefA : List Int := coefUnit
  coefB : List Int := coefUnit
  activeB : Bool := false
  /-- the 64-sample history both banks share, newest first (R178). Reset: zero. -/
  hist : List Int := []
  /-- samples into the running cross-fade (R178). Reset: none. -/
  fade : Option Nat := none
  /-- the bus FIFO of 2 samples (R169 step 7). Reset: zero. -/
  fifo : List Int := [0, 0]
  /-- the bus output (R169). Reset: 0. -/
  out : Int := 0
  /-- peak value and samples since it was set (R183). Reset: 0. -/
  peak : Rat := 0
  hold : Nat := 0
  /-- squares in the RMS window, newest first (R184). Reset: none. -/
  sq : List Rat := []
  /-- envelope follower (R185). Reset: 0. -/
  env : Rat := 0
  /-- `busN.peak_hold_ms`. Reset: 500. -/
  peakHoldMs : Nat := 500
  /-- `busN.peak_decay`. Reset: 20. -/
  peakDecay : Nat := 20
  /-- `busN.rms_ms`. Reset: 100. -/
  rmsMs : Nat := 100
  /-- `busN.env_attack_us`. Reset: 1,000. -/
  attackUs : Nat := 1000
  /-- `busN.env_release_us`. Reset: 100,000. -/
  releaseUs : Nat := 100000
  deriving DecidableEq, Repr, Inhabited

structure Mix where
  /-- buses 0 to 31. -/
  buses : Bank Bus := []
  /-- COEF_SWITCHes that run or wait, and COEF_LOADs that wait for a fade, in execution order (R105, R179). Reset: none. -/
  switches : List CoefSw := []
  coefWaits : List CoefWait := []
  /-- `bus.clip_mask`, 32 bits (Table 07-4). Reset: 0. -/
  clip : BitVec 32 := 0
  /-- `decim.preset`, and the one written to the inactive banks (R174). Reset: HERON. -/
  preset : Preset := .heron
  presetNext : Preset := .heron
  deriving DecidableEq, Repr, Inhabited

/-- `tpN.state` (Table 07-8). -/
inductive TpState where
  | off | running | noClock | frameTooLong | badSlot
  deriving DecidableEq, Repr, Inhabited

structure Port where
  /-- `tpN.direction` IN. Reset: OUT for TP0-TP3, IN for TP4-TP5. -/
  isIn : Bool
  /-- `tpN.clock` SLAVE. Reset: MASTER for TP0-TP3, SLAVE for TP4-TP5. -/
  slave : Bool
  /-- `tpN.slotK` codes of slots 0 to 15. Reset: Table 07-8. -/
  codes : List Nat
  /-- `tpN.enable`. Reset: OFF. -/
  enable : Bool := false
  /-- `tpN.format` as its index (I2S, LJ, TDM). Reset: I2S. -/
  format : Nat := 0
  /-- `tpN.slots`. Reset: 2. -/
  slots : Nat := 2
  /-- `tpN.word_bits`. Reset: 24. -/
  wordBits : Nat := 24
  /-- `tpN.fs_delay`. Reset: 1. -/
  fsDelay : Nat := 1
  /-- `tpN.state`. Reset: OFF. -/
  st : TpState := .off
  /-- frames in the port FIFO, oldest first (R190). Reset: 2 frames of zeros (`tpN.fifo_frames`, Table 07-8). -/
  fifo : List (List Int) := [[], []]
  /-- consecutive good frames, up to 2 (R190). Reset: 0. -/
  good : Nat := 0
  /-- `tpN.slips`, 32 bits. Reset: 0. -/
  slips : Word := 0
  /-- the words last received (IN) or the frame last driven (OUT) (R140, R188). Reset: none. -/
  words : List Int := []
  deriving DecidableEq, Repr, Inhabited

/-- A port's reset values (Table 07-8). -/
def Port.reset (n : Nat) : Port :=
  { isIn := decide (4 ≤ n), slave := decide (4 ≤ n),
    codes := (if n < 4 then [2 * n, 2 * n + 1] else [255, 255]) ++ List.replicate 14 255 }

/-! ## Field die -/

/-- The die-to-die link as the field die sees it (R12). -/
inductive DieLink where
  | ok | silent | dark
  deriving DecidableEq, Repr, Inhabited

/-- A line output (R193 to R199, Table 08-6). -/
structure LineOut where
  /-- source bus of LINE_CONFIG (R196). Reset: N (R217). -/
  source : Nat
  /-- span CONSUMER (Table 08-2). Reset: STUDIO. -/
  consumer : Bool := false
  /-- `loN.tap` RING. Reset: LOCAL. -/
  ringTap : Bool := false
  /-- enable (LINE_CONFIG byte 3). Reset: 0. -/
  enable : Bool := false
  /-- `loN.state`. Reset: HIZ. -/
  st : OutState := .hiz
  /-- samples of SAFE left, and whether the 1 ms of a disable runs (R198). Reset: 0, no. -/
  safeLeft : Nat := 0
  disabling : Bool := false
  /-- the line queue, oldest first, up to 64 samples, and whether it refills to 24 (R197). Reset: empty, yes. -/
  queue : List Int := []
  refill : Bool := true
  /-- the present sample carries the bus (R198). Reset: no. -/
  carries : Bool := false
  /-- the sample the output carries now (R196). Reset: 0. -/
  level : Int := 0
  /-- `loN.flags`, 8 bits. Reset: 0. -/
  flags : BitVec 8 := 0
  /-- `loN.underruns`, 32 bits. Reset: 0. -/
  underruns : Word := 0
  /-- a limit episode runs; a leg limits now, in any driven state (R199). Reset: no. -/
  episode : Bool := false
  limiting : Bool := false
  deriving DecidableEq, Repr, Inhabited

/-- A CV output (R200 to R207, Table 08-6). -/
structure CvOut where
  /-- span 0 to 3 (Table 08-3). Reset: 3 (R217). -/
  span : Nat := 3
  /-- mode QUEUE (R202). Reset: TIMER. -/
  queueMode : Bool := false
  /-- glide 0 OFF, 1 TIME, 2 RATE, and its value (R204). Reset: 0, 0. -/
  glide : Nat := 0
  glideVal : Nat := 0
  /-- timer period in smp (R201). Reset: 1. -/
  period : Nat := 1
  /-- fault policy LATCH (R210). Reset: RETRY. -/
  latch : Bool := false
  /-- enable (CV_CONFIG byte 11). Reset: 0. -/
  enable : Bool := false
  /-- `cvN.state`. Reset: HIZ. -/
  st : OutState := .hiz
  /-- `cvN.code`, the code in effect. Reset: 0x8000. -/
  code : BitVec 16 := 0x8000
  /-- the target code. Reset: 0x8000 (R217). -/
  target : BitVec 16 := 0x8000
  /-- a running glide: the exact code it stands at, the code it began from, samples done and its length (R204). -/
  gliding : Bool := false
  gExact : Rat := 0x8000
  gFrom : Rat := 0x8000
  gPos : Nat := 0
  /-- samples of SAFE left (R200). Reset: 0. -/
  safeLeft : Nat := 0
  /-- the 64-entry queue (R202), and the sample before which it does not drain. Reset: empty. -/
  queue : List (BitVec 16) := []
  startAt : Option Smp := none
  /-- the queue has been filled and has drained since (R203). Reset: no. -/
  dry : Bool := false
  /-- `cvN.flags`, 8 bits: 0 SC, 1 SENSE_OPEN, 2 PAIR. Reset: 0. -/
  flags : BitVec 8 := 0
  /-- `cvN.underruns`, 32 bits. Reset: 0. -/
  underruns : Word := 0
  /-- `cvN.retries`, 32 bits. Reset: 0. -/
  retries : Word := 0
  /-- `cvN.sense` REMOTE. Reset: LOCAL. -/
  remote : Bool := false
  /-- the output regulates CVn in place of CVnS (R207). Reset: no. -/
  fallback : Bool := false
  /-- the code the DAC holds (R12, R197a). Reset: 0x8000. -/
  dac : BitVec 16 := 0x8000
  /-- the offset trim in effect, in microvolts (R345). Reset: 0. -/
  offsetNow : Int := 0
  /-- a limit episode runs; the output limits now, in SAFE too; it retries now; the limit's current is positive (R210,
  R212). Reset: no. -/
  episode : Bool := false
  limiting : Bool := false
  retrying : Bool := false
  positive : Bool := false
  deriving DecidableEq, Repr, Inhabited

/-- A gate output (R208 to R212, Table 08-6). -/
structure GateOut where
  /-- `gtN.enable`. Reset: OFF. -/
  enable : Bool := false
  /-- `gtN.level` V10. Reset: V5. -/
  v10 : Bool := false
  /-- `gtN.fault_policy` LATCH. Reset: RETRY. -/
  latch : Bool := false
  /-- `gtN.state`. Reset: HIZ. -/
  st : OutState := .hiz
  /-- the stored level. Reset: low (R217). -/
  high : Bool := false
  /-- the level the pin has, or would have when driven (R12). Reset: low. -/
  pin : Bool := false
  /-- the tenant that last set the gate (R209). Reset: none. -/
  setter : Option Tenant := none
  /-- `gtN.flags`, 8 bits: 0 SC, 2 PAIR. Reset: 0. -/
  flags : BitVec 8 := 0
  /-- `gtN.retries`, 32 bits. Reset: 0. -/
  retries : Word := 0
  episode : Bool := false
  retrying : Bool := false
  positive : Bool := false
  deriving DecidableEq, Repr, Inhabited

/-- A CV_SET that has executed and waits for its sample (R106, R201). -/
structure PendCv where
  /-- untimed: the output whose timer decides. -/
  timer : Option (Fin 16)
  entries : List CvEntry
  /-- executed in the present tick. -/
  fresh : Bool := true
  deriving DecidableEq, Repr, Inhabited

/-- A GATE_SET that has executed and waits for its tick (R208). -/
structure PendGate where
  timer : Bool
  mask : BitVec 8
  levels : BitVec 8
  t : Tenant
  fresh : Bool := true
  deriving DecidableEq, Repr, Inhabited

/-- What a command does to the state of an output, that waits for the die-to-die link (R12). -/
inductive LateOut where
  | cv (a : CvArgs)
  | gate (n : Nat) (on : Bool)
  | line (a : LineArgs)
  deriving DecidableEq, Repr, Inhabited

/-- What the field die latched at step 4 of a HIBERNATE entry (R213 to R215). -/
structure FieldHold where
  lines : List OutState
  cvs : List OutState
  gates : List OutState
  /-- outputs that limited for 5 ms during the hold, numbered as CV_FAULT numbers them (R214), and those of them that the
  firmware has still to report (R215). -/
  limited : List Nat := []
  owed : List Nat := []
  deriving DecidableEq, Repr, Inhabited

structure Field where
  /-- the boot self-test has passed since the last fault (R193). Reset: no. -/
  ready : Bool := false
  /-- the cause of a fault that is in place: 1 VDD_FA, 2 die, 3 over-temperature (R13). Reset: none. -/
  fault : Option Nat := none
  /-- the die-to-die link (R12). Reset: ok. -/
  link : DieLink := .ok
  /-- line outputs LO0 to LO3. -/
  los : Bank LineOut := []
  /-- CV outputs CV0 to CV15. -/
  cvs : Bank CvOut := []
  /-- gates GT0 to GT7. -/
  gts : Bank GateOut := []
  /-- `gate.timer_smp`. Reset: 1. -/
  gateTimer : Nat := 1
  /-- sets that wait (R106, R208). Reset: none. -/
  pendCv : List PendCv := []
  pendGate : List PendGate := []
  /-- spans and enables that landed while the link was silent, in order (R12). Reset: none. -/
  late : List LateOut := []
  /-- pairs PAIR_SUSPECT named, with the outputs that have not raised CLEARED since (R212). Reset: none. -/
  pairs : List (Nat × Nat × List Nat) := []
  /-- the field-die pad hold (R213). Reset: not held. -/
  hold : Option FieldHold := none
  /-- the stored output states of R215 are gone (R325). Reset: no. -/
  holdCleared : Bool := false
  /-- VDD_FA fell during the hold, to be reported at the wake (R214). Reset: no. -/
  holdLost : Bool := false
  deriving DecidableEq, Repr, Inhabited

structure CvIn where
  /-- CIC integrators and combs, 26 bits each (R220). Reset: 0. -/
  integ : List (BitVec 26) := [0, 0, 0, 0, 0]
  combs : List (BitVec 26) := [0, 0, 0, 0, 0]
  /-- FIR history, newest first, 64 samples (R222). Reset: none. -/
  hist : List Int := []
  /-- `ciN.fir_bank`. Reset: 0. -/
  bank : Nat := 0
  /-- `ciN.rank` as its index. Reset: OFF. -/
  rank : Nat := 0
  /-- words in the rank window, newest first; the window refills at the next word (R225). Reset: none, yes. -/
  window : List Int := []
  refill : Bool := true
  /-- the latest channel word before the rank filter, and `ciN.value` after it (R223). Reset: 0. -/
  word : Int := 0
  value : Int := 0
  /-- `ciN.flags`, 8 bits. Reset: 0. -/
  flags : BitVec 8 := 0
  /-- `ciN.overloads`, 32 bits. Reset: 0. -/
  overloads : Word := 0
  /-- an overload episode runs (R224). Reset: no. -/
  episode : Bool := false
  deriving DecidableEq, Repr, Inhabited

/-- A key of the scanner (R229 to R235). -/
structure Key where
  on : Bool := false
  /-- times in microseconds of the contacts' latest edges, or of the start-threshold crossing (R230, R231). -/
  t1 : Nat := 0
  t2 : Nat := 0
  startAt : Option Nat := none
  /-- pressure from 0 to 1, and the pressure last sent with its time in microseconds (R231). -/
  pressure : Rat := 0
  sent : Nat := 0
  sentAt : Option Nat := none
  /-- a key found held at a re-seed waits for its release (R235). -/
  waitRelease : Bool := false
  deriving DecidableEq, Repr, Inhabited

/-- A cell of the scanner (R229, R231, Table 09-6). -/
structure Cell where
  /-- contact state and the state of the latest pass (R229). -/
  closed : Bool := false
  last : Bool := false
  /-- rest code and the sum of the capture (R231). -/
  rest : Rat := 0
  sum : Nat := 0
  /-- the latest code, the position of the latest scan x 10,000 (R231). -/
  code : Nat := 0x8000
  pos : Rat := 0
  /-- since the last injection scan: every reading was 0x8000, every reading was at rest (Table 09-6). -/
  all8000 : Bool := true
  allRest : Bool := true
  /-- consecutive scans out of range and in range, up to 64 (Table 09-6, R235). -/
  outScans : Nat := 0
  inScans : Nat := 0
  faulty : Bool := false
  deriving DecidableEq, Repr, Inhabited

structure Scanner where
  /-- mode 0 OFF, 1 CONTACT, 2 ANALOG; tenant and part that receive KEY_NOTE (Table 04-9). Reset: 0, T0, 0. -/
  mode : Nat := 0
  tenant : Tenant := 0
  part : Nat := 0
  /-- number of the coming scan (R228). Reset: 0. -/
  scan : Nat := 0
  /-- the rest codes have been captured (R231). Reset: no. -/
  captured : Bool := false
  /-- re-seed the key state from the next readings without events (R235). Reset: no. -/
  reseed : Bool := false
  cells : Bank Cell := []
  keys : Bank Key := []
  /-- sense and drive lines reported open (R233). Reset: 0. -/
  senseOpen : BitVec 8 := 0
  driveOpen : BitVec 16 := 0
  /-- Table 09-7. -/
  baseKey : Nat := 36
  velFast : Nat := 1000
  velSlow : Nat := 100000
  startThr : Nat := 1000
  offThr : Nat := 3000
  onThr : Nat := 4000
  analogSpan : Nat := 0x4000
  pressureStep : Nat := 256
  cellMin : Nat := 0x0400
  cellMax : Nat := 0xFC00
  orderErrors : Word := 0
  checkFails : Word := 0
  deriving DecidableEq, Repr, Inhabited

/-! ## Serial channels and card -/

/-- What waits in a TX queue (R244, R252). -/
inductive TxItem where
  | byte (b : Byte)
  | brk (bits : Nat) (ref : Option (Tenant × Tag))
  deriving DecidableEq, Repr, Inhabited

/-- The receiver's break state (R250, R251). -/
inductive BreakSt where
  | none | counting | saturated
  deriving DecidableEq, Repr, Inhabited

/-- What a transmitter drives on its pin from a start on (R239, R246, R252, R256): the times in FWO cycles at which the level
changes from the one it has at rest, and the cycles until the next character may begin. -/
structure TxWave where
  changes : List Nat
  cycles : Nat
  deriving DecidableEq, Repr, Inhabited

structure Serial where
  /-- the settings of SC_CONFIG (Table 04-10); mode OFF and owner T0 after reset (R237). -/
  mode : ScMode := .off
  loopback : Bool := false
  echo : Bool := false
  flow : Bool := false
  autobaud : Bool := false
  dataBits : Nat := 8
  parity : Nat := 0
  twoStop : Bool := false
  divN : Nat := 0
  divF : Nat := 0
  owner : Tenant := 0
  high : Nat := 0
  low : Nat := 0
  /-- `scN.locked`, `scN.baud_n`, `scN.baud_f` (R247). Reset: NO, 0, 0. -/
  locked : Bool := false
  baudN : Nat := 0
  baudF : Nat := 0
  /-- RX queue, up to 256 bytes; TX queue, up to 2,048 bytes (R243). Reset: empty. -/
  rx : List Byte := []
  tx : List TxItem := []
  /-- a break is being sent (R252): its length in bits and the SC_BREAK it completes. Reset: none. -/
  txBreak : Option (Nat × Option (Tenant × Tag)) := none
  /-- RTS_N as the watermarks set it (R237, R253). Reset: high. -/
  rtsHigh : Bool := true
  /-- the character the transmitter last began (R239). Reset: none. -/
  txLast : Option Byte := none
  /-- what SCn_TX last began to drive, a character, an echo or a break. Reset: none. -/
  txWave : Option TxWave := none
  /-- receiver break state, and the L in 1/16 cycles in which the break is counted (R250). Reset: none, 0. -/
  brk : BreakSt := .none
  brkL16 : Nat := 0
  /-- number of the engine tick at the latest framing or parity error (R241). Reset: none. -/
  errAt : Option Nat := none
  /-- the RX queue has been non-full since the last OVERRUN (R243). Reset: yes. -/
  overrunArmed : Bool := true
  /-- counters of Table 10-6. Reset: 0. -/
  framing : Word := 0
  parityErr : Word := 0
  overruns : Word := 0
  discards : Word := 0
  ctsIgnored : Word := 0
  /-- the 16-character wake buffer (R259). Reset: empty. -/
  wakeBuf : List Byte := []
  /-- the channel's wake source is disarmed (R260); a start edge has requested a wake (R258). Reset: no. -/
  disarmed : Bool := false
  waking : Bool := false
  deriving DecidableEq, Repr, Inhabited

/-- The card session (R262 to R265). -/
inductive CardPhase where
  | idle
  /-- Table 10-5 steps 1 and 2: supply on, then clock running. -/
  | powered | clocked
  /-- reset released, waiting for TS. -/
  | waitTs
  /-- receiving the ATR. -/
  | atr
  /-- ready for an EXCHANGE. -/
  | ready
  /-- header and data are sent; a procedure byte is awaited. -/
  | procedure
  /-- one or all of the remaining bytes are being received or sent. -/
  | data (one : Bool)
  /-- SW2 is awaited. -/
  | sw2 (sw1 : Byte)
  deriving DecidableEq, Repr, Inhabited

structure Card where
  /-- `card.clk_div`. Reset: 12. -/
  clkDiv : Nat := 12
  /-- card detect shows a card (R261). Reset: no, DESIGN CHOICE, log entry 8. -/
  present : Bool := false
  /-- pins CARD_EN, CARD_CLK running, CARD_RST (R237). Reset: low. -/
  en : Bool := false
  clk : Bool := false
  rst : Bool := false
  phase : CardPhase := .idle
  /-- the CARD_SESSION that runs. Reset: none. -/
  ref : Option (Tenant × Tag) := none
  /-- inverse convention (R262). Reset: no. -/
  inverse : Bool := false
  /-- the etu as N and F (R262). Reset: 0. -/
  etuN : Nat := 0
  etuF : Nat := 0
  atr : List Byte := []
  /-- extra guard time and WI of the ATR (R263). Reset: 0 and 10. -/
  guardTime : Nat := 0
  wi : Nat := 10
  /-- the exchange: direction, header, data to send, data received, bytes still expected. -/
  dir : CardDir := .none
  header : List Byte := []
  toSend : List Byte := []
  got : List Byte := []
  expect : Nat := 0
  /-- repeats of the present character after the card's error signal (R263). Reset: 0. -/
  repeats : Nat := 0
  /-- an error signal is being driven on I/O (R263). Reset: no. -/
  errSignal : Bool := false
  /-- I/O is driven low by a deactivation (R265). Reset: no. -/
  ioLow : Bool := false
  deriving DecidableEq, Repr, Inhabited

/-! ## Ring -/

/-- `ring.role`. -/
inductive Role where
  | standalone | keeper | member
  deriving DecidableEq, Repr, Inhabited

/-- `ring.state` (Table 11-1). -/
inductive RingSt where
  | down | ring | folded | rateMismatch
  deriving DecidableEq, Repr, Inhabited

/-- A lane's state in RING_STATUS. -/
inductive RingLane where
  | noLight | locked | folded
  deriving DecidableEq, Repr, Inhabited

/-- An item the unit sends on the ring and that its addressee acknowledges (R273). -/
inductive RingItem where
  | note (n : RingNote) (unit : Nat)
  | startReport (origin : Nat) (t : Tenant) (noteId : BitVec 32)
  | refusal (origin : Nat) (t : Tenant) (noteId : BitVec 32)
  | ended (origin : Nat) (t : Tenant) (noteId : BitVec 32) (stolen : Bool)
  | command (unit : Nat) (t : Tenant) (g : Option Tag) (noteId : BitVec 32) (c : NoteCmd) (at_ : Smp) (et : Nat)
  | endOrder (unit : Nat) (t : Tenant) (noteId : BitVec 32)
  | report (origin : Nat) (t : Tenant) (g : Tag) (noteId : BitVec 32) (found late : Bool) (landed : Smp)
  | bankOff (origin : Nat) (t : Tenant) (noteId : BitVec 32) (bank : Nat)
  | join (dieId : BitVec 64)
  | leave (dieId : BitVec 64)
  | foldNotice (dieId : BitVec 64)
  deriving DecidableEq, Repr, Inhabited

/-- An item waiting for its acknowledgement (R273). -/
structure RingOut where
  seq : BitVec 16
  item : RingItem
  /-- frames in which it has been resent (R273). -/
  resends : Nat := 0
  deriving DecidableEq, Repr, Inhabited

/-- A command to a spilled-in voice that waits for its landing tick (R284). -/
structure RingDue where
  c : SpillCommand
  land : Smp
  late : Bool
  deriving DecidableEq, Repr, Inhabited

/-- A command record to a spilled note whose report is awaited (R284, R285): its command, the note, the frames since
the one that carried it, and the voices ALL_RELEASE reports. -/
structure RingWait where
  t : Tenant
  g : Tag
  noteId : BitVec 32
  frames : Nat := 0
  affected : Option Nat := none
  deriving DecidableEq, Repr, Inhabited

structure Ring where
  /-- `ring.role`. Reset: STANDALONE. -/
  role : Role := .standalone
  /-- `ring.state`. Reset: DOWN. -/
  st : RingSt := .down
  /-- `ring.position`, units on the ring, keeper die ID. Reset: 0, 0, 0. -/
  position : Nat := 0
  units : Nat := 0
  keeperId : BitVec 64 := 0
  /-- the keeper's Fs index and epoch of the latest marker. Reset: 0. -/
  keeperFs : Nat := 1
  epoch : Nat := 0
  /-- `ring.d_max`, `ring.align_delay`, `ring.align_residual`, `ring.hop_ns`. Reset: 0. -/
  dMax : Nat := 0
  align : Nat := 0
  residual : Int := 0
  hopNs : Nat := 0
  /-- D_max as the keeper record or the latest marker gives it, and the marker's hop latency with this unit's own hop added
  (R276, Table 11-5). Reset: 0. -/
  keeperDMax : Nat := 0
  accNs : Nat := 0
  /-- `ring.slips`, 32 bits. Reset: 0. -/
  slips : Word := 0
  /-- a realignment due at the next boundary, and the one of the present sample: the sample after it is dropped (yes) or it is
  repeated (no) (R277). Reset: none. -/
  slipDue : Option Bool := none
  slipNow : Option Bool := none
  /-- `ring.hibernate_grant` of this unit, and the grant read from the keeper's marker. Reset: DENY. -/
  grant : Bool := false
  keeperGrant : Bool := false
  /-- the transmitters are on (R268). Reset: no. -/
  txOn : Bool := false
  /-- lane states, code errors, heals, notes spilled (RING_STATUS). Reset: NO_LIGHT, 0. -/
  laneA : RingLane := .noLight
  laneB : RingLane := .noLight
  codeA : Word := 0
  codeB : Word := 0
  heals : BitVec 16 := 0
  spillsOut : Word := 0
  spillsIn : Word := 0
  spillsLost : Word := 0
  /-- the election window is open, with the RING_START it completes and the highest die ID seen (R274). Reset: no. -/
  electing : Option (Tenant × Tag) := none
  higher : Option (BitVec 64 × Nat) := none
  /-- START records sent in the window, and keeper records sent in answer to START records (R274, R275). Reset: 0. -/
  starts : Nat := 0
  answers : Nat := 0
  /-- joining: the RING_START that waits for the join boundary (R274, Table 11-5). Reset: none. -/
  joining : Option (Tenant × Tag) := none
  /-- a RING_LEAVE runs (none: the leave of a HIBERNATE entry), and whether its notice has gone out. Reset: no. -/
  leaving : Bool := false
  leaveRef : Option (Tenant × Tag) := none
  /-- number of the engine tick at which the leave was announced (R290). Reset: 0. -/
  leaveAt : Nat := 0
  /-- a fold has not healed yet (R287). Reset: no. -/
  unhealed : Bool := false
  /-- joins the keeper has accepted and not yet placed, and units that have announced their leave (R289, R290).
  Reset: none. -/
  joins : List (BitVec 64) := []
  leavers : List (BitVec 64) := []
  /-- the gossip of the open frame, by position, whether it has arrived, and the last one that did (R279, R281). Reset: none,
  no, none. -/
  gossip : List GossipEntry := []
  gossipSeen : Bool := false
  lastGossip : List GossipEntry := []
  /-- what this unit put in the open frame: its gossip entry, and the marker it wrote or passed on; whether the marker has come
  on its first pass (R271, R276). Reset: none, no. -/
  sentEntry : Option GossipEntry := none
  sentMarker : Option Marker := none
  markerSeen : Bool := false
  /-- the frame of this block is open, and notes put in it (R272). Reset: no, 0. -/
  frameOpen : Bool := false
  frameNotes : Nat := 0
  /-- this unit's contribution history for alignment, its contribution for the block that ended at the opening boundary, the
  SUM it passed on, the TOTAL samples to play (R271, R279, R280). -/
  ownHist : List (List Int) := []
  block : List (List Int) := []
  sumOut : List (List Int) := []
  total : List (List Int) := []
  totalNext : List (List Int) := []
  totalSeen : Bool := false
  /-- next ring sequence number, items sent, sequence numbers acted on by sender (R273). Reset: 0, none. -/
  seq : BitVec 16 := 0
  out : List RingOut := []
  seen : List (Nat × BitVec 16) := []
  /-- acknowledgements due in the next frame, and those that go out in the open one (R273). Reset: none. -/
  acks : List (Nat × BitVec 16) := []
  acksOut : List (Nat × BitVec 16) := []
  /-- commands to spilled-out notes whose report is awaited (R284). Reset: none. -/
  waits : List RingWait := []
  /-- commands to spilled-in voices that wait (R284). Reset: none. -/
  due : List RingDue := []
  /-- frames in which an origin's gossip entry has been missing (R285). Reset: 0. -/
  silent : Bank Nat := []
  /-- ends of voices of a silent origin, kept until its entry returns (R285). Reset: none. -/
  heldEnds : List RingItem := []
  deriving DecidableEq, Repr, Inhabited

/-! ## Memories, vault and MRAM -/

/-- A patch slot (R146, Table 04-5). -/
structure PatchSlot where
  image : List Byte := []
  owner : Option Tenant := none
  /-- sealed to this tenant (R103). -/
  sealedTo : Option Tenant := none
  /-- LOADING (R309). -/
  loading : Bool := false
  deriving DecidableEq, Repr, Inhabited

/-- A region of wave memory: bank, offset, length, tenant (R309, R310). -/
structure Region where
  bank : Nat
  offset : Nat
  length : Nat
  tenant : Tenant
  deriving DecidableEq, Repr, Inhabited

/-- A running WAVE_LOAD_SEALED: what SEALED_LOAD_DONE decrypts (R103, R309). -/
structure SealedLoad where
  t : Tenant
  g : Tag
  args : SealedArgs
  key : List Byte
  blob : List Byte
  deriving DecidableEq, Repr, Inhabited

/-- A bank transition under way (R296). -/
structure BankMove where
  kind : BankKind
  bank : Nat
  target : BankSt
  ref : Option (Tenant × Tag)
  prev : BankSt
  deriving DecidableEq, Repr, Inhabited

/-- A running WAVE_WRITE (R301). -/
structure WaveCopy where
  t : Tenant
  g : Tag
  bank : Nat
  offset : Nat
  data : List Byte
  deriving DecidableEq, Repr, Inhabited

/-- A MEM_BANK_STATE that waits until nothing writes its bank (R298). -/
structure BankWait where
  t : Tenant
  g : Tag
  kind : BankKind
  bank : Nat
  target : BankSt
  deriving DecidableEq, Repr, Inhabited

structure Mem where
  /-- wave memory: bank x 0x20_0000 + offset. Reset: zero (Table 13-3 step 7). -/
  wave : Memory := []
  /-- 64-bit words of wave memory that hold an uncorrectable error (R303), by word address. Reset: none. -/
  badWords : List Nat := []
  /-- bank states (R294). Reset: ON for wave and patch. -/
  waveBanks : Bank BankSt := []
  patchBanks : Bank BankSt := []
  /-- firmware banks 4 to 7; 0 to 3 are always ON. Reset: OFF for 4 to 7. -/
  fwBanks : Bank BankSt := []
  moves : List BankMove := []
  /-- patch slots 0 to 255. Reset: empty. -/
  patches : Bank PatchSlot := []
  /-- wave maps 0 to 4,095. Reset: unmapped. -/
  maps : Bank WaveMap := []
  /-- sealed wave regions, LOADING loads, running copies (R309, R310, R301). Reset: none. -/
  seals : List Region := []
  loads : List SealedLoad := []
  copies : List WaveCopy := []
  /-- MEM_BANK_STATE commands that wait for a write to their bank, in order (R298). Reset: none. -/
  bankWaits : List BankWait := []
  /-- `mem.ecc_corrected`, `mem.ecc_uncorrected`, 32 bits. Reset: 0. -/
  eccCorrected : Word := 0
  eccUncorrected : Word := 0
  deriving DecidableEq, Repr, Inhabited

/-- A key of the vault engine that the fused device secret gives (Table 12-6), held by its derivation: the identity key or
the storage key, and the secret. Its bytes are `DevKey.bytes`. -/
structure DevKey where
  storage : Bool
  secret : BitVec 256
  deriving DecidableEq, Repr, Inhabited

/-- A vault image: content keys wrapped under the storage key (R307). -/
structure VaultImage where
  under : Option DevKey
  keys : Bank (List Byte)
  deriving DecidableEq, Repr, Inhabited

structure Vault where
  /-- content keys of 32 bytes by slot (Table 12-6). Reset: none. -/
  keys : Bank (List Byte) := []
  /-- device identity key and storage key, derived at each boot (Table 12-6, R305). Reset: derived, the boot being past
  step 6. -/
  identity : Option DevKey := some { storage := false, secret := 0 }
  storage : Option DevKey := some { storage := true, secret := 0 }
  /-- key-encryption key (R306). Reset: none. -/
  kek : Option (List Byte) := none
  /-- the latched tamper source (R314). Reset: none. -/
  latched : Option TamperSrc := none
  deriving DecidableEq, Repr, Inhabited

/-- One copy of an A/B record pair (R337, R338): its header's sequence number, whether magic is present and whether
the CRC-32 and the commit word are right, and its data. -/
structure Copy (α : Type) where
  seq : Nat := 0
  magic : Bool := false
  valid : Bool := false
  data : Option α := none
  deriving DecidableEq, Repr, Inhabited

/-- An A/B record pair (R337). -/
structure AB (α : Type) where
  a : Copy α := {}
  b : Copy α := {}
  deriving DecidableEq, Repr, Inhabited

/-- A pair whose copy A holds a valid record with sequence number 1, and whose copy B holds none. -/
def AB.first {α : Type} (d : α) : AB α := { a := { seq := 1, magic := true, valid := true, data := some d } }

/-- The active-slot record (R342, R343): the active firmware slot, TRIAL, its boot attempts, and the verified mark of R111 for
the inactive slot. -/
structure SlotRec where
  activeB : Bool := false
  trial : Bool := false
  attempts : Nat := 0
  verified : Bool := false
  deriving DecidableEq, Repr, Inhabited

/-- A calibration entry (Table 14-2). -/
structure Trim where
  offset : Int := 0
  gain : Int := 0
  factoryOffset : Int := 0
  factoryGain : Int := 0
  hours : Nat := 0
  count : Nat := 0
  deriving DecidableEq, Repr, Inhabited

/-- MRAM (R295, R337 to R343, R354, Table 12-2). Every record of the settings region has its two copies. -/
structure Nvm where
  /-- firmware slots A and B, 1.5 MiB each (Table 12-2). Reset: the shipped image in A, B empty, DESIGN CHOICE, log
  entry 8. -/
  fwA : Memory := shippedImage
  fwB : Memory := []
  /-- active-slot record (R342). Reset: A active, CONFIRMED, DESIGN CHOICE, log entry 8. -/
  slotRec : AB SlotRec := AB.first {}
  /-- life-cycle record and advance-pending record (R313). Reset: BLANK (Table 12-11), none pending. -/
  lifeRec : AB Life := AB.first .blank
  advanceRec : AB (Option (Life × List Byte)) := AB.first none
  /-- TAMPERED record with its source (R314, R315). Reset: not set. -/
  tamperedRec : AB (Option TamperSrc) := AB.first none
  /-- TAMPER_RECORDED is owed to T0 (R315). Reset: no. -/
  tamperOwed : Bool := false
  /-- maker public key, 64 bytes (R313). Reset: none. -/
  makerRec : AB (Option (List Byte)) := AB.first none
  /-- rollback counter, `fw.rollback` (R312). Reset: 0. -/
  rollbackRec : AB Nat := AB.first 0
  /-- vault images (R307). Reset: none. -/
  vault : AB VaultImage := {}
  /-- calibration copies (Table 14-1). Reset: A valid with sequence number 1, DESIGN CHOICE, log entry 8. -/
  cal : AB (Bank Trim) := AB.first []
  /-- the hourly record of both life counts, in seconds (R354). Reset: 0. -/
  countRec : AB (Nat × Rat) := AB.first (0, 0)
  deriving DecidableEq, Repr, Inhabited

/-! ## Power, calibration, tests -/

/-- Steps of a HIBERNATE entry (Table 13-10): in the quiesce, AP1 passed and clocks gated, saved, latched. -/
inductive EntryStep where
  | quiesce | gated | saved | latched
  deriving DecidableEq, Repr, Inhabited

/-- The save list (Table 13-12). -/
structure SaveList where
  tide : Tide := {}
  fs : Nat := 1
  osr : Nat := 4
  mclkIn : Bool := false
  preset : Preset := .heron
  lossHold : Bool := false
  frameEdge : Nat := 0
  quad : Bool := false
  irqOd : Bool := true
  irqEn : BitVec 10 := 0
  dozeMs : Nat := 10
  napMs : Nat := 5000
  hibS : Nat := 600
  abandon : Bool := false
  wakeMask : BitVec 7 := 0
  wakeTimer : Nat := 0
  serials : Bank Serial := []
  clkDiv : Nat := 12
  gateTimer : Nat := 1
  ports : Bank Port := []
  lanes : Bank Lane := []
  slotB : Bool := false
  deriving DecidableEq, Repr, Inhabited

/-- The engine-die pads latched at step 4 of a HIBERNATE entry (R335): SCn_TX and SCn_RTS_N levels, card pins, LK_IRQ_N. -/
structure PadHold where
  tx : List Bool
  rts : List Bool
  cardEn : Bool
  cardClk : Bool
  cardRst : Bool
  irqAsserted : Bool
  deriving DecidableEq, Repr, Inhabited

/-- `power.last_reset`. -/
inductive LastReset where
  | powerOn | resetN | warm | tamper
  deriving DecidableEq, Repr, Inhabited

structure Power where
  /-- the power state (Table 13-6). Reset: RUN. -/
  st : PState := .run
  /-- PWR_EN_CORE (R317). Reset: high (Table 13-3 step 1). -/
  enCore : Bool := true
  /-- `power.doze_idle_ms`, `power.nap_idle_ms`, `power.hibernate_idle_s`, 32 bits each (Table 13-13). Reset: 10, 5,000, 600. -/
  dozeMs : Nat := 10
  napMs : Nat := 5000
  hibS : Nat := 600
  /-- `power.entry_policy` ABANDON (Table 13-13). Reset: COMPLETE. -/
  abandon : Bool := false
  /-- `power.last_wake` (Table 13-13). Reset: NONE. -/
  lastWake : WakeSrc := .none
  /-- `power.last_reset` (Table 13-13). Reset: POWER_ON. -/
  lastReset : LastReset := .powerOn
  /-- WAKE_CONFIG source mask and timer (Table 04-13). Reset: 0, DESIGN CHOICE, log entry 8. -/
  wakeMask : BitVec 7 := 0
  wakeTimer : Nat := 0
  /-- samples since a voice last sounded, up to 256 (R326). Reset: 256, DESIGN CHOICE, log entry 8. -/
  quiet : Nat := 256
  /-- engine ticks of the present idleness during which a command was scheduled: the HIBERNATE timer did not count (R327).
  Reset: 0. -/
  schedTicks : Nat := 0
  /-- POWER_ENTER that waits for idleness (R328). Reset: none. -/
  request : Option PState := none
  /-- an idle-timer entry due at the next block boundary (R327). Reset: none. -/
  timerEntry : Option PState := none
  /-- the entry under way was asked for by POWER_ENTER (R329). Reset: no. -/
  byCommand : Bool := false
  /-- the HIBERNATE entry under way (Table 13-10). Reset: none. -/
  entry : Option EntryStep := none
  /-- the stop fade that runs is the quiesce of a HIBERNATE entry (Table 13-10 step 1). Reset: no. -/
  quiesceFade : Bool := false
  /-- a wake noted in sleep or during an entry (R330, R333). Reset: none. -/
  wake : Option WakeSrc := none
  /-- the save list of the latest HIBERNATE entry (Table 13-12). Reset: the registers' own reset values. -/
  save : SaveList := {}
  /-- engine-die pads held (R335). Reset: not held. -/
  pads : Option PadHold := none
  /-- LK_IRQ_N as it stood when NAP began (R330). Reset: none. -/
  napIrq : Option Bool := none
  /-- an entry to NAP or HIBERNATE began with the tide comparator armed (R330). Reset: no. -/
  comparator : Bool := false
  deriving DecidableEq, Repr, Inhabited

/-- A running SELFTEST (R350). -/
structure TestRun where
  t : Tenant
  g : Tag
  target : Nat
  mask : BitVec 32
  deriving DecidableEq, Repr, Inhabited

/-- A running trim (R345 to R349): targets under trim, skipped, the CAL_RUN it answers. -/
structure TrimRun where
  ref : Option (Tenant × Tag)
  targets : List Nat
  skipped : List Nat
  limited : Bool
  deriving DecidableEq, Repr, Inhabited

structure Cal where
  /-- working trims by target: 0-15 CV, 16-23 CI, 24-27 LO (Table 14-2). Reset: 0, DESIGN CHOICE, log entry 8. -/
  trims : Bank Trim := []
  /-- Table 14-10. Reset: NO, 600, OFF, 5,000. -/
  trimActive : Bool := false
  trimPeriodS : Nat := 600
  autoStore : Bool := false
  driftLimitUv : Nat := 5000
  /-- the CAL_RUN or periodic trim that runs (R347, R348). Reset: none. -/
  trim : Option TrimRun := none
  /-- a periodic trim fell due in NAP (R348). Reset: no. -/
  periodicOwed : Bool := false
  /-- the CAL_STORE that runs: its command, or none for auto-store (R339). Reset: none. -/
  storing : Option (Option (Tenant × Tag)) := none
  /-- an auto-store waits for the store that runs (R340). Reset: no. -/
  storeOwed : Bool := false
  /-- the SELFTEST that runs (R350). Reset: none. -/
  test : Option TestRun := none
  /-- working seconds of life.hours and life.equiv_hours (R354). Reset: 0. -/
  lifeSec : Nat := 0
  equivSec : Rat := 0
  deriving DecidableEq, Repr, Inhabited

/-- Fuses (R1, Table 02-9). -/
structure Fuse where
  /-- ordering variant. Reset: F, DESIGN CHOICE, log entry 7. -/
  variant : Variant := .f
  /-- die ID, 64 bits. Reset: 0x0100_0000_0000_0001, DESIGN CHOICE, log entry 7. -/
  dieId : BitVec 64 := 0x0100000000000001
  /-- the fused device secret (Table 12-6). Reset: 0, DESIGN CHOICE, log entry 7. -/
  secret : BitVec 256 := 0
  deriving DecidableEq, Repr, Inhabited

/-- Supplies and sensors as the monitors see them. -/
structure Supply where
  /-- VDD_NVM in range (R317). Reset: yes, DESIGN CHOICE, log entry 8. -/
  nvm : Bool := true
  /-- VDD_FA above its hold threshold, with hysteresis (R366). Reset: no. -/
  fa : Bool := false
  /-- VFP and VFN in range (R319, R366). Reset: no. -/
  vf : Bool := false
  /-- the hottest die sensor in degrees (Table 06-4, R354). Reset: 25, DESIGN CHOICE, log entry 8. -/
  tj : Int := 25
  deriving DecidableEq, Repr, Inhabited

/-- The block. -/
structure State where
  /-- commands that wait, first in, first out. Reset: empty. -/
  pending : List Instr := []
  /-- free values drawn so far: the MODEL'S OWN field, log entry 6. Reset: 0, DESIGN CHOICE. -/
  freeCtr : Nat := 0
  /-- fuses (R1, Table 02-9). Reset: does not change them. -/
  fuse : Fuse := {}
  /-- supplies and sensors (R317, R366, Table 06-4). Reset: does not change them. -/
  supply : Supply := {}
  /-- the link port (R34 to R62). Reset: Table 02-9. -/
  link : Link := {}
  /-- tenants T0 to T7 (R63 to R87). Reset: all CLOSED, Table 03-9. -/
  tenants : Bank TenantSt := []
  /-- the firmware on the control processor (R85, R316 to R322). Reset: halted, FW_UP 0. -/
  fw : Firmware := {}
  /-- the instrument core: `eng.fs`, `eng.osr`, the tide (R16 to R33). Reset: Table 01-8. -/
  core : Core := {}
  /-- class-L writes executed in the present tick, and those that are due (R26). Reset: none. -/
  pendL : List Write := []
  readyL : List Write := []
  /-- class-B writes executed since the latest boundary, and those that are due (R26). Reset: none. -/
  pendB : List Write := []
  readyB : List Write := []
  /-- occupied slots (R115 to R161). Reset: none. -/
  voices : List Voice := []
  /-- what free slots keep (R127, R130), at lane x 48 + slot. Reset: zero (R130). -/
  slots : Bank SlotMem := []
  /-- allocation and lanes (R149 to R168). Reset: Table 06-5. -/
  alloc : Alloc := {}
  /-- buses, decimation and detectors (R169 to R186). Reset: Table 07-4. -/
  mix : Mix := {}
  /-- TDM ports TP0 to TP5 (R187 to R192). Reset: Table 07-8. -/
  ports : Bank Port := []
  /-- line outputs, CV outputs, gates and the field die (R12, R193 to R217). Reset: Table 08-6. -/
  field : Field := {}
  /-- CV inputs CI0 to CI7 (R218 to R226). Reset: Table 09-5. -/
  cis : Bank CvIn := []
  /-- the key scanner (R227 to R235). Reset: OFF, Table 09-7. -/
  scan : Scanner := {}
  /-- serial channels SC0 to SC3 (R236 to R256). Reset: OFF, Table 10-6. -/
  serials : Bank Serial := []
  /-- the smart card (R257 to R266). Reset: inactive. -/
  card : Card := {}
  /-- the mix ring (R267 to R293). Reset: standalone, Table 11-7. -/
  ring : Ring := {}
  /-- patch bank, wave memory and their commands (R294 to R304, R309, R310). Reset: Table 12-3, R321. -/
  mem : Mem := {}
  /-- the key vault (R305 to R315). Reset: locked and zeroed. -/
  vault : Vault := {}
  /-- MRAM (R295, R337 to R343, R354). Reset: does not change it. -/
  nvm : Nvm := {}
  /-- power states and wake (R326 to R335). Reset: RUN. -/
  power : Power := {}
  /-- calibration, self-tests and periodic work (R344 to R352). Reset: Table 14-10. -/
  cal : Cal := {}
  deriving DecidableEq, Repr, Inhabited

/-- No command of the block stops with a fault: each failure the spec names is a status, an event, a flag, a state or a
discard (Table 04-16, Table 04-17, Table 08-1, R43). The one constructor is raised by nobody; it is safe. -/
inductive Fault where
  /-- raised by nobody; safe. -/
  | unused
  deriving DecidableEq, Repr

/-- Why a command has no meaning. -/
inductive Refusal where
  /-- raised by an arm of `exec` whose row has no meaning yet (none has); safe: the run stops. -/
  | notModelled (mnemonic : String)
  deriving DecidableEq, Repr

/-- The unit right after the release of power-on reset (R319, R321): every field at its default above. -/
def State.reset : State := {}

end Sys2Proof.Machine
end

