-- ==== Sys2Proof/Machine/Nvm.lean ====
section
/-! DEFINITION. MRAM: the A/B order of its record pairs (R337, R338), what each settings record reads as, the layout of a
calibration copy (Tables 14-1 and 14-2), firmware images and their checks (Table 12-7, Table 12-8), and the keys that the
vault derives (R305, R306). -/

namespace Sys2Proof.Machine

/-! ## A/B record pairs (R337, R338) -/

/-- The copy is valid. -/
def Copy.ok {α : Type} (c : Copy α) : Bool := c.magic && c.valid

/-- Copy B holds the newest valid record. -/
def AB.useB {α : Type} (p : AB α) : Bool := p.b.ok && (!p.a.ok || decide (p.a.seq < p.b.seq))

/-- The newest valid record. -/
def AB.newest {α : Type} (p : AB α) : Option α :=
  if p.useB then p.b.data else if p.a.ok then p.a.data else none

/-- The sequence number of the next store. -/
def AB.nextSeq {α : Type} (p : AB α) : Nat := Nat.max p.a.seq p.b.seq + 1

/-- The copy a store writes is B: the one that does not hold the newest valid record. -/
def AB.target {α : Type} (p : AB α) : Bool := p.a.ok && !p.useB

/-- Step 1 of a store: the header with the new sequence number, no commit word. -/
def AB.start {α : Type} (p : AB α) : AB α :=
  let c : Copy α := { seq := p.nextSeq, magic := true }
  if p.target then { p with b := c } else { p with a := c }

/-- The rest of a store: the data, and the commit word. -/
def AB.commit {α : Type} (p : AB α) (d : α) : AB α :=
  if p.target then { p with b := { p.b with valid := true, data := some d } }
  else { p with a := { p.a with valid := true, data := some d } }

/-- A whole store; when it fails to verify, the copy written is invalid. -/
def AB.put {α : Type} (p : AB α) (d : α) (verify : Bool) : AB α := if verify then p.start.commit d else p.start

/-- Both copies lose their commit words. -/
def AB.wipe {α : Type} (p : AB α) : AB α := { a := { p.a with valid := false }, b := { p.b with valid := false } }

/-- A copy in which a read met an uncorrectable word is invalid (Table 12-5); `b`: copy B. -/
def AB.spoil {α : Type} (p : AB α) (b : Bool) : AB α :=
  if b then { p with b := { p.b with valid := false } } else { p with a := { p.a with valid := false } }

/-! ## The settings records (Table 12-2)

A record with no valid copy reads as a free value: no rule says what the firmware takes then (log entry 23). -/

/-- The active-slot record. -/
def Nvm.slot (m : Nvm) : SlotRec :=
  m.slotRec.newest.getD
    { activeB := Nat.testBit (Config.lostRecord 0) 0, trial := Nat.testBit (Config.lostRecord 0) 1
      verified := Nat.testBit (Config.lostRecord 0) 2, attempts := Config.lostRecord 0 / 8 }

/-- The active firmware slot is B. -/
def Nvm.activeB (m : Nvm) : Bool := m.slot.activeB

/-- The active slot is TRIAL. -/
def Nvm.trial (m : Nvm) : Bool := m.slot.trial

/-- Boots that the TRIAL slot has attempted. -/
def Nvm.attempts (m : Nvm) : Nat := m.slot.attempts

/-- The inactive slot is marked verified. -/
def Nvm.verified (m : Nvm) : Bool := m.slot.verified

/-- Writes the active-slot record. -/
def Nvm.putSlot (m : Nvm) (r : SlotRec) (verify : Bool) : Nvm := { m with slotRec := m.slotRec.put r verify }

/-- The life-cycle state of a code (Table 12-11). -/
def Life.ofCode : Nat → Life
  | 0 => .blank | 1 => .maker | 2 => .field | _ => .ret

/-- The life-cycle record. -/
def Nvm.life (m : Nvm) : Life := m.lifeRec.newest.getD (Life.ofCode (Config.lostRecord 1))

/-- The advance-pending record: the target and, for MAKER, its key. -/
def Nvm.advance (m : Nvm) : Option (Life × List Byte) :=
  m.advanceRec.newest.getD
    (if Config.lostRecord 2 = 0 then none else some (Life.ofCode (Config.lostRecord 2 % 4), leBytes 64 (Config.lostRecord 2 / 4)))

/-- The TAMPERED record, with its source. -/
def Nvm.tampered (m : Nvm) : Option TamperSrc :=
  m.tamperedRec.newest.getD
    (match Config.lostRecord 3 with
      | 0 => none | 1 => some .pin | 2 => some .glitch | _ => some .temperature)

/-- The maker public key. -/
def Nvm.makerKey (m : Nvm) : Option (List Byte) :=
  m.makerRec.newest.getD (if Config.lostRecord 4 = 0 then none else some (leBytes 64 (Config.lostRecord 4)))

/-- The stored rollback counter. -/
def Nvm.rollback (m : Nvm) : Nat := m.rollbackRec.newest.getD (Config.lostRecord 5)

/-- The words in which a boot meets an uncorrectable error, copy by copy. -/
def Nvm.spoil (m : Nvm) (e : NvmRec × Bool) : Nvm :=
  match e.1 with
  | .slot => { m with slotRec := m.slotRec.spoil e.2 }
  | .life => { m with lifeRec := m.lifeRec.spoil e.2 }
  | .advance => { m with advanceRec := m.advanceRec.spoil e.2 }
  | .tampered => { m with tamperedRec := m.tamperedRec.spoil e.2 }
  | .maker => { m with makerRec := m.makerRec.spoil e.2 }
  | .rollback => { m with rollbackRec := m.rollbackRec.spoil e.2 }
  | .vault => { m with vault := m.vault.spoil e.2 }
  | .cal => { m with cal := m.cal.spoil e.2 }
  | .counts => { m with countRec := m.countRec.spoil e.2 }
  | .image => m

/-! ## The calibration record (Tables 14-1 and 14-2) -/

/-- One entry of 32 bytes (Table 14-2). -/
def Trim.bytes (x : Trim) : List Byte :=
  leInt 4 x.offset ++ leInt 4 x.gain ++ leInt 4 x.factoryOffset ++ leInt 4 x.factoryGain ++ leBytes 4 x.hours ++
    leBytes 4 x.count ++ leBytes 8 0

/-- A calibration record before its CRC-32: magic, sequence number, format version 1, variant, n, die ID [31:0], entries. -/
def calBody (f : Fuse) (seq : Nat) (trims : Bank Trim) : List Byte :=
  let n := if f.variant = .f then 28 else 0
  [0x53, 0x4F, 0x4C, 0x43] ++ leBytes 4 seq ++ [1, if f.variant = .f then 0 else 1] ++ leBytes 2 n ++
    leBytes 4 f.dieId.toNat ++ (List.range n).flatMap fun i => (bankAt trims i {}).bytes

/-- The commit word: the sequence number, then its complement (R338). -/
def commitWord (seq : Nat) : List Byte :=
  leBytes 4 seq ++ leBytes 4 (~~~(BitVec.ofNat 32 seq)).toNat

/-- The bytes of a committed calibration record (Table 14-1). -/
def calRecord (f : Fuse) (seq : Nat) (trims : Bank Trim) : List Byte :=
  let b := calBody f seq trims
  b ++ leBytes 4 (crc32 b).toNat ++ leBytes 4 0 ++ commitWord seq

/-! ## Firmware images (Table 12-7, Table 12-8) -/

/-- The firmware slot A, or B. -/
def Nvm.slotMem (m : Nvm) (b : Bool) : Memory := if b then m.fwB else m.fwA

/-- Replaces the inactive slot. -/
def Nvm.setInactive (m : Nvm) (x : Memory) : Nvm := if m.activeB then { m with fwA := x } else { m with fwB := x }

/-- The signed length L of a firmware image. -/
def imageLen (m : Memory) : Nat := leNat (memReadN m 4 4)

/-- Bytes 0 to L - 1 of an image, which the boot copies into firmware SRAM (R294). -/
def imageBody (m : Memory) : Memory := memTake m (imageLen m)

/-- The signature chain asks for the maker's signature too (Table 12-8). -/
def Life.needsMaker (l : Life) : Bool := l == .maker || l == .field

/-- Grennex's signature over bytes 0 to L - 1. That of the shipped image is right (DESIGN CHOICE, log entry 8). -/
def grennexSigned (m : Memory) : Bool :=
  let n := imageLen m
  memTake m (n + 64) == shippedImage || Config.ecdsaP256 Config.grennexKey (Config.sha256 (memReadN m 0 n)) (memReadN m n 64)

/-- The maker's signature over bytes 0 to L + 63. -/
def makerSigned (key : List Byte) (m : Memory) : Bool :=
  let n := imageLen m
  Config.ecdsaP256 key (Config.sha256 (memReadN m 0 (n + 64))) (memReadN m (n + 64) 64)

/-- The signatures that a life-cycle state asks for. -/
def Nvm.signed (v : Nvm) (m : Memory) : Bool :=
  grennexSigned m && (!v.life.needsMaker || (v.makerKey.map fun k => makerSigned k m).getD false)

/-- The checks of R312 on an image. -/
def Nvm.imagePasses (v : Nvm) (m : Memory) : Bool :=
  let n := imageLen m
  decide (n ≤ 1048576) && decide (n + 128 ≤ 1572864) && memReadN m 0 4 == [0x42, 0x4C, 0x58, 0x46] &&
    decide ((memRead m 12).toNat ≤ 0x42) && decide (v.rollback ≤ leNat (memReadN m 16 4)) && v.signed m

/-! ## Keys (R305, R306) -/

/-- The bytes of a device key. -/
def DevKey.bytes (k : DevKey) : List Byte := Config.deviceKey k.storage k.secret

/-- The identity key and the storage key of a device secret (Table 12-6). -/
def Fuse.identityKey (f : Fuse) : DevKey := { storage := false, secret := f.secret }

/-- The storage key of a device secret (Table 12-6). -/
def Fuse.storageKey (f : Fuse) : DevKey := { storage := true, secret := f.secret }

/-- HKDF-SHA-256 with 32 bytes of output (RFC 5869): extract, then one block of expand. -/
def hkdf32 (ikm salt info : List Byte) : List Byte := Config.hmacSha256 (Config.hmacSha256 salt ikm) (info ++ [1])

/-- "SOL384-KEK" in ASCII. -/
def kekInfo : List Byte := [0x53, 0x4F, 0x4C, 0x33, 0x38, 0x34, 0x2D, 0x4B, 0x45, 0x4B]

/-- The key-encryption key of an identity key, a maker public key and a die ID (R306). -/
def kekOf (identity maker : List Byte) (die : BitVec 64) : List Byte :=
  hkdf32 (Config.ecdhP256 identity maker) (leBytes 8 die.toNat) kekInfo

/-- The key-encryption key of the unit, from the MAKER state on until RETURN: while there is a maker key. -/
def State.kek (s : State) : Option (List Byte) :=
  s.vault.identity.bind fun k => s.nvm.makerKey.map fun m => kekOf k.bytes m s.fuse.dieId

/-- The content keys of a vault image under a storage key. -/
def VaultImage.opened (i : VaultImage) (k : Option DevKey) : Option (Bank (List Byte)) :=
  if i.under = k then some i.keys else none

end Sys2Proof.Machine
end

