-- ==== Sys2Proof/Machine/Ops.lean ====
section
/-! DEFINITION. The operations every family of commands shares: the blocks of the state by number, rates and the tide,
completion queues, completion records and the echo store (R71 to R81), events (R82, R322), and when a command may
start (R77, Table 03-5). -/

namespace Sys2Proof.Machine

/-! ## The blocks by number -/

/-- Tenant `t`. -/
def State.ten (s : State) (t : Tenant) : TenantSt := bankAt s.tenants t.val {}

/-- Replaces tenant `t`. -/
def State.setTen (s : State) (t : Tenant) (x : TenantSt) : State := { s with tenants := bankPut s.tenants t.val x }

/-- Changes tenant `t`. -/
def State.updTen (s : State) (t : Tenant) (f : TenantSt → TenantSt) : State := s.setTen t (f (s.ten t))

/-- The eight tenants. -/
def allTenants : List Tenant := [0, 1, 2, 3, 4, 5, 6, 7]

/-- Part `p` of a tenant. -/
def TenantSt.part (x : TenantSt) (p : Nat) : Part := bankAt x.parts p {}

/-- Changes part `p` of a tenant. -/
def TenantSt.updPart (x : TenantSt) (p : Nat) (f : Part → Part) : TenantSt :=
  { x with parts := bankPut x.parts p (f (x.part p)) }

/-- Tenant LFO `n`, counted from 1. -/
def TenantSt.lfo (x : TenantSt) (n : Nat) : TenLfo := bankAt x.lfos n {}

/-- Lane `n`. -/
def Alloc.lane (a : Alloc) (n : Nat) : Lane := bankAt a.lanes n {}

/-- Changes lane `n`. -/
def State.updLane (s : State) (n : Nat) (f : Lane → Lane) : State :=
  { s with alloc := { s.alloc with lanes := bankPut s.alloc.lanes n (f (s.alloc.lane n)) } }

/-- Bus `n`. -/
def State.bus (s : State) (n : Nat) : Bus := bankAt s.mix.buses n {}

/-- Changes bus `n`. -/
def State.updBus (s : State) (n : Nat) (f : Bus → Bus) : State :=
  { s with mix := { s.mix with buses := bankPut s.mix.buses n (f (s.bus n)) } }

/-- TDM port `n`. -/
def State.port (s : State) (n : Nat) : Port := bankAt s.ports n (Port.reset n)

/-- Changes TDM port `n`. -/
def State.updPort (s : State) (n : Nat) (f : Port → Port) : State :=
  { s with ports := bankPut s.ports n (f (s.port n)) }

/-- Line output `n`; its source is bus `n` after reset (R217). -/
def State.lo (s : State) (n : Nat) : LineOut := bankAt s.field.los n { source := n }

/-- Changes line output `n`. -/
def State.updLo (s : State) (n : Nat) (f : LineOut → LineOut) : State :=
  { s with field := { s.field with los := bankPut s.field.los n (f (s.lo n)) } }

/-- CV output `n`. -/
def State.cv (s : State) (n : Nat) : CvOut := bankAt s.field.cvs n {}

/-- Changes CV output `n`. -/
def State.updCv (s : State) (n : Nat) (f : CvOut → CvOut) : State :=
  { s with field := { s.field with cvs := bankPut s.field.cvs n (f (s.cv n)) } }

/-- Gate `n`. -/
def State.gt (s : State) (n : Nat) : GateOut := bankAt s.field.gts n {}

/-- Changes gate `n`. -/
def State.updGt (s : State) (n : Nat) (f : GateOut → GateOut) : State :=
  { s with field := { s.field with gts := bankPut s.field.gts n (f (s.gt n)) } }

/-- CV input `n`. -/
def State.ci (s : State) (n : Nat) : CvIn := bankAt s.cis n {}

/-- Changes CV input `n`. -/
def State.updCi (s : State) (n : Nat) (f : CvIn → CvIn) : State := { s with cis := bankPut s.cis n (f (s.ci n)) }

/-- Serial channel `n`. -/
def State.sc (s : State) (n : Nat) : Serial := bankAt s.serials n {}

/-- Changes serial channel `n`. -/
def State.updSc (s : State) (n : Nat) (f : Serial → Serial) : State :=
  { s with serials := bankPut s.serials n (f (s.sc n)) }

/-- A bank's power state; wave and patch banks are ON after reset, firmware banks 4 to 7 OFF (R294, R295). -/
def Mem.bankSt (m : Mem) (k : BankKind) (n : Nat) : BankSt :=
  match k with
  | .wave => bankAt m.waveBanks n .on
  | .patch => bankAt m.patchBanks n .on
  | .firmware => if n < 4 then .on else bankAt m.fwBanks n .off

/-- Sets a bank's power state. -/
def Mem.setBank (m : Mem) (k : BankKind) (n : Nat) (st : BankSt) : Mem :=
  match k with
  | .wave => { m with waveBanks := bankPut m.waveBanks n st }
  | .patch => { m with patchBanks := bankPut m.patchBanks n st }
  | .firmware => { m with fwBanks := bankPut m.fwBanks n st }

/-- Folds a change over a list. -/
def foldS {α : Type} (l : List α) (s : State) (f : State → α → State) : State := l.foldl f s

/-! ## Rates, capacity and the tide (R18, R25) -/

/-- `eng.fs` in Hz by its index (Table 01-8). -/
def fsHz (i : Nat) : Nat := [44100, 48000, 88200, 96000, 176400, 192000].getD i 48000

/-- Fs now. -/
def State.fs (s : State) : Nat := fsHz s.core.fs

/-- The engine rate Fs x OSR (R25). -/
def State.engineRate (s : State) : Nat := s.fs * s.core.osr

/-- Per-lane capacity: min(48, floor(9,216,000 / engine rate)) (R25). -/
def State.perLane (s : State) : Nat := Nat.min 48 (9216000 / s.engineRate)

/-- The present sample count. -/
def State.smp (s : State) : Smp := s.core.tide.smp

/-- The tide lies on a block boundary: the first engine tick of a sample that is a multiple of 32 (R20). -/
def Tide.isBoundary (t : Tide) : Bool := t.et == 0 && t.smp.toNat % 32 == 0

/-- The tide one engine tick later. -/
def Tide.succ (t : Tide) (osr : Nat) : Tide :=
  if t.et + 1 < osr then { t with et := t.et + 1 } else { smp := t.smp + 1, et := 0 }

/-- A tide as one count of engine ticks of 1/8 sample, for comparison (R18). -/
def Tide.num (t : Tide) : Nat := t.smp.toNat * 8 + t.et

/-- A sample count some samples later. -/
def Smp.plus (a : Smp) (n : Nat) : Smp := a + BitVec.ofNat 48 n

/-- The signed 48-bit difference of R22. -/
def smpDiff (a b : Smp) : Int := (a - b).toInt

/-! ## The firmware and the kinds of units -/

/-- The firmware runs: FW_UP is 1, no watchdog restart is in progress, and the control processor is not halted. -/
def State.fwRuns (s : State) : Bool :=
  s.fw.up && !s.fw.restarting && (s.power.st == .run || s.power.st == .doze)

/-- The field die is present (Table 00-1). -/
def State.hasField (s : State) : Bool := s.fuse.variant == .f

/-- Field-die commands complete FIELD_DOWN (R13). -/
def State.fieldDown (s : State) : Bool := !s.field.ready

/-- The engine is stopped (R31); the stop fade still counts as running. -/
def State.engStopped (s : State) : Bool := s.core.run == .stopped

/-- The unit is on a ring. -/
def State.onRing (s : State) : Bool := s.ring.role != .standalone

/-! ## Status and event codes -/

/-- Status codes (Table 04-16). -/
def Status.code : Status → Byte
  | .ok => 0x00 | .okLate => 0x01 | .okLimited => 0x02
  | .aborted => 0x10 | .tooLate => 0x11 | .notFound => 0x12 | .lost => 0x13
  | .badFrame => 0x20 | .badOpcode => 0x21 | .badField => 0x22 | .busyClassX => 0x23 | .notPresent => 0x24
  | .noRights => 0x25 | .staleSeq => 0x26 | .badTag => 0x27 | .seqGap => 0x28 | .fadePending => 0x29
  | .noVoice => 0x30 | .bankOff => 0x31 | .rateMismatch => 0x32 | .ringBusy => 0x33 | .notInRing => 0x34
  | .cardAbsent => 0x35 | .cardTimeout => 0x36 | .cardProtocol => 0x37
  | .tenantFaulted => 0x40 | .tenantClosed => 0x41 | .fieldDown => 0x42
  | .storeFailed => 0x50 | .vaultLocked => 0x51 | .signatureBad => 0x52 | .crcBad => 0x53
  | .selftestFailed => 0x54 | .lifecycleDenied => 0x55 | .eccUncorrected => 0x56

/-- Event codes (Table 04-17). -/
def Event.code : Event → Nat
  | .ctlRestarted => 0x00 | .eventsDropped => 0x01 | .hostLost => 0x02 | .tenantForced => 0x03 | .frameEdge => 0x04
  | .mclkLost => 0x05 | .mclkRestored => 0x06 | .fieldLinkLost => 0x07 | .fieldFault => 0x08 | .fieldReady => 0x09
  | .cvFault => 0x0A | .pairSuspect => 0x0B | .lineFault => 0x0C | .keyNote => 0x0D | .keyFault => 0x0E
  | .ciOverload => 0x0F | .scRx => 0x10 | .scLine => 0x11 | .cardState => 0x12 | .noteStolen => 0x13
  | .bankOff => 0x14 | .laneFault => 0x15 | .laneState => 0x16 | .thermalSoft => 0x17 | .thermalHard => 0x18
  | .ringState => 0x19 | .rateMismatch => 0x1A | .calSlotReverted => 0x1B | .calDrift => 0x1C
  | .powerState => 0x1D | .tamperRecorded => 0x1E | .eccError => 0x1F

/-! ## Completion queues (R71, R79, R80) -/

/-- Slots that hold unreaped records or are reserved for commands in flight (R80). -/
def TenantSt.cqUsed (x : TenantSt) : Nat := x.cq.length + (x.inflight.map (·.reserve)).sum

/-- Free unreserved slots beyond the notice slot (R80, R81). -/
def TenantSt.cqFree (x : TenantSt) : Nat := 255 - x.cqUsed

/-- The notice slot is free (R80). -/
def TenantSt.noticeFree (x : TenantSt) : Bool := decide (x.cqUsed < 256)

/-- The producer index: the consumer index and the records between (R71). -/
def TenantSt.prod (x : TenantSt) : BitVec 16 := x.cons + BitVec.ofNat 16 x.cq.length

/-- Writes a group: the record and its continuation slots, then the producer index once (R79). -/
def TenantSt.writeGroup (x : TenantSt) (r : Rec) (data : List Byte) : TenantSt :=
  { x with cq := x.cq ++ (CqSlot.record r :: (pieces 16 ((data.length + 15) / 16) data).map CqSlot.cont) }

/-- The 16 bytes of a slot, as REAP delivers them (Table 04-2). -/
def Rec.bytes (r : Rec) : List Byte :=
  [r.op, r.status] ++ leBytes 2 r.seq.toNat ++ [BitVec.ofNat 8 r.tag.toNat, r.flags] ++ leBytes 2 r.len.toNat
    ++ leBytes 6 r.tide.toNat ++ leBytes 2 r.short.toNat

/-- The 16 bytes of a slot. -/
def CqSlot.bytes : CqSlot → List Byte
  | .record r => r.bytes
  | .cont b => b

/-! ## The echo store (R72 to R75) -/

/-- A sequence number lies in the window H - 127 to H. -/
def TenantSt.inWindow (x : TenantSt) (q : BitVec 16) : Bool := decide ((x.seqHigh - q).toNat < 128)

/-- The completion stored for a sequence number in the window. -/
def TenantSt.echoOf (x : TenantSt) (q : BitVec 16) : Option Rec :=
  if x.inWindow q then
    match bankGet x.echo (q.toNat % 128) with
    | some e => if e.seq = q then some e.record else none
    | none => none
  else none

/-- Stores a completion when its number is still in the window (R75). -/
def TenantSt.storeEcho (x : TenantSt) (r : Rec) : TenantSt :=
  if x.inWindow r.seq then { x with echo := bankPut x.echo (r.seq.toNat % 128) { seq := r.seq, record := r } } else x

/-- Moves H, recycling the entries that leave the window (R75). -/
def TenantSt.setHigh (x : TenantSt) (q : BitVec 16) : TenantSt :=
  { x with seqHigh := q, echo := x.echo.filter fun e => decide ((q - e.2.seq).toNat < 128) }

/-! ## Completing a command (R77, R78, R88) -/

/-- The command in flight on a tag. -/
def TenantSt.find (x : TenantSt) (g : Tag) : Option InFlight := x.inflight.find? fun c => c.tag == g

/-- Changes the command in flight on a tag. -/
def TenantSt.updCmd (x : TenantSt) (g : Tag) (f : InFlight → InFlight) : TenantSt :=
  { x with inflight := x.inflight.map fun c => if c.tag = g then f c else c }

/-- OK becomes OK_LATE for a late command when nothing else fails (Table 01-5). -/
def lateStatus (late : Bool) (st : Status) : Status := if st = .ok ∧ late = true then .okLate else st

/-- The record is left out for a QUIET command that succeeds (Table 03-5). -/
def quietRec (quiet : Bool) (st : Status) : Bool := quiet && (st == .ok || st == .okLate)

/-- The result bytes and the SHORT of a result (R79, R90). -/
def Result.data : Result → List Byte
  | .note _ => []
  | .bytes b => b

/-- RESULT_LEN, SHORT. -/
def Result.head : Result → BitVec 16 × BitVec 16
  | .note v => (0, v)
  | .bytes b => (BitVec.ofNat 16 b.length, if b.length ≤ 2 then BitVec.ofNat 16 (leNat b) else 0)

/-- The continuation bytes of a result. -/
def Result.cont (r : Result) : List Byte := if r.data.length ≤ 2 then [] else r.data

/-- The completion record of a command (Table 04-2). Bit 1 of the flags is LATE, bit 3 MORE (Table 03-6). -/
def mkRec (op : Byte) (st : Status) (q : BitVec 16) (g : Tag) (late : Bool) (r : Result) (tide : Smp) : Rec :=
  { op := op, status := st.code, seq := q, tag := BitVec.ofNat 7 g.val,
    flags := (if late then 2 else 0) ||| (if r.cont = [] then 0 else 8),
    len := r.head.1, tide := tide, short := r.head.2 }

/-- The commit of a command (R78): the record is written to the completion queue unless the command is QUIET and
succeeded, the echo store receives it without its continuation, and the tag is free again. TIDE is the
present sample, and for a command that another unit executed the sample of its change there (R88, R284). While the control processor is stopped no
record is written: the command stays in flight until R85 step 1. -/
def commitOne (s : State) (t : Tenant) (g : Tag) (st : Status) (res : Result) : State :=
  match (if s.fw.restarting then none else (s.ten t).find g) with
  | none => s
  | some c =>
    let late := c.late && st != .aborted && st != .lost
    let st' := lateStatus late st
    let r := mkRec c.op st' c.seq g late res (c.execAt.getD s.smp)
    s.updTen t fun x =>
      let x := { x with
        inflight := x.inflight.filter fun d => d.tag != g
        doneTags := bankPut x.doneTags g.val c.seq }
      let x := if quietRec c.quiet st' then x else x.writeGroup r res.cont
      x.storeEcho { r with flags := r.flags &&& 7 }

/-- ABORTs that wait for a target which is no longer in flight (Table 03-7). -/
def TenantSt.settled (x : TenantSt) : List (Tag × Tag) :=
  x.inflight.filterMap fun c =>
    match c.phase, c.body with
    | .executing, .abort tgt => if (x.find tgt).isNone then some (c.tag, tgt) else none
    | _, _ => none

/-- Those ABORTs complete TOO_LATE, after their target's record, with its sequence number (Table 03-7). -/
def settleAborts (t : Tenant) (s : State) : State :=
  foldS (s.ten t).settled s fun s p =>
    commitOne s t p.1 .tooLate (.bytes (leBytes 2 (bankAt (s.ten t).doneTags p.2.val 0).toNat))

/-- A command completes, and after it the ABORTs that waited for it. -/
def finish (s : State) (t : Tenant) (g : Tag) (st : Status) (res : Result) : State :=
  repeatN (settleAborts t) (s.ten t).inflight.length (commitOne s t g st res)

/-- A command completes OK without a result. -/
def ok (s : State) (t : Tenant) (g : Tag) : State := finish s t g .ok (.note 0)

/-- A command completes with a status and no result. -/
def fail (s : State) (t : Tenant) (g : Tag) (st : Status) : State := finish s t g st (.note 0)

/-- A command completes BAD_FIELD with the offset of the field in SHORT (R90). -/
def badField (s : State) (t : Tenant) (g : Tag) (off : Nat) : State :=
  finish s t g .badField (.note (BitVec.ofNat 16 off))

/-- A command completes OK with result bytes. -/
def okBytes (s : State) (t : Tenant) (g : Tag) (b : List Byte) : State := finish s t g .ok (.bytes b)

/-- A command completes OK with a 2-byte SHORT. -/
def okShort (s : State) (t : Tenant) (g : Tag) (v : Nat) : State := finish s t g .ok (.bytes (leBytes 2 v))

/-- Completes the command an operation serves, when it serves one. -/
def finishRef (s : State) (r : Option (Tenant × Tag)) (st : Status) (res : Result) : State :=
  match r with
  | some (t, g) => finish s t g st res
  | none => s

/-- Marks a command as executing: its change is executed when it completes (R77, R88). -/
def startLong (s : State) (t : Tenant) (g : Tag) : State :=
  s.updTen t fun x => x.updCmd g fun c => { c with phase := .executing }

/-! ## When a command may start (Table 03-5) -/

/-- The commands taken before the one on this tag. -/
def TenantSt.before (x : TenantSt) (g : Tag) : List InFlight := x.inflight.takeWhile fun c => c.tag != g

/-- FENCE: a FENCE command starts when every earlier command has committed, and none starts before an earlier FENCE
has committed. -/
def TenantSt.fenceOk (x : TenantSt) (c : InFlight) : Bool :=
  (x.before c.tag).all (fun d => !d.fence) && (!c.fence || (x.before c.tag).isEmpty)

/-- No session work is under way that holds the tenant's commands (R67, R76). -/
def TenantSt.free (x : TenantSt) : Bool := x.session == .none && x.st != .resetting

/-- The untimed or late command on a tag that may start now. -/
def startable (s : State) (t : Tenant) (g : Tag) : Option InFlight :=
  if s.fwRuns && (s.ten t).free then
    match (s.ten t).find g with
    | some c => if c.phase = .waiting ∧ (s.ten t).fenceOk c = true then some c else none
    | none => none
  else none

/-- The due tick of a timed command has come (R21, R91). -/
def isDue (s : State) (c : InFlight) : Bool :=
  decide (({ smp := c.due, et := c.et } : Tide).num ≤ s.core.tide.num)

/-- The scheduled command on a tag that is due and may start (R22, R23). -/
def dueCmd (s : State) (t : Tenant) (g : Tag) : Option InFlight :=
  if s.fwRuns && (s.ten t).free then
    match (s.ten t).find g with
    | some c =>
      if c.phase = .scheduled ∧ isDue s c = true ∧ (s.ten t).fenceOk c = true then some c else none
    | none => none
  else none

/-- Runs an effect on the command a row names, when that command may start and is of the row's kind; otherwise the
state stays as it is. -/
def onCmd (s : State) (t : Tenant) (g : Tag) (f : Body → Option State) : State :=
  match startable s t g with
  | some c => (f c.body).getD s
  | none => s

/-! ## Events (R81, R82, R112, R322) -/

/-- The record of an event: EVT is bit 2, MORE bit 3. -/
def evRec (e : Event) (q : BitVec 16) (arg : BitVec 16) (cont : List Byte) (tide : Smp) : Rec :=
  { op := BitVec.ofNat 8 e.code, status := 0, seq := q, tag := 127, flags := if cont = [] then 4 else 12,
    len := BitVec.ofNat 16 cont.length, tide := tide, short := arg }

/-- Slots of an event's group (R81). -/
def evSlots (cont : List Byte) : Nat := 1 + (cont.length + 15) / 16

/-- Raises an event to a tenant that is not CLOSED: whole when its group fits beyond the notice slot, else dropped and
counted; the event sequence number moves on either way (R81, R82). -/
def TenantSt.raiseEv (x : TenantSt) (e : Event) (arg : BitVec 16) (cont : List Byte) (tide : Smp) : TenantSt :=
  if evSlots cont ≤ x.cqFree then
    { (x.writeGroup (evRec e x.evSeq arg cont tide) cont) with evSeq := x.evSeq + 1 }
  else
    { x with evSeq := x.evSeq + 1, eventsDropped := x.eventsDropped + 1, droppedSince := x.droppedSince + 1 }

/-- Notes a wake: the first one counts (R330, R333). -/
def noteWake (s : State) (src : WakeSrc) : State :=
  { s with power := { s.power with wake := some (s.power.wake.getD src) } }

/-- An event of the field die, of MCLK_IN or of card detect wakes the unit from NAP (Table 13-7). -/
def Event.wakes : Event → Bool
  | .mclkLost | .mclkRestored | .fieldLinkLost | .fieldFault | .fieldReady | .cvFault | .pairSuspect | .lineFault
  | .keyFault | .ciOverload | .cardState => true
  | _ => false

/-- An event arises while the firmware does not run: it waits, and in NAP it may wake the unit. -/
def holdEv (s : State) (k : Held) : State :=
  let s := { s with fw := { s.fw with held := s.fw.held ++ [k] } }
  if s.power.st = .nap ∧ k.ev.wakes = true then noteWake s .event else s

/-- Raises an event to a tenant, under its mask, with the sample count at which it was raised; a CLOSED tenant receives
none; while the firmware does not run, the event waits until it does. An event that the mask or the CLOSED state keeps
from the tenant counts as not raised to it: it takes no event sequence number and is not counted as dropped, where R82
says only "every event raised to the tenant" (log entry 16). -/
def raiseToAt (s : State) (t : Tenant) (e : Event) (arg : BitVec 16) (cont : List Byte) (tide : Smp) : State :=
  if s.fwRuns = false then holdEv s ⟨some t, e, arg, cont, tide⟩
  else if (s.ten t).st = .closed ∨ (s.ten t).events.getLsbD e.code = false then s
  else s.updTen t fun x => x.raiseEv e arg cont tide

/-- Raises an event to a tenant now. -/
def raiseTo (s : State) (t : Tenant) (e : Event) (arg : BitVec 16) (cont : List Byte) : State :=
  raiseToAt s t e arg cont s.smp

/-- Keeps one record per event code, with the latest argument, in the place where the code was first kept (R322). -/
def keepEv (l : List Kept) (k : Kept) : List Kept :=
  if l.any fun x => x.ev == k.ev then l.map fun x => if x.ev = k.ev then k else x else l ++ [k]

/-- Raises an event to the steward, with the sample count at which it was raised: whatever T0's mask holds (R64), kept
while T0 is CLOSED (R322). -/
def stewardAt (s : State) (e : Event) (arg : BitVec 16) (cont : List Byte) (tide : Smp) : State :=
  if s.fwRuns = false then holdEv s ⟨none, e, arg, cont, tide⟩
  else if (s.ten 0).st = .closed then { s with fw := { s.fw with kept := keepEv s.fw.kept ⟨e, arg, cont, tide⟩ } }
  else s.updTen 0 fun x => x.raiseEv e arg cont tide

/-- Raises an event to the steward now. -/
def steward (s : State) (e : Event) (arg : BitVec 16) (cont : List Byte) : State := stewardAt s e arg cont s.smp

/-- An argument [15:8] hi, [7:0] lo. -/
def arg2 (hi lo : Nat) : BitVec 16 := BitVec.ofNat 16 (hi * 256 + lo)

/-- Raises what waited while the firmware did not run, in order. -/
def raiseHeld (s : State) : State :=
  let l := s.fw.held
  foldS l { s with fw := { s.fw with held := [] } } fun s k =>
    match k.dest with
    | some t => raiseToAt s t k.ev k.arg k.cont k.tide
    | none => stewardAt s k.ev k.arg k.cont k.tide

/-- ECC_ERROR and its counter (R303): raised at most once per second for each bank and kind. -/
def eccEvent (s : State) (uncorrected : Bool) (bank : Nat) : State :=
  let m := s.mem
  let s := { s with mem := if uncorrected then { m with eccUncorrected := m.eccUncorrected + 1 }
                           else { m with eccCorrected := m.eccCorrected + 1 } }
  let code := (if uncorrected then 512 else 256) + bank
  if s.fw.eccRaised.contains code then s
  else steward { s with fw := { s.fw with eccRaised := s.fw.eccRaised ++ [code] } } .eccError (BitVec.ofNat 16 code) []

/-! ## Free values -/

/-- Marks one free value as drawn (log entry 6). -/
def State.drew (s : State) : State := { s with freeCtr := s.freeCtr + 1 }

/-- What a low of `ns` nanoseconds on RESET_N or WAKE_N does: from 1.01 us on it acts, up to 0.99 us it does not, and between
them R369 leaves open which, a free value says (log entry 19). -/
def State.onLow (s : State) (ns : Nat) (f : State → State) : State :=
  if 1010 ≤ ns then f s
  else if ns ≤ 990 then s
  else if (Config.freeWord s.freeCtr).getLsbD 0 then f s.drew
  else s.drew

/-- Appends a class-L write (R26). -/
def State.writeL (s : State) (w : Write) : State := { s with pendL := s.pendL ++ [w] }

/-- Appends a class-B write (R26, R27). -/
def State.writeB (s : State) (w : Write) : State := { s with pendB := s.pendB ++ [w] }

end Sys2Proof.Machine
end

