-- ==== Sys2Proof/Machine/Flags.lean ====
section
/-! DEFINITION. The link port's flags: IRQ_SUM, LK_IRQ_N, the status word (Table 02-6) and the link registers
(Table 02-9). -/

namespace Sys2Proof.Machine

/-- A mask with bit `i` set where `p i` holds, for the eight tenants. -/
def tenantMask (p : Tenant → Bool) : Nat := (allTenants.map fun t => if p t then 2 ^ t.val else 0).sum

/-- IRQ_SUM.CQ, DOORBELL.CQ_NONEMPTY and status bits [11:4]: tenants whose completion queue holds unreaped records. -/
def State.cqNonempty (s : State) : Nat := tenantMask fun t => !(s.ten t).cq.isEmpty

/-- DOORBELL.SQ_PENDING: tenants with published entries the firmware has not taken. -/
def State.sqPending (s : State) : Nat := tenantMask fun t => !(s.ten t).sq.isEmpty

/-- The FW_UP bit: the firmware runs and the queues are initialised; 0 during a control-processor restart. -/
def State.fwUpBit (s : State) : Bool := s.fw.up && !s.fw.restarting

/-- One bit as a number. -/
def bit (b : Bool) (n : Nat) : Nat := if b then 2 ^ n else 0

/-- IRQ_SUM (Table 02-9, offset 0x18). -/
def State.irqSum (s : State) : Nat := s.cqNonempty + bit s.link.fwReady 8 + bit s.link.linkErr 9

/-- (IRQ_SUM & IRQ_EN) is not zero (R51). -/
def State.irqLive (s : State) : Bool := (s.irqSum &&& s.link.irqEn.toNat) != 0

/-- LK_IRQ_N is released between a reset and FW_UP, and during a restart of the control processor (R51). FW_UP is 0 in a
HIBERNATE entry too (R50), where the pin goes on showing the live value. -/
def State.irqReleased (s : State) : Bool := s.fw.restarting || (!s.fw.up && s.power.entry.isNone)

/-- LK_IRQ_N is asserted (R51): held in HIBERNATE and until the pads are released (R335), kept through NAP (R330),
released where R51 says, and otherwise the live value. -/
def State.irqPin (s : State) : Bool :=
  match s.power.pads with
  | some h => h.irqAsserted
  | none =>
    match s.power.napIrq with
    | some v => v
    | none => !s.irqReleased && s.irqLive

/-- The unit holds an address from 0 to 15 (R61); ENUM_OUT is high exactly then. -/
def Link.assigned (l : Link) : Bool := decide (l.unitAddr.toNat < 16)

/-- RESP_WORDS: the staged response's length in words. -/
def Link.respWords (l : Link) : Nat := ((l.staged.map List.length).getD 0) / 4

/-- The status word as it stands now (Table 02-6). -/
def State.statusWord (s : State) : Word :=
  BitVec.ofNat 32 (bit s.link.staged.isSome 30 + s.link.respWords * 2 ^ 15 + bit s.irqLive 14 + bit s.fwUpBit 12
    + s.cqNonempty * 16 + s.link.unitAddr.toNat % 16)

/-- The fixed status word of a confirm frame (R58). -/
def confirmStatus (addr : Nat) (new : Bool) : Word := BitVec.ofNat 32 (2 ^ 30 + 2 * 2 ^ 15 + bit new 13 + addr)

/-- A link register as LREAD reads it (Table 02-9); offsets that name none read 0. -/
def State.readReg (s : State) (off : Nat) : Word :=
  match off with
  | 0x00 => s.fuse.dieId.setWidth 32
  | 0x04 => (s.fuse.dieId >>> 32).setWidth 32
  | 0x08 => s.link.unitAddr.setWidth 32
  | 0x0C => BitVec.ofNat 32 (bit s.link.quad 0 + bit s.link.irqOd 1)
  | 0x10 => BitVec.ofNat 32 (bit s.fwUpBit 0 + bit s.link.enumIn 1 + bit s.link.assigned 2
      + bit s.link.tentative.isSome 3)
  | 0x14 => s.link.irqEn.setWidth 32
  | 0x18 => BitVec.ofNat 32 s.irqSum
  | 0x1C => BitVec.ofNat 32 (s.sqPending + s.cqNonempty * 256)
  | 0x20 => s.link.errShort
  | 0x24 => s.link.errHdr
  | 0x28 => s.link.errPay
  | 0x2C => s.link.errKind
  | 0x30 => s.link.bcastDrop
  | 0x34 => s.link.framesOk
  | _ => 0

/-- A counter accepts only the value 0 (R53). -/
def counterWrite (old v : Word) : Word := if v = 0 then 0 else old

/-- A write of a link register (R53, Table 02-9): read-only bits and other offsets ignore it. -/
def Link.write (l : Link) (off : Nat) (v : Word) : Link :=
  match off with
  | 0x08 =>
    let a : BitVec 5 := v.setWidth 5
    if a.toNat < 16 ∨ a = 30 then { l with unitAddr := a } else l
  | 0x0C => { l with quad := v.getLsbD 0, irqOd := v.getLsbD 1 }
  | 0x14 => { l with irqEn := v.setWidth 10 }
  | 0x18 => { l with fwReady := l.fwReady && !v.getLsbD 8, linkErr := l.linkErr && !v.getLsbD 9 }
  | 0x20 => { l with errShort := counterWrite l.errShort v }
  | 0x24 => { l with errHdr := counterWrite l.errHdr v }
  | 0x28 => { l with errPay := counterWrite l.errPay v }
  | 0x2C => { l with errKind := counterWrite l.errKind v }
  | 0x30 => { l with bcastDrop := counterWrite l.bcastDrop v }
  | 0x34 => { l with framesOk := counterWrite l.framesOk v }
  | _ => l

/-- Counts one discarded frame (R43, R54); IRQ_SUM.LINK_ERR is set when an error counter increases. -/
def Link.count (l : Link) (d : Discard) : Link :=
  match d with
  | .short => { l with errShort := l.errShort + 1, linkErr := true }
  | .hdr => { l with errHdr := l.errHdr + 1, linkErr := true }
  | .pay => { l with errPay := l.errPay + 1, linkErr := true }
  | .kind => { l with errKind := l.errKind + 1, linkErr := true }

end Sys2Proof.Machine
end

