-- ==== Sys2Proof/Machine/Params.lean ====
section
/-! DEFINITION. The 346 voice parameters (Tables 05-5 to 05-11), parameter sets, and patch images (R146 to R148). -/

namespace Sys2Proof.Machine

/-- Format of a parameter. -/
inductive ParamFmt where
  | enum | u | s
  deriving DecidableEq, Repr

/-- Change class of a parameter. -/
inductive ParamCls where
  | l | b | v
  deriving DecidableEq, Repr

/-- A row of the parameter tables. -/
structure ParamRow where
  fmt : ParamFmt
  lo : Int
  hi : Int
  dflt : Int
  cls : ParamCls
  deriving DecidableEq, Repr

/-- Table 05-5. -/
def globalRow : Nat → Option ParamRow
  | 0 => some ⟨.s, -48, 48, 0, .l⟩
  | 1 => some ⟨.s, -10000, 10000, 0, .l⟩
  | 2 => some ⟨.u, 0, 48, 2, .l⟩
  | 3 => some ⟨.enum, 0, 2, 0, .v⟩
  | 4 => some ⟨.u, 1, 60000000, 100000, .l⟩
  | 5 => some ⟨.u, 1, 12000, 100, .l⟩
  | 6 => some ⟨.enum, 0, 1, 0, .v⟩
  | 7 => some ⟨.enum, 0, 1, 0, .v⟩
  | 8 => some ⟨.u, 0, 255, 0, .v⟩
  | 9 => some ⟨.enum, 0, 1, 0, .v⟩
  | 10 => some ⟨.enum, 0, 1, 0, .v⟩
  | _ => none

/-- Table 05-6 for OSCn. The bounds of `osc.sync_src` (only a lower number, R128) are those of the oscillator; the
bound of `osc.shape` by the mode (Table 05-1) and `osc.fm_src` naming itself (R125) are checked in `paramFits`. -/
def oscRow (n : Nat) : Nat → Option ParamRow
  | 0 => some ⟨.enum, 0, 5, if n = 1 then 1 else 0, .v⟩
  | 1 => some ⟨.u, 0, 3, 0, .v⟩
  | 2 => some ⟨.s, -9600, 0, 0, .l⟩
  | 3 => some ⟨.s, -48, 48, 0, .l⟩
  | 4 => some ⟨.s, -10000, 10000, 0, .l⟩
  | 5 => some ⟨.u, 0, 20000, 10000, .l⟩
  | 6 => some ⟨.enum, 0, 1, 0, .l⟩
  | 7 => some ⟨.u, 4096, 2097152, 65536, .l⟩
  | 8 => some ⟨.u, 1, 20000000, 440000, .l⟩
  | 9 => some ⟨.u, 100, 9900, 5000, .l⟩
  | 10 => some ⟨.enum, 0, (n : Int) - 1, 0, .v⟩
  | 11 => some ⟨.enum, 0, 4, 0, .v⟩
  | 12 => some ⟨.u, 0, 32000, 0, .l⟩
  | 13 => some ⟨.u, 0, 10000, 0, .l⟩
  | 14 => some ⟨.u, 0, 4095, 0, .v⟩
  | 15 => some ⟨.u, 0, 65535, 0, .l⟩
  | 16 => some ⟨.u, 0, 16777215, 0, .v⟩
  | 17 => some ⟨.u, 0, 65537, 0, .v⟩
  | _ => none

/-- Table 05-7 for FILTn. -/
def filtRow (n : Nat) : Nat → Option ParamRow
  | 0 => some ⟨.enum, 0, 3, if n = 1 then 1 else 0, .v⟩
  | 1 => some ⟨.enum, 0, 3, 0, .l⟩
  | 2 => some ⟨.u, 0, 1350000, 1200000, .l⟩
  | 3 => some ⟨.u, 0, 10000, 0, .l⟩
  | 4 => some ⟨.u, 0, 2400, 0, .l⟩
  | 5 => some ⟨.u, 0, 20000, 0, .l⟩
  | 6 => some ⟨.u, 50, 20000, 1000, .l⟩
  | 7 => some ⟨.enum, 0, 1, 0, .l⟩
  | 8 => some ⟨.u, 0, 9900, 5000, .l⟩
  | 9 => some ⟨.enum, 0, 1, 0, .v⟩
  | 10 => some ⟨.enum, 0, 4, 0, .v⟩
  | _ => none

/-- Table 05-8. -/
def envRow : Nat → Option ParamRow
  | 0 => some ⟨.u, 0, 60000000, 0, .l⟩
  | 1 => some ⟨.u, 0, 60000000, 1000, .l⟩
  | 2 => some ⟨.u, 0, 60000000, 0, .l⟩
  | 3 => some ⟨.u, 0, 60000000, 100000, .l⟩
  | 4 => some ⟨.u, 0, 10000, 10000, .l⟩
  | 5 => some ⟨.u, 0, 60000000, 200000, .l⟩
  | 6 => some ⟨.s, -100, 100, 0, .l⟩
  | 7 => some ⟨.s, -100, 100, 0, .l⟩
  | 8 => some ⟨.s, -100, 100, 0, .l⟩
  | 9 => some ⟨.enum, 0, 2, 1, .v⟩
  | 10 => some ⟨.u, 0, 10000, 0, .v⟩
  | _ => none

/-- Table 05-9. -/
def lfoRow : Nat → Option ParamRow
  | 0 => some ⟨.enum, 0, 6, 0, .l⟩
  | 1 => some ⟨.u, 1, 1000000, 5000, .l⟩
  | 2 => some ⟨.enum, 0, 2, 1, .v⟩
  | 3 => some ⟨.u, 1, 64000, 1000, .b⟩
  | 4 => some ⟨.u, 0, 65535, 0, .l⟩
  | 5 => some ⟨.u, 0, 60000000, 0, .v⟩
  | 6 => some ⟨.u, 0, 60000000, 0, .v⟩
  | 7 => some ⟨.enum, 0, 1, 0, .l⟩
  | _ => none

/-- Table 05-10, by the low two bits of the low byte. -/
def modRow : Nat → ParamRow
  | 0 => ⟨.u, 0, 65535, 0, .b⟩
  | 1 => ⟨.u, 0, 65535, 65535, .b⟩
  | 2 => ⟨.s, -2147483648, 2147483647, 0, .l⟩
  | _ => ⟨.u, 0, 65535, 0, .b⟩

/-- Table 05-11. -/
def ampRow : Nat → Option ParamRow
  | 0 => some ⟨.s, -9600, 1200, 0, .l⟩
  | 1 => some ⟨.u, 0, 10000, 10000, .v⟩
  | 2 => some ⟨.s, -10000, 10000, 0, .l⟩
  | 3 => some ⟨.u, 0, 31, 0, .v⟩
  | 4 => some ⟨.s, -9600, 1200, 0, .b⟩
  | 5 => some ⟨.enum, 0, 2, 1, .l⟩
  | 6 => some ⟨.u, 0, 31, 1, .v⟩
  | 7 => some ⟨.s, -9600, 1200, 0, .b⟩
  | 8 => some ⟨.enum, 0, 2, 2, .l⟩
  | 9 => some ⟨.u, 0, 31, 2, .v⟩
  | 10 => some ⟨.s, -9600, 1200, -9600, .b⟩
  | 11 => some ⟨.enum, 0, 2, 0, .l⟩
  | 12 => some ⟨.u, 0, 31, 3, .v⟩
  | 13 => some ⟨.s, -9600, 1200, -9600, .b⟩
  | 14 => some ⟨.enum, 0, 2, 0, .l⟩
  | _ => none

/-- The row of a parameter ID; none when no table lists it (R145). -/
def paramRow (pid : Nat) : Option ParamRow :=
  let b := pid / 256
  let i := pid % 256
  if b = 0 then globalRow i
  else if b ≤ 4 then oscRow b i
  else if b = 8 ∨ b = 9 then filtRow (b - 7) i
  else if 0x10 ≤ b ∧ b ≤ 0x15 then envRow i
  else if 0x18 ≤ b ∧ b ≤ 0x1B then lfoRow i
  else if b = 0x20 then (if i < 128 then some (modRow (i % 4)) else none)
  else if b = 0x30 then ampRow i
  else none

/-- A parameter's value in a set: its default when the set does not list it. -/
def pget (ps : ParamSet) (pid : Nat) : Int :=
  match bankGet ps pid with
  | some v => v
  | none => match paramRow pid with
    | some r => r.dflt
    | none => 0

/-- Writes a parameter in a set. -/
def pset (ps : ParamSet) (pid : Nat) (v : Int) : ParamSet := bankPut ps pid v

/-- The change class of a parameter. -/
def pcls (pid : Nat) : ParamCls := ((paramRow pid).map (·.cls)).getD .v

/-- A source code is listed in Table 05-4. -/
def sourceOk (code : Nat) : Bool :=
  let i := code % 256
  match code / 256 with
  | 0x00 => i == 0
  | 0x01 => 1 ≤ i && i ≤ 6
  | 0x02 => 1 ≤ i && i ≤ 4
  | 0x03 => 1 ≤ i && i ≤ 8
  | 0x04 => i ≤ 6
  | 0x05 => i ≤ 1
  | 0x06 => i ≤ 127
  | 0x07 => true
  | 0x08 => true
  | 0x10 => i ≤ 7
  | 0x11 => i == 0
  | 0x12 => i ≤ 31
  | 0x13 => i ≤ 31
  | 0x14 => i ≤ 31
  | 0x18 => i / 16 ≤ 5
  | _ => false

/-- A destination of the matrix: a class-L parameter of format s32 or u32 outside block 0x20, or 0xFFFF (R138). -/
def destOk (d : Nat) : Bool :=
  d == 0xFFFF || match paramRow d with
    | some r => r.cls == .l && r.fmt != .enum && d / 256 != 0x20
    | none => false

/-- The largest `osc.shape` of a mode (Table 05-1). -/
def shapeMax (mode : Int) : Int := if mode = 1 then 3 else if mode = 5 then 2 else 0

/-- Checks of one value that need no other parameter (R125, R138, R145). -/
def paramFits (pid : Nat) (v : Int) : Bool :=
  match paramRow pid with
  | none => false
  | some r =>
    r.lo ≤ v && v ≤ r.hi &&
    (if pid / 256 = 0x20 then
      (match pid % 4 with
        | 1 => destOk v.toNat
        | 2 => true
        | _ => sourceOk v.toNat)
    else if 1 ≤ pid / 256 ∧ pid / 256 ≤ 4 ∧ pid % 256 = 0x0B then v != (pid / 256 : Nat)
    else true)

/-- The span of a destination, which bounds `mod.depth`; no destination bounds nothing. -/
def destSpan (d : Nat) : Option Int := (paramRow d).map fun r => r.hi - r.lo

/-- Checks of one value against the set it is written into: `osc.shape` by the mode that the set holds (Table 05-1),
`mod.depth` by the destination's span (Table 05-10). A mode is never refused for the shape that the set holds (R145). -/
def paramFitsIn (ps : ParamSet) (pid : Nat) (v : Int) : Bool :=
  let b := pid / 256
  if 1 ≤ b ∧ b ≤ 4 ∧ pid % 256 = 1 then v ≤ shapeMax (pget ps (b * 256))
  else if b = 0x20 ∧ pid % 4 = 2 then
    match destSpan (pget ps (pid - 1)).toNat with
    | some sp => -sp ≤ v && v ≤ sp
    | none => true
  else true

/-- Parameters of a block, by its number. -/
def blockLen (b : Nat) : Nat :=
  if b = 0 then 11 else if b ≤ 4 then 18 else if b = 8 ∨ b = 9 then 11
  else if 0x10 ≤ b ∧ b ≤ 0x15 then 11 else if 0x18 ≤ b ∧ b ≤ 0x1B then 8
  else if b = 0x20 then 128 else if b = 0x30 then 15 else 0

/-- The blocks in ascending order. -/
def paramBlocks : List Nat :=
  [0, 1, 2, 3, 4, 8, 9, 0x10, 0x11, 0x12, 0x13, 0x14, 0x15, 0x18, 0x19, 0x1A, 0x1B, 0x20, 0x30]

/-- All 346 parameter IDs in the order of a VOICE image (R147). -/
def allPids : List Nat := paramBlocks.flatMap fun b => (List.range (blockLen b)).map fun i => b * 256 + i

/-! ## Patch images (R146, R147) -/

/-- The raw 4-byte value of a parameter as its format reads it. -/
def paramVal (pid raw : Nat) : Int :=
  match paramRow pid with
  | some r => if r.fmt = .s then signed 32 raw else raw
  | none => raw

/-- Reads the values of a VOICE image; a parameter at its default is not listed. -/
def imageSet : List Nat → List Byte → ParamSet
  | [], _ => []
  | pid :: l, b =>
    let v := paramVal pid (leNat (b.take 4))
    if v = pget [] pid then imageSet l (b.drop 4) else (pid, v) :: imageSet l (b.drop 4)

/-- The parameter set of a VOICE image. -/
def voiceImage (img : List Byte) : ParamSet := imageSet allPids (img.drop 16)

/-- Image byte offset of the first value of a VOICE image that is out of range under R145 or R138. -/
def firstBad (ps : ParamSet) : List Nat → Nat → Option Nat
  | [], _ => none
  | pid :: l, off =>
    if paramFits pid (pget ps pid) && paramFitsIn ps pid (pget ps pid) then firstBad ps l (off + 4) else some off

/-- Image byte offset of the first tuning entry above 1,350,000 (R147). -/
def firstBadTune : List Byte → Nat → Nat → Option Nat
  | _, 0, _ => none
  | b, n + 1, off => if 1350000 < leNat (b.take 4) then some off else firstBadTune (b.drop 4) n (off + 4)

/-- Magic, kind, version, length for the kind and CRC-32 are right (R146, R148). -/
def imageSound (img : List Byte) : Bool :=
  let n := field img 6 2
  img.take 4 == [0x53, 0x4F, 0x4C, 0x50] && byteAt img 5 == 1 &&
    ((byteAt img 4 == 0 && n == 1404) || (byteAt img 4 == 1 && n == 532)) && img.length == n &&
    field img (n - 4) 4 == (crc32 (img.take (n - 4))).toNat

/-- The image is a VOICE image. -/
def isVoiceImage (img : List Byte) : Bool := img != [] && byteAt img 4 == 0

/-- The image is a TUNING image. -/
def isTuneImage (img : List Byte) : Bool := img != [] && byteAt img 4 == 1

/-- The first value out of range in a sound image. -/
def imageBad (img : List Byte) : Option Nat :=
  if isVoiceImage img then firstBad (voiceImage img) allPids 16 else firstBadTune (img.drop 16) 128 16

/-- Entry `key` of a tuning image. -/
def tuneEntry (img : List Byte) (key : Nat) : Nat := field img (16 + 4 * key) 4

/-! ## Parameter IDs by name -/

/-- `voice.*` and `amp.*` IDs. -/
abbrev pVoice (i : Nat) : Nat := i
/-- OSCn, n from 1. -/
abbrev pOsc (n i : Nat) : Nat := n * 256 + i
/-- FILTn, n from 1. -/
abbrev pFilt (n i : Nat) : Nat := (n + 7) * 256 + i
/-- ENVm, m from 0. -/
abbrev pEnv (m i : Nat) : Nat := (0x10 + m) * 256 + i
/-- LFOn, n from 0. -/
abbrev pLfo (n i : Nat) : Nat := (0x18 + n) * 256 + i
/-- Matrix slot s. -/
abbrev pMod (sl f : Nat) : Nat := 0x2000 + 4 * sl + f
/-- Amp block. -/
abbrev pAmp (i : Nat) : Nat := 0x3000 + i

/-- Bytes of a sample: PCM16 and wavetables 2, PCM24 3 (R122). -/
def sampleBytes (format : Nat) : Nat := if format = 1 then 3 else 2

end Sys2Proof.Machine
end

