-- ==== Sys2Proof/Machine/Alloc.lean ====
section
/-! DEFINITION. Allocation and stealing: the pool, reservations and ceilings, candidates, the allocator of R157, the steal
fade, spill, and the removal of excess voices (R149 to R168). -/

namespace Sys2Proof.Machine

/-- Queues an item for the ring under the next ring sequence number (R273). -/
def ringSend (s : State) (i : RingItem) : State :=
  { s with ring := { s.ring with seq := s.ring.seq + 1, out := s.ring.out ++ [{ seq := s.ring.seq, item := i }] } }

/-- The position a unit has once it is lost: none of the ring (R287). -/
def gonePos : Nat := 255

/-- The end of a spilled-in voice is reported to its origin, and kept while the origin is silent (R284, R285); an origin that
is lost gets no report. -/
def ringEnded (s : State) (origin : Nat) (t : Tenant) (noteId : BitVec 32) (stolen : Bool) : State :=
  let i : RingItem := .ended origin t noteId stolen
  if origin = gonePos then s
  else if 4 ≤ bankAt s.ring.silent origin 0 then { s with ring := { s.ring with heldEnds := s.ring.heldEnds ++ [i] } }
  else ringSend s i

/-! ## The pool (R149, R150) -/

/-- Lanes in service; a lane that drains is out of service from its landing boundary. -/
def State.inService (s : State) (n : Nat) : Bool := (s.alloc.lane n).st == .inService

/-- The numbers of the lanes in service. -/
def State.lanesIn (s : State) : List Nat := (List.range 8).filter s.inService

/-- The device ceiling (R149). -/
def State.ceiling (s : State) : Nat := s.perLane * Nat.min s.lanesIn.length s.alloc.allowed

/-- A voice holds a slot of the pool. -/
def State.pooled (s : State) (v : Voice) : Bool := s.inService v.lane

/-- Sounding and fading slots of the pool. -/
def State.usedSlots (s : State) : Nat := (s.voices.filter s.pooled).length

/-- A slot is free. -/
def State.slotFree (s : State) (lane slot : Nat) : Bool := s.voices.all fun v => !(v.lane == lane && v.slot == slot)

/-- Free slots of a lane in service, lowest first. -/
def State.freeOf (s : State) (lane : Nat) : List Nat :=
  if s.inService lane then (List.range s.perLane).filter (s.slotFree lane) else []

/-- Free slots of the pool that the device ceiling leaves (R149, R153). -/
def State.freeSlots (s : State) : Nat :=
  Nat.min ((List.range 8).map fun n => (s.freeOf n).length).sum (s.ceiling - s.usedSlots)

/-- The lane with the most free slots, the lower on a tie (R150). -/
def State.pickLane (s : State) : Nat :=
  (List.range 8).foldl (fun b n => if (s.freeOf b).length < (s.freeOf n).length then n else b) 0

/-! ## Counts (R151 to R153) -/

/-- A steal fade runs on the voice's slot. -/
def Voice.fading (v : Voice) : Bool := match v.life with
  | .fading _ _ => true
  | _ => false

/-- The voice is a started, sounding voice. -/
def Voice.sounds (v : Voice) : Bool := v.life == .sounding

/-- The voice has started: it sounds or fades. -/
def Voice.started (v : Voice) : Bool := match v.life with
  | .starting _ => false
  | _ => true

/-- The voice bears its note's ID: it does not fade, or it fades by ALL_RELEASE, which steals nothing, so that the ID is
free when the voice ends (R154). -/
def Voice.named (v : Voice) : Bool := !v.fading || v.fade == .release

/-- The owner for whom the slot counts (R151): the thief's while it fades for a note, nobody's while it fades under R168, and
its voice's owner otherwise, whether it sounds or fades. -/
def Voice.countsFor (v : Voice) : Option Owner :=
  if v.fading then
    match v.succ with
    | some n => some n.owner
    | none => if v.fade = .excess then none else some v.owner
  else some v.owner

/-- A tenant's count: voices sounding or fading here, and notes spilled to other units (R151). -/
def State.count (s : State) (t : Tenant) : Nat :=
  (s.voices.filter fun v => v.countsFor == some (.tenant t)).length + (s.ten t).spilledOut.length

/-- Spilled-in voices here (R164). -/
def State.spilledIn (s : State) : Nat :=
  (s.voices.filter fun v => match v.countsFor with | some (.spilled _ _) => true | _ => false).length

/-- The sum of all reservations. -/
def State.reserveSum (s : State) : Nat := (allTenants.map fun t => (s.ten t).reserve).sum

/-- Cuts reservations from the last of the list on until the excess is gone. -/
def cutReserves : List Nat → Nat → List Nat × Nat
  | [], e => ([], e)
  | r :: l, e =>
    let (l', e') := cutReserves l e
    ((r - Nat.min r e') :: l', e' - Nat.min r e')

/-- `tenant.voice_reserve_eff` of every tenant (R152): T7 is cut first. -/
def State.reserveEffs (s : State) : List Nat :=
  (cutReserves (allTenants.map fun t => (s.ten t).reserve) (s.reserveSum - s.ceiling)).1

/-- `tenant.voice_reserve_eff`. -/
def State.reserveEff (s : State) (t : Tenant) : Nat := s.reserveEffs.getD t.val 0

/-- Unmet reservations of every tenant but the one named (R153). -/
def State.unmet (s : State) (except : Option Tenant) : Nat :=
  (allTenants.map fun u => if some u = except then 0 else s.reserveEff u - s.count u).sum

/-- free_for(t) of R153; without a tenant, of a tenant with no reservation (R165). -/
def State.freeFor (s : State) (t : Option Tenant) : Nat := s.freeSlots - s.unmet t

/-- The free voices a unit gossips (R165, R291, R292). -/
def State.gossipFree (s : State) : Nat :=
  if s.alloc.thermal = .hard ∨ s.ring.st = .rateMismatch ∨ s.power.st = .nap ∨ s.fw.restarting = true then 0
  else Nat.min (s.freeFor none) (s.alloc.spillIn - s.spilledIn)

/-! ## Candidates and victims (R155, R158) -/

/-- Ticks for which a started voice is protected: round(0.005 x engine rate) (R155). -/
def State.protectTicks (s : State) : Nat := (s.engineRate * 5 * 2 + 1000) / 2000

/-- Condition 2 of R155 holds: the voice is not protected. -/
def State.unprotected (s : State) (v : Voice) : Bool :=
  v.sounds && decide (s.protectTicks ≤ s.core.ticks - v.startNo) && pget v.eff (pVoice 0x0A) == 0

/-- The owner of a voice exceeds its effective reservation; spilled-in voices always do. -/
def State.overReserve (s : State) (o : Owner) : Bool :=
  match o with
  | .tenant u => decide (s.reserveEff u < s.count u)
  | .spilled _ _ => true

/-- A steal candidate for a note of tenant t (R155). A voice on a lane out of service is none (log entry 25). -/
def State.candidate (s : State) (t : Tenant) (v : Voice) : Bool :=
  s.pooled v && s.unprotected v && (v.owner == .tenant t || s.overReserve v.owner) &&
    (decide (s.count t < (s.ten t).ceiling) || v.owner == .tenant t)

/-- A candidate's rank as a list to compare: score and start tick in the policy's order, then lane, then slot. -/
def rank (oldest : Bool) (v : Voice) : List Int :=
  if oldest then [(v.startNo : Int), v.score, v.lane, v.slot] else [v.score, (v.startNo : Int), v.lane, v.slot]

/-- Lexicographic order. -/
def lexLt : List Int → List Int → Bool
  | a :: x, b :: y => decide (a < b) || (a == b && lexLt x y)
  | _, _ => false

/-- The first of a list under an order by rank. -/
def firstBy (f : Voice → List Int) : List Voice → Option Voice
  | [] => none
  | v :: l => match firstBy f l with
    | none => some v
    | some w => if lexLt (f w) (f v) then some w else some v

/-- choose_victim (R158, Table 06-1). -/
def State.victim (s : State) (t : Tenant) (part key : Nat) : Option Voice :=
  let c := s.voices.filter (s.candidate t)
  match (s.ten t).policy with
  | .quietest => firstBy (rank false) c
  | .oldest => firstBy (rank true) c
  | .sameNoteFirst =>
    match firstBy (rank false) (c.filter fun v => v.owner == .tenant t && v.part == part && v.key == key) with
    | some v => some v
    | none => firstBy (rank false) c
  | .never => none

/-! ## Steal fade (R159, R160) -/

/-- F = round(`alloc.steal_fade_us` x engine rate / 1,000,000) (R159). -/
def State.fadeTicks (s : State) : Nat := (s.alloc.fadeUs * s.engineRate * 2 + 1000000) / 2000000

/-- Replaces the voice in a slot. -/
def State.setVoice (s : State) (w : Voice) : State :=
  { s with voices := s.voices.map fun v => if v.lane = w.lane ∧ v.slot = w.slot then w else v }

/-- The voice leaves its slot, which keeps its oscillators and filters (R127, R130). -/
def State.clearVoice (s : State) (v : Voice) : State :=
  { s with voices := s.voices.filter fun w => !(w.lane == v.lane && w.slot == v.slot),
           slots := bankPut s.slots (v.lane * 48 + v.slot) { oscs := v.oscs, filts := v.filts } }

/-- Tells the owner that its note is stolen: NOTE_STOLEN here, or a steal record to the origin (R160). -/
def toldStolen (s : State) (v : Voice) : State :=
  match v.owner with
  | .tenant t => raiseTo s t .noteStolen 0 (leBytes 4 v.noteId.toNat)
  | .spilled o t => ringEnded s o t v.noteId true

/-- begin_steal_fade: the slot fades for F ticks and is held for the note that waits, if one does (R159). -/
def beginFade (s : State) (v : Voice) (n : Option Succ) (k : FadeKind) : State :=
  let s := finishRef s (v.retrig.bind (·.ref)) .ok (.note 0)
  s.setVoice { v with life := .fading 0 s.fadeTicks, fade := k, succ := n, retrig := none }

/-- ALL_RELEASE FADE reaches a voice; a voice that fades already goes on fading. -/
def fadeNote (s : State) (v : Voice) : State := if v.fading then s else beginFade s v none .release

/-! ## Placing a note (R157, R162, R163) -/

/-- Position and free voices of the other units in the latest gossip (R281). -/
def othersFree (own : Nat) : Nat → List GossipEntry → List (Nat × Nat)
  | _, [] => []
  | i, e :: l =>
    let r := othersFree own (i + 1) l
    if i = own ∨ e.present = false then r else (i, e.free) :: r

/-- The unit with the most free voices, the lower position on a tie; none when nobody has any (R162, R163). -/
def bestUnit (l : List (Nat × Nat)) : Option Nat :=
  (l.foldl (fun (b : Option (Nat × Nat)) e =>
    match b with
    | none => if 0 < e.2 then some e else none
    | some c => if c.2 < e.2 then some e else some c) none).map (·.1)

/-- Spill slots of one ring frame (Table 11-3). -/
def spillSlots (fs : Nat) : Nat := if fs ≤ 1 then 48 else if fs ≤ 3 then 20 else 4

/-- The unit a note may spill to (R162, R272). -/
def State.spillUnit (s : State) (t : Tenant) (noSpill : Bool) : Option Nat :=
  if (s.ten t).spill = true ∧ noSpill = false ∧ s.onRing = true ∧ (s.ring.st = .ring ∨ s.ring.st = .folded) ∧
      s.alloc.thermal ≠ .hard ∧ s.ring.frameNotes < spillSlots s.core.fs then
    bestUnit (othersFree s.ring.position 0 s.ring.gossip)
  else none

/-- start(): the note takes a slot and starts at the present tick, or at a later one for a spilled-in note (R157). -/
def startIn (s : State) (lane slot : Nat) (n : Succ) (at_ : Option (Smp × Nat)) : State :=
  { s with voices := s.voices ++ [{
      lane := lane, slot := slot, owner := n.owner, noteId := n.noteId, part := n.part, key := n.key, vel := n.vel,
      detune := n.detune, life := .starting at_, copy := n.copy, ref := n.ref, latency := n.latency }] }

/-- spill(): the note is queued for the ring and waits at its origin for the report (R163, R282). -/
def spillTo (s : State) (t : Tenant) (u : Nat) (n : Succ) (noSteal : Bool) : State :=
  let note : RingNote := {
    origin := s.ring.position, tenant := t, noteId := n.noteId, part := n.part, key := n.key,
    velocity := n.vel, detune := n.detune, et := s.core.tide.et, start := s.smp, copy := n.copy, seq := s.ring.seq }
  let out : SpilledOut := {
    noteId := n.noteId, part := n.part, key := n.key, vel := n.vel, detune := n.detune,
    copy := n.copy, unit := u, ref := n.ref, start := s.smp, et := s.core.tide.et, noSteal := noSteal, seq := s.ring.seq }
  let s := s.updTen t fun x => { x with spilledOut := x.spilledOut ++ [out] }
  let s := ringSend s (.note note u)
  { s with ring := { s.ring with frameNotes := s.ring.frameNotes + 1, spillsOut := s.ring.spillsOut + 1 } }

/-- The steal part of R157: NO_VOICE, or a fade on the victim with the note behind it. -/
def stealFor (s : State) (t : Tenant) (n : Succ) (noSteal : Bool) : Option State :=
  if noSteal = true ∨ (s.ten t).policy = .never then none
  else match s.victim t n.part n.key with
    | none => none
    | some v => some (toldStolen (beginFade s v (some { n with latency := n.latency + s.fadeTicks }) .steal) v)

/-- place() of R157; none is NO_VOICE. -/
def place (s : State) (t : Tenant) (n : Succ) (noSpill noSteal : Bool) : Option State :=
  if s.count t < (s.ten t).ceiling ∧ 1 ≤ s.freeFor (some t) then
    let lane := s.pickLane
    some (startIn s lane ((s.freeOf lane).headD 0) n none)
  else match (if s.count t < (s.ten t).ceiling then s.spillUnit t noSpill else none) with
    | some u => some (spillTo s t u n noSteal)
    | none => stealFor s t n noSteal

/-! ## Excess voices (R168) -/

/-- Conditions 1 to 3 of R155 without a requesting tenant. -/
def State.softCandidate (s : State) (v : Voice) : Bool := s.pooled v && s.unprotected v && s.overReserve v.owner

/-- Voices sounding and fading beyond the ceiling; a slot that fades counts until it clears. -/
def State.excess (s : State) : Nat := s.usedSlots - s.ceiling

/-- Fades one voice out: the lowest score among the candidates, and among all sounding voices when there are none. -/
def removeOne (s : State) : State :=
  let c := s.voices.filter s.softCandidate
  let c := if c = [] then s.voices.filter fun v => s.pooled v && !v.fading else c
  match firstBy (rank false) c with
  | none => s
  | some v =>
    let s := match v.life with
      | .starting _ => finishRef s v.ref .noVoice (.note 0)
      | _ => s
    toldStolen (beginFade s v none .excess) v

/-- Removes the excess at once when the ceiling is below `was`, the one before (R168). -/
def removeExcess (was : Nat) (s : State) : State := if s.ceiling < was then repeatN removeOne s.excess s else s

/-! ## Lanes (R166, Table 06-3) -/

/-- A draining lane whose last slot has parked leaves service for good: LANE_STATE out, and its command completes with
the voices released (Table 06-3 step 4). -/
def parkLane (s : State) (n : Nat) : State :=
  let l := s.alloc.lane n
  if l.st = .draining ∧ (s.voices.all fun v => v.lane != n) = true then
    let s := s.updLane n fun l => { l with st := .parked, ref := none, released := 0 }
    let s := steward s .laneState (arg2 0 n) []
    finishRef s l.ref .ok (.bytes (leBytes 2 l.released))
  else s

/-- Parks every drained lane. -/
def parkLanes (s : State) : State := foldS (List.range 8) s parkLane

end Sys2Proof.Machine
end

