-- ==== Sys2Proof/Machine/Numeric.lean ====
section
/-! DEFINITION. Rational arithmetic of the audio paths: levels in dB, frequencies, curves, 48-bit sums. Values that only
a real function gives come from Config (log entry 5); exact cases are exact. -/

namespace Sys2Proof.Machine

/-- Holds a value between two bounds. -/
def clampQ (lo hi x : Rat) : Rat := if x < lo then lo else if hi < x then hi else x

/-- Holds an integer between two bounds. -/
def clampI (lo hi x : Int) : Int := if x < lo then lo else if hi < x then hi else x

/-- Absolute value. -/
def absQ (x : Rat) : Rat := if x < 0 then -x else x

/-- Linear value of dB x 100; 0 dB is exactly 1. -/
def dbLin (c : Rat) : Rat := if c = 0 then 1 else Config.exp10 (c / 2000)

/-- Linear value of a gain or send level, of which -9,600 is off (R141, R171). -/
def dbOff (c : Rat) : Rat := if c ≤ -9600 then 0 else dbLin c

/-- Frequency in Hz of a pitch (R120); 440 Hz is exact at 690,000. -/
def freqOf (p : Rat) : Rat := if p = 690000 then 440 else 440 * Config.exp2 ((p - 690000) / 120000)

/-- The curve f(x) of R132 for a curve value c. -/
def curve (c x : Rat) : Rat :=
  if c = 0 then x else if x ≤ 0 then 0 else if 1 ≤ x then 1
  else (Config.expE (c / 10 * x) - 1) / (Config.expE (c / 10) - 1)

/-- Fractional part. -/
def fracQ (x : Rat) : Rat := x - x.floor

/-- A value on the integer grid: an integer stays, anything between is rounded as Config says. -/
def toGrid (q : Rat) : Int := if q.den = 1 then q.num else Config.roundMid q

/-- 48-bit two's complement (R170). -/
def wrap48 (x : Int) : Int :=
  let m := x % 281474976710656
  if m < 140737488355328 then m else m - 281474976710656

/-- Limits a sample to 32 bits (R170). -/
def sat32 (x : Int) : Int := clampI (-2147483648) 2147483647 x

/-- Square root, exact at 0 and 1. -/
def sqrtQ (x : Rat) : Rat := if x ≤ 0 then 0 else if x = 1 then 1 else Config.sqrt x

/-- Cosine and sine of a pan angle (R141): exact at the two ends. -/
def panGains (pan : Rat) : Rat × Rat :=
  if pan = -10000 then (1, 0) else if pan = 10000 then (0, 1)
  else
    let θ := (pan + 10000) * Config.pi / 40000
    (Config.cosR θ, Config.sinR θ)

/-- A level in dB x 100 of a linear value; -32,768 is silence (R156, R186). -/
def dbFs (v : Rat) : Int :=
  if v ≤ 0 then -32768
  else
    let d := if v = 1 then 0 else roundHalfUp (2000 * Config.log10 v)
    if d < -32767 then -32768 else d

end Sys2Proof.Machine
end

