-- ==== Sys2Proof/Machine/VoiceEngine.lean ====
section
/-! DEFINITION. What a voice computes in one engine tick: parameter values, envelopes, LFOs, glide, the matrix, the
oscillators, the filters, the amp stage and the audibility score (R115 to R144, R156). -/

namespace Sys2Proof.Machine

/-! ## Parameter values (R139) -/

/-- The engine rate as a rational. -/
def State.rate (s : State) : Rat := (s.engineRate : Rat)

/-- What the matrix adds to a parameter at this tick. -/
def modOf (m : List (Nat × Rat)) (pid : Nat) : Option Rat := (m.find? fun e => e.1 == pid).map (·.2)

/-- A parameter's value at this tick: the base, or the base and its modulation held to the range. -/
def Voice.val (v : Voice) (pid : Nat) : Rat :=
  let b : Rat := pget v.eff pid
  match modOf v.mods pid, paramRow pid with
  | some x, some r => clampQ r.lo r.hi (b + x)
  | _, _ => b

/-- An enum or captured parameter. -/
def Voice.sel (v : Voice) (pid : Nat) : Nat := (pget v.eff pid).toNat

/-- Velocity from 0 to 1. -/
def Voice.velQ (v : Voice) : Rat := (v.vel : Rat) / 65535

/-- The tenant of this unit that owns the voice; a spilled-in voice has none (R357). -/
def Voice.tenant? (v : Voice) : Option Tenant := match v.owner with
  | .tenant t => some t
  | .spilled _ _ => none

/-- Length of a time in microseconds, in ticks. -/
def State.ticksOf (s : State) (us : Rat) : Rat := us * s.rate / 1000000

/-! ## Tuning (R144) -/

/-- The tuning image a set selects, when its slot holds one and its bank is ON. -/
def State.tuneFor (s : State) (ps : ParamSet) : Option (List Byte) :=
  let slot := (pget ps (pVoice 8)).toNat
  if pget ps (pVoice 7) = 1 ∧ s.mem.bankSt .patch (slot / 64) = .on then
    match bankGet s.mem.patches slot with
    | some p => if isTuneImage p.image then some p.image else none
    | none => none
  else none

/-- T(key): 12-TET, or the entry of the captured tuning image. -/
def pitchOf (tune : Option (List Byte)) (key : Nat) : Rat :=
  match tune with
  | some img => (tuneEntry img key : Rat)
  | none => (key : Rat) * 10000

/-! ## Envelopes (R132 to R134) -/

/-- Present sustain level of ENVm+1. -/
def Voice.sustain (v : Voice) (m : Nat) : Rat := v.val (pEnv m 4) / 10000

/-- Level inside a segment at fraction x. -/
def envLevel (v : Voice) (m : Nat) (e : EnvSt) (x : Rat) : Rat :=
  match e.seg with
  | .delay => e.start
  | .attack => e.start + (1 - e.start) * curve (v.val (pEnv m 6)) x
  | .hold => 1
  | .decay => 1 + (v.sustain m - 1) * curve (v.val (pEnv m 7)) x
  | .sustain => v.sustain m
  | .release => e.start - e.start * curve (v.val (pEnv m 8)) x
  | .done => 0

/-- Parameter index of a segment's time. -/
def segTime : Seg → Option Nat
  | .delay => some 0 | .attack => some 1 | .hold => some 2 | .decay => some 3 | .release => some 5
  | .sustain => none | .done => none

/-- The segment that follows. -/
def nextSeg : Seg → Seg
  | .delay => .attack | .attack => .hold | .hold => .decay | .decay => .sustain
  | .sustain => .sustain | .release => .done | .done => .done

/-- Advances an envelope by one tick. A segment of time 0 completes in the tick in which it begins (R132), so up to six
segments may pass; a release from level 0 is at its end. -/
def envTick (s : State) (v : Voice) (m : Nat) : Nat → EnvSt → EnvSt
  | 0, e => e
  | n + 1, e =>
    match segTime e.seg with
    | none => { e with level := envLevel v m e e.x }
    | some i =>
      let t := s.ticksOf (v.val (pEnv m i))
      if t ≤ 0 ∨ (e.seg = .release ∧ e.start = 0) then
        envTick s v m n { e with seg := nextSeg e.seg, x := 0, level := envLevel v m e 1 }
      else
        let x := e.x + 1 / t
        if x < 1 then { e with x := x, level := envLevel v m e x }
        else { e with seg := nextSeg e.seg, x := 0, level := envLevel v m e 1 }

/-- Enters the release segment from the present level (R119). -/
def envRelease (e : EnvSt) : EnvSt :=
  if e.seg = .release ∨ e.seg = .done then e else { e with seg := .release, x := 0, start := e.level }

/-- Retriggers an envelope: LEGATO, RESET, FROM_CURRENT (R134). -/
def envRetrigger (mode : Nat) (e : EnvSt) : EnvSt :=
  if mode = 0 ∧ e.seg ≠ .release ∧ e.seg ≠ .done then e
  else if mode = 1 then {}
  else { seg := .delay, x := 0, start := e.level, level := e.level }

/-- Output of ENVm+1: level x (1 - s x (1 - v)). -/
def Voice.envOut (v : Voice) (m : Nat) : Rat :=
  let sens := v.val (pEnv m 10) / 10000
  (v.envs.getD m {}).level * (1 - sens * (1 - v.velQ))

/-- All envelopes advance. -/
def envsTick (s : State) (v : Voice) : List EnvSt := v.envs.mapIdx fun m e => envTick s v m 7 e

/-! ## Random values -/

/-- A value from 0 to 1 of a generator state. -/
def unit01 (w : BitVec 32) : Rat := (w.toNat : Rat) / 4294967296

/-- Draws the next value of the voice's generator (R117, R126). -/
def Voice.draw (v : Voice) : Rat × Voice :=
  let w := Config.rngNext v.rng
  (unit01 w, { v with rng := w })

/-! ## LFOs (R135, R137) -/

/-- Shape of an LFO at a phase, -1 to 1 (log entry 26 for the places of the shapes in the cycle). -/
def lfoShape (shape : Nat) (l : LfoSt) : Rat :=
  let p := l.phase
  match shape with
  | 0 => clampQ (-1) 1 (Config.sinR (2 * Config.pi * p))
  | 1 => if p < 1 / 4 then 4 * p else if p < 3 / 4 then 2 - 4 * p else 4 * p - 4
  | 2 => 2 * p - 1
  | 3 => 1 - 2 * p
  | 4 => if p < 1 / 2 then 1 else -1
  | 5 => l.rnd
  | _ => l.rnd + (l.rndNext - l.rnd) * p

/-- Output with its polarity. -/
def lfoPolar (uni : Bool) (x : Rat) : Rat := if uni then (x + 1) / 2 else x

/-- Phase of a TIDE LFO (R135). -/
def tidePhase (beat period phase : Rat) : Rat := fracQ (beat * 1000 / period + phase / 65536)

/-- The new phase, and whether it wrapped. -/
def lfoStep (s : State) (tide : Bool) (beat rate period phase : Rat) (l : LfoSt) : Rat × Bool :=
  if tide then
    let p := tidePhase beat period phase
    (p, decide (p < l.phase))
  else
    let p := l.phase + rate / 1000 / s.rate
    (fracQ p, decide (1 ≤ p))

/-- The beat position a voice hears. -/
def State.beatOf (s : State) (v : Voice) : Rat := match v.tenant? with
  | some t => (s.ten t).beat
  | none => 0

/-- Advances voice LFO n by one tick. -/
def lfoTick (s : State) (v : Voice) (n : Nat) : Voice :=
  let l := v.lfos.getD n {}
  let (p, wrapped) := lfoStep s (v.sel (pLfo n 2) == 2) (s.beatOf v) (v.val (pLfo n 1)) (v.val (pLfo n 3))
    (v.val (pLfo n 4)) l
  if wrapped then
    let (r, v) := v.draw
    { v with lfos := v.lfos.set n { l with phase := p, age := l.age + 1, rnd := l.rndNext, rndNext := 2 * r - 1 } }
  else { v with lfos := v.lfos.set n { l with phase := p, age := l.age + 1 } }

/-- Depth after `lfo.delay` and `lfo.fade` (R135). -/
def lfoDepth (s : State) (v : Voice) (n : Nat) (age : Nat) : Rat :=
  let d := s.ticksOf (v.val (pLfo n 5))
  let f := s.ticksOf (v.val (pLfo n 6))
  if (age : Rat) < d then 0 else if f ≤ 0 ∨ d + f ≤ age then 1 else ((age : Rat) - d) / f

/-- Output of voice LFO n. -/
def Voice.lfoOut (s : State) (v : Voice) (n : Nat) : Rat :=
  let l := v.lfos.getD n {}
  lfoDepth s v n l.age * lfoPolar (v.sel (pLfo n 7) == 1) (lfoShape (v.sel (pLfo n 0)) l)

/-- Output of tenant LFO n, from 1. -/
def TenantSt.lfoOut (x : TenantSt) (n : Nat) : Rat :=
  let l := x.lfo n
  lfoPolar l.unipolar (lfoShape l.shape l.run)

/-! ## Glide (R142, R143) -/

/-- Sets a new target; a glide starts from the present G unless glide is OFF (R143). -/
def glideTo (v : Voice) (target : Rat) : Voice :=
  if v.sel (pVoice 3) = 0 then { v with g := target, gTarget := target, gFrom := target, gDone := 1 }
  else { v with gTarget := target, gFrom := v.g, gDone := 0 }

/-- Advances the glide by one tick. -/
def glideTick (s : State) (v : Voice) : Voice :=
  if v.g = v.gTarget then { v with gDone := 1 }
  else if v.sel (pVoice 3) = 1 then
    let d := v.gDone + 1 / s.ticksOf (v.val (pVoice 4))
    if d < 1 then { v with gDone := d, g := v.gFrom + (v.gTarget - v.gFrom) * d } else { v with gDone := 1, g := v.gTarget }
  else
    let st := v.val (pVoice 5) * 100000 / s.rate
    if absQ (v.gTarget - v.g) ≤ st then { v with gDone := 1, g := v.gTarget }
    else { v with g := if v.g < v.gTarget then v.g + st else v.g - st }

/-! ## Sources and the matrix (R138 to R140, Table 05-4) -/

/-- A detector as a source: (dBFS + 96) / 96, held to 0 to 1. -/
def detSource (v : Rat) : Rat :=
  if v ≤ 0 then 0 else clampQ 0 1 (((if v = 1 then 0 else 20 * Config.log10 v) + 96) / 96)

/-- RMS window length in samples (R184). -/
def State.rmsWindow (s : State) (b : Bus) : Nat := (roundHalfUp ((b.rmsMs * s.fs : Nat) / 1000 : Rat)).toNat

/-- RMS of a bus (R184). -/
def State.busRms (s : State) (b : Bus) : Rat := sqrtQ (b.sq.sum / (s.rmsWindow b : Rat))

/-- Field sources are present and not down (R4, R13, R140); while the link is silent the latest value is held. -/
def State.fieldSources (s : State) : Bool := s.hasField && s.field.ready && s.field.link != .dark

/-- Value of a source (Table 05-4). -/
def source (s : State) (v : Voice) (code : Nat) : Rat :=
  let i := code % 256
  let part : Part := match v.tenant? with
    | some t => (s.ten t).part v.part
    | none => {}
  match code / 256 with
  | 0x01 => v.envOut (i - 1)
  | 0x02 => v.lfoOut s (i - 1)
  | 0x03 => match v.tenant? with
    | some t => (s.ten t).lfoOut i
    | none => 0
  | 0x04 =>
    match i with
    | 0 => v.velQ
    | 1 => ((v.key : Rat) - 64) / 64
    | 2 => if v.released then (v.relVel : Rat) / 65535 else 0
    | 3 => v.pressure
    | 4 => clampQ (-1) 1 (v.bend / 480000)
    | 5 => v.random
    | _ => 1
  | 0x05 => if i = 0 then part.pressure else part.bend
  | 0x06 => bankAt part.cc i 0
  | 0x07 => bankAt v.regCtl i 0
  | 0x08 => bankAt v.asgCtl i 0
  | 0x10 => if s.fieldSources then ((s.ci i).value : Rat) / 8388608 else 0
  | 0x11 =>
    if s.fieldSources && s.scan.mode == 2 && s.scan.baseKey ≤ v.key then
      (bankAt s.scan.keys (v.key - s.scan.baseKey) {}).pressure
    else 0
  | 0x12 => detSource (s.bus i).peak
  | 0x13 => detSource (s.busRms (s.bus i))
  | 0x14 => detSource (s.bus i).env
  | 0x18 =>
    let p := s.port (i / 16)
    if p.isIn then (p.words.getD (i % 16) 0 : Rat) / 2147483648 else 0
  | _ => 0

/-- What one matrix slot adds, with its destination. -/
def slotAdds (s : State) (v : Voice) (sl : Nat) : Option (Nat × Rat) :=
  let src := v.sel (pMod sl 0)
  let dst := v.sel (pMod sl 1)
  let via := v.sel (pMod sl 3)
  if src = 0 ∨ dst = 0xFFFF then none
  else some (dst, (pget v.eff (pMod sl 2) : Rat) * source s v src * (if via = 0 then 1 else source s v via))

/-- Adds into a destination. -/
def addMod (m : List (Nat × Rat)) (e : Nat × Rat) : List (Nat × Rat) :=
  if m.any (·.1 == e.1) then m.map fun x => if x.1 = e.1 then (x.1, x.2 + e.2) else x else m ++ [e]

/-- The matrix of this tick (R139). -/
def matrix (s : State) (v : Voice) : List (Nat × Rat) :=
  ((List.range 32).filterMap (slotAdds s v)).foldl addMod []

/-! ## Oscillators (R120 to R128) -/

/-- Highest frequency: 0.45 x engine rate (R120). -/
def State.fTop (s : State) : Rat := s.rate * 45 / 100

/-- Frequency of OSCn (R120, R121). -/
def oscFreq (s : State) (v : Voice) (n : Nat) : Rat :=
  let oc := v.val (pOsc n 3) * 10000 + v.val (pOsc n 4)
  let ratio := v.val (pOsc n 7) / 65536
  let f := if v.sel (pOsc n 6) = 1 then
      v.val (pOsc n 8) / 1000 * ratio * (if oc = 0 then 1 else Config.exp2 (oc / 120000))
    else
      let pb : Rat := match v.tenant? with
        | some t => ((s.ten t).part v.part).bend
        | none => 0
      let bend := pb * v.val (pVoice 2) * 10000 + v.bend
      let p := 600000 + (v.g - 600000) * v.val (pOsc n 5) / 10000 + v.detune + bend
        + v.val (pVoice 0) * 10000 + v.val (pVoice 1) + oc
      freqOf p * ratio
  clampQ 0 s.fTop f

/-- Increment of the 32-bit accumulator per tick (R120). -/
def oscInc (s : State) (f : Rat) : Nat := (roundHalfUp (f * 4294967296 / s.rate)).toNat

/-- Naive VA shapes over one cycle (log entry 26): SAW, PULSE, TRIANGLE, SINE. -/
def vaShape (shape : Nat) (φ pw : Rat) : Rat :=
  match shape with
  | 0 => 2 * φ - 1
  | 1 => if φ < pw then 1 else -1
  | 2 => if φ < 1 / 4 then 4 * φ else if φ < 3 / 4 then 2 - 4 * φ else 4 * φ - 4
  | _ => Config.sinR (2 * Config.pi * φ)

/-- Phase as a fraction of a cycle. -/
def cycleOf (p : BitVec 32) : Rat := (p.toNat : Rat) / 4294967296

/-- Byte of wave memory at an address; while a WAVE_WRITE copies over it, each line reads old or new (R301). -/
def State.waveByte (s : State) (a : Nat) : Byte :=
  match s.mem.copies.find? fun c => decide (c.bank * 0x200000 + c.offset ≤ a)
      && decide (a < c.bank * 0x200000 + c.offset + c.data.length) with
  | some c =>
    if Config.lineCopied s.core.ticks (a / 32) then c.data.getD (a - (c.bank * 0x200000 + c.offset)) 0
    else memRead s.mem.wave a
  | none => memRead s.mem.wave a

/-- Bytes of wave memory from an address on. -/
def State.waveBytes (s : State) (a n : Nat) : List Byte := (List.range n).map fun i => s.waveByte (a + i)

/-- The address of sample i of a map. -/
def WaveMap.addr (m : WaveMap) (i : Nat) : Nat := m.bank * 0x200000 + m.offset + i * sampleBytes m.format

/-- The byte lies in a LOADING region (R309). -/
def State.loadingAt (s : State) (a : Nat) : Bool :=
  s.mem.loads.any fun l => !l.args.patch && l.args.target * 0x200000 + l.args.offset ≤ a
    && a < l.args.target * 0x200000 + l.args.offset + l.args.length

/-- The 64-bit words of wave memory that sample i of a map touches; none outside the map. -/
def sampleWords (m : WaveMap) (i : Int) : List Nat :=
  if i < 0 ∨ (m.length : Int) ≤ i then []
  else
    let a := m.addr i.toNat
    [a / 8, (a + sampleBytes m.format - 1) / 8]

/-- Sample i of a map, -1 to 1: 0 outside the map, in a LOADING region, and in a word that ECC cannot correct
(R303, R309). -/
def sampleAt (s : State) (m : WaveMap) (i : Int) : Rat :=
  if i < 0 ∨ (m.length : Int) ≤ i then 0
  else
    let a := m.addr i.toNat
    let n := sampleBytes m.format
    if ((List.range n).any fun j => s.loadingAt (a + j)) || (sampleWords m i).any s.mem.badWords.contains then 0
    else (signed (8 * n) (leNat (s.waveBytes a n)) : Rat) / (2 ^ (8 * n - 1) : Nat)

/-- The map an oscillator plays: mapped and of the mode's format (Edges of chapter 05). -/
def oscMap (v : Voice) (n : Nat) : Option WaveMap :=
  match v.maps.getD (n - 1) none with
  | some m => if (v.sel (pOsc n 0) = 2) = (m.format = 2) then some m else none
  | none => none

/-- The map's bank is ON, so that it can be read (R297). -/
def State.mapOn (s : State) (m : WaveMap) : Bool := s.mem.bankSt .wave m.bank == .on

/-- Frames of a WAVETABLE map (R122). -/
def mapFrames (m : WaveMap) : Nat := Nat.min 256 (m.length / 4096)

/-- Smallest mip level for a frequency, 0 to 10 (R123). -/
def mipFor (s : State) (f : Rat) : Nat :=
  ((List.range 11).find? fun l => decide (f * 1024 / (2 ^ l : Nat) ≤ s.fTop)).getD 10

/-- Offset of a level within a frame (R122). -/
def levelAt (l : Nat) : Nat := if l = 0 then 0 else 4096 - 4096 / 2 ^ l

/-- The two adjacent samples of a frame at a phase. -/
def frameIdx (fr l : Nat) (φ : Rat) : Int × Int :=
  let n : Nat := 2048 / 2 ^ l
  let i := (φ * n).floor.toNat
  let at_ : Nat → Int := fun k => ((fr * 4096 + levelAt l + k % n : Nat) : Int)
  (at_ i, at_ (i + 1))

/-- One frame of a wavetable at a phase, interpolated between adjacent samples (R123). -/
def frameAt (s : State) (m : WaveMap) (fr l : Nat) (φ : Rat) : Rat :=
  let (i, j) := frameIdx fr l φ
  let a := sampleAt s m i
  a + (sampleAt s m j - a) * fracQ (φ * (2048 / 2 ^ l : Nat))

/-- Place of a WT oscillator in its frames, counted from 0 (R122). -/
def wtPlace (v : Voice) (n : Nat) (m : WaveMap) : Rat := v.val (pOsc n 0x0F) * ((mapFrames m : Rat) - 1) / 65535

/-- The two frames that WT mode reads. -/
def wtFrames (v : Voice) (n : Nat) (m : WaveMap) : Nat × Nat :=
  let i := (wtPlace v n m).floor.toNat
  (i, Nat.min (i + 1) (mapFrames m - 1))

/-- WT output (R123). -/
def wtOut (s : State) (v : Voice) (n : Nat) (m : WaveMap) (l : Nat) (φ : Rat) : Rat :=
  if mapFrames m = 0 then 0
  else
    let (i, j) := wtFrames v n m
    let a := frameAt s m i l φ
    let b := frameAt s m j l φ
    a + (b - a) * fracQ (wtPlace v n m)

/-- The loop of a map in play: 0 none, 1 forward, 2 alternate. A loop end that does not exceed its start plays as NONE;
FORWARD_UNTIL_RELEASE loops until ENV1 enters release (R124). -/
def loopKind (v : Voice) (m : WaveMap) : Nat :=
  if m.loopEnd ≤ m.loopStart then 0
  else match m.loopMode with
    | 1 => 1
    | 2 => 2
    | 3 => match (v.envs.getD 0 {}).seg with
      | .release => 0
      | .done => 0
      | _ => 1
    | _ => 0

/-- Index of an interpolation tap: wrapped inside a FORWARD loop, mirrored inside an ALTERNATE loop (R124). Below the loop
start that holds once the position has jumped or turned (`looped`): before, the samples ahead of the loop lead in. The rule
says "mirror" and not about which point: DESIGN CHOICE, log entry 44, the model mirrors about the edge after the last sample
at the loop end, so that index 2 x loop end - 1 - i is read, and about the first sample at the loop start, 2 x loop start - i. -/
def tapIndex (kind : Nat) (m : WaveMap) (looped : Bool) (i : Int) : Int :=
  let ls : Int := m.loopStart
  let le : Int := m.loopEnd
  if kind = 1 ∧ (le ≤ i ∨ (looped = true ∧ i < ls)) then ls + (i - ls) % (le - ls)
  else if kind = 2 ∧ le ≤ i then 2 * le - 1 - i
  else if kind = 2 ∧ looped = true ∧ i < ls then 2 * ls - i
  else i

/-- The samples that SMP mode reads at a position, with their weights (Table 05-1); none past the end of a map that does not
loop. -/
def smpTaps (v : Voice) (m : WaveMap) (pos : Rat) (looped : Bool) : List (Int × Rat) :=
  let i := pos.floor
  let fr := fracQ pos
  let k := loopKind v m
  if k = 0 ∧ (m.length : Rat) ≤ pos then []
  else if fr = 0 then [(tapIndex k m looped i, 1)]
  else (List.range 8).map fun (j : Nat) => (tapIndex k m looped (i - 3 + j), Config.sincTap j fr)

/-- SMP output: 8 windowed-sinc taps around the position (Table 05-1). -/
def smpOut (s : State) (v : Voice) (m : WaveMap) (pos : Rat) (looped : Bool) : Rat :=
  ((smpTaps v m pos looped).map fun e => e.2 * sampleAt s m e.1).sum

/-- Position, direction and whether the loop has jumped or turned, one tick later (R124). -/
def smpStep (v : Voice) (m : WaveMap) (inc : Rat) (o : OscSt) : Rat × Bool × Bool :=
  let ls : Rat := m.loopStart
  let le : Rat := m.loopEnd
  match loopKind v m with
  | 1 =>
    let p := o.pos + inc
    if p < le then (p, false, o.looped) else (ls + fracQ ((p - ls) / (le - ls)) * (le - ls), false, true)
  | 2 =>
    if o.back then
      let p := o.pos - inc
      if p < ls then (clampQ ls le (2 * ls - p), false, true) else (p, true, o.looped)
    else
      let p := o.pos + inc
      if p < le then (p, false, o.looped) else (clampQ ls le (2 * le - p), true, true)
  | _ => (o.pos + inc, false, o.looped)

/-- What one oscillator leaves. -/
structure OscOut where
  osc : OscSt
  rng : BitVec 32
  /-- the wave bank that is not ON and that it would read. -/
  off : Option Nat := none
  deriving DecidableEq, Repr, Inhabited

/-- One tick of OSCn (R118 step 4). `outs` holds the present states of the oscillators with lower numbers, `starting` the
start tick, at which a phase stands where R127 set it. R128 corrects "the slave's output step at the reset" and does not say
between which two values: DESIGN CHOICE, log entry 44, the model takes the output after the reset less the output of the
tick before. -/
def oscTick (s : State) (v : Voice) (outs : List OscSt) (starting : Bool) (n : Nat) : OscOut :=
  let o := v.oscs.getD (n - 1) {}
  let mode := v.sel (pOsc n 0)
  let f := oscFreq s v n
  let inc := oscInc s f
  let master := v.sel (pOsc n 0x0A)
  let mo := outs.getD (master - 1) {}
  let synced := decide (0 < master) && mo.wrapped && mode != 5 && mode != 0
  let r : Rat := if mo.inc = 0 then 0 else (mo.phase.toNat : Rat) / mo.inc
  let adv : Nat := if starting then 0 else inc
  let raw := o.phase.toNat + adv
  let φ : BitVec 32 := if synced then BitVec.ofInt 32 (toGrid (r * inc)) else BitVec.ofNat 32 raw
  let wrapped := decide (4294967296 ≤ raw) && mode != 3 && mode != 5 && mode != 0
  let base : OscSt := { o with phase := φ, inc := inc, wrapped := wrapped, reset := synced, y1 := o.y, y2 := o.y1,
                               carry := 0, mip := none }
  let after := fun (y step : Rat) (b : OscSt) =>
    if synced then { b with y := y + o.carry + Config.syncBlep r step 0, carry := Config.syncBlep r step 1 }
    else { b with y := y + o.carry }
  match mode with
  | 1 =>
    let c := cycleOf φ
    let pw := v.val (pOsc n 9) / 10000
    let sh := v.sel (pOsc n 1)
    let y := vaShape sh c pw + Config.blep sh φ.toNat inc pw
    ⟨after y (y - o.y) base, v.rng, none⟩
  | 2 =>
    let l := if v.startNo == s.core.ticks || wrapped || synced then mipFor s f else o.mip.getD (mipFor s f)
    match oscMap v n with
    | none => ⟨{ base with y := 0, mip := some l }, v.rng, none⟩
    | some m =>
      if s.mapOn m then
        let y := wtOut s v n m l (cycleOf φ)
        ⟨after y (y - o.y) { base with mip := some l }, v.rng, none⟩
      else ⟨{ base with y := 0, mip := some l }, v.rng, some m.bank⟩
  | 3 =>
    match oscMap v n with
    | none => ⟨{ base with y := 0 }, v.rng, none⟩
    | some m =>
      let pinc := f / (freqOf ((m.rootKey : Rat) * 10000) * s.core.osr)
      let (p, b, lp) := if synced then (v.val (pOsc n 0x10) + r * pinc, false, false)
        else if starting then (o.pos, o.back, o.looped) else smpStep v m pinc o
      if s.mapOn m then
        let y := smpOut s v m p lp
        ⟨after y (y - o.y) { base with pos := p, back := b, looped := lp }, v.rng, none⟩
      else ⟨{ base with y := 0 }, v.rng, some m.bank⟩
  | 4 =>
    let src := v.sel (pOsc n 0x0B)
    let mod : Rat := if src = 0 then 0 else if src < n then (outs.getD (src - 1) {}).y else (v.oscs.getD (src - 1) {}).y
    let y := Config.sinR (2 * Config.pi * cycleOf φ + v.val (pOsc n 0x0C) / 1000 * mod
      + Config.pi * (v.val (pOsc n 0x0D) / 10000) * (o.y + o.y1) / 2)
    ⟨after y (y - o.y) base, v.rng, none⟩
  | 5 =>
    let w := Config.rngNext v.rng
    let white := 2 * unit01 w - 1
    match v.sel (pOsc n 1) with
    | 0 => ⟨{ base with y := white }, w, none⟩
    | 1 =>
      let (c, y) := Config.pink o.pink white
      ⟨{ base with y := clampQ (-1) 1 y, pink := c }, w, none⟩
    | 3 => ⟨{ base with y := clampQ (-1) 1 (Config.noShape w) }, w, none⟩
    | _ =>
      let w2 := Config.rngNext w
      let hit := decide (unit01 w2 < v.val (pOsc n 8) / 1000 / s.rate)
      ⟨{ base with y := if hit then (if white < 0 then -1 else 1) else 0 }, w2, none⟩
  | _ => ⟨{ base with phase := o.phase, y := 0 }, v.rng, none⟩

/-- The samples that the oscillator of a voice has read at this tick, from the state the tick has left it in. -/
def oscReads (v : Voice) (n : Nat) (m : WaveMap) : List Int :=
  let o := v.oscs.getD (n - 1) {}
  match v.sel (pOsc n 0) with
  | 2 =>
    if mapFrames m = 0 then []
    else
      let (i, j) := wtFrames v n m
      [i, j].flatMap fun fr => let r := frameIdx fr (o.mip.getD 0) (cycleOf o.phase); [r.1, r.2]
  | 3 => (smpTaps v m o.pos o.looped).map (·.1)
  | _ => []

/-- The uncorrectable words that the lane reads of a voice have met at this tick, each once (R303). -/
def laneBad (s : State) (v : Voice) : List Nat :=
  if s.mem.badWords = [] then []
  else
    let read := [1, 2, 3, 4].flatMap fun n => match oscMap v n with
      | some m => if s.mapOn m then (oscReads v n m).flatMap (sampleWords m) else []
      | none => []
    (read.filter s.mem.badWords.contains).eraseDups

/-- The four oscillators in order; the first bank found not ON. -/
def oscsTick (s : State) (v : Voice) (starting : Bool) : List OscSt × BitVec 32 × Option Nat :=
  [1, 2, 3, 4].foldl (fun (a : List OscSt × BitVec 32 × Option Nat) n =>
    let r := oscTick s { v with rng := a.2.1 } a.1 starting n
    (a.1 ++ [r.osc], r.rng, a.2.2.orElse fun _ => r.off)) ([], v.rng, none)

/-! ## Filters (R129 to R131) -/

/-- Cutoff frequency over the engine rate (R129). -/
def cutoff (s : State) (v : Voice) (n : Nat) : Rat :=
  let p := clampQ 0 1350000 (v.val (pFilt n 2) + (v.g - 600000) * v.val (pFilt n 5) / 10000)
  clampQ 0 (45 / 100) (freqOf p / s.rate)

/-- COMB: y[n] = x[n] +- g y[n - D], D fractional by linear interpolation (Table 05-2). -/
def combTick (s : State) (v : Voice) (n : Nat) (line : List Rat) (x : Rat) : List Rat × Rat :=
  let d := s.ticksOf (v.val (pFilt n 6))
  let i := d.floor.toNat
  let a := line.getD (i - 1) 0
  let b := line.getD i 0
  let fb := a + (b - a) * fracQ d
  let g := v.val (pFilt n 8) / 10000
  let y := if v.sel (pFilt n 7) = 1 then x - g * fb else x + g * fb
  ((y :: line).take 30722, y)

/-- One tick of FILTn on its state. -/
def filtCore (s : State) (v : Voice) (n : Nat) (st : FiltSt) (x : Rat) : FiltSt × Rat :=
  match v.sel (pFilt n 0) with
  | 1 =>
    let (p, y) := Config.svf (v.sel (pFilt n 1)) (cutoff s v n) (v.val (pFilt n 3)) st.poles x
    ({ st with poles := p }, y)
  | 2 =>
    let (p, y) := Config.lad (cutoff s v n) (v.val (pFilt n 3)) (v.val (pFilt n 4)) st.poles x
    ({ st with poles := p }, y)
  | 3 =>
    let (l, y) := combTick s v n st.line x
    ({ st with line := l }, y)
  | _ => (st, x)

/-- FILTn with its resets: under CLEAR, a start and a sync reset of the named oscillator zero the state and give exactly
0 at that tick; the input enters the zeroed state (R130, R131). A filter of type OFF passes its input (R115) and zeroes what
the slot keeps. -/
def filtTick (s : State) (v : Voice) (n : Nat) (oscs : List OscSt) (starting : Bool) (x : Rat) : FiltSt × Rat :=
  let st := v.filts.getD (n - 1) {}
  let o := v.sel (pFilt n 0x0A)
  let hit := v.sel (pFilt n 9) = 0 ∧ (starting = true ∨ (0 < o ∧ (oscs.getD (o - 1) {}).reset = true))
  if hit then ((filtCore s v n {} x).1, if v.sel (pFilt n 0) = 0 then x else 0) else filtCore s v n st x

/-! ## Amp, pan and sends (R141, R156) -/

/-- The amp gain g. -/
def ampGain (v : Voice) : Rat :=
  let a := v.val (pAmp 1) / 10000
  v.envOut 0 * dbLin (v.val (pAmp 0)) * (1 - a * (1 - v.velQ))

/-- Side factor of a send: CENTRE, LEFT, RIGHT. -/
def sideOf (v : Voice) (n : Nat) : Rat :=
  match v.sel (pAmp (5 + 3 * n)) with
  | 1 => (panGains (v.val (pAmp 2))).1
  | 2 => (panGains (v.val (pAmp 2))).2
  | _ => 1

/-- Level x side of send n, from 0. -/
def sendGain (v : Voice) (n : Nat) : Rat := dbOff (v.val (pAmp (4 + 3 * n))) * sideOf v n

/-- Scale of a steal fade and of a MUTE (R84, R159). -/
def fadeScale (s : State) (v : Voice) : Rat :=
  let f : Rat := match v.life with
    | .fading k n => ((n - k : Nat) : Rat) / n
    | _ => 1
  match v.mute with
  | some k => f * clampQ 0 1 (1 - (k : Rat) / s.ticksOf 20000)
  | none => f

/-- What the voice adds to its buses at this tick, at a full scale of 2^31. -/
def sends (s : State) (v : Voice) : List (Nat × Int) :=
  (List.range 4).map fun n =>
    (v.sel (pAmp (3 + 3 * n)), toGrid (v.x * v.gain * sendGain v n * fadeScale s v * 2147483648))

/-- Ticks of the 10 ms window of R156. -/
def State.scoreWindow (s : State) : Nat := (roundHalfUp (s.ticksOf 10000)).toNat

/-- RMS of the filter output over the latest 10 ms. -/
def voiceRms (s : State) (v : Voice) : Rat := sqrtQ (v.rms.sum / (s.scoreWindow : Rat))

/-- The audibility score (R156). -/
def scoreOf (s : State) (v : Voice) : Int :=
  dbFs (voiceRms s v * v.gain * ((List.range 4).map (sendGain v)).sum)

/-- Updates the score at the end of a sample. -/
def scoreTick (s : State) (v : Voice) : Voice := if v.sounds then { v with score := scoreOf s v } else v

/-! ## One tick of a voice (R118) -/

/-- Steps 2 to 6 for one voice; also the wave bank that is not ON and that it would read. -/
def voiceTick (s : State) (v : Voice) (starting : Bool) : Voice × Option Nat :=
  let v := { v with envs := envsTick s v }
  let v := (List.range 4).foldl (lfoTick s) v
  let v := glideTick s v
  let v := { v with mods := matrix s v }
  let (oscs, rng, off) := oscsTick s v starting
  let mix := ((List.range 4).map fun n =>
    if v.sel (pOsc (n + 1) 0) = 0 then 0 else (oscs.getD n {}).y * dbLin (v.val (pOsc (n + 1) 2))).sum
  let (f1, y1) := filtTick s v 1 oscs starting mix
  let (f2, y2) := filtTick s v 2 oscs starting (if v.sel (pVoice 9) = 0 then y1 else mix)
  let x := if v.sel (pVoice 9) = 0 then y2 else y1 + y2
  ({ v with oscs := oscs, rng := rng, filts := [f1, f2], x := x, gain := ampGain v,
            rms := (x * x :: v.rms).take s.scoreWindow, mute := v.mute.map (· + 1) }, off)

/-- The voice has ended: ENV1 stands at level 0 at the end of its release (R119). -/
def Voice.ended (v : Voice) : Bool := (v.envs.getD 0 {}).seg == .done

/-! ## Starts, retriggers and note commands (R117, R119, R121, R134, R143) -/

/-- Sets the phase or the position of OSCn at a start (R127). What y[n-1] and y[n-2] of R125 are at a start the spec does not
say: DESIGN CHOICE, log entry 44, they are the outputs that the slot's oscillator gave last. -/
def startOsc (v : Voice) (n : Nat) (o : OscSt) : OscSt :=
  let p := v.sel (pOsc n 0x11)
  let start : Rat := pget v.eff (pOsc n 0x10)
  let o := { o with wrapped := false, reset := false }
  if v.sel (pOsc n 0) = 3 then
    if p = 65536 then o else { o with pos := start, back := false, looped := false }
  else if p ≤ 65535 then { o with phase := BitVec.ofNat 32 (p * 65536) }
  else if p = 65536 then o
  else { o with phase := BitVec.ofNat 32 (v.random * 4294967296).floor.toNat }

/-- Sets the phase of LFOn at a start; FREE only at the first (R135). -/
def startLfo (first : Bool) (n : Nat) (v : Voice) : Voice :=
  let l := v.lfos.getD n {}
  let sync := v.sel (pLfo n 2)
  let ph := (pget v.eff (pLfo n 4) : Rat) / 65536
  if first then
    let (a, v) := v.draw
    let (b, v) := v.draw
    { v with lfos := v.lfos.set n { phase := ph, age := 0, rnd := 2 * a - 1, rndNext := 2 * b - 1 } }
  else if sync = 1 then { v with lfos := v.lfos.set n { l with phase := ph } }
  else v

/-- The part's last pitch (R142). -/
def State.lastPitch (s : State) (v : Voice) : Option Rat := match v.tenant? with
  | some t => ((s.ten t).part v.part).lastPitch
  | none => none

/-- Notes the target pitch of a start or retarget in its part (R142). -/
def notePitch (s : State) (v : Voice) : State := match v.tenant? with
  | some t => s.updTen t fun x => x.updPart v.part fun p => { p with lastPitch := some v.gTarget }
  | none => s

/-- Step 7 of R117: the glide start. -/
def startGlide (s : State) (v : Voice) : Voice :=
  let target := pitchOf v.tune v.key
  match (if v.sel (pVoice 3) ≠ 0 ∧ v.sel (pVoice 6) = 1 then s.lastPitch v else none) with
  | some p => { v with g := p, gFrom := p, gTarget := target, gDone := 0 }
  | none => { v with g := target, gFrom := target, gTarget := target, gDone := 1 }

/-- R117 for a voice or a retrigger. A first start takes what the slot keeps and seeds the generators from the note ID. -/
def startVoice (s : State) (v : Voice) (first : Bool) : Voice :=
  let keep := bankAt s.slots (v.lane * 48 + v.slot) {}
  let v := { v with eff := v.copy, tune := s.tuneFor v.copy }
  let v := { v with maps := [1, 2, 3, 4].map fun n => bankGet s.mem.maps (v.sel (pOsc n 0x0E)) }
  let v := if first then
      { v with oscs := keep.oscs.map (fun o => { o with carry := 0, pink := [] }), filts := keep.filts,
               rng := Config.rngSeed v.noteId, startNo := s.core.ticks }
    else v
  let v := match v.tenant? with
    | some t => if (s.ten t).muted then { v with mute := some s.engineRate } else v
    | none => v
  let (r, v) := v.draw
  let v := { v with random := r, released := false, life := if first then .sounding else v.life, bankOffRaised := v.bankOffRaised && !first }
  let v := { v with oscs := v.oscs.mapIdx fun i o => startOsc v (i + 1) o }
  let v := { v with envs := v.envs.mapIdx fun m e => if first then {} else envRetrigger (v.sel (pEnv m 9)) e }
  let v := (List.range 4).foldl (fun v n => startLfo first n v) v
  startGlide s v

/-- Puts every envelope into release (R119). -/
def releaseVoice (v : Voice) (vel : Nat) : Voice :=
  { v with released := true, relVel := vel, envs := v.envs.map envRelease }

/-- A class-L or class-B parameter lands in a sounding voice; a write of `voice.glide_time` restarts a running glide
(R143). -/
def landParam (v : Voice) (pid : Nat) (x : Int) : Voice :=
  let v := { v with copy := pset v.copy pid x, eff := pset v.eff pid x }
  if pid = pVoice 4 ∧ v.g ≠ v.gTarget ∧ v.sel (pVoice 3) = 1 then { v with gFrom := v.g, gDone := 0 } else v

/-- A parameter of any class reaches a voice: V entries only its copy (R101). -/
def paramTo (v : Voice) (e : Nat × Int) : Voice :=
  if pcls e.1 = .v then { v with copy := pset v.copy e.1 e.2 } else landParam v e.1 e.2

/-- A note command takes effect on a sounding voice. -/
def applyCmd (v : Voice) (c : NoteCmd) : Voice :=
  match c with
  | .off r => releaseVoice v r
  | .bend b => { v with bend := (b : Rat) * 100 }
  | .pressure p => { v with pressure := (p : Rat) / 65535 }
  | .retarget k => glideTo { v with key := k } (pitchOf v.tune k)
  | .params l => l.foldl paramTo v
  | .allRelease _ _ => releaseVoice v 0
  | .mute => { v with mute := some (v.mute.getD 0) }
  | .unmute => { v with mute := none }
  | .retrigger k vel d => { v with retrig := some { key := k, vel := vel, detune := d } }
  | .umpBend n => { v with bend := (n : Rat) / 2147483648 * (pget v.eff (pVoice 2) : Rat) * 10000 }
  | .umpCtl a i x =>
    if a then { v with asgCtl := bankPut v.asgCtl i ((x : Rat) / 4294967295) }
    else { v with regCtl := bankPut v.regCtl i ((x : Rat) / 4294967295) }

end Sys2Proof.Machine
end

