-- ==== Sys2Proof/Machine/BusOps.lean ====
section
/-! DEFINITION. Buses: the decimation chain, the shaping FIR and its cross-fade, gain ramps, synchronising resets,
detectors, TDM/I2S ports, and the bus commands (R169 to R192, R278, Table 04-7). -/

namespace Sys2Proof.Machine

/-- The 32 buses. -/
def allBuses : List Nat := List.range 32

/-- The buses of a mask. -/
def busesOf (m : BitVec 32) : List Nat := allBuses.filter fun n => m.getLsbD n

/-! ## Decimation (R173 to R176) -/

/-- Taps of a stage (Table 07-1). -/
def presetTaps : Preset → Nat
  | .sandpiper => 23 | .heron => 63 | .bittern => 127

/-- The preset as its index. -/
def presetIx : Preset → Nat
  | .sandpiper => 0 | .heron => 1 | .bittern => 2

/-- Sum of products of taps and a history, newest first; a zero sample adds nothing. -/
def dotTaps (tap : Nat → Rat) : Nat → List Int → Rat
  | _, [] => 0
  | i, x :: l => (if x = 0 then 0 else tap i * x) + dotTaps tap (i + 1) l

/-- Tap i of a stage. The linear-phase presets are symmetric, c[i] = c[N - 1 - i], so that a stage delays by (N - 1) / 2
(R175, Table 07-1); the values themselves are fixed by the preset and not in the spec (log entry 5). -/
def halfTap (p : Preset) (i : Nat) : Rat :=
  Config.halfTap (presetIx p) (if p = .sandpiper then i else Nat.min i (presetTaps p - 1 - i))

/-- Output of a halfband stage from its history. -/
def stageOut (p : Preset) (h : List Int) : Int :=
  if h.all (· == 0) then 0 else wrap48 (toGrid (dotTaps (halfTap p) 0 h))

/-- Pushes one input through the stages; `i` is the index of the input within its sample. Each stage outputs at every
second input. -/
def chainTick (p : Preset) : Nat → List (List Int) → Int → List (List Int) × Option Int
  | _, [], x => ([], some x)
  | i, h :: r, x =>
    let h' := (x :: h).take (presetTaps p)
    if i % 2 = 1 then
      let (r', y) := chainTick p (i / 2) r (stageOut p h')
      (h' :: r', y)
    else (h' :: r, none)

/-- Number of stages: log2(OSR). -/
def stageCount (osr : Nat) : Nat := if osr = 2 then 1 else if osr = 4 then 2 else 3

/-- Delay of a chain in 1/16 smp: 16 x Table 07-2 (R175, R176). -/
def groupDelay16 (p : Preset) (osr : Nat) : Nat :=
  let d2 := match p with | .sandpiper => 7 | .heron => 62 | .bittern => 126
  32 + (((List.range (stageCount osr)).map fun k => d2 * 8 * 2 ^ k).sum) / osr

/-! ## Shaping FIR (R177, R178) -/

/-- Output of a coefficient bank over a history: the exact Q2.30 sum brought back to the sample grid. -/
def firOut (c : List Int) (h : List Int) : Int :=
  wrap48 (toGrid (mkRat ((List.zipWith (· * ·) c h).sum) 1073741824))

/-- Active and inactive coefficients. -/
def Bus.active (b : Bus) : List Int := if b.activeB then b.coefB else b.coefA

/-- Inactive coefficients. -/
def Bus.inactive (b : Bus) : List Int := if b.activeB then b.coefA else b.coefB

/-- Writes the inactive bank. -/
def Bus.load (b : Bus) (c : List Int) : Bus := if b.activeB then { b with coefA := c } else { b with coefB := c }

/-- The FIR with its cross-fade, weight w = (j + 1) / 256 (R178). -/
def Bus.fir (b : Bus) (h : List Int) : Int :=
  match b.fade with
  | some j =>
    if j < 256 then
      let w := mkRat (j + 1) 256
      wrap48 (toGrid ((1 - w) * firOut b.active h + w * firOut b.inactive h))
    else firOut b.inactive h
  | none => firOut b.active h

/-! ## Ramps (R171, R278) -/

/-- Value of a ramp at its next sample: it moves linearly over 32 samples. -/
def Ramp.value (r : Ramp) : Rat :=
  if 32 ≤ r.pos then r.target else r.origin + (r.target - r.origin) * mkRat (r.pos + 1) 32

/-- The ramp one sample later. -/
def Ramp.step (r : Ramp) : Ramp := if r.pos < 32 then { r with pos := r.pos + 1 } else r

/-- The value the ramp has reached. -/
def Ramp.now (r : Ramp) : Rat :=
  if 32 ≤ r.pos then r.target else r.origin + (r.target - r.origin) * mkRat r.pos 32

/-- A new target from the present value. -/
def Ramp.to (r : Ramp) (x : Rat) : Ramp := { origin := r.now, target := x, pos := 0 }

/-- Linear gain of a bus: its gain, or 0 when it is disabled (R171). -/
def Bus.linear (b : Bus) : Rat := if b.on then dbOff b.cB else 0

/-! ## Detectors (R183 to R186) -/

/-- One sample of the three detectors. -/
def detTick (s : State) (b : Bus) : Bus :=
  let x := absQ (mkRat b.out 2147483648)
  let (p, h) :=
    if b.peak ≤ x then (x, 0)
    else if b.peakHoldMs * s.fs ≤ b.hold * 1000 then
      let d := b.peak * Config.exp10 (-(b.peakDecay : Rat) / (20 * s.fs))
      (if d < x then x else d, b.hold)
    else (b.peak, b.hold + 1)
  let tau : Rat := if b.env < x then b.attackUs else b.releaseUs
  let e := if x = b.env then b.env else b.env + (1 - Config.expE (-1000000 / (tau * s.fs))) * (x - b.env)
  { b with peak := p, hold := h, sq := (x * x :: b.sq).take (s.rmsWindow b), env := e }

/-! ## TDM ports (R188 to R192) -/

/-- Slots of a frame: 2 for I2S and LJ. -/
def Port.frameSlots (p : Port) : Nat := if p.format = 2 then p.slots else 2

/-- The slots a master port may have at an Fs (R189). -/
def slotLimit (fs : Nat) : Nat := if fs ≤ 1 then 16 else if fs ≤ 3 then 8 else 4

/-- The frame of a master port does not fit (R189). -/
def Port.tooLong (p : Port) (fs : Nat) : Bool := !p.slave && decide (slotLimit fs < p.slots)

/-- Ring sum of bus n at the present sample (R280); the local bus output on a standalone unit (Table 07-7). -/
def State.ringBus (s : State) (n : Nat) : Int :=
  if s.onRing then (s.ring.total.getD n []).getD (s.smp.toNat % 32) 0 else (s.bus n).out

/-- A bus output rounded to a word, halves up, saturating (R191), as a 32-bit value with its MSB at bit 31. -/
def toWord (bits : Nat) (x : Int) : Int :=
  let q : Int := 2 ^ (32 - bits)
  let w := (2 * x + q) / (2 * q)
  let top : Int := 2 ^ (bits - 1)
  clampI (-top) (top - 1) w * q

/-- What an OUT port sends in a slot (Table 07-7). -/
def State.slotWord (s : State) (p : Port) (k : Nat) : Int :=
  let c := p.codes.getD k 255
  if c < 32 then toWord p.wordBits (s.bus c).out
  else if c < 64 then toWord p.wordBits (s.ringBus (c - 32))
  else 0

/-- The frame an OUT port sends. -/
def State.outFrame (s : State) (p : Port) : List Int := (List.range p.frameSlots).map (s.slotWord p)

/-- A received word: its upper bits, sign-extended (R191). -/
def inWord (bits : Nat) (w : Int) : Int := (sat32 w / 2 ^ (32 - bits)) * 2 ^ (32 - bits)

/-- What the IN ports add to a bus at this sample (R169 step 4, Table 07-7). -/
def State.tdmAdd (s : State) (n : Nat) : Int :=
  ((List.range 6).map fun i =>
    let p := s.port i
    if p.enable && p.isIn && p.st == .running then
      ((List.range p.frameSlots).map fun k => if p.codes.getD k 255 = n then p.words.getD k 0 else 0).sum
    else 0).sum

/-- The AMC side of a port at the end of a sample: a master sends its frame; a slave's FIFO is filled or drained (R190). -/
def portSample (s : State) (i : Nat) : State :=
  let p := s.port i
  if p.enable = false ∨ p.st ≠ .running then s
  else if p.slave then
    if p.isIn then
      match p.fifo with
      | f :: r => s.updPort i fun p => { p with fifo := r, words := f }
      | [] => s.updPort i fun p => { p with slips := p.slips + 1 }
    else if p.fifo.length < 4 then s.updPort i fun p => { p with fifo := p.fifo ++ [s.outFrame p] }
    else s.updPort i fun p => { p with slips := p.slips + 1 }
  else if p.isIn then s
  else s.updPort i fun p => { p with words := s.outFrame p }

/-- A running master IN port takes the frame whose last bit arrives in this sample, which its buses add in the same sample
(Table 07-5). Slots beyond `tpN.slots` are ignored (R192). -/
def masterIn (s : State) (i : Nat) : State :=
  let p := s.port i
  if p.enable && p.st == .running && p.isIn && !p.slave then
    s.updPort i fun p => { p with words := ((Config.tdmIn i s.core.ticks).take p.frameSlots).map (inWord p.wordBits) }
  else s

/-- A slave port sees an FS rising edge after `bclks` BCLK: a frame too short for its words reads BAD_SLOT; at the second
good frame in a row the port re-centres and reads RUNNING; then one frame passes (R190). -/
def slaveFrame (s : State) (i bclks : Nat) (words : List Int) : State :=
  let p := s.port i
  if p.enable = false ∨ p.slave = false then s
  else if bclks / p.frameSlots < p.wordBits then
    s.updPort i fun p => { p with st := .badSlot, good := 0, words := if p.isIn then p.words else [] }
  else
    let w := ((List.range p.frameSlots).map fun k => inWord p.wordBits (words.getD k 0))
    if p.st ≠ .running then
      if p.good = 0 then s.updPort i fun p => { p with good := 1 }
      else s.updPort i fun p => { p with
        good := 2, st := .running, fifo := if p.isIn then [p.words, w] else [[], []] }
    else if p.isIn then
      if p.fifo.length < 4 then s.updPort i fun p => { p with fifo := p.fifo ++ [w] }
      else s.updPort i fun p => { p with slips := p.slips + 1 }
    else match p.fifo with
      | f :: r => s.updPort i fun p => { p with fifo := r, words := f }
      | [] => s.updPort i fun p => { p with slips := p.slips + 1 }

/-- No FS edge for 4 frame periods (R190). -/
def noClock (s : State) (i : Nat) : State :=
  let p := s.port i
  if p.enable && p.slave then
    s.updPort i fun p => { p with st := .noClock, good := 0, words := if p.isIn then p.words else [] }
  else s

/-- State of a port as `tpN.enable` lands or as the engine starts (R188, R189): a slave waits for its clock. -/
def portStart (s : State) (i : Nat) : State :=
  s.updPort i fun p =>
    if p.enable = false then { p with st := .off, good := 0 }
    else if p.tooLong s.core.fs then { p with st := .frameTooLong, words := [] }
    else if p.slave then { p with st := if p.st = .running then .running else .noClock }
    else { p with st := .running }

/-! ## Coefficient switches (R105, R178, R179, R182) -/

/-- Two masks name a common bus. -/
def sharesBus (a b : BitVec 32) : Bool := a &&& b != 0

/-- A bus of the mask is fading. -/
def State.fadesIn (s : State) (m : BitVec 32) : Bool := (busesOf m).any fun n => (s.bus n).fade.isSome

/-- The fade starts on every bus of the mask. -/
def startFade (s : State) (m : BitVec 32) : State := foldS (busesOf m) s fun s n => s.updBus n fun b => { b with fade := some 0 }

/-- The inactive bank of every bus of the mask takes the coefficients. -/
def loadBanks (s : State) (m : BitVec 32) (c : List Int) : State := foldS (busesOf m) s fun s n => s.updBus n fun b => b.load c

/-- The switches none of whose buses fades any more complete (R179 step 1). -/
def switchesDone (s : State) : State :=
  let ended := fun (w : CoefSw) => w.phase == .fading && !s.fadesIn w.mask
  let l := s.mix.switches.filter ended
  foldS l { s with mix := { s.mix with switches := s.mix.switches.filter fun w => !ended w } } fun s w =>
    finishRef s w.ref .ok (.note 0)

/-- The loads none of whose buses fades any more write and complete, in execution order (R179 step 2). -/
def applyWaits (s : State) : State :=
  foldS s.mix.coefWaits { s with mix := { s.mix with coefWaits := [] } } fun s w =>
    if s.fadesIn w.mask then { s with mix := { s.mix with coefWaits := s.mix.coefWaits ++ [w] } }
    else ok (loadBanks s w.mask w.coefs) w.t w.g

/-- A queued switch whose buses no other switch holds is next. -/
def State.isNext (s : State) (w : CoefSw) : Bool :=
  w.phase == .queued && s.mix.switches.all fun v => v.phase == .queued || !sharesBus v.mask w.mask

/-- The queued switches that are next start now, or at the next block boundary when a reset ended the fade (R179 step 3,
R182). -/
def startQueued (s : State) (byReset : Bool) : State :=
  let l := s.mix.switches.filter s.isNext
  let l' := s.mix.switches.map fun w =>
    if s.isNext w then { w with phase := if byReset then .putOff true else .fading } else w
  let s := { s with mix := { s.mix with switches := l' } }
  if byReset then s else foldS l s fun s w => startFade s w.mask

/-- The fades of the listed buses end (R178, R179): their banks exchange roles, then switches complete, loads that waited
write, and queued switches start. -/
def endFades (s : State) (l : List Nat) (byReset : Bool) : State :=
  let s := foldS l s fun s n => s.updBus n fun b => { b with activeB := !b.activeB, fade := none }
  startQueued (applyWaits (switchesDone s)) byReset

/-- Buses whose fade has run its 256 samples. -/
def State.dueFades (s : State) : List Nat := allBuses.filter fun n => (s.bus n).fade == some 256

/-- Ends every fade that has run its 256 samples. -/
def endDueFades (s : State) : State := if s.dueFades = [] then s else endFades s s.dueFades false

/-- A synchronising reset of one bus (R180 to R182). A fade that starts at the same boundary goes on, on the cleared history. -/
def syncReset (s : State) (n : Nat) : State :=
  let s := match (s.bus n).fade with
    | some (_ + 1) => endFades s [n] true
    | _ => s
  s.updBus n fun b => { b with
    stages := [[], [], []], hist := [], fifo := [0, 0], out := 0, peak := 0, hold := 0, sq := [], env := 0 }

/-- Starts the switches that a reset put off to this boundary (R182). -/
def startPutOff (s : State) : State :=
  let l := s.mix.switches.filter fun w => w.phase == .putOff false
  let l' := s.mix.switches.map fun w => if w.phase = .putOff false then { w with phase := .fading } else w
  let s := { s with mix := { s.mix with switches := l' } }
  foldS l s fun s w => startFade s w.mask

/-- A COEF_SWITCH lands: it starts its fade on the buses it names (R178). -/
def landSwitch (s : State) (m : BitVec 32) : State :=
  if s.mix.switches.any (fun w => w.phase == .landing && w.mask == m) then
    let l := s.mix.switches.map fun w => if w.phase = .landing ∧ w.mask = m then { w with phase := .fading } else w
    startFade { s with mix := { s.mix with switches := l } } m
  else s

/-- COEF_LOAD executes: with a named bus fading it waits, and it loads all its buses when none of them fades (R105, R177). -/
def doCoefLoad (s : State) (t : Tenant) (g : Tag) (m : BitVec 32) (c : List Int) : State :=
  if s.fadesIn m then
    startLong { s with mix := { s.mix with coefWaits := s.mix.coefWaits ++ [{ t := t, g := g, mask := m, coefs := c }] } } t g
  else ok (loadBanks s m c) t g

/-- COEF_SWITCH executes: it starts at the next boundary, queues behind the switches of its buses, or completes FADE_PENDING
when a named bus has one queued (R105). A mask that names no bus has nothing to fade: DESIGN CHOICE, log entry 30, it
completes OK at once. -/
def doCoefSwitch (s : State) (t : Tenant) (g : Tag) (m : BitVec 32) : State :=
  let l := s.mix.switches.filter fun w => sharesBus w.mask m
  if l.any fun w => w.phase != .landing && w.phase != .fading then fail s t g .fadePending
  else if m = 0 then ok s t g
  else
    let add := fun (p : SwPhase) (s : State) =>
      { s with mix := { s.mix with switches := s.mix.switches ++ [{ ref := some (t, g), mask := m, phase := p }] } }
    if l = [] then (add .landing (startLong s t g)).writeB (.coefSwitch m t g) else add .queued (startLong s t g)

/-! ## One engine tick and one sample of a bus (R169 to R172) -/

/-- Factor of the stop fade of R31: linear over 20 ms (log entry 27). -/
def State.stopFactor (s : State) : Rat :=
  match s.core.run with
  | .running => 1
  | .stopping => clampQ 0 1 (1 - (s.core.stopPos : Rat) * 50 / s.fs)
  | .stopped => 0

/-- Steps 4 to 7 of R169 for one bus, and its detectors, once per sample; `y` is the decimated sum. -/
def busSample (s : State) (n : Nat) (y : Int) : State :=
  let b := s.bus n
  let h := (y :: b.hist).take 64
  let sum := wrap48 (b.fir h + s.tdmAdd n)
  let gain := b.ramp.value * s.stopFactor
  let x := if gain = 1 then sum else wrap48 (toGrid (gain * sum))
  let z := sat32 x
  let s := if z = x then s else { s with mix := { s.mix with clip := s.mix.clip ||| BitVec.ofNat 32 (2 ^ n) } }
  s.updBus n fun b => detTick s { b with
    hist := h, ramp := b.ramp.step, contribRamp := b.contribRamp.step, fade := b.fade.map fun j => Nat.min 256 (j + 1),
    out := b.fifo.headD 0, fifo := b.fifo.drop 1 ++ [z] }

/-- One engine tick of one bus: the sum of the sends passes the stages; at the last tick of a sample the rest of R169
follows. -/
def busTick (s : State) (n : Nat) : State :=
  let b := s.bus n
  let k := stageCount s.core.osr
  let (st, y) := chainTick s.mix.preset s.core.tide.et (b.stages.take k) (wrap48 b.send)
  let s := s.updBus n fun b => { b with stages := st ++ b.stages.drop k, send := 0 }
  match y with
  | some y => busSample s n y
  | none => s

/-! ## The bus commands (Table 04-7) -/

/-- The buses BUS_CONFIG names. -/
def busList (b : Option Nat) : List Nat := match b with
  | some n => [n]
  | none => allBuses

/-- A class-B write for each named bus. -/
def doBusWrite (s : State) (t : Tenant) (g : Tag) (b : Option Nat) (w : Nat → Write) : State :=
  ok (foldS (busList b) s fun s n => s.writeB (w n)) t g

/-- GAIN lands (R171). -/
def landGain (s : State) (n : Nat) (cB : Int) : State :=
  s.updBus n fun b =>
    let b := { b with cB := cB }
    { b with ramp := b.ramp.to b.linear }

/-- ENABLE lands (R171). -/
def landEnable (s : State) (n : Nat) (on : Bool) : State :=
  s.updBus n fun b =>
    let b := { b with on := on }
    { b with ramp := b.ramp.to b.linear }

/-- RING lands (R278). -/
def landContrib (s : State) (n : Nat) (on : Bool) : State :=
  s.updBus n fun b => { b with contrib := on, contribRamp := b.contribRamp.to (if on then 1 else 0) }

/-- DECIM_CONFIG executes: the preset goes to the inactive banks and is swapped in at the next RUN (R174). -/
def doDecim (s : State) (t : Tenant) (g : Tag) (p : Preset) : State :=
  if s.engStopped then ok { s with mix := { s.mix with presetNext := p } } t g else fail s t g .busyClassX

/-- Detector values of one bus: peak, RMS, envelope (R186). -/
def detValues (s : State) (d : BitVec 3) (n : Nat) : List Byte :=
  let b := s.bus n
  (if d.getLsbD 0 then leInt 2 (dbFs b.peak) else []) ++ (if d.getLsbD 1 then leInt 2 (dbFs (s.busRms b)) else [])
    ++ (if d.getLsbD 2 then leInt 2 (dbFs b.env) else [])

/-- DETECT_READ of buses. -/
def doDetectBuses (s : State) (t : Tenant) (g : Tag) (d : BitVec 3) (m : BitVec 32) : State :=
  okBytes s t g ((busesOf m).map (detValues s d)).flatten

/-- DETECT_READ of a note: RMS and audibility score (R156). -/
def doDetectNote (s : State) (t : Tenant) (g : Tag) (id : BitVec 32) : State :=
  match s.voices.find? fun v => v.named && v.owner == .tenant t && v.noteId == id with
  | none => fail s t g .notFound
  | some v => okBytes s t g (leInt 2 (dbFs (voiceRms s v)) ++ leInt 2 v.score ++ [0, 0, 0, 0])

/-! ## The rows -/

/-- BUS_CONFIG with operation GAIN. -/
def execBusConfigGain (t : Tenant) (g : Tag) (s : State) : Host.Outcome State Fault Refusal :=
  .next (onCmd s t g fun b => match b with
    | .busGain n c => some (doBusWrite s t g n fun n => .busGain n c)
    | _ => none)

/-- BUS_CONFIG with operation ENABLE. -/
def execBusConfigEnable (t : Tenant) (g : Tag) (s : State) : Host.Outcome State Fault Refusal :=
  .next (onCmd s t g fun b => match b with
    | .busEnable n on => some (doBusWrite s t g n fun n => .busEnable n on)
    | _ => none)

/-- BUS_CONFIG with operation RESYNC. -/
def execBusConfigResync (t : Tenant) (g : Tag) (s : State) : Host.Outcome State Fault Refusal :=
  .next (onCmd s t g fun b => match b with
    | .busResync n => some (doBusWrite s t g n fun n => .busResync n)
    | _ => none)

/-- BUS_CONFIG with operation RING. -/
def execBusConfigRing (t : Tenant) (g : Tag) (s : State) : Host.Outcome State Fault Refusal :=
  .next (onCmd s t g fun b => match b with
    | .busRing n on => some (doBusWrite s t g n fun n => .busRing n on)
    | _ => none)

/-- DECIM_CONFIG. -/
def execDecimConfig (t : Tenant) (g : Tag) (s : State) : Host.Outcome State Fault Refusal :=
  .next (onCmd s t g fun b => match b with
    | .decimConfig p => some (doDecim s t g p)
    | _ => none)

/-- COEF_LOAD. -/
def execCoefLoad (t : Tenant) (g : Tag) (s : State) : Host.Outcome State Fault Refusal :=
  .next (onCmd s t g fun b => match b with
    | .coefLoad m c => some (doCoefLoad s t g m c)
    | _ => none)

/-- COEF_SWITCH. -/
def execCoefSwitch (t : Tenant) (g : Tag) (s : State) : Host.Outcome State Fault Refusal :=
  .next (onCmd s t g fun b => match b with
    | .coefSwitch m => some (doCoefSwitch s t g m)
    | _ => none)

/-- COEF_FADE_END: at the first tick of the 256th sample after the boundary at which the fade began, with every other fade that
ends at that tick; ENGINE_TICK does the same when this row has not been given. -/
def execCoefFadeEnd (n : Fin 32) (s : State) : Host.Outcome State Fault Refusal :=
  .next (if (s.bus n.val).fade = some 256 then endDueFades s else s)

/-- DETECT_READ. -/
def execDetectRead (t : Tenant) (g : Tag) (s : State) : Host.Outcome State Fault Refusal :=
  .next (onCmd s t g fun b => match b with
    | .detectBuses d m => some (doDetectBuses s t g d m)
    | .detectNote _ id => some (doDetectNote s t g id)
    | _ => none)

/-- TDM_SLAVE_FRAME. -/
def execTdmSlaveFrame (p : Fin 6) (bclks : Nat) (words : List Int) (s : State) : Host.Outcome State Fault Refusal :=
  .next (slaveFrame s p.val bclks words)

/-- TDM_NO_CLOCK. -/
def execTdmNoClock (p : Fin 6) (s : State) : Host.Outcome State Fault Refusal := .next (noClock s p.val)

end Sys2Proof.Machine
end

