-- ==== Sys2Proof/Machine/FieldOut.lean ====
section
/-! DEFINITION. Field outputs: line, CV and gate outputs, their codes, glides, SAFE, queues, limits and pad hold, and
the commands of Table 04-8 (R193 to R217). -/

namespace Sys2Proof.Machine

/-! ## States of an output (Table 08-1) -/

/-- High impedance of any kind. -/
def OutState.highZ (o : OutState) : Bool := o == .hiz || o == .hizRetrying || o == .hizLatched

/-- Driven, limiting or SAFE. -/
def OutState.live (o : OutState) : Bool := o == .driven || o == .limit || o == .safe

/-- The outputs of the field die are held (R213). -/
def State.fieldHeld (s : State) : Bool := s.field.hold.isSome

/-- An enable may drive an output now: the field die is ready, its link is up, and the pads are not held. -/
def State.mayDrive (s : State) : Bool := s.field.ready && s.field.link == .ok && !s.fieldHeld

/-! ## CV outputs (R197a, R200 to R205) -/

/-- The code for 0 V in a span (Table 08-3). -/
def zeroCode (span : Nat) : BitVec 16 := if span < 2 then 0 else 0x8000

/-- S = ceil(50 us x Fs) samples of SAFE (R200). -/
def safeSamples (fs : Nat) : Nat := (50 * fs + 999999) / 1000000

/-- J = max(1, round(glide time x Fs / 1,000,000)) samples (R204). -/
def glideSamples (us fs : Nat) : Nat := Nat.max 1 ((2 * us * fs + 1000000) / 2000000)

/-- A code from an exact value, rounded to nearest. -/
def toCode (x : Rat) : BitVec 16 := BitVec.ofInt 16 (clampI 0 65535 (roundHalfUp x))

/-- A target code lands on an output (R204, R205): a glide from the code in effect when the output is driven and a glide
is set, the target alone otherwise. -/
def CvOut.land (c : CvOut) (code : BitVec 16) (noGlide : Bool) : CvOut :=
  if c.glide ≠ 0 ∧ noGlide = false ∧ (c.st = .driven ∨ c.st = .limit) then
    { c with target := code, gliding := true, gExact := c.code.toNat, gFrom := c.code.toNat, gPos := 0 }
  else { c with target := code, gliding := false }

/-- One sample of a running glide (R204). -/
def CvOut.glideStep (c : CvOut) (fs : Nat) : CvOut :=
  let b : Rat := c.target.toNat
  if c.glide = 1 then
    let j := c.gPos + 1
    let n := glideSamples c.glideVal fs
    let x := if n ≤ j then b else c.gFrom + (b - c.gFrom) * mkRat j n
    { c with code := toCode x, gExact := x, gPos := j, gliding := decide (j < n) }
  else
    let d := mkRat (c.glideVal * 1000) fs
    let x := if absQ (b - c.gExact) ≤ d then b else if c.gExact < b then c.gExact + d else c.gExact - d
    { c with code := toCode x, gExact := x, gPos := c.gPos + 1, gliding := x != b }

/-- A sample is a drain sample: each one at 44.1 and 48 kHz, the even ones above (R202). -/
def isDrain (fsIx : Nat) (smp : Smp) : Bool := decide (fsIx ≤ 1) || smp.toNat % 2 == 0

/-- The queue drains in this state (R202, R203). -/
def CvOut.drains (c : CvOut) : Bool :=
  c.queueMode && (c.st.live || c.st == .hizRetrying || c.st == .held)

/-- A drain sample: the next code is a new target, or the empty queue counts an underrun (R202, R203). -/
def CvOut.drain (c : CvOut) (smp : Smp) : CvOut :=
  match c.queue with
  | b :: r =>
    if (c.startAt.all fun a => decide (a.toNat ≤ smp.toNat)) then
      { ({ c with queue := r, startAt := none } : CvOut).land b false with dry := true }
    else c
  | [] => if c.dry then { c with underruns := c.underruns + 1 } else c

/-- The end of SAFE: the target is driven in the new span with no glide (R200); an output that limits is in LIMIT. -/
def CvOut.endSafe (c : CvOut) : CvOut :=
  { c with st := if c.limiting then .limit else .driven, code := c.target, gliding := false }

/-- SAFE counts one sample, or ends when it has none left (R200). -/
def CvOut.safeStep (c : CvOut) : CvOut :=
  if c.st = .safe then
    if c.safeLeft = 0 then c.endSafe else { c with safeLeft := c.safeLeft - 1 }
  else c

/-- The code of a sample, from the state in effect at its first engine tick (R197a); the DAC takes it while the link
brings it. -/
def CvOut.sample (c : CvOut) (fs fsIx : Nat) (smp : Smp) (linked : Bool) : CvOut :=
  let c := c.safeStep
  let c := if c.drains && isDrain fsIx smp then c.drain smp else c
  let c :=
    if c.st = .safe then { c with code := zeroCode c.span, gliding := false }
    else if c.gliding then c.glideStep fs
    else { c with code := c.target }
  if linked then { c with dac := c.code } else c

/-- Glide, timer period and fault policy of CV_CONFIG land (R201, R204, R205): a glide time restarts a glide in progress, a
rate changes its step. -/
def CvOut.settings (c : CvOut) (a : CvArgs) : CvOut :=
  let c :=
    if c.gliding = false then { c with glide := a.glide, glideVal := a.glideVal }
    else if a.glide = 0 then { c with glide := 0, glideVal := a.glideVal, gliding := false }
    else if a.glide = 2 ∧ c.glide = 2 then { c with glideVal := a.glideVal }
    else { c with glide := a.glide, glideVal := a.glideVal, gExact := c.code.toNat, gFrom := c.code.toNat, gPos := 0 }
  { c with period := a.period, latch := a.latch }

/-- Span and enable of CV_CONFIG land (R194, R200); `drive`: an enable may drive the output now. -/
def CvOut.config (c : CvOut) (a : CvArgs) (fs : Nat) (drive ready : Bool) : CvOut :=
  let c :=
    if a.span = c.span then c
    else if c.st.live then { c with span := a.span, st := .safe, safeLeft := safeSamples fs, gliding := false }
    else { c with span := a.span }
  if ready = false then c
  else if a.enable then
    if c.st = .hiz ∨ c.st = .hizLatched then
      if drive then { c with enable := true, st := .driven, gliding := false, retrying := false }
      else if c.st = .hizLatched then { c with enable := true, st := .held }
      else { c with enable := true }
    else { c with enable := true }
  else if c.st.live ∨ c.st = .hizRetrying then
    { c with enable := false, st := .hiz, queue := [], startAt := none, dry := false, retrying := false, limiting := false }
  else { c with enable := false }

/-- A CV output is active for a trim: enabled, in any state but HIZ_LATCHED (Table 14-4). -/
def CvOut.active (c : CvOut) : Bool := c.enable && c.st != .hizLatched

/-- A trim that runs on an inactive target is abandoned, and the target counts as skipped (R349). -/
def abandonTrim (s : State) (target : Nat) : State :=
  match s.cal.trim with
  | some r =>
    if r.targets.contains target then
      { s with cal := { s.cal with trim := some { r with
          targets := r.targets.filter (· != target), skipped := r.skipped ++ [target], limited := true } } }
    else s
  | none => s

/-- Drops an output from the HIZ_LATCHED record of a hold, since an enable write has reached it (R194, R215). -/
def FieldHold.free (h : FieldHold) (n : Nat) : FieldHold := { h with limited := h.limited.filter (· != n) }

/-- What changes the state of an output waits while the link is silent: R12 holds the outputs as they are. -/
def State.putLate (s : State) (l : LateOut) : State := { s with field := { s.field with late := s.field.late ++ [l] } }

/-- Span and enable of CV_CONFIG reach the field die. -/
def cvSwitch (s : State) (a : CvArgs) : State :=
  let n := a.out.val
  let s := s.updCv n fun c => c.config a s.fs s.mayDrive s.field.ready
  if a.enable then
    { s with field := { s.field with hold := s.field.hold.map fun h =>
        { h.free n with cvs := h.cvs.set n (if h.cvs.getD n .hiz = .hizLatched then .hiz else h.cvs.getD n .hiz) } } }
  else s

/-- CV_CONFIG lands (Table 04-8). -/
def landCvConfig (s : State) (a : CvArgs) : State :=
  let n := a.out.val
  let s := if a.enable && !(s.cv n).active then abandonTrim s n else s
  let s := s.updCv n fun c => c.settings a
  if s.field.link = .silent then (s.updCv n fun c => { c with enable := a.enable }).putLate (.cv a) else cvSwitch s a

/-- CV_CONFIG executes: the mode changes at once when the output is in high impedance (R97, R195); the rest lands by
class L. A mode change empties the queue. -/
def doCvConfig (s : State) (t : Tenant) (g : Tag) (a : CvArgs) : State :=
  let c := s.cv a.out.val
  if s.fieldDown then fail s t g .fieldDown
  else if a.queue = c.queueMode then ok (s.writeL (.cvConfig a)) t g
  else if c.st.highZ then
    let s := s.updCv a.out.val fun c => { c with queueMode := a.queue, queue := [], startAt := none, dry := false }
    ok (s.writeL (.cvConfig a)) t g
  else fail s t g .busyClassX

/-- Offset of the first CV_SET entry that names an output in QUEUE mode (R106). -/
def queueEntry (s : State) : List CvEntry → Nat → Option Nat
  | [], _ => none
  | e :: l, off => if (s.cv e.out.val).queueMode then some off else queueEntry s l (off + 4)

/-- CV_SET executes: its entries wait for the timer tick of the first output, or land at the due tick (R106, R201). -/
def doCvSet (s : State) (t : Tenant) (g : Tag) (timed : Bool) (l : List CvEntry) : State :=
  match queueEntry s l 0 with
  | some off => badField s t g off
  | none =>
    if s.fieldDown then fail s t g .fieldDown
    else
      let p : PendCv := { timer := if timed then none else l.head?.map (·.out), entries := l }
      ok { s with field := { s.field with pendCv := s.field.pendCv ++ [p] } } t g

/-- One CV_SET entry lands. -/
def landCvEntry (s : State) (e : CvEntry) : State := s.updCv e.out.val fun c => c.land e.code e.noGlide

/-- Lands the CV_SETs that are due at this tick (R106, R201). -/
def landCvSets (s : State) : State :=
  let due := fun (p : PendCv) => match p.timer with
    | none => true
    | some n => s.core.tide.et == 0 && !p.fresh && s.smp.toNat % (Nat.max 1 (s.cv n.val).period) == 0
  let l := s.field.pendCv
  let s := { s with field := { s.field with
    pendCv := (l.filter fun p => !due p).map fun p => { p with fresh := false } } }
  foldS (l.filter due) s fun s p => foldS p.entries s landCvEntry

/-- CV_QUEUE executes: codes join the queue up to its free space; an empty queue starts at the next drain sample, or at
the first one at or after the due sample (R106, R202). -/
def doCvQueue (s : State) (t : Tenant) (g : Tag) (due : Option Smp) (n : Nat) (codes : List (BitVec 16)) : State :=
  let c := s.cv n
  if c.queueMode = false then badField s t g 0
  else if s.fieldDown then fail s t g .fieldDown
  else
    let k := Nat.min codes.length (64 - c.queue.length)
    let start := if c.queue = [] then some (due.getD (s.smp + 1)) else c.startAt
    okShort (s.updCv n fun c => { c with queue := c.queue ++ codes.take k, startAt := start }) t g k

/-! ## Gates (R208, R209) -/

/-- GATE_SET executes; it waits for its tick. -/
def doGateSet (s : State) (t : Tenant) (g : Tag) (timed : Bool) (mask levels : BitVec 8) : State :=
  if s.fieldDown then fail s t g .fieldDown
  else
    let p : PendGate := { timer := !timed, mask := mask, levels := levels, t := t }
    ok { s with field := { s.field with pendGate := s.field.pendGate ++ [p] } } t g

/-- The pin of a gate takes its stored level while the link brings it (R12) and the output is not held (R213). -/
def State.setGate (s : State) (n : Nat) (high : Bool) (t : Tenant) : State :=
  s.updGt n fun o => { o with high := high, setter := some t, pin := if s.field.link = .ok ∧ s.fieldHeld = false then high else o.pin }

/-- Lands one GATE_SET. -/
def landGate (s : State) (p : PendGate) : State :=
  foldS (List.range 8) s fun s n => if p.mask.getLsbD n then s.setGate n (p.levels.getLsbD n) p.t else s

/-- Lands the GATE_SETs that are due at this tick (R208). -/
def landGates (s : State) : State :=
  let due := fun (p : PendGate) =>
    !p.timer || (s.core.tide.et == 0 && !p.fresh && s.smp.toNat % (Nat.max 1 s.field.gateTimer) == 0)
  let l := s.field.pendGate
  let s := { s with field := { s.field with
    pendGate := (l.filter fun p => !due p).map fun p => { p with fresh := false } } }
  foldS (l.filter due) s landGate

/-- The RELEASE actions of a tenant set the gates it last set low (R209). -/
def releaseGates (s : State) (t : Tenant) : State :=
  foldS (List.range 8) s fun s n => if (s.gt n).setter = some t then s.setGate n false t else s

/-- `gtN.enable` ON or OFF reaches a gate (R194). -/
def GateOut.setEnable (o : GateOut) (on drive : Bool) : GateOut :=
  if on then
    if o.st = .hiz ∨ o.st = .hizLatched then
      if drive then { o with enable := true, st := .driven, retrying := false }
      else if o.st = .hizLatched then { o with enable := true, st := .held }
      else { o with enable := true }
    else { o with enable := true }
  else if o.st.live ∨ o.st = .hizRetrying then { o with enable := false, st := .hiz, retrying := false }
  else { o with enable := false }

/-- `gtN.enable` reaches the field die. -/
def gtSwitch (s : State) (n : Nat) (on : Bool) : State :=
  if s.field.ready = false then s
  else
    let s := s.updGt n fun o => o.setEnable on s.mayDrive
    if on then
      { s with field := { s.field with hold := s.field.hold.map fun h =>
        { h.free (16 + n) with
          gates := h.gates.set n (if h.gates.getD n .hiz = .hizLatched then .hiz else h.gates.getD n .hiz) } } }
    else s

/-- `gtN.enable` lands. -/
def landGtEnable (s : State) (n : Nat) (on : Bool) : State :=
  if s.field.link = .silent then (s.updGt n fun o => { o with enable := on }).putLate (.gate n on) else gtSwitch s n on

/-! ## Line outputs (R196 to R199) -/

/-- Samples of 10 ms, rounded up (R198). -/
def muteSamples (fs : Nat) : Nat := (fs + 99) / 100

/-- A line output goes into SAFE for 10 ms, from the next sample on (R198). -/
def LineOut.mute (o : LineOut) (fs : Nat) : LineOut :=
  { o with st := .safe, safeLeft := muteSamples fs, disabling := false }

/-- Span and enable of LINE_CONFIG land (R198). -/
def LineOut.config (o : LineOut) (a : LineArgs) (fs : Nat) (drive ready : Bool) : LineOut :=
  let o :=
    if a.consumer = o.consumer then o
    else if o.st.live ∧ o.disabling = false then { (o.mute fs) with consumer := a.consumer }
    else { o with consumer := a.consumer }
  if ready = false then o
  else if a.enable then
    let o := { o with enable := true }
    if drive ∧ (o.st = .hiz ∨ o.disabling) then o.mute fs else o
  else
    let o := { o with enable := false }
    if o.st.live then { o with st := .safe, disabling := true, safeLeft := 0, carries := false, level := 0 } else o

/-- Span and enable of LINE_CONFIG reach the field die. -/
def lineSwitch (s : State) (a : LineArgs) : State :=
  s.updLo a.out.val fun o => o.config a s.fs s.mayDrive s.field.ready

/-- LINE_CONFIG's span and enable land at their tick. -/
def landLine (s : State) (a : LineArgs) : State :=
  let s := if a.enable && !(s.lo a.out.val).enable then abandonTrim s (24 + a.out.val) else s
  if s.field.link = .silent then (s.updLo a.out.val fun o => { o with enable := a.enable }).putLate (.line a)
  else lineSwitch s a

/-- What waited for the link reaches the field die, in order. -/
def landLate (s : State) : State :=
  foldS s.field.late { s with field := { s.field with late := [] } } fun s l => match l with
    | .cv a => cvSwitch s a
    | .gate n on => gtSwitch s n on
    | .line a => lineSwitch s a

/-- LINE_CONFIG executes: span and enable are class L, the source is class B. -/
def doLineConfig (s : State) (t : Tenant) (g : Tag) (a : LineArgs) : State :=
  if s.fieldDown then fail s t g .fieldDown
  else ok ((s.writeL (.lineSpanEnable a)).writeB (.lineSource a.out.val a.source)) t g

/-- SAFE of a line output at a sample's first tick: it counts down, and ends when no sample is left (R198). The sample
carries the bus when the output is then out of SAFE. -/
def LineOut.safeStep (o : LineOut) : LineOut :=
  let o :=
    if o.st = .safe ∧ o.disabling = false then
      if o.safeLeft = 0 then { o with st := if o.limiting then .limit else .driven } else { o with safeLeft := o.safeLeft - 1 }
    else o
  { o with carries := o.st == .driven || o.st == .limit }

/-- One sample of a line queue (R197): the bus sample `x` arrives when the link is up, and the DAC takes one, or 0 when
the queue has emptied and has not refilled to 24. -/
def LineOut.sample (o : LineOut) (x : Option Int) : LineOut :=
  let q := match x with | some x => (o.queue ++ [x]).drop ((o.queue.length + 1) - 64) | none => o.queue
  let empty : LineOut :=
    { o with queue := q, refill := decide (q.length < 24), level := 0,
             underruns := if o.st.live then o.underruns + 1 else o.underruns }
  if o.refill then empty
  else match q with
    | y :: r => { o with queue := r, level := if o.carries then y else 0 }
    | [] => empty

/-- A line queue at its fill of 24 samples (R197). -/
def LineOut.fillQueue (o : LineOut) : LineOut := { o with queue := List.replicate 24 0, refill := false }

/-- A line queue that has not emptied is back at its fill after a short silence (R197): DESIGN CHOICE, log entry 31, what
it lost counts as 0, which SAFE discards. -/
def LineOut.topUp (o : LineOut) : LineOut :=
  if o.refill then o else { o with queue := List.replicate (24 - o.queue.length) 0 ++ o.queue }

/-- The sample a line output takes from its bus (R196). -/
def State.lineInput (s : State) (o : LineOut) : Int :=
  if o.ringTap then s.ringBus o.source else (s.bus o.source).out

/-- One sample of every line output. -/
def lineSamples (s : State) : State :=
  if s.field.ready = false ∨ s.field.link = .dark then s
  else foldS (List.range 4) s fun s n =>
    let x := if s.field.link = .ok then some (s.lineInput (s.lo n)) else none
    s.updLo n fun o =>
      let o := o.sample x
      if s.field.link = .ok then o else { o with level := 0 }

/-- The offset trim of a driven output moves by at most 10 microvolts per sample (R345). -/
def CvOut.trimStep (c : CvOut) (offset : Int) : CvOut :=
  { c with offsetNow := if c.st.live then c.offsetNow + clampI (-10) 10 (offset - c.offsetNow) else offset }

/-- The first tick of a sample: codes of the CV outputs, SAFE of the line outputs. A held output keeps its latched value
(R213). -/
def outputSamples (s : State) : State :=
  let linked := s.field.link == .ok && !s.fieldHeld
  let s := foldS (List.range 16) s fun s n => s.updCv n fun c =>
    (c.sample s.fs s.core.fs s.smp linked).trimStep (bankAt s.cal.trims n {}).offset
  foldS (List.range 4) s fun s n => s.updLo n LineOut.safeStep

/-! ## All outputs at once (R12, R13, R193) -/

/-- Every field output to high impedance, its enable gone, a hold's state lost; what waited for the link is stored. -/
def allHiz (s : State) : State :=
  let s := foldS (List.range 16) (landLate s) fun s n => s.updCv n fun c =>
    { c with st := .hiz, enable := false, safeLeft := 0, retrying := false, limiting := false }
  let s := foldS (List.range 8) s fun s n => s.updGt n fun o => { o with st := .hiz, enable := false, retrying := false }
  foldS (List.range 4) s fun s n => s.updLo n fun o =>
    { o with st := .hiz, enable := false, safeLeft := 0, disabling := false, limiting := false, carries := false, level := 0 }

/-- Every driven line output goes through SAFE (R12, R33). -/
def muteLines (s : State) : State :=
  foldS (List.range 4) s fun s n => s.updLo n fun o => if o.st = .driven ∨ o.st = .limit ∨
    (o.st = .safe ∧ o.disabling = false) then o.mute s.fs else o

/-- 0 V on every line output, without a change of state (R12, R33). -/
def zeroLines (s : State) : State :=
  foldS (List.range 4) s fun s n => s.updLo n fun o => { o with carries := false, level := 0 }

/-- The number of an output in CV_FAULT. -/
def outNum : OutRef → Nat
  | .cv n => n.val
  | .gt n => 16 + n.val

/-- State of a CV or gate output. -/
def State.outSt (s : State) : OutRef → OutState
  | .cv n => (s.cv n.val).st
  | .gt n => (s.gt n.val).st

/-- The output is at its limit. -/
def State.limits (s : State) : OutRef → Bool
  | .cv n => (s.cv n.val).st == .limit || ((s.cv n.val).st == .safe && (s.cv n.val).limiting)
  | .gt n => (s.gt n.val).st == .limit

/-- A limit episode of the output runs (R210). -/
def State.inEpisode (s : State) : OutRef → Bool
  | .cv n => (s.cv n.val).episode
  | .gt n => (s.gt n.val).episode

/-- CV_FAULT for an output. -/
def cvFault (s : State) (o : Nat) (kind : Nat) : State := steward s .cvFault (arg2 kind o) []

/-- An output has raised CLEARED: the pairs it stands in wait for it no more (R212). -/
def clearPairs (s : State) (o : Nat) : State :=
  let l := s.field.pairs.map fun p => (p.1, p.2.1, p.2.2.filter (· != o))
  { s with field := { s.field with pairs := l.filter fun p => p.2.2 != [] } }

/-- CV_FAULT CLEARED. -/
def cvCleared (s : State) (o : Nat) : State := clearPairs (cvFault s o 5) o

/-! ## Limits of CV and gate outputs (R210, Table 08-4) -/

/-- LIMIT begins: SC is set, and CV_FAULT SC is raised once per episode. An output that limits at the 0 V of SAFE stays in
SAFE and is in LIMIT when SAFE ends. -/
def limitBegin (s : State) (o : OutRef) (positive : Bool) : State :=
  if s.outSt o = .driven ∨ (s.outSt o = .safe ∧ s.limits o = false) then
    let first := !s.inEpisode o
    let s := match o with
      | .cv n => s.updCv n.val fun c => { c with
          st := if c.st = .driven then .limit else c.st, limiting := true, flags := c.flags ||| 1, episode := true,
          positive := positive }
      | .gt n => s.updGt n.val fun c => { c with st := .limit, flags := c.flags ||| 1, episode := true, positive := positive }
    if first then cvFault s (outNum o) 1 else s
  else s

/-- The policy of an output is LATCH. -/
def State.latches (s : State) : OutRef → Bool
  | .cv n => (s.cv n.val).latch
  | .gt n => (s.gt n.val).latch

/-- Sets the state of a CV or gate output, which limits no more. -/
def State.setOut (s : State) (o : OutRef) (st : OutState) : State :=
  match o with
  | .cv n => s.updCv n.val fun c => { c with st := st, retrying := false, limiting := false }
  | .gt n => s.updGt n.val fun c => { c with st := st, retrying := false }

/-- The latched state of an output during a hold. -/
def FieldHold.st (h : FieldHold) : OutRef → OutState
  | .cv n => h.cvs.getD n.val .hiz
  | .gt n => h.gates.getD n.val .hiz

/-- A limit has lasted 5 ms (Table 08-4 step 2); during a hold it latches whatever the policy (R214), and is reported at
once, or after the wake (R215). -/
def limitTimeout (s : State) (o : OutRef) : State :=
  match s.field.hold with
  | some h =>
    if s.outSt o = .held ∧ (h.st o).live = true then
      let n := outNum o
      let s := s.setOut o .hizLatched
      let h := { h with limited := h.limited ++ [n] }
      if s.power.st = .hibernate ∨ s.power.entry.isSome = true then
        { s with field := { s.field with hold := some { h with owed := h.owed ++ [n] } } }
      else cvFault { s with field := { s.field with hold := some h } } n 4
    else s
  | none =>
    if s.limits o then
      if s.latches o then cvFault (s.setOut o .hizLatched) (outNum o) 4 else cvFault (s.setOut o .hizRetrying) (outNum o) 3
    else s

/-- The output drives again for up to 5 ms (Table 08-4 step 3). -/
def retryBegin (s : State) (o : OutRef) : State :=
  if s.outSt o = .hizRetrying ∧ s.fieldHeld = false then
    match o with
    | .cv n => s.updCv n.val fun c => { c with retrying := true }
    | .gt n => s.updGt n.val fun c => { c with retrying := true }
  else s

/-- An output retries now. -/
def State.retries (s : State) : OutRef → Bool
  | .cv n => (s.cv n.val).retrying
  | .gt n => (s.gt n.val).retrying

/-- The end of a retry (Table 08-4 steps 4 and 5). -/
def retryEnd (s : State) (o : OutRef) (limited : Bool) : State :=
  if s.outSt o = .hizRetrying ∧ s.retries o = true then
    if limited then
      match o with
      | .cv n => s.updCv n.val fun c => { c with retrying := false, retries := c.retries + 1 }
      | .gt n => s.updGt n.val fun c => { c with retrying := false, retries := c.retries + 1 }
    else cvCleared (s.setOut o .driven) (outNum o)
  else s

/-- 100 ms out of LIMIT: the episode ends (R210). -/
def episodeEnd (s : State) (o : OutRef) : State :=
  if s.limits o then s
  else match o with
    | .cv n => s.updCv n.val fun c => { c with episode := false }
    | .gt n => s.updGt n.val fun c => { c with episode := false }

/-- The sign of an output's limit current. -/
def State.limitSign (s : State) : OutRef → Bool
  | .cv n => (s.cv n.val).positive
  | .gt n => (s.gt n.val).positive

/-- PAIR flag of an output. -/
def State.setPair (s : State) (o : OutRef) : State :=
  match o with
  | .cv n => s.updCv n.val fun c => { c with flags := c.flags ||| 4 }
  | .gt n => s.updGt n.val fun c => { c with flags := c.flags ||| 4 }

/-- PAIR_SUSPECT (R212): both outputs are in LIMIT with opposite signs, and the pair is not one already named. -/
def pairSuspectOf (s : State) (a b : OutRef) : State :=
  let lo := Nat.min (outNum a) (outNum b)
  let hi := Nat.max (outNum a) (outNum b)
  if s.limits a = true ∧ s.limits b = true ∧ s.limitSign a ≠ s.limitSign b ∧
      (s.field.pairs.all fun p => !(p.1 == lo && p.2.1 == hi)) = true then
    let s := (s.setPair a).setPair b
    let s := { s with field := { s.field with pairs := s.field.pairs ++ [(lo, hi, [lo, hi])] } }
    steward s .pairSuspect (arg2 hi lo) []
  else s

/-! ## Remote sense (R206, R207) -/

/-- An injection ends with a difference between force and sense. -/
def senseInject (s : State) (n : Nat) (mv : Nat) : State :=
  let c := s.cv n
  if c.remote = true ∧ s.field.ready = true ∧ s.fieldHeld = false ∧ c.fallback = true ∧ mv < 25 then
    cvCleared (s.updCv n fun c => { c with fallback := false }) n
  else s

/-- Force and sense have differed for more than 1 ms. -/
def senseOpen (s : State) (n : Nat) (mv : Nat) : State :=
  let c := s.cv n
  if c.remote = true ∧ s.field.ready = true ∧ s.fieldHeld = false ∧ c.fallback = false ∧ 50 < mv then
    cvFault (s.updCv n fun c => { c with fallback := true, flags := c.flags ||| 2 }) n 2
  else s

/-! ## Pad hold and release (R213 to R215, R336) -/

/-- R215: what the field die recorded during the hold is raised. -/
def holdEvents (s : State) : State :=
  let l := (s.field.hold.map (·.owed)).getD []
  let s := { s with field := { s.field with hold := s.field.hold.map fun h => { h with owed := [] } } }
  let s := foldS l s fun s n => cvFault s n 4
  if s.field.holdLost then steward { s with field := { s.field with holdLost := false } } .fieldFault 1 [] else s

/-- What a CV or gate output does at PAD_RELEASE: an output in HIZ_LATCHED stays, any other takes the state of its
configuration (R215, R325). -/
def releasedSt (lt : OutState) (enable cleared : Bool) : OutState :=
  if cleared then .hiz else if lt = .hizLatched then .hizLatched else if enable then .driven else .hiz

/-- Releases the field-die pads. -/
def releaseField (s : State) (h : FieldHold) : State :=
  let cl := s.field.holdCleared
  let s := foldS (List.range 16) s fun s n => s.updCv n fun c =>
    let l := if c.st = .hizLatched ∨ h.limited.contains n then .hizLatched else h.cvs.getD n .hiz
    let c : CvOut := { c with st := releasedSt l c.enable cl, code := c.target, dac := c.target, gliding := false }
    if c.st = .hiz ∧ c.enable = false then { c with queue := [], startAt := none, dry := false } else c
  let s := foldS (List.range 8) s fun s n => s.updGt n fun o =>
    let l := if o.st = .hizLatched ∨ h.limited.contains (16 + n) then .hizLatched else h.gates.getD n .hiz
    { o with st := releasedSt l o.enable cl, pin := o.high }
  let s := foldS (List.range 4) s fun s n => s.updLo n fun o =>
    if o.enable && !cl then o.mute s.fs
    else { o with st := .hiz, safeLeft := 0, disabling := false, limiting := false, carries := false, level := 0 }
  { s with field := { s.field with hold := none, holdCleared := false } }

/-- PAD_RELEASE lands: the held pads of both dies are released (R215, R336). -/
def landPadRelease (s : State) : State :=
  let s := { s with power := { s.power with pads := none } }
  match s.field.hold with
  | some h => releaseField s h
  | none => s

/-- PAD_RELEASE (R3, R215, R336), of class L: bit 0 of SHORT is the engine die, bit 1 the field die. -/
def doPadRelease (s : State) (t : Tenant) (g : Tag) : State :=
  okShort (s.writeL .padRelease) t g (bit s.power.pads.isSome 0 + bit (s.hasField && s.fieldHeld) 1)

/-! ## The rows -/

/-- Runs an effect on the command a row names, with that command. -/
def onCmdC (s : State) (t : Tenant) (g : Tag) (f : InFlight → Option State) : State :=
  match startable s t g with
  | some c => (f c).getD s
  | none => s

/-- CV_CONFIG. -/
def execCvConfig (t : Tenant) (g : Tag) (s : State) : Host.Outcome State Fault Refusal :=
  .next (onCmd s t g fun b => match b with
    | .cvConfig a => some (doCvConfig s t g a)
    | _ => none)

/-- CV_SET. -/
def execCvSet (t : Tenant) (g : Tag) (s : State) : Host.Outcome State Fault Refusal :=
  .next (onCmdC s t g fun c => match c.body with
    | .cvSet l => some (doCvSet s t g c.timed l)
    | _ => none)

/-- CV_QUEUE. -/
def execCvQueue (t : Tenant) (g : Tag) (s : State) : Host.Outcome State Fault Refusal :=
  .next (onCmdC s t g fun c => match c.body with
    | .cvQueue n l => some (doCvQueue s t g (if c.timed then some c.due else none) n.val l)
    | _ => none)

/-- GATE_SET. -/
def execGateSet (t : Tenant) (g : Tag) (s : State) : Host.Outcome State Fault Refusal :=
  .next (onCmdC s t g fun c => match c.body with
    | .gateSet m l => some (doGateSet s t g c.timed m l)
    | _ => none)

/-- LINE_CONFIG. -/
def execLineConfig (t : Tenant) (g : Tag) (s : State) : Host.Outcome State Fault Refusal :=
  .next (onCmd s t g fun b => match b with
    | .lineConfig a => some (doLineConfig s t g a)
    | _ => none)

/-- PAD_RELEASE. -/
def execPadRelease (t : Tenant) (g : Tag) (s : State) : Host.Outcome State Fault Refusal :=
  .next (onCmd s t g fun b => match b with
    | .padRelease => some (doPadRelease s t g)
    | _ => none)

/-- CV_SAFE_END: at the first tick after S samples of SAFE; ENGINE_TICK does the same when this row has not been given. -/
def execCvSafeEnd (n : Fin 16) (s : State) : Host.Outcome State Fault Refusal :=
  .next (if s.core.tide.et = 0 ∧ (s.cv n.val).st = .safe ∧ (s.cv n.val).safeLeft = 0 then s.updCv n.val CvOut.endSafe
    else s)

/-- LINE_SAFE_END: at the first tick after 10 ms of SAFE; ENGINE_TICK does the same when this row has not been given. -/
def execLineSafeEnd (n : Fin 4) (s : State) : Host.Outcome State Fault Refusal :=
  .next (if s.core.tide.et = 0 ∧ (s.lo n.val).st = .safe ∧ (s.lo n.val).safeLeft = 0 then s.updLo n.val LineOut.safeStep
    else s)

/-- LINE_DISABLE_END: 1 ms at 0 V is over, and the output is in high impedance (R198). -/
def execLineDisableEnd (n : Fin 4) (s : State) : Host.Outcome State Fault Refusal :=
  .next (if (s.lo n.val).disabling then s.updLo n.val fun o => { o with st := .hiz, disabling := false, limiting := false }
    else s)

/-- CV_LIMIT_BEGIN. -/
def execCvLimitBegin (o : OutRef) (positive : Bool) (s : State) : Host.Outcome State Fault Refusal :=
  .next (limitBegin s o positive)

/-- CV_LIMIT_TIMEOUT. -/
def execCvLimitTimeout (o : OutRef) (s : State) : Host.Outcome State Fault Refusal := .next (limitTimeout s o)

/-- CV_RETRY_TIMER. -/
def execCvRetryTimer (o : OutRef) (s : State) : Host.Outcome State Fault Refusal := .next (retryBegin s o)

/-- CV_RETRY_END. -/
def execCvRetryEnd (o : OutRef) (limited : Bool) (s : State) : Host.Outcome State Fault Refusal :=
  .next (retryEnd s o limited)

/-- CV_EPISODE_END. -/
def execCvEpisodeEnd (o : OutRef) (s : State) : Host.Outcome State Fault Refusal := .next (episodeEnd s o)

/-- PAIR_SUSPECT. -/
def execPairSuspect (a b : OutRef) (s : State) : Host.Outcome State Fault Refusal := .next (pairSuspectOf s a b)

/-- LINE_LIMIT_BEGIN: a driven output goes on driving in LIMIT, one in SAFE stays at its 0 V; SHORT is raised each time (R199). -/
def execLineLimitBegin (n : Fin 4) (s : State) : Host.Outcome State Fault Refusal :=
  .next (if (s.lo n.val).limiting = false ∧ ((s.lo n.val).st = .driven ∨ (s.lo n.val).st = .safe) then
      steward (s.updLo n.val fun o => { o with
        st := if o.st = .driven then .limit else o.st, limiting := true, flags := o.flags ||| 1, episode := true })
        .lineFault (arg2 1 n.val) []
    else s)

/-- LINE_LIMIT_CLEAR: 100 ms without limiting (R199). -/
def execLineLimitClear (n : Fin 4) (s : State) : Host.Outcome State Fault Refusal :=
  .next (if (s.lo n.val).episode = true ∧ (s.lo n.val).limiting = false then
      steward (s.updLo n.val fun o => { o with episode := false }) .lineFault (arg2 2 n.val) []
    else s)

/-- LIMIT_EXIT: the load current falls back, and the output drives normally again (R199, R210). -/
def execLimitExit (l : LimRef) (s : State) : Host.Outcome State Fault Refusal :=
  .next (match l with
    | .out o => if s.limits o then s.setOut o (if s.outSt o = .limit then .driven else s.outSt o) else s
    | .line n => s.updLo n.val fun o => { o with st := if o.st = .limit then .driven else o.st, limiting := false })

/-- SENSE_INJECTION. -/
def execSenseInjection (n : Fin 16) (diffMv : Nat) (s : State) : Host.Outcome State Fault Refusal :=
  .next (senseInject s n.val diffMv)

/-- SENSE_OPEN_DETECT. -/
def execSenseOpenDetect (n : Fin 16) (diffMv : Nat) (s : State) : Host.Outcome State Fault Refusal :=
  .next (senseOpen s n.val diffMv)

end Sys2Proof.Machine
end

