-- ==== Sys2Proof/Machine/SerialOps.lean ====
section
/-! DEFINITION. Start-stop serial channels: framing, auto-baud, queues, breaks, flow control, loopback, echo and wake
(R236 to R260), and the commands SC_CONFIG, SC_SEND and SC_BREAK. The card session follows in CardOps. -/

namespace Sys2Proof.Machine

/-! ## Bit timing (R240, R242) -/

/-- Where bit i begins, in FWO cycles after the start edge: the sum of the lengths of R242. -/
def bitStart (n f i : Nat) : Nat := i * n + i * f / 16

/-- Length of bit i. -/
def bitLen (n f i : Nat) : Nat := bitStart n f (i + 1) - bitStart n f i

/-- The sample point of bit i. -/
def samplePoint (n f i : Nat) : Nat := bitStart n f i + bitLen n f i / 2

/-- Level of a line that fell at 0 and changes at the given times. -/
def lineLevel (edges : List Nat) (t : Nat) : Bool := (edges.filter fun e => decide (e ≤ t)).length % 2 == 1

/-- Falling and rising times of the pulses of an IR line, whose first falls at 0; a pulse that has not ended has no rise. -/
def pulses : List Nat → List (Nat × Option Nat)
  | [] => []
  | [f] => [(f, none)]
  | f :: r :: l => (f, some r) :: pulses l

/-- Level after IR demodulation: low for round(3 L / 4) cycles from the leading edge of each pulse of 1 us or longer
(R246). -/
def irLevelAt (edges : List Nat) (l16 t : Nat) : Bool :=
  !((pulses (0 :: edges)).any fun p =>
    (match p.2 with | some r => decide (48 ≤ r - p.1) | none => true) &&
      decide (p.1 ≤ t) && decide (t < p.1 + (3 * l16 + 32) / 64))

/-- Data bits, parity and divider in use on a channel. -/
structure Frame where
  bits : Nat
  parity : Nat
  n : Nat
  f : Nat
  deriving DecidableEq, Repr, Inhabited

/-- The divider before auto-baud: the mode's or SC_CONFIG's. -/
def Serial.divider (c : Serial) : Nat × Nat :=
  if c.autobaud && c.baudN != 0 then (c.baudN, c.baudF)
  else if c.mode = .midi then (1536, 0)
  else (c.divN, c.divF)

/-- The frame in use (Table 10-3). -/
def Serial.frame (c : Serial) : Frame :=
  let d := if c.autobaud && !c.locked && c.mode == .midi then (1536, 0) else c.divider
  if c.mode = .midi then ⟨8, 0, d.1, d.2⟩ else ⟨c.dataBits, c.parity, d.1, d.2⟩

/-- L in 1/16 cycles, of the divider in use. -/
def Serial.l16 (c : Serial) : Nat := 16 * c.frame.n + c.frame.f

/-- What a character turns out to be. -/
inductive RxChar where
  | glitch
  | brk
  | char (b : Byte) (framing parity : Bool)
  deriving DecidableEq, Repr

/-- Samples a character (R240, R241, R250). -/
def sampleChar (fr : Frame) (level : Nat → Bool) : RxChar :=
  let bitAt := fun i => level (samplePoint fr.n fr.f i)
  if bitAt 0 then .glitch
  else
    let data := (List.range fr.bits).map fun i => bitAt (i + 1)
    let par := if fr.parity = 0 then false else bitAt (fr.bits + 1)
    let stop := bitAt (fr.bits + 1 + (if fr.parity = 0 then 0 else 1))
    let v := ((List.range fr.bits).map fun i => if data.getD i false then 2 ^ i else 0).sum
    let ones := (data.filter id).length + (if par then 1 else 0)
    let badPar := if fr.parity = 1 then ones % 2 == 1 else if fr.parity = 2 then ones % 2 == 0 else false
    if v = 0 ∧ par = false ∧ stop = false then .brk else .char (BitVec.ofNat 8 v) (!stop) badPar

/-- The bits of a character after its start bit: data, LSB first, parity, the first stop bit (R239). -/
def sentBits (fr : Frame) (b : Byte) : List Bool :=
  let data := (List.range fr.bits).map fun i => b.getLsbD i
  let ones := (data.filter id).length
  data ++ (if fr.parity = 0 then [] else [if fr.parity = 1 then ones % 2 == 1 else ones % 2 == 0]) ++ [true]

/-- Level changes of a character sent with a frame, as a loop carries it (R255). -/
def sentEdges (fr : Frame) (b : Byte) : List Nat :=
  let bits := sentBits fr b
  ((List.range bits.length).filterMap fun i =>
    let prev := if i = 0 then false else bits.getD (i - 1) false
    if bits.getD i false = prev then none else some (bitStart fr.n fr.f (i + 1)))

/-! ## What SCn_TX drives (R237, R239, R246, R252, R255, R256) -/

/-- Level changes of bits that are driven from the given times on, from a line at 1. -/
def nrzChanges (prev : Bool) : List (Nat × Bool) → List Nat
  | [] => []
  | (t, b) :: l => if b = prev then nrzChanges b l else t :: nrzChanges b l

/-- Length of an IR pulse: round(3 L / 16) cycles (R246). -/
def irPulse (l16 : Nat) : Nat := (3 * l16 + 128) / 256

/-- A pulse from the start of each 0 bit (R246). -/
def irChanges (l16 : Nat) (l : List (Nat × Bool)) : List Nat :=
  l.flatMap fun e => if e.2 then [] else [e.1, e.1 + irPulse l16]

/-- The changes of bits with their times, in the line coding of the channel. -/
def Serial.coded (c : Serial) (l : List (Nat × Bool)) : List Nat :=
  if c.mode = .ir then irChanges c.l16 l else nrzChanges true l

/-- A character that is sent, with its one or two stop bits (R239). -/
def Serial.charWave (c : Serial) (b : Byte) : TxWave :=
  let fr := c.frame
  let bits := false :: sentBits fr b
  let bits := if c.mode ≠ .midi ∧ c.twoStop = true then bits ++ [true] else bits
  { changes := c.coded ((List.range bits.length).map fun i => (bitStart fr.n fr.f i, bits.getD i true)),
    cycles := bitStart fr.n fr.f bits.length }

/-- A break of `n` bit times, with the bit time at 1 that follows it; in IR mode a pulse in every bit time (R252). -/
def Serial.breakWave (c : Serial) (n : Nat) : TxWave :=
  let fr := c.frame
  { changes := if c.mode = .ir then irChanges c.l16 ((List.range n).map fun i => (bitStart fr.n fr.f i, false))
      else [0, n * c.l16 / 16],
    cycles := (n + 1) * c.l16 / 16 }

/-- A character that is echoed: each bit from its sample point, two cycles on; a line that does not decode passes through,
with a lag of 2 cycles before a lock and of L/2 + 2 cycles otherwise (R256). -/
def Serial.echoWave (c : Serial) (edges : List Nat) (level : Nat → Bool) : TxWave :=
  let fr := c.frame
  let raw := fun (lag : Nat) => { changes := (0 :: edges).map (· + lag), cycles := 0 : TxWave }
  if c.autobaud = true ∧ c.locked = false then raw 2
  else if level (samplePoint fr.n fr.f 0) then raw (c.l16 / 32 + 2)
  else
    let n := fr.bits + 2 + (if fr.parity = 0 then 0 else 1)
    let bits := (List.range n).map fun i => (samplePoint fr.n fr.f i + 2, level (samplePoint fr.n fr.f i))
    { changes := c.coded bits, cycles := bitStart fr.n fr.f n }

/-- Level of SCn_TX between characters: high on a channel that is OFF or loops, low in IR mode, where a 1 sends no pulse, and
otherwise low only for a break that is sent or echoed (R237, R246, R252, R255, R256). -/
def Serial.txHigh (c : Serial) : Bool :=
  if c.mode = .off ∨ c.mode = .card ∨ c.loopback = true then true
  else if c.mode = .ir then false
  else if c.echo then c.brk == .none
  else c.txBreak.isNone

/-- Level of SCn_RTS_N: a channel that loops drives it high (R255). -/
def Serial.rtsPin (c : Serial) : Bool := c.loopback || c.rtsHigh

/-! ## Queues and delivery (R243, R253, R331) -/

/-- RTS_N by the watermarks, or low on a channel that is not OFF (R237, R253, R363). -/
def Serial.rts (c : Serial) : Serial :=
  if c.mode = .off then { c with rtsHigh := true }
  else if c.flow && c.mode != .card then
    if c.high ≤ c.rx.length then { c with rtsHigh := true }
    else if c.rx.length ≤ c.low then { c with rtsHigh := false }
    else c
  else { c with rtsHigh := false }

/-- SC_LINE to the owner of a channel. -/
def scLine (s : State) (ch : Nat) (kind : Nat) (cont : List Byte) : State :=
  raiseTo s (s.sc ch).owner .scLine (arg2 ch kind) cont

/-- The owner takes no bytes: it is not OPEN or has SC_RX disabled, and it has been OPEN since the last HIBERNATE wake. -/
def State.scDiscards (s : State) (ch : Nat) : Bool :=
  let x := s.ten (s.sc ch).owner
  (x.st != .opened || !x.events.getLsbD 16) && x.openedSinceWake

/-- A received byte: discarded, an overrun, or queued. -/
def rxPut (s : State) (ch : Nat) (b : Byte) : State :=
  let c := s.sc ch
  if s.scDiscards ch then s.updSc ch fun c => { c with discards := c.discards + 1 }
  else if 256 ≤ c.rx.length then
    let s' := s.updSc ch fun c => { c with overruns := c.overruns + 1, overrunArmed := false }
    if c.overrunArmed then scLine s' ch 4 [] else s'
  else s.updSc ch fun c => ({ c with rx := c.rx ++ [b], overrunArmed := true } : Serial).rts

/-- The unit sleeps: bytes go to the wake buffer (R259). -/
def State.asleep (s : State) : Bool := s.power.st == .nap || s.power.st == .hibernate

/-- A channel is a wake source (R258, R260, R359). -/
def State.scWakes (s : State) (ch : Nat) : Bool :=
  let c := s.sc ch
  s.power.wakeMask.getLsbD (ch + 1) && c.mode != .off && c.mode != .card && !c.loopback

/-- A received byte, in the wake buffer while the unit sleeps. -/
def scByte (s : State) (ch : Nat) (b : Byte) : State :=
  if s.asleep then
    let c := s.sc ch
    if c.wakeBuf.length < 16 then s.updSc ch fun c => { c with wakeBuf := c.wakeBuf ++ [b] }
    else s.updSc ch fun c => { c with overruns := c.overruns + 1 }
  else rxPut s ch b

/-- At a wake the buffered characters move to the RX queue (R259). -/
def drainWake (s : State) (ch : Nat) : State :=
  let l := (s.sc ch).wakeBuf
  foldS l (s.updSc ch fun c => { c with wakeBuf := [] }) fun s b => rxPut s ch b

/-- A framing or parity error: SC_LINE FRAMING at the first, and again only after 100 ms without one (R241). -/
def scError (s : State) (ch : Nat) (framing parity : Bool) : State :=
  let c := s.sc ch
  let s' := s.updSc ch fun c => { c with
    framing := if framing then c.framing + 1 else c.framing,
    parityErr := if parity then c.parityErr + 1 else c.parityErr,
    errAt := some s.core.ticks }
  if c.errAt.all fun a => decide (s.engineRate ≤ 10 * (s.core.ticks - a)) then scLine s' ch 3 [] else s'

/-! ## Auto-baud (R247 to R249) -/

/-- A change lies within L/8 of k bit times, L being t/8 (R247). -/
def nearBit (t e k : Nat) : Bool := decide ((64 * (e : Int) - 8 * (t : Int) * k).natAbs ≤ t)

/-- The edges of 0x55 within L/8 of t/8 x k, and 48 to 524,287 cycles (R247). -/
def shows55 (e : List Nat) : Bool :=
  let t := e.getD 7 0
  e.length == 9 && decide (48 ≤ t) && decide (t ≤ 524287) && (List.range 9).all fun i => nearBit t (e.getD i 0) (i + 1)

/-- Falling edges of the demodulated line of an IR channel: the leading edges of its pulses of 1 us or longer (R246). -/
def irFalls (edges : List Nat) : List Nat :=
  (pulses (0 :: edges)).filterMap fun p => match p.2 with
    | some r => if 48 ≤ r - p.1 then some p.1 else none
    | none => some p.1

/-- The falling edges of 0x55 after demodulation, counted from the first (log entry 35). -/
def irShows55 (e : List Nat) : Bool :=
  let f := irFalls e
  let e := f.map (· - f.headD 0)
  let t := e.getD 4 0
  e.length == 5 && decide (48 ≤ t) && decide (t ≤ 524287) && (List.range 5).all fun i => nearBit t (e.getD i 0) (2 * i)

/-- A lock with its divider. -/
def Serial.lock (c : Serial) (n f : Nat) : Serial := { c with locked := true, baudN := n, baudF := f }

/-- The first status byte of MIDI auto-baud: N and F from the low time, or none (R249). -/
def midiLock (t : Nat) : Option (Nat × Nat) :=
  let k := (2 * t + 1536) / 3072
  if 1 ≤ k ∧ k ≤ 8 ∧ 20 * ((t : Int) - 1536 * k).natAbs ≤ 1536 * k then
    some (t / k, Nat.min 15 ((32 * (t % k) + k) / (2 * k)))
  else none

/-! ## Receiving (R240, R250) -/

/-- A break begins, counted in the L it was received with; with auto-baud the channel measures again (R248, R250). -/
def breakBegin (s : State) (ch : Nat) : State :=
  s.updSc ch fun c => { c with brk := .counting, brkL16 := c.l16, locked := if c.autobaud then false else c.locked }

/-- The character that woke the unit ends badly: its wake source is disarmed (R260). -/
def disarm (s : State) (ch : Nat) : State :=
  if (s.sc ch).waking then s.updSc ch fun c => { c with disarmed := true } else s

/-- A character of a channel that decodes. -/
def decodeChar (s : State) (ch : Nat) (edges : List Nat) (level : Nat → Bool) : State :=
  let c := s.sc ch
  match sampleChar c.frame level with
  | .glitch => s
  | .brk => breakBegin (disarm s ch) ch
  | .char b framing parity =>
    if framing || parity then scError (if framing then disarm s ch else s) ch framing parity
    else if c.mode = .midi ∧ c.autobaud = true ∧ c.locked = false then
      if b.toNat < 0x80 then s
      else match midiLock (edges.headD 0) with
        | some (n, f) => scByte (s.updSc ch fun c => c.lock n f) ch b
        | none => scLine s ch 5 []
    else scByte s ch b

/-- A character of a measuring channel in GENERAL or IR mode (R247, R248). -/
def measureChar (s : State) (ch : Nat) (edges : List Nat) : State :=
  let c := s.sc ch
  let ir := c.mode == .ir && !c.loopback
  let f := irFalls edges
  let t := if ir then f.getD 4 0 - f.headD 0 else edges.getD 7 0
  if (if ir then irShows55 edges else shows55 edges) then s.updSc ch fun c => c.lock (t / 8) (2 * (t % 8))
  else scLine s ch 5 []

/-- What a loop carries to the receiver: the present break, or the character last sent (R255). -/
def Serial.loopEdges (c : Serial) : List Nat :=
  if c.txBreak.isSome then [] else match c.txLast with
    | some b => sentEdges c.frame b
    | none => [1]

/-- Echo drives a received character; it counts one that starts while CTS_N is high, and drives nothing while the pads are
held (R256, R257, R359). -/
def echoChar (s : State) (ch : Nat) (edges : List Nat) (level : Nat → Bool) (ctsHigh : Bool) : State :=
  if (s.sc ch).echo = true ∧ s.power.pads = none then
    s.updSc ch fun c => { c with
      txWave := some (c.echoWave edges level), ctsIgnored := if ctsHigh then c.ctsIgnored + 1 else c.ctsIgnored }
  else s

/-- A character on a channel that is in MIDI, GENERAL or IR mode, with no break in progress; while the unit sleeps, on a
channel that is a wake source. `ctsHigh`: CTS_N as the character starts. -/
def scChar (s : State) (ch : Nat) (line : List Nat) (ctsHigh : Bool) : State :=
  let c := s.sc ch
  if c.mode = .off ∨ c.mode = .card ∨ c.brk ≠ .none ∨ (s.asleep = true ∧ s.scWakes ch = false) then s
  else
    let edges := if c.loopback then c.loopEdges else line
    let level := if c.mode = .ir ∧ c.loopback = false then irLevelAt edges c.l16 else lineLevel edges
    let s := echoChar s ch edges level ctsHigh
    let s :=
      if c.autobaud ∧ c.locked = false ∧ c.mode ≠ .midi then measureChar s ch edges
      else decodeChar s ch edges level
    s.updSc ch fun c => { c with waking := false, txLast := if c.loopback then none else c.txLast }

/-- The line rises after a break: BREAK with the whole bit times of L, or LINE_HIGH after HELD_LOW (R250, R251). -/
def lineRise (s : State) (ch : Nat) (low : Nat) : State :=
  let c := s.sc ch
  let s' := s.updSc ch fun c => { c with brk := .none }
  match c.brk with
  | .none => s
  | .counting => scLine s' ch 1 (leBytes 4 (Nat.min 0xFFFFFF (low * 16 / Nat.max 1 c.brkL16)))
  | .saturated => scLine s' ch 6 []

/-- The break counter reaches its end (R251). -/
def breakSaturate (s : State) (ch : Nat) : State :=
  if (s.sc ch).brk = .counting then scLine (s.updSc ch fun c => { c with brk := .saturated }) ch 2 [] else s

/-- Delivery of up to 64 bytes as SC_RX, when 64 wait or the oldest is 1 ms old, and the owner has room (R243). -/
def rxDeliver (s : State) (ch : Nat) (oldestMs : Nat) : State :=
  let c := s.sc ch
  let x := s.ten c.owner
  let l := c.rx.take 64
  if s.fwRuns = true ∧ x.st = .opened ∧ x.events.getLsbD 16 = true ∧ l ≠ [] ∧ (64 ≤ c.rx.length ∨ 1 ≤ oldestMs) ∧
      evSlots l ≤ x.cqFree then
    let s := s.updSc ch fun c => ({ c with rx := c.rx.drop 64, overrunArmed := true } : Serial).rts
    raiseTo s c.owner .scRx (arg2 ch l.length) l
  else s

/-! ## Transmitting (R244, R252, R254 to R257) -/

/-- Bytes in the TX queue. -/
def Serial.txFill (c : Serial) : Nat := (c.tx.filter fun i => match i with | .byte _ => true | .brk _ _ => false).length

/-- CTS_N holds the transmitter (R254); a loop connects RTS_N to it (R255). -/
def Serial.held (c : Serial) (ctsHigh : Bool) : Bool :=
  c.flow && c.mode != .card && (if c.loopback then c.rtsHigh else ctsHigh)

/-- The transmitter may begin: the pads are not held, the unit is awake, no break is being sent (R336). -/
def State.txReady (s : State) (ch : Nat) : Bool :=
  let c := s.sc ch
  c.mode != .off && c.mode != .card && s.power.pads.isNone && !s.asleep && c.txBreak.isNone

/-- The wave reaches the pin: a loop keeps SCn_TX high (R255). -/
def Serial.drive (c : Serial) (w : TxWave) : Serial := if c.loopback then c else { c with txWave := some w }

/-- The transmitter begins the next byte. -/
def txChar (s : State) (ch : Nat) (ctsHigh : Bool) : State :=
  let c := s.sc ch
  if s.txReady ch = true ∧ c.echo = false ∧ c.held ctsHigh = false then
    match c.tx with
    | .byte b :: r => s.updSc ch fun c => ({ c with tx := r, txLast := some b } : Serial).drive (c.charWave b)
    | _ => s
  else s

/-- A queued break starts (R252). -/
def txBreakStart (s : State) (ch : Nat) (ctsHigh : Bool) : State :=
  let c := s.sc ch
  if s.txReady ch = true ∧ c.held ctsHigh = false then
    match c.tx with
    | .brk n r :: l => s.updSc ch fun c => ({ c with tx := l, txBreak := some (n, r) } : Serial).drive (c.breakWave n)
    | _ => s
  else s

/-- A transmitted break ends, and its SC_BREAK completes (R252). -/
def txBreakEnd (s : State) (ch : Nat) : State :=
  match (s.sc ch).txBreak with
  | some (_, r) => finishRef (s.updSc ch fun c => { c with txBreak := none }) r .ok (.note 0)
  | none => s

/-- A channel cannot send on command: it is OFF, echoes, or measures (R107, R248, R257). -/
def Serial.noSend (c : Serial) : Bool :=
  c.mode == .off || c.mode == .card || c.echo || (c.autobaud && !c.locked && c.mode != .midi)

/-- SC_SEND executes. -/
def doScSend (s : State) (t : Tenant) (g : Tag) (ch : Nat) (b : List Byte) : State :=
  let c := s.sc ch
  if c.owner ≠ t then fail s t g .noRights
  else if c.noSend then badField s t g 0
  else
    let k := Nat.min b.length (2048 - c.txFill)
    okShort (s.updSc ch fun c => { c with tx := c.tx ++ (b.take k).map TxItem.byte }) t g k

/-- SC_BREAK executes: it enters the TX queue in order and completes when the break ends. -/
def doScBreak (s : State) (t : Tenant) (g : Tag) (ch bits : Nat) : State :=
  let c := s.sc ch
  if c.owner ≠ t then fail s t g .noRights
  else if c.noSend then badField s t g 0
  else startLong (s.updSc ch fun c => { c with tx := c.tx ++ [.brk bits (some (t, g))] }) t g

/-! ## SC_CONFIG (R107, R236 to R238) -/

/-- The SC_BREAKs a channel holds, in progress and queued. -/
def Serial.breakRefs (c : Serial) : List (Option (Tenant × Tag)) :=
  (match c.txBreak with | some (_, r) => [r] | none => []) ++
    c.tx.filterMap fun i => match i with | .brk _ r => some r | .byte _ => none

/-- A channel goes OFF: queues and breaks are discarded, their SC_BREAKs complete OK (R238). -/
def scOff (s : State) (ch : Nat) : State :=
  let refs := (s.sc ch).breakRefs
  let s := s.updSc ch fun c => { c with
    mode := .off, rx := [], tx := [], txBreak := none, rtsHigh := true, txLast := none, txWave := none, brk := .none,
    locked := false, baudN := 0, baudF := 0, overrunArmed := true, errAt := none }
  foldS refs s fun s r => finishRef s r .ok (.note 0)

/-- The settings of SC_CONFIG. -/
def Serial.set (c : Serial) (a : ScArgs) : Serial :=
  { c with
    mode := a.mode, loopback := a.loopback, echo := a.echo, flow := a.flow, autobaud := a.autobaud,
    dataBits := a.dataBits, parity := a.parity, twoStop := a.twoStop, divN := a.divN, divF := a.divF, owner := a.owner,
    high := a.high, low := a.low }

/-- The channel in CARD mode. -/
def State.cardCh (s : State) : Option Nat := (List.range 4).find? fun n => (s.sc n).mode == .card

/-! ## The rows -/

/-- SC_SEND. -/
def execScSend (t : Tenant) (g : Tag) (s : State) : Host.Outcome State Fault Refusal :=
  .next (onCmd s t g fun b => match b with
    | .scSend ch l => some (doScSend s t g ch.val l)
    | _ => none)

/-- SC_BREAK. -/
def execScBreak (t : Tenant) (g : Tag) (s : State) : Host.Outcome State Fault Refusal :=
  .next (onCmd s t g fun b => match b with
    | .scBreak ch n => some (doScBreak s t g ch.val n)
    | _ => none)

/-- SC_CHAR_RECEIVED. -/
def execScCharReceived (ch : Fin 4) (edges : List Nat) (ctsHigh : Bool) (s : State) : Host.Outcome State Fault Refusal :=
  .next (scChar s ch.val edges ctsHigh)

/-- SC_LINE_RISE. -/
def execScLineRise (ch : Fin 4) (lowCycles : Nat) (s : State) : Host.Outcome State Fault Refusal :=
  .next (lineRise s ch.val lowCycles)

/-- SC_BREAK_SATURATE. -/
def execScBreakSaturate (ch : Fin 4) (s : State) : Host.Outcome State Fault Refusal := .next (breakSaturate s ch.val)

/-- SC_RX_DELIVER. -/
def execScRxDeliver (ch : Fin 4) (oldestMs : Nat) (s : State) : Host.Outcome State Fault Refusal :=
  .next (rxDeliver s ch.val oldestMs)

/-- SC_TX_BREAK_START. -/
def execScTxBreakStart (ch : Fin 4) (ctsHigh : Bool) (s : State) : Host.Outcome State Fault Refusal :=
  .next (txBreakStart s ch.val ctsHigh)

/-- SC_TX_BREAK_END. -/
def execScTxBreakEnd (ch : Fin 4) (s : State) : Host.Outcome State Fault Refusal := .next (txBreakEnd s ch.val)

/-- SC_WAKE_EDGE: a start edge on an enabled channel requests a wake while the unit sleeps or enters sleep (R258). -/
def execScWakeEdge (ch : Fin 4) (s : State) : Host.Outcome State Fault Refusal :=
  .next (if s.scWakes ch.val && !(s.sc ch.val).disarmed && (s.asleep || s.power.entry.isSome) then
      let s := s.updSc ch.val fun c => { c with waking := true }
      { s with power := { s.power with wake := some (s.power.wake.getD (.sc ch)) } }
    else s)

/-- SC_WAKE_REARM: the line has been high for one character time (R260). -/
def execScWakeRearm (ch : Fin 4) (s : State) : Host.Outcome State Fault Refusal :=
  .next (s.updSc ch.val fun c => { c with disarmed := false })

end Sys2Proof.Machine
end

