-- ==== Sys2Proof/Machine/CardOps.lean ====
section
/-! DEFINITION. The card session (R261 to R266), and SC_CONFIG and SC_TX_CHARACTER, which also serve a card. -/

namespace Sys2Proof.Machine

/-! ## Activation and deactivation (R262, R265) -/

/-- The card is active. -/
def Card.active (c : Card) : Bool := c.phase != .idle

/-- Owner of the channel in CARD mode; T0 when there is none. -/
def State.cardOwner (s : State) : Tenant := match s.cardCh with
  | some n => (s.sc n).owner
  | none => 0

/-- CARD_STATE to the owner. -/
def cardEvent (s : State) (v : Nat) : State := raiseTo s s.cardOwner .cardState (arg2 0 v) []

/-- Deactivation: CARD_RST, CARD_CLK, I/O and CARD_EN go low, what is being sent is dropped, and CARD_STATE 2 is raised. -/
def deactivate (s : State) : State :=
  if s.card.active then
    let s := match s.cardCh with
      | some n => s.updSc n fun c => { c with tx := [], txLast := none, txWave := none }
      | none => s
    let s := { s with card := { s.card with
      en := false, clk := false, rst := false, ioLow := true, phase := .idle, errSignal := false, repeats := 0 } }
    cardEvent s 2
  else s

/-- The card command ends with a failure, and the card is deactivated (R92, R265). -/
def cardFail (s : State) (st : Status) : State :=
  let r := s.card.ref
  let s := { s with card := { s.card with ref := none } }
  deactivate (finishRef s r st (.note 0))

/-- The card command completes OK, and the card stays ready. -/
def cardOk (s : State) (b : List Byte) : State :=
  let r := s.card.ref
  let s := { s with card := { s.card with ref := none, phase := .ready, repeats := 0 } }
  finishRef s r .ok (if b = [] then .note 0 else .bytes b)

/-- A CARD_SESSION starts when no other one runs; without a channel in CARD mode it is refused at its op (R93, R107). -/
def cardCmd (s : State) (t : Tenant) (g : Tag) (f : State → State) : State :=
  match s.cardCh with
  | none => badField s t g 0
  | some n => if (s.sc n).owner ≠ t then fail s t g .noRights else if s.card.ref.isSome then s else f s

/-- START: step 1 of Table 10-5. -/
def doCardStart (s : State) (t : Tenant) (g : Tag) : State :=
  cardCmd s t g fun s =>
    if s.card.present then
      startLong { s with card := { s.card with
        en := true, clk := false, rst := false, phase := .powered, ref := some (t, g), inverse := false, atr := [],
        guardTime := 0, wi := 10, repeats := 0, errSignal := false } } t g
    else fail s t g .cardAbsent

/-- STOP. -/
def doCardStop (s : State) (t : Tenant) (g : Tag) : State :=
  cardCmd s t g fun s => if s.card.active then ok (deactivate s) t g else fail s t g .cardAbsent

/-- EXCHANGE: the header enters the transmitter, and a procedure byte is awaited (R264). -/
def doCardExchange (s : State) (t : Tenant) (g : Tag) (d : CardDir) (h data : List Byte) : State :=
  cardCmd s t g fun s =>
    if s.card.active then
      let s := match s.cardCh with
        | some n => s.updSc n fun c => { c with tx := h.map TxItem.byte, txLast := none }
        | none => s
      let p3 := byteAt h 4
      startLong { s with card := { s.card with
        phase := .procedure, ref := some (t, g), dir := d, header := h, toSend := data, got := [], repeats := 0,
        expect := if d = .inward then (if p3 = 0 then 256 else p3) else 0 } } t g
    else fail s t g .cardAbsent

/-- The timed steps of activation: the clock starts, then reset is released (Table 10-5 steps 2 and 3). -/
def cardTimer (s : State) : State :=
  match s.card.phase with
  | .powered => { s with card := { s.card with clk := true, ioLow := false, phase := .clocked } }
  | .clocked => { s with card := { s.card with rst := true, phase := .waitTs } }
  | _ => s

/-- Moments of TS, true for Z: direct and inverse convention (Table 10-5). -/
def tsDirect : List Bool := [false, true, true, false, true, true, true, false, false, true]

/-- Inverse convention. -/
def tsInverse : List Bool := [false, true, true, false, false, false, false, false, false, true]

/-- N and F of an etu of t / 3 cycles. -/
def etuOf (t : Nat) : Nat × Nat := (t / 3, Nat.min 15 ((32 * (t % 3) + 3) / 6))

/-- TS decides the convention, and under auto-baud the etu (R262). -/
def cardTs (s : State) (m : List Bool) (t3 : Nat) : State :=
  if s.card.phase = .waitTs ∧ s.card.ref.isSome = true then
    if m = tsDirect ∨ m = tsInverse then
      let auto := match s.cardCh with
        | some n => (s.sc n).autobaud
        | none => false
      let e := if auto then etuOf t3 else (372 * s.card.clkDiv, 0)
      { s with card := { s.card with
        phase := .atr, inverse := m == tsInverse, etuN := e.1, etuF := e.2,
        atr := [if m = tsInverse then 0x3F else 0x3B] } }
    else cardFail s .cardProtocol
  else s

/-! ## Characters on I/O (R263) -/

/-- The eight data bits and the parity bit of a character as moments on I/O, the first one lowest, true for Z: direct
convention LSB first, inverse convention MSB first with the levels inverted; even parity. -/
def cardMoments (inverse : Bool) (b : Byte) : List Bool :=
  let bits := (List.range 8).map fun i => b.getLsbD (if inverse then 7 - i else i)
  let l := bits ++ [(bits.filter id).length % 2 == 1]
  if inverse then l.map (!·) else l

/-- The byte that moments carry in a convention, and whether its parity is even. -/
def cardByte (inverse : Bool) (m : BitVec 9) : Byte × Bool :=
  let l := (List.range 9).map fun i => m.getLsbD i != inverse
  let v := ((List.range 8).map fun i => if l.getD i false then 2 ^ (if inverse then 7 - i else i) else 0).sum
  (BitVec.ofNat 8 v, (l.filter id).length % 2 == 0)

/-- Where moment i of a character begins, in FWO cycles. -/
def Card.moment (c : Card) (i : Nat) : Nat := bitStart c.etuN c.etuF i

/-- A character sent on I/O in the detected convention, 12 etu and the extra guard time long. -/
def Card.charWave (c : Card) (b : Byte) : TxWave :=
  let l := false :: cardMoments c.inverse b ++ [true]
  { changes := nrzChanges true ((List.range 11).map fun i => (c.moment i, l.getD i true)), cycles := c.moment (12 + c.guardTime) }

/-! ## The ATR (R262, R263; its layout is that of ISO/IEC 7816-3) -/

/-- What the interface bytes of an ATR say. -/
structure AtrInfo where
  ta1 : Option Nat := none
  ta2 : Option Nat := none
  tc1 : Option Nat := none
  tc2 : Option Nat := none
  /-- protocols that the TD bytes name, T=15 left out. -/
  protocols : List Nat := []
  /-- a TD byte names a protocol other than T=0, so TCK ends the ATR. -/
  tck : Bool := false
  deriving DecidableEq, Repr, Inhabited

/-- Takes one interface byte when its presence bit is set; none: it has not arrived. -/
def takeIf (present : Bool) (l : List Byte) : Option (Option Nat × List Byte) :=
  if present then match l with
    | b :: r => some (some b.toNat, r)
    | [] => none
  else some (none, l)

/-- The interface bytes from group i on, and the bytes after them; none: not all have arrived. -/
def atrGroups : Nat → Nat → Nat → List Byte → AtrInfo → Option (AtrInfo × List Byte)
  | 0, _, _, l, a => some (a, l)
  | fuel + 1, i, y, l, a =>
    match takeIf (y % 2 == 1) l with
    | none => none
    | some (ta, l) =>
      match takeIf (y / 2 % 2 == 1) l with
      | none => none
      | some (_, l) =>
        match takeIf (y / 4 % 2 == 1) l with
        | none => none
        | some (tc, l) =>
          match takeIf (y / 8 % 2 == 1) l with
          | none => none
          | some (td, l) =>
            let a := { a with
              ta1 := if i = 1 then ta else a.ta1, ta2 := if i = 2 then ta else a.ta2,
              tc1 := if i = 1 then tc else a.tc1, tc2 := if i = 2 then tc else a.tc2 }
            match td with
            | none => some (a, l)
            | some d =>
              let p := d % 16
              atrGroups fuel (i + 1) (d / 16) l { a with
                protocols := if p = 15 then a.protocols else a.protocols ++ [p], tck := a.tck || p != 0 }

/-- The ATR is whole: its information. -/
def atrDone (atr : List Byte) : Option AtrInfo :=
  match atr.drop 1 with
  | [] => none
  | t0 :: l =>
    match atrGroups 8 1 (t0.toNat / 16) l {} with
    | none => if 33 ≤ atr.length then some {} else none
    | some (a, r) => if t0.toNat % 16 + (if a.tck then 1 else 0) ≤ r.length ∨ 33 ≤ atr.length then some a else none

/-- An ATR the SOL384 does not accept: only other protocols, or a specific mode other than F = 372 and D = 1. -/
def AtrInfo.refused (a : AtrInfo) : Bool :=
  (a.protocols != [] && !a.protocols.contains 0) ||
  (match a.ta2 with
    | some m => m % 16 != 0 || m / 16 % 2 == 1 || (match a.ta1 with | some f => f != 0x11 && f != 0x01 | none => false)
    | none => false)

/-- A character of the ATR. -/
def atrChar (s : State) (b : Byte) : State :=
  let atr := s.card.atr ++ [b]
  let s := { s with card := { s.card with atr := atr } }
  match atrDone atr with
  | none => s
  | some a =>
    if a.refused then cardFail s .cardProtocol
    else cardOk { s with card := { s.card with
      guardTime := if a.tc1.getD 0 = 255 then 0 else a.tc1.getD 0, wi := a.tc2.getD 10 } } atr

/-! ## The exchange (R264) -/

/-- A procedure byte. -/
def procByte (s : State) (b : Byte) : State :=
  let c := s.card
  let ins := byteAt c.header 1
  let send := fun (l : List Byte) => match s.cardCh with
    | some n => s.updSc n fun c => { c with tx := l.map TxItem.byte, txLast := none }
    | none => s
  if b = 0x60 then s
  else if b.toNat = ins then
    match c.dir with
    | .none => s
    | .outward => { send c.toSend with card := { c with toSend := [] } }
    | .inward => if c.expect = 0 then s else { s with card := { c with phase := .data false } }
  else if b.toNat = 255 - ins then
    match c.dir with
    | .none => s
    | .outward => { send (c.toSend.take 1) with card := { c with toSend := c.toSend.drop 1 } }
    | .inward => if c.expect = 0 then s else { s with card := { c with phase := .data true } }
  else if b.toNat / 16 = 6 ∨ b.toNat / 16 = 9 then { s with card := { c with phase := .sw2 b } }
  else cardFail s .cardProtocol

/-- A character from the card, read in the detected convention; the receiver signals a parity error and waits for the
character again (R263). -/
def cardChar (s : State) (m : BitVec 9) : State :=
  let c := s.card
  let (b, parityOk) := cardByte c.inverse m
  let busy : Bool := match s.cardCh with
    | some n => (s.sc n).tx != []
    | none => true
  if c.ref.isNone || busy then s
  else match c.phase with
    | .idle | .powered | .clocked | .waitTs | .ready => s
    | p =>
      if parityOk = false then
        if 3 ≤ c.repeats then cardFail s .cardProtocol
        else { s with card := { c with errSignal := true, repeats := c.repeats + 1 } }
      else
        let s := { s with card := { c with errSignal := false, repeats := 0 } }
        match p with
        | .atr => atrChar s b
        | .procedure => procByte s b
        | .data one =>
          let left := c.expect - 1
          { s with card := { s.card with
            got := c.got ++ [b], expect := left, phase := if one || left == 0 then .procedure else p } }
        | .sw2 sw1 => cardOk s (c.got ++ [sw1, b])
        | _ => s

/-- The next character to the card; after the card's error signal the last one is repeated, up to 3 times (R263). -/
def cardTx (s : State) (n : Nat) (err : Bool) : State :=
  let c := s.sc n
  if err then
    match c.txLast with
    | none => s
    | some _ =>
      if 3 ≤ s.card.repeats then cardFail s .cardProtocol
      else { s with card := { s.card with repeats := s.card.repeats + 1 } }
  else match c.tx with
    | .byte b :: r =>
      let w := s.card.charWave b
      let s := s.updSc n fun c => { c with tx := r, txLast := some b, txWave := some w }
      { s with card := { s.card with repeats := 0 } }
    | _ => s

/-- Card detect has been stable for 10 ms at a level: CARD_STATE, and a removal ends the session (R261, R265). -/
def cardDetect (s : State) (present : Bool) : State :=
  if s.cardCh.isNone ∨ present = s.card.present then s
  else
    let s := { s with card := { s.card with present := present } }
    if present then cardEvent s 1
    else
      let r := s.card.ref
      let s := { s with card := { s.card with ref := none } }
      deactivate (cardEvent (finishRef s r .cardAbsent (.note 0)) 0)

/-! ## SC_CONFIG -/

/-- SC_CONFIG executes (R28, R97, R107, R238). OFF on a running channel stops it and writes no setting, which R97 leaves to a
second command. -/
def doScConfig (s : State) (t : Tenant) (g : Tag) (a : ScArgs) : State :=
  let n := a.ch.val
  if a.mode = .off ∧ (s.sc n).mode ≠ .off then
    let card := (s.sc n).mode == .card
    let s := if card then cardFail s .cardAbsent else s
    let s := if card then { s with card := { s.card with ioLow := false } } else s
    ok (scOff s n) t g
  else if (s.sc n).mode ≠ .off then fail s t g .busyClassX
  else if a.mode = .card ∧ s.cardCh.isSome = true then fail s t g .busyClassX
  else ok (s.updSc n fun c => (c.set a).rts) t g

/-! ## The rows -/

/-- SC_CONFIG. -/
def execScConfig (t : Tenant) (g : Tag) (s : State) : Host.Outcome State Fault Refusal :=
  .next (onCmd s t g fun b => match b with
    | .scConfig a => some (doScConfig s t g a)
    | _ => none)

/-- CARD_SESSION with op START. -/
def execCardSessionStart (t : Tenant) (g : Tag) (s : State) : Host.Outcome State Fault Refusal :=
  .next (onCmd s t g fun b => match b with
    | .cardStart => some (doCardStart s t g)
    | _ => none)

/-- CARD_SESSION with op EXCHANGE. -/
def execCardSessionExchange (t : Tenant) (g : Tag) (s : State) : Host.Outcome State Fault Refusal :=
  .next (onCmd s t g fun b => match b with
    | .cardExchange d h l => some (doCardExchange s t g d h l)
    | _ => none)

/-- CARD_SESSION with op STOP. -/
def execCardSessionStop (t : Tenant) (g : Tag) (s : State) : Host.Outcome State Fault Refusal :=
  .next (onCmd s t g fun b => match b with
    | .cardStop => some (doCardStop s t g)
    | _ => none)

/-- SC_TX_CHARACTER: the transmitter begins its next character; on the channel in CARD mode `ctsHigh` says that the card
signals an error on the character last sent. -/
def execScTxCharacter (ch : Fin 4) (ctsHigh : Bool) (s : State) : Host.Outcome State Fault Refusal :=
  .next (if (s.sc ch.val).mode = .card then cardTx s ch.val ctsHigh else txChar s ch.val ctsHigh)

/-- CARD_DETECT_CHANGE. -/
def execCardDetectChange (present : Bool) (s : State) : Host.Outcome State Fault Refusal := .next (cardDetect s present)

/-- CARD_ACTIVATION_TIMER. -/
def execCardActivationTimer (s : State) : Host.Outcome State Fault Refusal := .next (cardTimer s)

/-- CARD_TS_RECEIVED. -/
def execCardTsReceived (moments : List Bool) (t3 : Nat) (s : State) : Host.Outcome State Fault Refusal :=
  .next (cardTs s moments t3)

/-- CARD_TS_TIMEOUT. -/
def execCardTsTimeout (s : State) : Host.Outcome State Fault Refusal :=
  .next (if s.card.phase = .waitTs then cardFail s .cardTimeout else s)

/-- CARD_CHAR_RECEIVED. -/
def execCardCharReceived (moments : BitVec 9) (s : State) : Host.Outcome State Fault Refusal :=
  .next (cardChar s moments)

/-- CARD_WAIT_TIMEOUT: a gap longer than the waiting time while a character is awaited. -/
def execCardWaitTimeout (s : State) : Host.Outcome State Fault Refusal :=
  .next (match s.card.phase with
    | .atr | .procedure | .data _ | .sw2 _ => if s.card.ref.isSome then cardFail s .cardTimeout else s
    | _ => s)

end Sys2Proof.Machine
end

