-- ==== Sys2Proof/Machine/FieldIn.lean ====
section
/-! DEFINITION. Field inputs: the CV-input chain and the key scanner (R218 to R235), and the commands of Table 04-9. -/

namespace Sys2Proof.Machine

/-! ## CV inputs (R218 to R226) -/

/-- One modulator bit through the five integrators, modulo 2^26 (R220). -/
def integStep (x : BitVec 26) : List (BitVec 26) → List (BitVec 26)
  | [] => []
  | i :: r => (i + x) :: integStep (i + x) r

/-- One value through the five combs: their new delays and the output (R220). -/
def combStep (x : BitVec 26) : List (BitVec 26) → List (BitVec 26) × BitVec 26
  | [] => ([], x)
  | d :: r =>
    let (l, y) := combStep (x - d) r
    (x :: l, y)

/-- 32 modulator bits, the earliest the lowest, through the integrators. -/
def integBits (bits : BitVec 128) (start : Nat) (i : List (BitVec 26)) : List (BitVec 26) :=
  (List.range 32).foldl (fun i k => integStep (if bits.getLsbD (start + k) then 1 else 0) i) i

/-- One CIC output enters the FIR history as U - 2^24 (R221). -/
def CvIn.cic (c : CvIn) (bits : BitVec 128) (start : Nat) : CvIn :=
  let i := integBits bits start c.integ
  let (d, u) := combStep (i.getLastD 0) c.combs
  { c with integ := i, combs := d, hist := (((u.toNat : Int) - 16777216) :: c.hist).take 64 }

/-- Sum of the first 31 coefficients of a bank. -/
def ciTapSum (bank : Nat) : Rat := ((List.range 31).map (Config.ciTap bank)).sum

/-- Coefficient `i` of a FIR bank (R221, Table 09-2): bank 0 has 64 and is symmetric (linear phase), bank 1 has 32, and each
has a DC gain of 1; the values themselves are fixed in the device and not in the spec (log entry 5). -/
def ciCoef (bank i : Nat) : Rat :=
  if bank = 0 then
    let j := Nat.min i (63 - i)
    if j < 31 then Config.ciTap 0 j else 1 / 2 - ciTapSum 0
  else if i < 31 then Config.ciTap bank i else 1 - ciTapSum bank

/-- FIR output in volts (R221, Table 09-2). -/
def CvIn.volts (c : CvIn) : Rat :=
  let h := if c.bank = 0 then c.hist else c.hist.take 32
  dotTaps (ciCoef c.bank) 0 h * mkRat 128 (10 * 16777216)

/-- The trim of a value: gain in ppm, then offset in microvolts (R218 step 4). -/
def Trim.apply (t : Trim) (v : Rat) : Rat := v * (1 + mkRat t.gain 1000000) + mkRat t.offset 1000000

/-- Channel word before saturation (R223). -/
def channelCode (v : Rat) : Int := roundHalfUp (v * 8388608 / 10)

/-- Puts a word in its place in a rising list. -/
def insertWord (x : Int) : List Int → List Int
  | [] => [x]
  | y :: l => if x ≤ y then x :: y :: l else y :: insertWord x l

/-- Median of an odd number of words. -/
def median (l : List Int) : Int := (l.foldr insertWord []).getD (l.length / 2) 0

/-- Length of the rank window by `ciN.rank`. -/
def rankLen (r : Nat) : Nat := 2 * r + 1

/-- A channel word enters the rank filter, whose window is filled with it at a start (R225). -/
def CvIn.word24 (c : CvIn) (w : Int) : CvIn :=
  let win := if c.refill then List.replicate 9 w else (w :: c.window).take 9
  { c with word := w, window := win, refill := false, value := median (win.take (rankLen c.rank)) }

/-- CI_CONFIG lands on an input (R222, R225): a rank change fills the window with the latest word. -/
def landCi (s : State) (n rank bank : Nat) : State :=
  s.updCi n fun c =>
    let c := { c with bank := bank }
    if rank = c.rank then c else { c with rank := rank, window := List.replicate 9 c.word }

/-- The field die converts: it is ready, its link is up, and the unit is not in HIBERNATE (R13, R360). -/
def State.fieldRuns (s : State) : Bool := s.hasField && s.field.ready && s.field.link == .ok && s.power.st != .hibernate

/-- A CV-input sample: 128 modulator bits give one word (R218), and a word that saturates is an overload (R224). While the
input is trimmed as inactive, its source holds its last value (Table 14-4). -/
def ciSample (s : State) (n : Nat) (bits : BitVec 128) : State :=
  let c := [0, 32, 64, 96].foldl (fun c k => CvIn.cic c bits k) (s.ci n)
  let code := channelCode ((bankAt s.cal.trims (16 + n) {}).apply c.volts)
  let w := clampI (-8388608) 8388607 code
  let c := if s.cal.trim.any fun r => r.targets.contains (16 + n) then c else c.word24 w
  if w = code then s.updCi n fun _ => c
  else
    let first := !c.episode
    let s := s.updCi n fun _ =>
      { c with flags := c.flags ||| 1, overloads := c.overloads + 1, episode := true }
    if first then steward s .ciOverload (arg2 0 n) [] else s

/-- CI_CONFIG executes. -/
def doCiConfig (s : State) (t : Tenant) (g : Tag) (n : Option Nat) (rank bank : Nat) : State :=
  if s.fieldDown then fail s t g .fieldDown
  else
    let l := match n with | some n => [n] | none => List.range 8
    ok (foldS l s fun s n => s.writeL (.ciConfig n rank bank)) t g

/-- Every rank window takes its first word when it comes (R225). -/
def refillRanks (s : State) : State := foldS (List.range 8) s fun s n => s.updCi n fun c => { c with refill := true }

/-! ## Key scanner: keys and cells -/

/-- A velocity of KEY_NOTE, or one the spec does not state. -/
inductive KeyVel where
  | known (v : Nat) | unstated
  deriving DecidableEq, Repr

/-- A KEY_NOTE to be raised: kind 0 off, 1 on, 2 pressure. -/
structure KeyEv where
  kind : Nat
  key : Nat
  vel : KeyVel
  deriving DecidableEq, Repr

/-- The rounded velocity of R230 is `v` or more: 65,534 ln(slow/dt) / ln(slow/fast) ≥ v - 3/2, compared exactly as powers of
whole numbers, for fast < dt < slow. -/
def velAtLeast (fast slow dt v : Nat) : Bool :=
  decide (v ≤ 1) || decide (slow ^ (2 * v - 3) * dt ^ 131068 ≤ slow ^ 131068 * fast ^ (2 * v - 3))

/-- Velocity of a time in microseconds (R230): between the limits, the largest value that the formula reaches. -/
def keyVelocity (fast slow dt : Nat) : Nat :=
  if dt ≤ fast then 65535 else if slow ≤ dt then 1
  else [15, 14, 13, 12, 11, 10, 9, 8, 7, 6, 5, 4, 3, 2, 1, 0].foldl
    (fun v k => if velAtLeast fast slow dt (v + 2 ^ k) then v + 2 ^ k else v) 0

/-- Cell `c`. -/
def Scanner.cell (x : Scanner) (c : Nat) : Cell := bankAt x.cells c {}

/-- Key `k`. -/
def Scanner.key (x : Scanner) (k : Nat) : Key := bankAt x.keys k {}

/-- Cells of a contact key: first and second contact (R229). -/
def firstCell (k : Nat) : Nat := 16 * (k / 8) + k % 8

/-- The second contact's cell. -/
def secondCell (k : Nat) : Nat := 16 * (k / 8) + 8 + k % 8

/-- Keys of a mode: 64 of two contacts, or 128 of one sensor. -/
def Scanner.keyCount (x : Scanner) : Nat := if x.mode = 1 then 64 else 128

/-- Cells of a key. -/
def Scanner.cellsOf (x : Scanner) (k : Nat) : List Nat := if x.mode = 1 then [firstCell k, secondCell k] else [k]

/-- A cell lies on a line reported open. -/
def Scanner.lineOpen (x : Scanner) (c : Nat) : Bool := x.senseOpen.getLsbD (c % 8) || x.driveOpen.getLsbD (c / 8)

/-- A key is suppressed (R234). -/
def Scanner.suppressed (x : Scanner) (k : Nat) : Bool := (x.cellsOf k).any fun c => x.lineOpen c || (x.cell c).faulty

/-- Scan n is an injection scan (R228). -/
def isInjection (n : Nat) : Bool := n % 64 == 63

/-- Time of a pass in microseconds, and of the pass before it whose readings count. -/
def passTime (n p : Nat) : Nat := 100 * n + 10 * p

/-- Time of the pass before. -/
def passBefore (n p : Nat) : Nat :=
  if 0 < p then passTime n (p - 1) else if isInjection (n - 1) then passTime (n - 2) 9 else passTime (n - 1) 9

/-! ### CONTACT mode (R229, R230) -/

/-- What a code says of a contact: closed, open, or its last state. -/
def contactReads (closed : Bool) (x : Nat) : Bool :=
  if 0xC000 ≤ x then true else if x ≤ 0x3FFF then false else closed

/-- A code lies between the thresholds. -/
def inBand (x : Nat) : Bool := decide (0x3FFF < x) && decide (x < 0xC000)

/-- One pass over a contact: it changes after two passes that agree. -/
def Cell.contact (c : Cell) (x : Nat) : Cell :=
  let r := contactReads c.closed x
  { c with closed := if r = c.last then r else c.closed, last := r, code := x,
           all8000 := c.all8000 && x == 0x8000, allRest := c.allRest && decide (x ≤ 0x3FFF) }

/-- One pass of a key: contact 1 closes, contact 2 closes, contact 2 opens, contact 1 opens (R230). The flag is an order
error. `o1`, `o2` are the contacts before the pass, `c1`, `c2` after it, `e` the time of an edge. -/
def Key.contact (k : Key) (fast slow : Nat) (sup o1 o2 c1 c2 : Bool) (e no : Nat) : Key × List KeyEv × Bool :=
  let k := if !o1 && c1 then { k with t1 := e } else k
  let on := !o2 && c2 && !k.on && !k.waitRelease && !sup
  let v := if c1 then keyVelocity fast slow (e - k.t1) else 32768
  let ev1 : List KeyEv := if on then [⟨1, no, .known v⟩] else []
  let err := on && !c1
  let k := if on then { k with on := true } else k
  let k := if o2 && !c2 then { k with t2 := e } else k
  let off := o1 && !c1 && k.on
  let ev2 : List KeyEv :=
    if off then [⟨0, no, if c2 then .unstated else .known (keyVelocity fast slow (e - k.t2))⟩] else []
  let k := if off then { k with on := false } else k
  let k := if !c1 && !c2 then { k with waitRelease := false } else k
  (k, ev1 ++ ev2, err)

/-- One pass of all cells and keys. -/
def Scanner.pass (x : Scanner) (p : Nat) (codes : List Nat) : Scanner × List KeyEv :=
  let cells := (List.range 128).foldl (fun b c => bankPut b c ((x.cell c).contact (codes.getD c 0))) x.cells
  let y := { x with cells := cells }
  let e := passBefore x.scan p
  (List.range 64).foldl (fun (a : Scanner × List KeyEv) k =>
    let (key, evs, err) := (x.key k).contact x.velFast x.velSlow (x.suppressed k)
      (x.cell (firstCell k)).closed (x.cell (secondCell k)).closed
      (y.cell (firstCell k)).closed (y.cell (secondCell k)).closed e (x.baseKey + k)
    ({ a.1 with keys := bankPut a.1.keys k key, orderErrors := a.1.orderErrors + (if err then 1 else 0) }, a.2 ++ evs))
    (y, [])

/-- All passes of a scan. -/
def Scanner.passes (x : Scanner) : Nat → List (List Nat) → Scanner × List KeyEv
  | _, [] => (x, [])
  | p, codes :: r =>
    let (y, e) := x.pass p codes
    let (z, f) := y.passes (p + 1) r
    (z, e ++ f)

/-! ### ANALOG mode (R231) -/

/-- Position of a code, x 10,000. -/
def Scanner.position (x : Scanner) (c : Cell) (code : Nat) : Rat :=
  10000 * clampQ 0 1 (((code : Rat) - c.rest) / x.analogSpan)

/-- A pressure as a 16-bit value. -/
def pressureCode (p : Rat) : Nat := (roundHalfUp (p * 65535)).toNat

/-- One scan of an analog key, from the old position to the new one. -/
def Key.analog (k : Key) (x : Scanner) (sup : Bool) (old p : Rat) (now no : Nat) : Key × List KeyEv :=
  let on : Rat := x.onThr
  let k := if old < x.startThr ∧ (x.startThr : Rat) ≤ p then { k with startAt := some now } else k
  let goOn := !k.on && !k.waitRelease && !sup && decide (old < on) && decide (on ≤ p)
  let vel : KeyVel := match k.startAt with
    | some a => .known (keyVelocity x.velFast x.velSlow (now - a))
    | none => .unstated
  let ev1 : List KeyEv := if goOn then [⟨1, no, vel⟩] else []
  let k := if goOn then { k with on := true, sent := 0 } else k
  let goOff := k.on && decide (p < x.offThr)
  let ev2 : List KeyEv := if goOff then [⟨0, no, .unstated⟩] else []
  let k := if goOff then { k with on := false } else k
  let k := if p < x.offThr then { k with waitRelease := false } else k
  let k := { k with pressure := if k.on then clampQ 0 1 ((p - on) / (10000 - on)) else 0 }
  let c := pressureCode k.pressure
  let send := k.on && decide (x.pressureStep ≤ Nat.max c k.sent - Nat.min c k.sent) &&
    k.sentAt.all fun a => decide (1000 ≤ now - a)
  let ev3 : List KeyEv := if send then [⟨2, no, .known c⟩] else []
  (if send then { k with sent := c, sentAt := some now } else k, ev1 ++ ev2 ++ ev3)

/-- One analog scan: the rest capture during scans 0 to 62, keys after it. -/
def Scanner.analogScan (x : Scanner) (codes : List Nat) : Scanner × List KeyEv :=
  (List.range 128).foldl (fun (a : Scanner × List KeyEv) c =>
    let cell := x.cell c
    let code := codes.getD c 0
    if x.captured then
      let p := x.position cell code
      let (k, evs) := (x.key c).analog x (x.suppressed c) cell.pos p (100 * x.scan) (x.baseKey + c)
      let cell := { cell with
        code := code, pos := p, all8000 := cell.all8000 && code == 0x8000,
        allRest := cell.allRest && decide (p < x.startThr) }
      ({ a.1 with cells := bankPut a.1.cells c cell, keys := bankPut a.1.keys c k }, a.2 ++ evs)
    else
      let cell := { cell with code := code, sum := cell.sum + code, all8000 := cell.all8000 && code == 0x8000 }
      ({ a.1 with cells := bankPut a.1.cells c cell }, a.2)) (x, [])

/-- The rest codes are the means of scans 0 to 62; scan 63 is an injection scan, whose readings are not used (R228). -/
def Scanner.capture (x : Scanner) : Scanner :=
  { x with captured := true, cells := (List.range 128).foldl (fun b c =>
      let cell := x.cell c
      bankPut b c { cell with rest := mkRat cell.sum 63 }) x.cells }

/-! ### Ranges and re-seeding (R233 to R235) -/

/-- A cell's scan is out of range: between the thresholds in every pass, or outside `key.cell_min` to `key.cell_max`. -/
def Scanner.outOfRange (x : Scanner) (codes : List Nat) : Bool :=
  if x.mode = 1 then codes.all inBand else codes.any fun c => decide (c < x.cellMin) || decide (x.cellMax < c)

/-- Counts a scan in or out of range; an injection scan goes on as the scan before it. -/
def Scanner.rangeScan (x : Scanner) (passes : List (List Nat)) : Scanner :=
  { x with cells := (List.range 128).foldl (fun b c =>
      let cell := x.cell c
      let out := if isInjection x.scan then decide (0 < cell.outScans)
        else x.outOfRange (passes.map fun l => l.getD c 0)
      bankPut b c (if out then { cell with outScans := Nat.min 64 (cell.outScans + 1), inScans := 0 }
        else { cell with outScans := 0, inScans := Nat.min 64 (cell.inScans + 1) })) x.cells }

/-- A key is held as its cells stand. -/
def Scanner.heldNow (x : Scanner) (k : Nat) : Bool :=
  if x.mode = 1 then (x.cell (firstCell k)).closed || (x.cell (secondCell k)).closed
  else decide ((x.onThr : Rat) ≤ (x.cell k).pos)

/-- Re-seeds a key from the present readings without events: a key found held waits for its release (R235). -/
def Scanner.reseedKey (x : Scanner) (k : Nat) : Scanner :=
  { x with keys := bankPut x.keys k { x.key k with
      on := false, pressure := 0, sent := 0, startAt := none, waitRelease := x.heldNow k } }

/-- Takes a cell's state from the present readings, the last pass of a scan; every pass counts for Table 09-6, and a scan of
the capture for the rest code. -/
def Scanner.seedCell (x : Scanner) (passes : List (List Nat)) (c : Nat) : Scanner :=
  let cell := x.cell c
  let codes := passes.map fun l => l.getD c 0
  let code := codes.getLastD 0
  let cell := { cell with code := code, all8000 := cell.all8000 && codes.all (· == 0x8000) }
  { x with cells := bankPut x.cells c (if x.mode = 1 then
      let r := contactReads cell.closed code
      { cell with closed := r, last := r, allRest := cell.allRest && codes.all fun y => decide (y ≤ 0x3FFF) }
    else if x.captured then
      let p := x.position cell code
      { cell with pos := p, allRest := cell.allRest && decide (p < x.startThr) }
    else { cell with sum := cell.sum + code }) }

/-- Re-seeds every key from the readings of a scan. -/
def Scanner.reseedAll (x : Scanner) (passes : List (List Nat)) : Scanner :=
  let x := (List.range 128).foldl (fun x c => x.seedCell passes c) x
  let x := (List.range x.keyCount).foldl Scanner.reseedKey x
  { x with reseed := false }

/-- Switches the keys off that have become suppressed, with a KEY_NOTE off of velocity 0 each (R234). -/
def Scanner.silence (x : Scanner) : Scanner × List KeyEv :=
  (List.range x.keyCount).foldl (fun (a : Scanner × List KeyEv) k =>
    let key := a.1.key k
    if x.suppressed k && (key.on || key.pressure != 0) then
      ({ a.1 with keys := bankPut a.1.keys k { key with on := false, pressure := 0 } },
        if key.on then a.2 ++ [⟨0, x.baseKey + k, .known 0⟩] else a.2)
    else a) (x, [])

/-! ### Diagnostics (R233, Table 09-6) -/

/-- The 16 cells of a sense line. -/
def senseCells (n : Nat) : List Nat := (List.range 16).map fun d => 8 * d + n

/-- The 8 cells of a drive line. -/
def driveCells (d : Nat) : List Nat := (List.range 8).map fun n => 8 * d + n

/-- A sense line passes. -/
def sensePasses (r : ScanReadings) (n : Nat) : Bool :=
  decide (0x400 ≤ r.senseMove.getD n 0) && decide (r.senseMove.getD n 0 ≤ 0x2000)

/-- A drive line passes. -/
def drivePasses (r : ScanReadings) (d : Nat) : Bool := decide (20 ≤ r.driveUa.getD d 0)

/-- Keys that use a cell of a list. -/
def Scanner.keysOn (x : Scanner) (l : List Nat) : List Nat :=
  (List.range x.keyCount).filter fun k => (x.cellsOf k).any l.contains

/-- A KEY_FAULT argument: kind, plus 0x80 when cleared, and the line or cell. -/
def keyFault (kind : Nat) (cleared : Bool) (n : Nat) : BitVec 16 := arg2 (kind + if cleared then 128 else 0) n

/-- Sense lines. -/
def senseCheck (r : ScanReadings) (a : Scanner × List (BitVec 16)) (n : Nat) : Scanner × List (BitVec 16) :=
  let x := a.1
  let isOpen := x.senseOpen.getLsbD n
  let m := BitVec.ofNat 8 (2 ^ n)
  if sensePasses r n then
    if isOpen then
      ((x.keysOn (senseCells n)).foldl Scanner.reseedKey { x with senseOpen := x.senseOpen &&& ~~~m },
        a.2 ++ [keyFault 1 true n])
    else a
  else if (senseCells n).all fun c => (x.cell c).all8000 then
    if isOpen then a else ({ x with senseOpen := x.senseOpen ||| m }, a.2 ++ [keyFault 1 false n])
  else ({ x with checkFails := x.checkFails + 1 }, a.2)

/-- Drive lines. -/
def driveCheck (r : ScanReadings) (a : Scanner × List (BitVec 16)) (d : Nat) : Scanner × List (BitVec 16) :=
  let x := a.1
  let isOpen := x.driveOpen.getLsbD d
  let m := BitVec.ofNat 16 (2 ^ d)
  if drivePasses r d then
    if isOpen then
      ((x.keysOn (driveCells d)).foldl Scanner.reseedKey { x with driveOpen := x.driveOpen &&& ~~~m },
        a.2 ++ [keyFault 2 true d])
    else a
  else if (driveCells d).all fun c => (x.cell c).allRest then
    if isOpen then a else ({ x with driveOpen := x.driveOpen ||| m }, a.2 ++ [keyFault 2 false d])
  else ({ x with checkFails := x.checkFails + 1 }, a.2)

/-- Cells. -/
def cellCheck (r : ScanReadings) (a : Scanner × List (BitVec 16)) (c : Nat) : Scanner × List (BitVec 16) :=
  let x := a.1
  let cell := x.cell c
  if sensePasses r (c % 8) && drivePasses r (c / 8) && !x.lineOpen c && !cell.faulty && decide (64 ≤ cell.outScans) then
    ({ x with cells := bankPut x.cells c { cell with faulty := true } }, a.2 ++ [keyFault 3 false c])
  else a

/-- The decision of an injection scan; the readings are collected anew from here on. -/
def Scanner.diagnose (x : Scanner) (r : ScanReadings) : Scanner × List (BitVec 16) :=
  let a := (List.range 8).foldl (senseCheck r) (x, [])
  let a := (List.range 16).foldl (driveCheck r) a
  let a := (List.range 128).foldl (cellCheck r) a
  ({ a.1 with cells := (List.range 128).foldl (fun b c =>
      bankPut b c { a.1.cell c with all8000 := true, allRest := true }) a.1.cells }, a.2)

/-! ### Events and the scan -/

/-- KEY_NOTE, to a tenant that is OPEN, from the running firmware, for keys up to 127 (R10, R232). -/
def raiseKey (s : State) (e : KeyEv) : State :=
  if e.key ≤ 127 ∧ s.fwRuns = true ∧ (s.ten s.scan.tenant).st = .opened then
    let put := fun (s : State) (v : Nat) =>
      raiseTo s s.scan.tenant .keyNote (arg2 s.scan.part e.key) ([BitVec.ofNat 8 e.kind, 0] ++ leBytes 2 v)
    match e.vel with
    | .known v => put s v
    | .unstated => put s.drew ((Config.freeWord s.freeCtr).toNat % 65536)
  else s

/-- Takes a scanner and raises its notes. -/
def State.putScan (s : State) (a : Scanner × List KeyEv) : State := foldS a.2 { s with scan := a.1 } raiseKey

/-- A cell fault clears, and its key is re-seeded (R235). -/
def clearCell (s : State) (c : Nat) : State :=
  let x := s.scan
  let cell := x.cell c
  if cell.faulty = true ∧ 64 ≤ cell.inScans then
    let x := { x with cells := bankPut x.cells c { cell with faulty := false } }
    let x := (x.keysOn [c]).foldl Scanner.reseedKey x
    steward { s with scan := x } .keyFault (keyFault 3 true c) []
  else s

/-- The rest codes are captured after scan 63. -/
def captureRest (s : State) : State :=
  if s.scan.mode = 2 ∧ s.scan.captured = false ∧ s.scan.scan = 64 then { s with scan := s.scan.capture } else s

/-- One full scan. -/
def keyScan (s : State) (r : ScanReadings) : State :=
  let s := foldS (List.range 128) (captureRest s) clearCell
  let inj := isInjection s.scan.scan
  let x := s.scan.rangeScan r.passes
  let s := { s with scan := x }
  let s :=
    if inj then
      let (x, faults) := x.diagnose r
      foldS faults { s with scan := x } fun s f => steward s .keyFault f []
    else if x.reseed then { s with scan := x.reseedAll r.passes }
    else s.putScan (if x.mode = 1 then x.passes 0 r.passes else x.analogScan (r.passes.headD []))
  let s := s.putScan s.scan.silence
  { s with scan := { s.scan with scan := s.scan.scan + 1 } }

/-- The scanner runs. -/
def State.scans (s : State) : Bool := s.fieldRuns && s.scan.mode != 0

/-- KEYSCAN_CONFIG executes (class X; OFF sends every key that is on a KEY_NOTE off of velocity 0). -/
def doKeyscanConfig (s : State) (t : Tenant) (g : Tag) (mode : Nat) (to_ : Tenant) (part : Nat) : State :=
  if s.fieldDown then fail s t g .fieldDown
  else if s.scan.mode ≠ 0 ∧ mode ≠ 0 then fail s t g .busyClassX
  else if mode = 0 then
    let on := (List.range s.scan.keyCount).filter fun k => (s.scan.key k).on
    let s := if s.scan.mode = 0 then s else foldS on s fun s k => raiseKey s ⟨0, s.scan.baseKey + k, .known 0⟩
    ok { s with scan := { s.scan with mode := 0, tenant := to_, part := part, keys := [] } } t g
  else
    ok { s with scan := { s.scan with
      mode := mode, tenant := to_, part := part, scan := 0, captured := false, reseed := false,
      cells := [], keys := [], senseOpen := 0, driveOpen := 0 } } t g

/-- Faulty cells as 16 bytes. -/
def Scanner.faultBytes (x : Scanner) : List Byte :=
  leBytes 16 (((List.range 128).map fun c => if (x.cell c).faulty then 2 ^ c else 0).sum)

/-- KEYSCAN_STATUS executes. -/
def doKeyscanStatus (s : State) (t : Tenant) (g : Tag) : State :=
  if s.fieldDown then fail s t g .fieldDown
  else okBytes s t g ([BitVec.ofNat 8 s.scan.mode, s.scan.senseOpen] ++ leBytes 2 s.scan.driveOpen.toNat
    ++ s.scan.faultBytes)

/-! ## The rows -/

/-- CI_CONFIG. -/
def execCiConfig (t : Tenant) (g : Tag) (s : State) : Host.Outcome State Fault Refusal :=
  .next (onCmd s t g fun b => match b with
    | .ciConfig n r k => some (doCiConfig s t g n r k)
    | _ => none)

/-- KEYSCAN_CONFIG. -/
def execKeyscanConfig (t : Tenant) (g : Tag) (s : State) : Host.Outcome State Fault Refusal :=
  .next (onCmd s t g fun b => match b with
    | .keyscanConfig m u p => some (doKeyscanConfig s t g m u p)
    | _ => none)

/-- KEYSCAN_STATUS. -/
def execKeyscanStatus (t : Tenant) (g : Tag) (s : State) : Host.Outcome State Fault Refusal :=
  .next (onCmd s t g fun b => match b with
    | .keyscanStatus => some (doKeyscanStatus s t g)
    | _ => none)

/-- CI_SAMPLE: the channel emits its sample. -/
def execCiSample (c : Fin 8) (bits : BitVec 128) (s : State) : Host.Outcome State Fault Refusal :=
  .next (if s.fieldRuns then ciSample s c.val bits else s)

/-- CI_OVERLOAD_END. -/
def execCiOverloadEnd (c : Fin 8) (s : State) : Host.Outcome State Fault Refusal :=
  .next (s.updCi c.val fun c => { c with episode := false })

/-- KEY_SCAN. -/
def execKeyScan (r : ScanReadings) (s : State) : Host.Outcome State Fault Refusal :=
  .next (if s.scans then keyScan s r else s)

/-- KEY_REST_CAPTURE_DONE: after scan 63; KEY_SCAN does the same when this row has not been given. -/
def execKeyRestCaptureDone (s : State) : Host.Outcome State Fault Refusal := .next (captureRest s)

/-- KEY_CELL_FAULT_CLEAR: after 64 scans in range; KEY_SCAN does the same when this row has not been given. -/
def execKeyCellFaultClear (cell : Fin 128) (s : State) : Host.Outcome State Fault Refusal :=
  .next (clearCell s cell.val)

end Sys2Proof.Machine
end

