-- ==== Sys2Proof/Machine/NoteOps.lean ====
section
/-! DEFINITION. The note commands (R98 to R101, R114, R161, R284): how a note is found, started, retriggered and changed,
and the rows of Table 04-4. -/

namespace Sys2Proof.Machine

/-! ## Finding a note (R154, R160, R161) -/

/-- The voice that a note ID of a tenant names: started or about to start; a voice in a steal fade has lost its ID. -/
def State.note? (s : State) (t : Tenant) (id : BitVec 32) : Option Voice :=
  s.voices.find? fun v => v.named && v.owner == .tenant t && v.noteId == id

/-- The slot in which a note with this ID waits for a steal fade. -/
def State.waiting? (s : State) (t : Tenant) (id : BitVec 32) : Option Voice :=
  s.voices.find? fun v => v.fading && match v.succ with
    | some n => n.owner == .tenant t && n.noteId == id
    | none => false

/-- The note with this ID that was spilled to another unit. -/
def TenantSt.out? (x : TenantSt) (id : BitVec 32) : Option SpilledOut := x.spilledOut.find? fun o => o.noteId == id

/-- Changes the spilled note with this ID. -/
def TenantSt.updOut (x : TenantSt) (id : BitVec 32) (f : SpilledOut → SpilledOut) : TenantSt :=
  { x with spilledOut := x.spilledOut.map fun o => if o.noteId = id then f o else o }

/-- The ID of a UMP note (R98). -/
def umpId (part key : Nat) : BitVec 32 := BitVec.ofNat 32 (0xFF000000 + part * 256 + key)

/-! ## Records to spilled notes (R284, R357) -/

/-- Sends a command record for a spilled note, with the tick at which it would take effect here; its command waits for
the report when there is one. -/
def sendCmd (s : State) (t : Tenant) (g : Option Tag) (o : SpilledOut) (c : NoteCmd) (affected : Option Nat) : State :=
  let at_ := s.core.tide.succ s.core.osr
  let s := ringSend s (.command o.unit t g o.noteId c at_.smp at_.et)
  match g with
  | some g => { s with ring := { s.ring with
      waits := s.ring.waits ++ [{ t := t, g := g, noteId := o.noteId, affected := affected }] } }
  | none => s

/-- Holds a command for a note that waits for its steal fade (R161). -/
def holdFor (s : State) (v : Voice) (c : NoteCmd) : State :=
  s.setVoice { v with succ := v.succ.map fun n => { n with holding := n.holding ++ [c] } }

/-- Holds a command for a spilled note that has been refused and waits for its steal tick (R283). -/
def holdOut (s : State) (t : Tenant) (o : SpilledOut) (c : NoteCmd) : State :=
  s.updTen t fun x => x.updOut o.noteId fun o => { o with holding := o.holding ++ [c] }

/-- Queues the writes of a command to a sounding note: parameters by their class, all else by class L (R101). -/
def queueCmd (s : State) (t : Tenant) (v : Voice) (c : NoteCmd) : State :=
  match c with
  | .params l => foldS l s fun s e =>
    match pcls e.1 with
    | .v => match s.note? t v.noteId with
      | some w => s.setVoice (paramTo w e)
      | none => s
    | .l => s.writeL (.voiceParam t v.noteId e.1 e.2)
    | .b => s.writeB (.voiceParam t v.noteId e.1 e.2)
  | _ => s.writeL (.note t v.noteId c)

/-- A command reaches one note wherever it is: in a voice, behind a fade, or on another unit. `g` is the tag that waits
for a report of the ring. The flag says that such a report is awaited; none: the tenant has no such note. -/
def cmdToNote (s : State) (t : Tenant) (g : Option Tag) (id : BitVec 32) (c : NoteCmd) (affected : Option Nat) :
    Option (State × Bool) :=
  match s.note? t id with
  | some v => some (queueCmd s t v c, false)
  | none =>
    match s.waiting? t id with
    | some v => some (holdFor s v c, false)
    | none =>
      match (s.ten t).out? id with
      | some o => if o.refused then some (holdOut s t o c, false) else some (sendCmd s t g o c affected, g.isSome)
      | none => none

/-- A note command of Table 04-4 that names one note. -/
def noteCmd (s : State) (t : Tenant) (g : Tag) (id : BitVec 32) (c : NoteCmd) : State :=
  match cmdToNote s t (some g) id c none with
  | none => fail s t g .notFound
  | some (s, true) => startLong s t g
  | some (s, false) => ok s t g

/-! ## All notes of a tenant (R67 step 3, R84, R357) -/

/-- IDs of the tenant's notes in voices and behind fades, in a part or in all parts. -/
def State.localIds (s : State) (t : Tenant) (part : Option Nat) : List (BitVec 32) :=
  s.voices.filterMap fun v =>
    if v.named then if v.owner = .tenant t ∧ (part = none ∨ part = some v.part) then some v.noteId else none
    else match v.succ with
      | some n => if n.owner = .tenant t ∧ (part = none ∨ part = some n.part) then some n.noteId else none
      | none => none

/-- IDs of the tenant's notes on other units. -/
def TenantSt.outIds (x : TenantSt) (part : Option Nat) : List (BitVec 32) :=
  (x.spilledOut.filter fun o => part == none || part == some o.part).map (·.noteId)

/-- One command to every note of a tenant, without a completion of its own. -/
def cmdToAll (s : State) (t : Tenant) (part : Option Nat) (c : NoteCmd) : State :=
  foldS (s.localIds t part ++ (s.ten t).outIds part) s fun s id =>
    match cmdToNote s t none id c none with
    | some (s, _) => s
    | none => s

/-! ## Starting and retriggering (R99, R116, R157) -/

/-- The note a NOTE_ON or a UMP note on asks for, with its copy of the part's working set (R116). -/
def newNote (s : State) (t : Tenant) (id : BitVec 32) (part key vel : Nat) (detune : Int) (ref : Option (Tenant × Tag)) :
    Succ :=
  { owner := .tenant t, noteId := id, part := part, key := key, vel := vel, detune := detune,
    copy := ((s.ten t).part part).workset, ref := ref }

/-- A note on whose ID names a note of the tenant: a voice retriggers at its coming tick, a note that waits for a fade starts
with the new key, and a note on another unit retriggers there by a record as those of R284 (log entry 24). The flag: the
completion comes later, with the tick or with the report. -/
def retrigger (s : State) (t : Tenant) (id : BitVec 32) (r : Retrig) : Option (State × Bool) :=
  match s.note? t id with
  | some v =>
    let s := finishRef s (v.retrig.bind (·.ref)) .ok (.note 0)
    some (s.setVoice { v with retrig := some r }, true)
  | none =>
    match s.waiting? t id with
    | some v =>
      some (s.setVoice { v with succ := v.succ.map fun n => { n with key := r.key, vel := r.vel, detune := r.detune } },
        false)
    | none =>
      match (s.ten t).out? id with
      | some o =>
        if o.refused then
          some (s.updTen t fun x => x.updOut id fun o => { o with key := r.key, vel := r.vel, detune := r.detune }, false)
        else some (sendCmd s t (r.ref.map (·.2)) o (.retrigger r.key r.vel r.detune) none, true)
      | none => none

/-- NOTE_ON executes (R99, R100, R157). -/
def doNoteOn (s : State) (t : Tenant) (g : Tag) (a : NoteOnArgs) : State :=
  let run := s.updTen t fun x => x.updCmd g fun c => { c with phase := .executing }
  match retrigger run t a.noteId { key := a.key, vel := a.velocity, detune := a.detune, ref := some (t, g) } with
  | some (s', true) => s'
  | some (s', false) => ok s' t g
  | none =>
    match place run t (newNote s t a.noteId a.part a.key a.velocity a.detune (some (t, g))) a.noSpill a.noSteal with
    | some s' => s'
    | none => fail s t g .noVoice

/-! ## ALL_RELEASE (R119, R159) -/

/-- ALL_RELEASE in either mode: every note of the named part or parts; SHORT counts them. -/
def doAllRelease (s : State) (t : Tenant) (g : Tag) (part : Option Nat) (fade : Bool) : State :=
  let loc := s.localIds t part
  let out := (s.ten t).outIds part
  let n := loc.length + out.length
  let (s, wait) := (loc ++ out).foldl (fun (a : State × Bool) id =>
    match cmdToNote a.1 t (some g) id (.allRelease part fade) (some n) with
    | some (s, w) => (s, a.2 || w)
    | none => a) (s, false)
  if wait then startLong s t g else okShort s t g n

/-! ## Parameters (R101, R145) -/

/-- The first entry that does not fit the set as the entries before it leave it; entries stand at `off`. -/
def badEntry (ps : ParamSet) : List (Nat × Int) → Nat → Option Nat
  | [], _ => none
  | e :: l, off => if paramFitsIn ps e.1 e.2 then badEntry (pset ps e.1 e.2) l (off + 6) else some (off + 2)

/-- The set a VOICE_PARAM writes into. -/
def State.noteCopy (s : State) (t : Tenant) (id : BitVec 32) : Option ParamSet :=
  match s.note? t id with
  | some v => some v.copy
  | none => match s.waiting? t id with
    | some v => v.succ.map (·.copy)
    | none => ((s.ten t).out? id).map (·.copy)

/-- VOICE_PARAM executes. -/
def doVoiceParam (s : State) (t : Tenant) (g : Tag) (id : BitVec 32) (l : List (Nat × Int)) : State :=
  match s.noteCopy t id with
  | none => fail s t g .notFound
  | some ps =>
    match badEntry ps l 8 with
    | some off => badField s t g off
    | none => noteCmd s t g id (.params l)

/-- A class-V entry of PART_PARAM: the working set and the copies of the part's notes take it (R101, R116). -/
def partV (s : State) (t : Tenant) (part : Nat) (e : Nat × Int) : State :=
  let s := s.updTen t fun x => x.updPart part fun p => { p with workset := pset p.workset e.1 e.2 }
  { s with voices := s.voices.map fun v =>
      if v.named then if v.owner = .tenant t ∧ v.part = part then { v with copy := pset v.copy e.1 e.2 } else v
      else { v with succ := v.succ.map fun n =>
            if n.owner = .tenant t ∧ n.part = part then { n with copy := pset n.copy e.1 e.2 } else n } }

/-- One entry of PART_PARAM by its class. -/
def partEntry (t : Tenant) (part : Nat) (s : State) (e : Nat × Int) : State :=
  match pcls e.1 with
  | .v => partV s t part e
  | .l => s.writeL (.partParam t part e.1 e.2)
  | .b => s.writeB (.partParam t part e.1 e.2)

/-- PART_PARAM executes. -/
def doPartParam (s : State) (t : Tenant) (g : Tag) (part : Nat) (l : List (Nat × Int)) : State :=
  match badEntry ((s.ten t).part part).workset l 8 with
  | some off => badField s t g off
  | none => ok (foldS l s (partEntry t part)) t g

/-! ## Patch selection (R116) -/

/-- A slot's image, when it holds one that PATCH_SELECT may take: not empty, a VOICE image, not LOADING. -/
def State.voicePatch (s : State) (slot : Nat) : Option PatchSlot :=
  match bankGet s.mem.patches slot with
  | some p => if isVoiceImage p.image && !p.loading then some p else none
  | none => none

/-- A PART_PARAM write of the part that has not landed reaches the notes of the part that are there, and neither the set
that replaces the working set nor the notes that copy it (R116, R26). -/
def toNotes (t : Tenant) (part : Nat) (ids : List (BitVec 32)) (w : Write) : List Write :=
  match w with
  | .partParam t' p pid v => if t' = t ∧ p = part then ids.map fun id => .voiceParam t id pid v else [w]
  | w => [w]

/-- The part's working set becomes the slot's image. -/
def selectPatch (s : State) (t : Tenant) (part slot : Nat) (img : List Byte) : State :=
  let f := toNotes t part (s.localIds t (some part))
  let s := s.updTen t fun x => x.updPart part fun p => { p with workset := voiceImage img, slot := some slot }
  { s with pendL := s.pendL.flatMap f, readyL := s.readyL.flatMap f,
           pendB := s.pendB.flatMap f, readyB := s.readyB.flatMap f }

/-- Selects a slot when its bank is ON and it holds a VOICE image; else nothing. -/
def trySelect (s : State) (t : Tenant) (part slot : Nat) : State :=
  if s.mem.bankSt .patch (slot / 64) = .on then
    match s.voicePatch slot with
    | some p => selectPatch s t part slot p.image
    | none => s
  else s

/-! ## UMP (R98, R114, Table 04-19) -/

/-- A command to the UMP note of a key, when there is one. -/
def umpCmd (s : State) (t : Tenant) (part key : Nat) (c : NoteCmd) : State :=
  match cmdToNote s t none (umpId part key) c none with
  | some (s, _) => s
  | none => s

/-- A UMP note on. -/
def umpOn (s : State) (t : Tenant) (part key vel : Nat) : State :=
  let id := umpId part key
  match retrigger s t id { key := key, vel := vel, detune := 0 } with
  | some (s', _) => s'
  | none => (place s t (newNote s t id part key vel 0 none) false false).getD s

/-- A control change (Table 04-19). The table names the CC numbers 0, 6, 32, 100, 101, 120 and 123 with effects of their own and
does not say whether they are CC sources too: DESIGN CHOICE, log entry 13, they are none, and CC 6 does nothing unless RPN
0x0000 is selected. A CC source is v / full: the table gives a scaling for velocity only (log entry 13). -/
def umpControl (s : State) (t : Tenant) (part i v full : Nat) : State :=
  let p := (s.ten t).part part
  let top7 := if full = 127 then v else v / 2 ^ 25
  let upd := fun f => s.updTen t fun x => x.updPart part f
  match i with
  | 0 => s
  | 32 => if top7 ≤ 1 then upd fun p => { p with bank := top7 } else s
  | 101 => upd fun p => { p with rpnMsb := some top7 }
  | 100 => upd fun p => { p with rpnLsb := some top7 }
  | 6 => if p.rpnMsb = some 0 ∧ p.rpnLsb = some 0 then
      s.writeL (.partParam t part (pVoice 2) (Nat.min 48 top7)) else s
  | 120 => cmdToAll s t (some part) (.allRelease (some part) true)
  | 123 => cmdToAll s t (some part) (.allRelease (some part) false)
  | _ => s.writeL (.partCc t part i ((v : Rat) / full))

/-- Bend value -1 to 1 of a 14-bit or 32-bit word: (v - centre) / centre; the table gives no scaling (log entry 13). -/
def bendQ (v full : Nat) : Rat :=
  let half : Rat := if full = 16383 then 8192 else 2147483648
  ((v : Rat) - half) / half

/-- One packet. Pressure is v x 65,535 / full, rounded down, or v / full; the table gives a scaling for velocity only (log
entry 13). -/
def umpOne (t : Tenant) (s : State) (o : UmpOp) : State :=
  match o with
  | .noteOn p k v => umpOn s t p k v
  | .noteOff p k v => umpCmd s t p k (.off v)
  | .polyPressure p k v full => umpCmd s t p k (.pressure (v * 65535 / full))
  | .chanPressure p v full => s.writeL (.partPressure t p ((v : Rat) / full))
  | .control p i v full => umpControl s t p i v full
  | .program p n b =>
    let s := match b with
      | some b => s.updTen t fun x => x.updPart p fun q => { q with bank := b }
      | none => s
    trySelect s t p (((s.ten t).part p).bank * 128 + n)
  | .pitchBend p v full => s.writeL (.partBend t p (bendQ v full))
  | .perNoteCtl p k i v a => umpCmd s t p k (.umpCtl a i v)
  | .perNoteBend p k v => umpCmd s t p k (.umpBend ((v : Int) - 2147483648))
  | .bendRange p n => s.writeL (.partParam t p (pVoice 2) (Nat.min 48 n))
  | .ignored => s

/-- UMP executes: its packets in order at one tick (R114). -/
def doUmp (s : State) (t : Tenant) (g : Tag) (l : List UmpOp) : State := ok (foldS l s (umpOne t)) t g

/-! ## Landing of the note writes (R26) -/

/-- A note command takes effect on a started voice. -/
def cmdOnVoice (s : State) (v : Voice) (c : NoteCmd) : State :=
  match c with
  | .allRelease _ true => fadeNote s v
  | .retarget _ =>
    let w := applyCmd v c
    notePitch (s.setVoice w) w
  | _ => s.setVoice (applyCmd v c)

/-- Lands a note command: FADE begins a steal fade without a new note, the rest acts on the voice. A voice that has not
started keeps the write waiting. -/
def landNote (s : State) (t : Tenant) (id : BitVec 32) (c : NoteCmd) : State :=
  match s.note? t id with
  | none => s
  | some v =>
    if v.started then cmdOnVoice s v c else { s with readyL := s.readyL ++ [.note t id c] }

/-- Lands a voice parameter of class L or B. -/
def landVoiceParam (s : State) (t : Tenant) (id : BitVec 32) (pid : Nat) (x : Int) : State :=
  match s.note? t id with
  | some v => s.setVoice (if v.started then landParam v pid x else { v with copy := pset v.copy pid x })
  | none => match s.waiting? t id with
    | some v => s.setVoice { v with succ := v.succ.map fun n => { n with copy := pset n.copy pid x } }
    | none => s

/-- Lands a part parameter of class L or B: the working set and every note of the part (R101, R116). -/
def landPartParam (s : State) (t : Tenant) (part pid : Nat) (x : Int) : State :=
  let s := s.updTen t fun y => y.updPart part fun p => { p with workset := pset p.workset pid x }
  foldS (s.localIds t (some part)) s fun s id => landVoiceParam s t id pid x

/-! ## The rows -/

/-- NOTE_ON. -/
def execNoteOn (t : Tenant) (g : Tag) (s : State) : Host.Outcome State Fault Refusal :=
  .next (onCmd s t g fun b => match b with
    | .noteOn a => some (doNoteOn s t g a)
    | _ => none)

/-- NOTE_OFF. -/
def execNoteOff (t : Tenant) (g : Tag) (s : State) : Host.Outcome State Fault Refusal :=
  .next (onCmd s t g fun b => match b with
    | .noteOff id r => some (noteCmd s t g id (.off r))
    | _ => none)

/-- NOTE_CHANGE with item BEND. -/
def execNoteChangeBend (t : Tenant) (g : Tag) (s : State) : Host.Outcome State Fault Refusal :=
  .next (onCmd s t g fun b => match b with
    | .noteBend id c => some (noteCmd s t g id (.bend c))
    | _ => none)

/-- NOTE_CHANGE with item PRESSURE. -/
def execNoteChangePressure (t : Tenant) (g : Tag) (s : State) : Host.Outcome State Fault Refusal :=
  .next (onCmd s t g fun b => match b with
    | .notePressure id v => some (noteCmd s t g id (.pressure v))
    | _ => none)

/-- NOTE_CHANGE with item RETARGET. -/
def execNoteChangeRetarget (t : Tenant) (g : Tag) (s : State) : Host.Outcome State Fault Refusal :=
  .next (onCmd s t g fun b => match b with
    | .noteRetarget id k => some (noteCmd s t g id (.retarget k))
    | _ => none)

/-- ALL_RELEASE in mode RELEASE. -/
def execAllRelease (t : Tenant) (g : Tag) (s : State) : Host.Outcome State Fault Refusal :=
  .next (onCmd s t g fun b => match b with
    | .allRelease p false => some (doAllRelease s t g p false)
    | _ => none)

/-- ALL_RELEASE in mode FADE. -/
def execAllReleaseFade (t : Tenant) (g : Tag) (s : State) : Host.Outcome State Fault Refusal :=
  .next (onCmd s t g fun b => match b with
    | .allRelease p true => some (doAllRelease s t g p true)
    | _ => none)

/-- UMP. -/
def execUmp (t : Tenant) (g : Tag) (s : State) : Host.Outcome State Fault Refusal :=
  .next (onCmd s t g fun b => match b with
    | .ump l => some (doUmp s t g l)
    | _ => none)

/-- VOICE_PARAM. -/
def execVoiceParam (t : Tenant) (g : Tag) (s : State) : Host.Outcome State Fault Refusal :=
  .next (onCmd s t g fun b => match b with
    | .voiceParam id l => some (doVoiceParam s t g id l)
    | _ => none)

/-- PART_PARAM. -/
def execPartParam (t : Tenant) (g : Tag) (s : State) : Host.Outcome State Fault Refusal :=
  .next (onCmd s t g fun b => match b with
    | .partParam p l => some (doPartParam s t g p l)
    | _ => none)

end Sys2Proof.Machine
end

