-- ==== Sys2Proof/Machine/RingOps.lean ====
section
/-! DEFINITION. The mix ring: election, joining, leaving and healing, the frame and its sections, bus summing, the transport
of spilled notes, and the commands of Table 04-11 (R267 to R293). -/

namespace Sys2Proof.Machine

/-! ## Events and alignment -/

/-- RING_STATE (Table 11-6): kind 1 KEEPER_ELECTED, 2 JOINED, 3 LEFT, 4 FOLDED, 5 HEALED. -/
def ringState (s : State) (kind pos : Nat) (dieId : BitVec 64) : State :=
  steward s .ringState (arg2 kind pos) (leBytes 8 dieId.toNat)

/-- The unit's own `decim.group_delay`. -/
def State.ownDelay (s : State) : Nat := groupDelay16 s.mix.preset s.core.osr

/-- A new D_max, with A_u and the remainder (R279). A D_u above D_max, of a member in RATE_MISMATCH, which contributes nothing,
leaves A_u at 0: DESIGN CHOICE, log entry 21. -/
def setAlign (s : State) (dMax : Nat) : State :=
  let d : Int := dMax - s.ownDelay
  let a := ((d + 8) / 16).toNat
  { s with ring := { s.ring with dMax := dMax, align := a, residual := d - 16 * a } }

/-- Largest `decim.group_delay` among this unit and the members of the latest gossip that are neither gone nor in
RATE_MISMATCH, and a unit that joins (R279). -/
def State.largestDelay (s : State) (gone : List Nat) (joins : Option Nat) : Nat :=
  let l := (List.range 16).filterMap fun p =>
    let e := s.ring.lastGossip.getD p default
    if p = s.ring.position ∨ gone.contains p ∨ e.present = false ∨ e.mismatch = true then none else some e.groupDelay
  (l ++ joins.toList).foldl Nat.max s.ownDelay

/-- Every ring contribution is off (R278). -/
def contribsOff (s : State) : State :=
  foldS allBuses s fun s n => s.updBus n fun b =>
    { b with contrib := false, contribRamp := { origin := 0, target := 0 } }

/-- A keeper in NAP wakes (R292). -/
def wakeKeeper (s : State) : State :=
  if s.ring.role = .keeper ∧ s.power.st = .nap then noteWake s .event else s

/-- Counts a discarded section at the lane it came on: lane A, or lane B on a unit that folds away a dark upstream side
(R269, R271). -/
def codeError (s : State) : State :=
  if s.ring.laneA = .folded then { s with ring := { s.ring with codeB := s.ring.codeB + 1 } }
  else { s with ring := { s.ring with codeA := s.ring.codeA + 1 } }

/-- The unit takes what comes on the ring: on it, or from RING_START on; a standalone unit ignores its receivers (R268). -/
def State.listens (s : State) : Bool := s.onRing || s.ring.electing.isSome || s.ring.joining.isSome

/-- An item with this sender and number has been acted on; it is acknowledged in any case (R273). -/
def takeItem (s : State) (origin : Nat) (q : BitVec 16) : State × Bool :=
  let p := (origin, q)
  let s' := { s with ring := { s.ring with acks := s.ring.acks ++ [p] } }
  if s.ring.seen.contains p then (s', false)
  else ({ s' with ring := { s'.ring with seen := (p :: s'.ring.seen).take 1024 } }, true)

/-- A record acts once: it is acknowledged, and acts unless it repeats one that has acted (R273). -/
def onceOnly (s : State) (h : RingHead) (f : State → State) : State :=
  let (s, fresh) := takeItem s h.unit h.seq
  if fresh then f s else s

/-! ## What the unit writes into a frame (R271, R276, R281) -/

/-- The unit's entry of the gossip section: no free voice while it may take none (R10, R165, R291, R292). -/
def State.ownGossip (s : State) : GossipEntry :=
  { present := true, free := s.gossipFree, groupDelay := s.ownDelay, nap := s.power.st == .nap,
    hard := s.alloc.thermal == .hard, mismatch := s.ring.st == .rateMismatch }

/-- The marker a keeper writes at the opening boundary. -/
def State.ownMarker (s : State) : Marker :=
  { keeperId := s.fuse.dieId, smp := s.smp, fsIndex := s.core.fs, dMax := s.ring.dMax, hopNs := 0, epoch := s.ring.epoch,
    grant := s.ring.grant, crcOk := true, ownHopNs := 0, drift := 0 }

/-! ## Positions (R270) -/

/-- Renumbers an owner. -/
def Owner.remap (f : Nat → Nat) : Owner → Owner
  | .tenant t => .tenant t
  | .spilled o t => .spilled (f o) t

/-- Renumbers an item's addressee. -/
def RingItem.remap (f : Nat → Nat) : RingItem → RingItem
  | .note n u => .note { n with origin := f n.origin } (f u)
  | .startReport o t i => .startReport (f o) t i
  | .refusal o t i => .refusal (f o) t i
  | .ended o t i b => .ended (f o) t i b
  | .command u t g i c a e => .command (f u) t g i c a e
  | .endOrder u t i => .endOrder (f u) t i
  | .report o t g i a b l => .report (f o) t g i a b l
  | .bankOff o t i b => .bankOff (f o) t i b
  | i => i

/-- Renumbers every position the unit holds. -/
def remap (s : State) (f : Nat → Nat) : State :=
  let s := foldS allTenants s fun s t => s.updTen t fun x =>
    { x with spilledOut := x.spilledOut.map fun o => { o with unit := f o.unit } }
  { s with
    voices := s.voices.map fun v =>
      { v with owner := v.owner.remap f, succ := v.succ.map fun n => { n with owner := n.owner.remap f } }
    ring := { s.ring with
      out := s.ring.out.map fun o => { o with item := o.item.remap f }
      heldEnds := s.ring.heldEnds.map (RingItem.remap f)
      due := s.ring.due.map fun d => { d with c := { d.c with origin := f d.c.origin } }
      seen := s.ring.seen.map fun p => (f p.1, p.2)
      acks := s.ring.acks.map fun p => (f p.1, p.2)
      silent := s.ring.silent.foldl (fun b p => bankPut b (f p.1) p.2) [] } }

/-- Positions after a join: those from the new unit's on move up by one. -/
def joinMap (newPos : Nat) (p : Nat) : Nat := if newPos ≤ p then p + 1 else p

/-- Rank of a position among the units that stay. -/
def rankAmong (lost : List Nat) (p : Nat) : Nat := p - (lost.filter (· < p)).length

/-- Positions after a heal: a lost unit has none; the others are numbered along lane A from the keeper, which this unit's
own new position fixes. -/
def healMap (lost : List Nat) (units own newOwn : Nat) (p : Nat) : Nat :=
  if lost.contains p then gonePos
  else if units = 0 then p else (rankAmong lost p + units + newOwn - rankAmong lost own % units) % units

/-! ## Election (R274, R275) -/

/-- RING_START executes (R108, R274, R278). -/
def doRingStart (s : State) (t : Tenant) (g : Tag) : State :=
  if s.onRing ∨ s.ring.electing.isSome ∨ s.ring.joining.isSome then fail s t g .ringBusy
  else
    let s := contribsOff (startLong s t g)
    { s with ring := { s.ring with
      txOn := true, electing := some (t, g), higher := none, starts := 0, heals := 0, keeperId := 0, unhealed := false,
      out := [], acks := [], acksOut := [], seen := [] } }

/-- The unit announces that it joins, once (Table 11-5). -/
def announceJoin (s : State) : State :=
  if s.ring.out.any fun o => o.item == .join s.fuse.dieId then s else ringSend s (.join s.fuse.dieId)

/-- A START record: a higher die ID in the window wins, and a keeper answers with a keeper record. -/
def startRecord (s : State) (d : BitVec 64) (fs : Nat) : State :=
  if s.ring.role = .keeper then { s with ring := { s.ring with answers := s.ring.answers + 1 } }
  else if s.ring.electing.isSome = true ∧ s.fuse.dieId < d ∧ (s.ring.higher.all fun h => decide (h.1 < d)) = true then
    { s with ring := { s.ring with higher := some (d, fs) } }
  else s

/-- A keeper record in the window, or while the unit joins: it joins that ring. -/
def keeperRecord (s : State) (r : KeeperRecord) : State :=
  if s.ring.electing.isSome ∨ s.ring.joining.isSome then
    announceJoin { s with ring := { s.ring with
      joining := s.ring.electing.orElse fun _ => s.ring.joining, electing := none, keeperId := r.dieId,
      keeperFs := r.fsIndex, keeperDMax := r.dMax } }
  else s

/-- The election window ends: the unit becomes keeper, alone in state FOLDED, or joins the higher unit. -/
def windowEnd (s : State) : State :=
  match s.ring.electing with
  | none => s
  | some ref =>
    match s.ring.higher with
    | some (d, fs) =>
      announceJoin { s with ring := { s.ring with electing := none, joining := some ref, keeperId := d, keeperFs := fs } }
    | none =>
      let own := s.fuse.dieId
      let s := { s with ring := { s.ring with
        electing := none, role := .keeper, st := .folded, position := 0, units := 1, keeperId := own,
        keeperFs := s.core.fs, laneA := .folded, laneB := .folded, gossip := [], joins := [], leavers := [] } }
      let s := ringState (setAlign s s.ownDelay) 1 0 own
      finishRef s (some ref) .ok (.bytes (leBytes 8 own.toNat))

/-! ## Joining and unfolding (R288, R289) -/

/-- Ring state of a member or keeper. -/
def State.ringStNow (s : State) (whole : Bool) : RingSt :=
  if s.ring.role = .member ∧ s.core.fs ≠ s.ring.keeperFs then .rateMismatch else if whole then .ring else .folded

/-- A lane at a boundary: locked when both lanes of its link are, folded when a unit that joins finds it dark (R269, R288). -/
def RingLane.at (l : RingLane) (lock : Bool) : RingLane := if lock then .locked else if l = .noLight then .folded else l

/-- Lanes and ring state at a membership boundary. -/
def setLanes (s : State) (m : Membership) : State :=
  let s := { s with ring := { s.ring with
    laneA := s.ring.laneA.at (m.whole || m.lockA), laneB := s.ring.laneB.at (m.whole || m.lockB) } }
  { s with ring := { s.ring with st := s.ringStNow m.whole } }

/-- Takes position, number of units, keeper and D_max at a membership boundary: the keeper holds position 0 and sets D_max to
the largest group delay it knows; a member takes the keeper's (R270, R279). -/
def setMembers (s : State) (m : Membership) (position units : Nat) (gone : List Nat) : State :=
  let keeper := m.keeperId == s.fuse.dieId
  let d := if keeper then s.largestDelay gone m.newDelay else m.dMax
  let s := { s with ring := { s.ring with
    position := if keeper then 0 else position, units := units, keeperId := m.keeperId, gossip := [],
    epoch := if keeper then s.ring.epoch + 1 else s.ring.epoch } }
  setAlign (setLanes s m) d

/-- The join boundary on the unit that joins: it loads the keeper's tide unless its Fs differs, and its buses take a
synchronising reset. -/
def joinSelf (s : State) (ref : Tenant × Tag) (m : Membership) : State :=
  let match_ := s.core.fs == s.ring.keeperFs
  let s := if match_ then
      { s with core := { s.core with tide := { smp := m.smp, et := 0 }, boundaryDone := false } } else s
  let s := foldS allBuses s syncReset
  let s := { s with ring := { s.ring with
    role := .member, joining := none, txOn := true, gossip := [], lastGossip := [], leavers := [] } }
  let s := setMembers s m m.position m.units []
  let s := ringState s 2 m.newPosition m.newId
  let s := if match_ then s else steward s .rateMismatch (arg2 0 s.ring.keeperFs) []
  finishRef s (some ref) (if match_ then .ok else .rateMismatch) (.bytes (leBytes 8 m.keeperId.toNat))

/-- The join boundary on a unit of the ring. -/
def joinOther (s : State) (m : Membership) : State :=
  let s := { s with ring := { s.ring with joins := s.ring.joins.filter (· != m.newId) } }
  let s := setMembers s m (joinMap m.newPosition s.ring.position) (s.ring.units + 1) []
  ringState (remap s (joinMap m.newPosition)) 2 m.newPosition m.newId

/-- JOIN_BOUNDARY: on the joining unit when its join is under way, on the others at a block boundary; the firmware runs. -/
def joinBoundary (s : State) (m : Membership) : State :=
  if s.fwRuns = false then s
  else if m.newId = s.fuse.dieId then
    match s.ring.joining with
    | some ref => joinSelf s ref m
    | none => s
  else if s.onRing = true ∧ s.core.tide.isBoundary = true then joinOther s m
  else s

/-! ## Notes of units that go (R287, R290, Table 11-4) -/

/-- The commands that wait for a report about a note complete LOST (R285). -/
def loseWaits (s : State) (p : RingWait → Bool) : State :=
  let l := s.ring.waits.filter p
  let s := { s with ring := { s.ring with waits := s.ring.waits.filter fun w => !p w } }
  foldS l s fun s w =>
    let s := { s with ring := { s.ring with waits := s.ring.waits.filter fun v => !(v.t == w.t && v.g == w.g) } }
    fail s w.t w.g .lost

/-- The spilled notes on a unit end: LOST for those not yet reported, gone for the others. -/
def loseNotesOn (s : State) (unit : Nat) : State :=
  foldS allTenants s fun s t =>
    let l := (s.ten t).spilledOut.filter fun o => o.unit == unit && !o.refused
    let s := s.updTen t fun x => { x with spilledOut := x.spilledOut.filter fun o => !(o.unit == unit && !o.refused) }
    let s := loseWaits s fun w => w.t == t && l.any fun o => o.noteId == w.noteId
    foldS l s fun s o => if o.reported then s else finishRef s o.ref .lost (.note 0)

/-- A spilled-in voice of an origin. -/
def Voice.fromUnit (v : Voice) (origin : Nat) : Bool := match v.owner with
  | .spilled o _ => o == origin
  | .tenant _ => false

/-- Releases every spilled-in voice of an origin. -/
def releaseFrom (s : State) (origin : Nat) : State :=
  { s with voices := s.voices.map fun v => if v.fromUnit origin && v.sounds && !v.released then releaseVoice v 0 else v }

/-! ## Folding, healing, leaving (R286 to R290) -/

/-- A lane is lost and the unit folds; a unit that is joining notes the dark side, and folds there from its join on (R269). -/
def laneLoss (s : State) (laneA : Bool) (neighbour : BitVec 64) : State :=
  let s := if s.listens then { s with ring := { s.ring with
      laneA := if laneA then .folded else s.ring.laneA, laneB := if laneA then s.ring.laneB else .folded } } else s
  if s.onRing then
    let s := { s with ring := { s.ring with
      st := if s.ring.st = .rateMismatch then .rateMismatch else .folded, unhealed := true, totalNext := [],
      totalSeen := false } }
    let s := ringState s 4 s.ring.position neighbour
    wakeKeeper (ringSend s (.foldNotice s.fuse.dieId))
  else s

/-- This unit's position after a heal: the keeper's is 0; with the keeper still there, its rank among the units that stay;
else the number along lane A from the new keeper. -/
def State.healedPosition (s : State) (m : Membership) : Nat :=
  let lost := m.lost.map (·.1)
  if m.keeperId = s.fuse.dieId then 0
  else if lost.contains 0 then m.position
  else rankAmong lost s.ring.position

/-- The heal boundary: positions, keeper, D_max, LEFT for the units lost or left, HEALED (R287). -/
def heal (s : State) (m : Membership) : State :=
  let lost := m.lost.map (·.1)
  let pos := s.healedPosition m
  let units := s.ring.units - lost.length
  let s := foldS m.lost s fun s l => releaseFrom (loseNotesOn s l.1) l.1
  let map := healMap lost units s.ring.position pos
  let oldKeeper := s.ring.keeperId
  let leavers := s.ring.leavers
  let s := { s with ring := { s.ring with
    role := if m.keeperId = s.fuse.dieId then .keeper else .member, unhealed := false, heals := s.ring.heals + 1,
    leavers := leavers.filter fun d => m.lost.all fun l => l.2 != d } }
  let s := if m.keeperId = s.fuse.dieId then { s with ring := { s.ring with keeperFs := s.core.fs } } else s
  let s := remap (setMembers s m pos units lost) map
  let s := if oldKeeper = m.keeperId then s else ringState s 1 0 m.keeperId
  let s := foldS m.lost s fun s l =>
    if s.ring.role = .keeper ∨ leavers.contains l.2 = true then ringState s 3 l.1 l.2 else s
  ringState s 5 s.ring.position m.keeperId

/-- RING_UNFOLD: a fold is removed at the boundary, and every unit raises HEALED; the membership stands (R288). -/
def unfold (s : State) (m : Membership) : State :=
  let s := { s with ring := { s.ring with unhealed := false, heals := s.ring.heals + 1 } }
  ringState (setLanes s m) 5 s.ring.position s.ring.keeperId

/-- A leave is announced: by RING_LEAVE, or by a HIBERNATE entry. -/
def announceLeave (s : State) (ref : Option (Tenant × Tag)) : State :=
  ringSend { s with ring := { s.ring with leaving := true, leaveRef := ref, leaveAt := s.core.ticks } } (.leave s.fuse.dieId)

/-- RING_LEAVE executes. -/
def doRingLeave (s : State) (t : Tenant) (g : Tag) : State :=
  if s.onRing = false then fail s t g .notInRing
  else if s.ring.leaving then s
  else announceLeave (startLong s t g) (some (t, g))

/-- The last records a leaving unit sends: the ends of its spilled-in voices. -/
def RingOut.isEnd (o : RingOut) : Bool := match o.item with
  | .ended _ _ _ _ => true
  | _ => false

/-- The ring part of a unit that leaves: standalone, dark, nothing awaited. -/
def standalone (s : State) : State :=
  { s with ring := { s.ring with
      role := .standalone, st := .down, position := 0, units := 0, keeperId := 0, dMax := 0, align := 0, residual := 0,
      hopNs := 0, keeperDMax := 0, accNs := 0, slipDue := none, slipNow := none, txOn := false, laneA := .noLight, laneB := .noLight, electing := none, higher := none, joining := none,
      leaving := false, leaveRef := none, unhealed := false, joins := [], leavers := [], gossip := [], gossipSeen := false,
      lastGossip := [], sentEntry := none, sentMarker := none, markerSeen := false, leaveAt := 0, acksOut := [], keeperGrant := false, frameOpen := false, frameNotes := 0, block := [], sumOut := [], ownHist := [], total := [],
      totalNext := [], totalSeen := false, out := s.ring.out.filter RingOut.isEnd, acks := [], waits := [], due := [], silent := [], heldEnds := [] } }

/-- Every spilled-in voice ends with a steal fade and is reported stolen; every spilled-out note is gone. -/
def dropSpills (s : State) : State :=
  let l := s.voices.filter fun v => !v.fading && match v.owner with | .spilled _ _ => true | .tenant _ => false
  let s := foldS l s fun s v => toldStolen (beginFade s v none .excess) v
  foldS (List.range 16) s loseNotesOn

/-- 250 us have passed since the leave was announced (R290). -/
def State.leaveOver (s : State) : Bool := decide (250 * s.engineRate ≤ 1000000 * (s.core.ticks - s.ring.leaveAt))

/-- The leave boundary, while the control processor runs (R10, R290). -/
def leaveBoundary (s : State) : State :=
  if s.ring.leaving = true ∧ s.core.tide.isBoundary = true ∧ s.leaveOver = true ∧ s.fw.restarting = false then
    let ref := s.ring.leaveRef
    finishRef (standalone (dropSpills s)) ref .ok (.note 0)
  else s

/-- A leave notice of another unit. -/
def leaveNotice (s : State) (d : BitVec 64) : State :=
  if s.onRing = true ∧ d ≠ s.fuse.dieId then
    wakeKeeper { s with ring := { s.ring with leavers := if s.ring.leavers.contains d then s.ring.leavers
      else s.ring.leavers ++ [d] } }
  else s

/-- A join notice reaches the keeper. -/
def joinNotice (s : State) (d : BitVec 64) : State :=
  if s.ring.role = .keeper then
    wakeKeeper { s with ring := { s.ring with joins := if s.ring.joins.contains d then s.ring.joins
      else s.ring.joins ++ [d] } }
  else s

/-! ## Sections of the frame (R271 to R281) -/

/-- The audio PLL of a member is locked to the markers (R277). -/
def State.disciplined (s : State) : Bool := s.ring.role == .member && s.ring.st != .rateMismatch && !s.core.mclkIn

/-- The tide of a disciplined member is the keeper's: the block that runs began at the marker's sample count (R276). -/
def alignTide (s : State) (m : Marker) : State :=
  if s.disciplined then
    { s with core := { s.core with tide := { s.core.tide with smp := Smp.plus m.smp (s.smp.toNat % 32) } } }
  else s

/-- The marker on a member, on its first pass (R276): grant, epoch, D_max, hop latency; it goes on with this unit's hop added.
A member on MCLK_IN whose boundary lies more than half a smp away realigns at the next boundary (R277). -/
def markerIn (s : State) (m : Marker) : State :=
  if s.onRing = false then s
  else if m.crcOk = false then codeError s
  else if s.ring.role ≠ .member ∨ s.ring.markerSeen = true then s
  else
    let slip := s.core.mclkIn && s.ring.st != .rateMismatch && decide (500 < m.drift.natAbs)
    let s := { s with ring := { s.ring with
      keeperFs := m.fsIndex, epoch := m.epoch, keeperGrant := m.grant, keeperDMax := m.dMax, hopNs := m.ownHopNs % 65536,
      accNs := m.hopNs + m.ownHopNs, sentMarker := some { m with hopNs := m.hopNs + m.ownHopNs }, markerSeen := true,
      slipDue := if slip then some (decide (0 < m.drift)) else s.ring.slipDue } }
    alignTide s m

/-- An entry of the gossip is there. -/
def entryPresent (l : List GossipEntry) (p : Nat) : Bool := (l.getD p default).present

/-- Counts, for every position, the consecutive frames without an entry; the kept ends of an origin that is back go out. -/
def countSilent (s : State) (l : List GossipEntry) : State :=
  let s := { s with ring := { s.ring with
    silent := (List.range 16).foldl (fun b p =>
      bankPut b p (if entryPresent l p then 0 else bankAt s.ring.silent p 0 + 1)) s.ring.silent } }
  let back := fun (i : RingItem) => match i with
    | .ended o _ _ _ => entryPresent l o
    | _ => true
  let go := s.ring.heldEnds.filter back
  foldS go { s with ring := { s.ring with heldEnds := s.ring.heldEnds.filter fun i => !back i } } ringSend

/-- The gossip section. -/
def gossipIn (s : State) (l : List GossipEntry) (crcOk : Bool) : State :=
  if s.onRing = false then s
  else
    let l := if crcOk then l else []
    let s := if crcOk then s else codeError s
    countSilent { s with ring := { s.ring with
      gossip := l, gossipSeen := true, lastGossip := if crcOk then l else s.ring.lastGossip } } l

/-- The sum of two 32-bit ring values; outside 32 bits no rule states a result. -/
def ringAdd (a b : Int) : Int := if sat32 (a + b) = a + b then a + b else Config.ringOver a b

/-- Adds two blocks of 32 buses by 32 samples. -/
def addBlocks (a b : List (List Int)) : List (List Int) :=
  (List.range 32).map fun n => (List.range 32).map fun i => ringAdd ((a.getD n []).getD i 0) ((b.getD n []).getD i 0)

/-- This unit's contribution for the block that ends now: each bus, delayed by A_u (R279). -/
def State.contribution (s : State) : List (List Int) :=
  (List.range 32).map fun n =>
    let h := (s.ring.ownHist.getD n []).drop s.ring.align
    ((List.range 32).map fun i => h.getD (31 - i) 0)

/-- SUM passes: a member adds its contribution for the block that ended at the opening boundary (R271, R272); on the keeper it has completed its loop and becomes TOTAL. -/
def sumIn (s : State) (l : List (List Int)) (crcOk : Bool) : State :=
  if s.onRing = false then s
  else if crcOk = false then codeError s
  else if s.ring.st = .rateMismatch then s
  else if s.ring.role = .keeper then { s with ring := { s.ring with totalNext := l, totalSeen := true } }
  else { s with ring := { s.ring with sumOut := addBlocks l s.ring.block } }

/-- TOTAL on a member. -/
def totalIn (s : State) (l : List (List Int)) (crcOk : Bool) : State :=
  if s.onRing = false then s
  else if crcOk = false then codeError s
  else if s.ring.role ≠ .member ∨ s.ring.st = .rateMismatch then s
  else { s with ring := { s.ring with totalNext := l, totalSeen := true } }

/-- One sample of every bus enters the unit's contribution history, newest first; 96 samples cover every A_u. -/
def ringSample (s : State) : State :=
  if s.onRing then
    { s with ring := { s.ring with ownHist := (List.range 32).map fun n =>
        let b := s.bus n
        let g := b.contribRamp.now
        let x := if g = 0 then 0 else if g = 1 then b.out else toGrid (g * b.out)
        (x :: s.ring.ownHist.getD n []).take 96 } }
  else s

/-- A realignment to the marker begins at this boundary (R277). -/
def slipBoundary (s : State) : State :=
  match s.ring.slipDue with
  | some d => { s with ring := { s.ring with slips := s.ring.slips + 1, slipDue := none, slipNow := some d } }
  | none => s

/-- Every spilled note has been under way for one more frame (R283). -/
def ageSpills (s : State) : State :=
  foldS allTenants s fun s t => s.updTen t fun x =>
    { x with spilledOut := x.spilledOut.map fun o => { o with frames := o.frames + 1 } }

/-- The block boundary on the ring: the frame that closes gives the sums of the next block, and a new frame opens, with this
unit's entry, the keeper's marker, and the acknowledgements that are due (R271 to R273, R280, R281, R285). -/
def ringBoundary (s : State) : State :=
  if s.onRing then
    let s := ageSpills (slipBoundary (if s.ring.gossipSeen then s else countSilent s []))
    let r := s.ring
    { s with ring := { r with
      gossip := [], sentEntry := some s.ownGossip, sentMarker := if r.role = .keeper then some s.ownMarker else none,
      markerSeen := false, acksOut := r.acks, acks := [],
      total := if r.totalSeen && r.st != .rateMismatch then r.totalNext else [], totalNext := [], totalSeen := false,
      block := s.contribution, sumOut := if r.role = .keeper then s.contribution else [], gossipSeen := false, frameOpen := true,
      frameNotes := 0, waits := r.waits.map fun w => { w with frames := w.frames + 1 } } }
  else s

/-! ## Acknowledgement and resends (R273, R283, R285) -/

/-- An item that has been acknowledged, or is given up, is sent no more. -/
def dropItem (s : State) (q : BitVec 16) : State :=
  { s with ring := { s.ring with out := s.ring.out.filter fun o => o.seq != q } }

/-- An acknowledgement, which a standalone unit does not hear (R268). -/
def ackIn (s : State) (q : BitVec 16) : State := if s.listens then dropItem s q else s

/-- A spilled note. -/
def RingOut.isNote (o : RingOut) : Bool := match o.item with
  | .note _ _ => true
  | _ => false

/-- Resends of the items that are not acknowledged, at most 4 each; notes take the spill slots of the open frame that are
left, in order, and one that finds none waits for the next frame (R272, R273). -/
def resendIn (slots : Nat) : List RingOut → Nat → List RingOut × Nat
  | [], used => ([], used)
  | o :: l, used =>
    if 4 ≤ o.resends ∨ (o.isNote = true ∧ slots ≤ used) then
      let (r, n) := resendIn slots l used
      (o :: r, n)
    else
      let (r, n) := resendIn slots l (if o.isNote then used + 1 else used)
      ({ o with resends := o.resends + 1 } :: r, n)

/-- The resends of a frame. -/
def resend (s : State) : State :=
  let (l, n) := resendIn (spillSlots s.core.fs) s.ring.out s.ring.frameNotes
  { s with ring := { s.ring with out := l, frameNotes := n } }

/-- Counts a spilled note lost. -/
def countLost (s : State) : State := { s with ring := { s.ring with spillsLost := s.ring.spillsLost + 1 } }

/-- The origin frees a spilled note. -/
def freeSpill (s : State) (t : Tenant) (id : BitVec 32) : State :=
  s.updTen t fun x => { x with spilledOut := x.spilledOut.filter fun o => o.noteId != id }

/-- A command to a spilled note is lost: it completes LOST, and an end record goes to the note (R285). -/
def loseCommand (s : State) (t : Tenant) (g : Tag) (id : BitVec 32) : State :=
  let s := loseWaits s fun w => w.t == t && w.g == g
  match (s.ten t).out? id with
  | some o => ringSend s (.endOrder o.unit t id)
  | none => s

/-- The NOTE_ON of a spilled note completes LOST, and the note is counted lost (R283). -/
def loseNote (s : State) (t : Tenant) (o : SpilledOut) : State :=
  countLost (finishRef (loseWaits (freeSpill s t o.noteId) fun w => w.t == t && w.noteId == o.noteId) o.ref .lost (.note 0))

/-- What giving up an item costs. -/
def giveUp (s : State) (i : RingItem) : State :=
  match i with
  | .note n _ =>
    match (s.ten n.tenant).out? n.noteId with
    | some o => if o.reported || o.refused then s else loseNote s n.tenant o
    | none => s
  | .command _ t (some g) id _ _ _ => loseCommand s t g id
  | .endOrder _ t id => if ((s.ten t).out? id).isSome then countLost (freeSpill s t id) else s
  | _ => s

/-- RING_ITEM_GIVE_UP: after 4 resends. -/
def itemGiveUp (s : State) (q : BitVec 16) : State :=
  match s.ring.out.find? fun o => o.seq == q && decide (4 ≤ o.resends) with
  | some o => giveUp (dropItem s q) o.item
  | none => s

/-- SPILL_REPORT_TIMEOUT: no report within 6 frames; of a NOTE_ON, neither a start report nor a refusal. R283 names no number of
frames for a note that was acknowledged: DEDUCED, log entry 24, the 6 of R285. -/
def reportTimeout (s : State) (t : Tenant) (g : Tag) : State :=
  let s := match (s.ten t).spilledOut.find? fun o =>
      o.ref == some (t, g) && !o.reported && !o.refused && decide (6 ≤ o.frames) with
    | some o => loseNote s t o
    | none => s
  let l := s.ring.waits.filter fun w => w.t == t && w.g == g && decide (6 ≤ w.frames)
  if l = [] then s
  else
    let s := loseWaits s fun w => w.t == t && w.g == g
    foldS l s fun s w => match (s.ten t).out? w.noteId with
      | some o => ringSend s (.endOrder o.unit t w.noteId)
      | none => s

/-- ORIGIN_SILENT: four frames without the origin's gossip entry. -/
def originSilent (s : State) (origin : Nat) : State :=
  if 4 ≤ bankAt s.ring.silent origin 0 then releaseFrom s origin else s

/-! ## Spilled notes on the receiving unit (R164, R282, R284) -/

/-- The tick 32 smp later. -/
def plus32 (smp : Smp) (et osr : Nat) : Tide := { smp := Smp.plus smp 32, et := Nat.min et (osr - 1) }

/-- The receiving unit can place a spilled note: a free slot, within its ceiling and reservations, and it takes spill. -/
def State.takesSpill (s : State) : Bool := decide (1 ≤ s.gossipFree)

/-- SPILLED_NOTE_ARRIVAL. -/
def noteArrives (s : State) (n : RingNote) : State :=
  if s.onRing = true ∧ n.crcOk = false then codeError s
  else if s.onRing = false ∨ s.fwRuns = false then s
  else
    let (s, fresh) := takeItem s n.origin n.seq
    if fresh = false then s
    else
      let d := plus32 n.start n.et s.core.osr
      if s.core.tide.num ≤ d.num ∧ s.takesSpill = true then
        let lane := s.pickLane
        let s := startIn s lane ((s.freeOf lane).headD 0)
          { owner := .spilled n.origin n.tenant, noteId := n.noteId, part := n.part, key := n.key, vel := n.velocity,
            detune := n.detune, copy := n.copy } (some (d.smp, d.et))
        { s with ring := { s.ring with spillsIn := s.ring.spillsIn + 1 } }
      else ringSend s (.refusal n.origin n.tenant n.noteId)

/-- The spilled-in voice of a note that waits for its tick. -/
def State.arrived? (s : State) (origin : Nat) (t : Tenant) (id : BitVec 32) : Option Voice :=
  s.voices.find? fun v => v.owner == .spilled origin t && v.noteId == id && match v.life with
    | .starting (some _) => true
    | _ => false

/-- A spilled note whose tick has come starts at the present tick, and its start is reported. -/
def startArrived (s : State) (v : Voice) : State :=
  match v.life, v.owner with
  | .starting (some (smp, et)), .spilled o t =>
    if ({ smp := smp, et := et } : Tide).num ≤ s.core.tide.num then
      ringSend (s.setVoice { v with life := .starting none }) (.startReport o t v.noteId)
    else s
  | _, _ => s

/-- Every spilled note whose tick has come. -/
def startAllArrived (s : State) : State := foldS s.voices s startArrived

/-- The spilled-in voice that bears a note's ID. -/
def State.spilled? (s : State) (origin : Nat) (t : Tenant) (id : BitVec 32) : Option Voice :=
  s.voices.find? fun v => v.named && v.owner == .spilled origin t && v.noteId == id

/-- Sends the report of a command that some command of the origin waits for. -/
def reportTo (s : State) (c : SpillCommand) (found late : Bool) : State :=
  match c.tag with
  | some g => ringSend s (.report c.origin c.tenant g c.noteId found late s.smp)
  | none => s

/-- A command takes effect on a spilled-in voice: class-B entries at the next boundary, all else now. -/
def actOn (s : State) (v : Voice) (c : SpillCommand) : State :=
  match c.cmd with
  | .allRelease _ true => fadeNote s v
  | .params l =>
    foldS l s fun s e =>
      match s.spilled? c.origin c.tenant c.noteId with
      | none => s
      | some w =>
        if pcls e.1 = .b ∧ s.core.tide.isBoundary = false then
          { s with readyB := s.readyB ++ [.spilledParam c.origin c.tenant c.noteId e.1 e.2] }
        else s.setVoice (paramTo w e)
  | k => s.setVoice (applyCmd v k)

/-- A command record lands when its tick has come and the voice has started; NOT_FOUND when the note has ended. -/
def landDue (s : State) (d : RingDue) : State :=
  match s.spilled? d.c.origin d.c.tenant d.c.noteId with
  | none => reportTo s d.c false d.late
  | some v =>
    if v.started = true ∧ (({ smp := d.land, et := d.c.et } : Tide).num ≤ s.core.tide.num) then
      reportTo (actOn s v d.c) d.c true d.late
    else { s with ring := { s.ring with due := s.ring.due ++ [d] } }

/-- Every command record at this tick, in order of arrival. -/
def landAllDue (s : State) : State :=
  let l := s.ring.due
  foldS l { s with ring := { s.ring with due := [] } } landDue

/-- A report reaches the origin: the command completes OK, OK_LATE or NOT_FOUND; an ALL_RELEASE with its last report. -/
def reportIn (s : State) (t : Tenant) (g : Tag) (id : BitVec 32) (found late : Bool) (landed : Smp) : State :=
  match s.ring.waits.find? fun w => w.t == t && w.g == g && w.noteId == id with
  | none => s
  | some w =>
    let s := { s with ring := { s.ring with waits := s.ring.waits.erase w } }
    let s := s.updTen t fun x => x.updCmd g fun c => { c with late := c.late || late, execAt := some landed }
    match w.affected with
    | some n =>
      if s.ring.waits.any fun v => v.t == t && v.g == g then s else okShort s t g n
    | none => if found then ok s t g else fail s t g .notFound

/-- An end record of the origin: a NOTE_OFF at the first engine tick from now on; a note that has ended is reported so (R285). -/
def endOrderIn (s : State) (h : RingHead) (t : Tenant) (id : BitVec 32) : State :=
  match s.spilled? h.unit t id with
  | none => ringEnded s h.unit t id false
  | some _ =>
    let c : SpillCommand :=
      { origin := h.unit, tenant := t, tag := none, noteId := id, cmd := .off 0, at_ := s.smp, et := s.core.tide.et, seq := h.seq }
    { s with ring := { s.ring with due := s.ring.due ++ [{ c := c, land := s.smp, late := false }] } }

/-- SPILL_COMMAND_RECORD: on the receiving unit a command or an end record, on the origin a report or BANK_OFF (R284). -/
def commandRecord (s : State) (r : SpillRecord) : State :=
  if s.onRing = true ∧ r = .crcBad then codeError s
  else if s.onRing = false ∨ s.fwRuns = false then s
  else match r with
  | .crcBad => s
  | .report h t g id found late landed => onceOnly s h fun s => reportIn s t g id found late landed
  | .bankOff h t id bank => onceOnly s h fun s =>
    if ((s.ten t).out? id).isSome then raiseTo s t .bankOff (BitVec.ofNat 16 bank) (leBytes 4 id.toNat) else s
  | .endOrder h t id => onceOnly s h fun s => endOrderIn s h t id
  | .command c => onceOnly s ⟨c.origin, c.seq⟩ fun s =>
      let d := plus32 c.at_ c.et s.core.osr
      let late := decide (d.num < s.core.tide.num)
      match s.spilled? c.origin c.tenant c.noteId with
      | none => reportTo s c false false
      | some _ => { s with ring := { s.ring with
          due := s.ring.due ++ [{ c := { c with et := d.et }, land := d.smp, late := late }] } }

/-! ## Spilled notes at their origin (R100, R283, R284) -/

/-- A start report: NOTE_ON completes with SPILLED and 32 x OSR; it executed at the voice start, t + 32 smp (R88, R282). -/
def startReportIn (s : State) (t : Tenant) (id : BitVec 32) : State :=
  match (s.ten t).out? id with
  | some o =>
    if o.reported || o.refused then s
    else
      let s := s.updTen t fun x => x.updOut id fun o => { o with reported := true, ref := none }
      let s := match o.ref with
        | some (u, g) => s.updTen u fun x => x.updCmd g fun c => { c with execAt := some (Smp.plus o.start 32) }
        | none => s
      finishRef s o.ref .ok (.bytes (leBytes 2 (32768 + 32 * s.core.osr)))
  | none => s

/-- A refusal: the steal part waits for t + 64 smp. -/
def refusalIn (s : State) (t : Tenant) (id : BitVec 32) : State :=
  s.updTen t fun x => x.updOut id fun o => if o.reported then o else { o with refused := true }

/-- The steal tick of a refused note has come. -/
def State.fallbackDue (s : State) (o : SpilledOut) : Bool :=
  o.refused && decide (({ smp := Smp.plus o.start 64, et := o.et } : Tide).num ≤ s.core.tide.num)

/-- Ticks between a note's own tick and the present one. -/
def State.lateness (s : State) (o : SpilledOut) : Nat :=
  (s.core.tide.smp - o.start).toNat * s.core.osr + s.core.tide.et - o.et

/-- The steal part of R157 for a refused note. -/
def fallback (s : State) (t : Tenant) (o : SpilledOut) : State :=
  let s := freeSpill s t o.noteId
  match stealFor s t
      { owner := .tenant t, noteId := o.noteId, part := o.part, key := o.key, vel := o.vel, detune := o.detune,
        copy := o.copy, ref := o.ref, latency := s.lateness o, holding := o.holding } o.noSteal with
  | some s => s
  | none => finishRef s o.ref .noVoice (.note 0)

/-- SPILL_FALLBACK_STEAL. -/
def fallbackOf (s : State) (t : Tenant) (id : BitVec 32) : State :=
  match (s.ten t).out? id with
  | some o => if s.fallbackDue o then fallback s t o else s
  | none => s

/-- Every refused note whose steal tick has come. -/
def allFallbacks (s : State) : State :=
  foldS allTenants s fun s t => foldS (s.ten t).spilledOut s fun s o => if s.fallbackDue o then fallback s t o else s

/-- An end or steal record: the note ID is free, and a stolen note is reported to its owner. -/
def endRecord (s : State) (t : Tenant) (id : BitVec 32) (stolen : Bool) : State :=
  match (s.ten t).out? id with
  | some _ =>
    let s := freeSpill (startReportIn s t id) t id
    if stolen then raiseTo s t .noteStolen 0 (leBytes 4 id.toNat) else s
  | none => s

/-! ## Reports (Table 04-11) -/

/-- Role as CHAIN_INFO gives it. -/
def Role.code : Role → Nat
  | .standalone => 0 | .keeper => 1 | .member => 2

/-- Ring state as CHAIN_INFO gives it. -/
def RingSt.code : RingSt → Nat
  | .down => 0 | .ring => 1 | .folded => 2 | .rateMismatch => 3

/-- Lane state as RING_STATUS gives it. -/
def RingLane.code : RingLane → Nat
  | .noLight => 0 | .locked => 1 | .folded => 2

/-- Free voices of a position in the gossip of the open frame, 0 when it is absent; at its own position the unit has its own
entry (R281). -/
def State.freeAt (s : State) (p : Nat) : Nat :=
  let e := s.ring.gossip.getD p default
  if s.onRing && s.ring.position == p then (s.ring.sentEntry.map (·.free)).getD 0 else if e.present then e.free else 0

/-- CHAIN_INFO's 48 bytes. -/
def State.chainInfo (s : State) : List Byte :=
  let r := s.ring
  [BitVec.ofNat 8 r.role.code, BitVec.ofNat 8 r.st.code, BitVec.ofNat 8 r.units, BitVec.ofNat 8 r.position]
    ++ leBytes 8 r.keeperId.toNat ++ leBytes 2 s.gossipFree ++ leBytes 2 0
    ++ ((List.range 16).map fun p => leBytes 2 (s.freeAt p)).flatten

/-- RING_STATUS's 32 bytes. -/
def State.ringStatus (s : State) : List Byte :=
  let r := s.ring
  [BitVec.ofNat 8 r.laneA.code, BitVec.ofNat 8 r.laneB.code] ++ leBytes 2 r.heals.toNat ++ leBytes 4 r.codeA.toNat
    ++ leBytes 4 r.codeB.toNat ++ leBytes 4 r.spillsOut.toNat ++ leBytes 4 r.spillsIn.toNat
    ++ leBytes 4 r.spillsLost.toNat ++ leBytes 8 0

/-! ## The rows -/

/-- CHAIN_INFO. -/
def execChainInfo (t : Tenant) (g : Tag) (s : State) : Host.Outcome State Fault Refusal :=
  .next (onCmd s t g fun b => match b with
    | .chainInfo => some (okBytes s t g s.chainInfo)
    | _ => none)

/-- RING_START. -/
def execRingStart (t : Tenant) (g : Tag) (s : State) : Host.Outcome State Fault Refusal :=
  .next (onCmd s t g fun b => match b with
    | .ringStart => some (doRingStart s t g)
    | _ => none)

/-- RING_STATUS. -/
def execRingStatus (t : Tenant) (g : Tag) (s : State) : Host.Outcome State Fault Refusal :=
  .next (onCmd s t g fun b => match b with
    | .ringStatus => some (okBytes s t g s.ringStatus)
    | _ => none)

/-- RING_LEAVE. -/
def execRingLeave (t : Tenant) (g : Tag) (s : State) : Host.Outcome State Fault Refusal :=
  .next (onCmd s t g fun b => match b with
    | .ringLeave => some (doRingLeave s t g)
    | _ => none)

/-- MARKER_ARRIVAL. -/
def execMarkerArrival (m : Marker) (s : State) : Host.Outcome State Fault Refusal := .next (markerIn s m)

/-- GOSSIP_SECTION. -/
def execGossipSection (l : List GossipEntry) (crcOk : Bool) (s : State) : Host.Outcome State Fault Refusal :=
  .next (gossipIn s l crcOk)

/-- SUM_SECTION. -/
def execSumSection (l : List (List Int)) (crcOk : Bool) (s : State) : Host.Outcome State Fault Refusal :=
  .next (sumIn s l crcOk)

/-- TOTAL_SECTION. -/
def execTotalSection (l : List (List Int)) (crcOk : Bool) (s : State) : Host.Outcome State Fault Refusal :=
  .next (totalIn s l crcOk)

/-- START_RECORD_RECEIVED. -/
def execStartRecordReceived (d : BitVec 64) (fs : Nat) (s : State) : Host.Outcome State Fault Refusal :=
  .next (if s.fwRuns then startRecord s d fs else s)

/-- START_RECORD_TIMER: every 10 us of the election window a START record goes out. -/
def execStartRecordTimer (s : State) : Host.Outcome State Fault Refusal :=
  .next (if s.fwRuns && s.ring.electing.isSome then { s with ring := { s.ring with starts := s.ring.starts + 1 } } else s)

/-- KEEPER_RECORD_RECEIVED. -/
def execKeeperRecordReceived (r : KeeperRecord) (s : State) : Host.Outcome State Fault Refusal :=
  .next (if s.fwRuns then keeperRecord s r else s)

/-- ELECTION_WINDOW_END: membership is frozen while the firmware does not run (R10). -/
def execElectionWindowEnd (s : State) : Host.Outcome State Fault Refusal := .next (if s.fwRuns then windowEnd s else s)

/-- A notice wakes a keeper in NAP, which takes the notice when it is resent; otherwise it acts once (R273, R292). -/
def notice (s : State) (h : RingHead) (f : State → State) : State :=
  if s.onRing = false then s
  else if s.power.st = .nap then wakeKeeper s
  else if s.fwRuns then onceOnly s h f
  else s

/-- JOIN_NOTICE_RECEIVED. -/
def execJoinNoticeReceived (h : RingHead) (d : BitVec 64) (s : State) : Host.Outcome State Fault Refusal :=
  .next (notice s h fun s => joinNotice s d)

/-- JOIN_BOUNDARY. -/
def execJoinBoundary (m : Membership) (s : State) : Host.Outcome State Fault Refusal := .next (joinBoundary s m)

/-- LEAVE_NOTICE_RECEIVED. -/
def execLeaveNoticeReceived (h : RingHead) (d : BitVec 64) (s : State) : Host.Outcome State Fault Refusal :=
  .next (notice s h fun s => leaveNotice s d)

/-- RING_LEAVE_BOUNDARY. -/
def execRingLeaveBoundary (s : State) : Host.Outcome State Fault Refusal := .next (leaveBoundary s)

/-- RING_LANE_LOSS. -/
def execRingLaneLoss (laneA : Bool) (neighbour : BitVec 64) (s : State) : Host.Outcome State Fault Refusal :=
  .next (laneLoss s laneA neighbour)

/-- RING_HEAL: at a block boundary; heals wait until the firmware runs (R10). -/
def execRingHeal (m : Membership) (s : State) : Host.Outcome State Fault Refusal :=
  .next (if s.onRing && s.fwRuns && s.core.tide.isBoundary then heal s m else s)

/-- RING_UNFOLD: at a block boundary, with the firmware running. -/
def execRingUnfold (m : Membership) (s : State) : Host.Outcome State Fault Refusal :=
  .next (if s.onRing && s.fwRuns && s.core.tide.isBoundary then unfold s m else s)

/-- FOLD_NOTICE_RECEIVED: a keeper in NAP wakes. -/
def execFoldNoticeReceived (h : RingHead) (_dieId : BitVec 64) (s : State) : Host.Outcome State Fault Refusal :=
  .next (notice s h wakeKeeper)

/-- SPILLED_NOTE_ARRIVAL. -/
def execSpilledNoteArrival (n : RingNote) (s : State) : Host.Outcome State Fault Refusal := .next (noteArrives s n)

/-- SPILLED_NOTE_START: at the note's tick; ENGINE_TICK does the same when this row has not been given. -/
def execSpilledNoteStart (origin : Fin 16) (t : Tenant) (id : BitVec 32) (s : State) : Host.Outcome State Fault Refusal :=
  .next (match s.arrived? origin.val t id with
    | some v => startArrived s v
    | none => s)

/-- SPILL_START_REPORT. -/
def execSpillStartReport (h : RingHead) (t : Tenant) (id : BitVec 32) (s : State) : Host.Outcome State Fault Refusal :=
  .next (if s.onRing && s.fwRuns then onceOnly s h fun s => startReportIn s t id else s)

/-- SPILL_REFUSAL. -/
def execSpillRefusal (h : RingHead) (t : Tenant) (id : BitVec 32) (s : State) : Host.Outcome State Fault Refusal :=
  .next (if s.onRing && s.fwRuns then onceOnly s h fun s => refusalIn s t id else s)

/-- SPILL_FALLBACK_STEAL: at t + 64 smp; ENGINE_TICK does the same when this row has not been given. -/
def execSpillFallbackSteal (t : Tenant) (id : BitVec 32) (s : State) : Host.Outcome State Fault Refusal :=
  .next (if s.fwRuns then fallbackOf s t id else s)

/-- SPILL_COMMAND_RECORD. -/
def execSpillCommandRecord (r : SpillRecord) (s : State) : Host.Outcome State Fault Refusal := .next (commandRecord s r)

/-- SPILL_END_RECORD. -/
def execSpillEndRecord (h : RingHead) (t : Tenant) (id : BitVec 32) (stolen : Bool) (s : State) : Host.Outcome State Fault Refusal :=
  .next (if s.onRing && s.fwRuns then onceOnly s h fun s => endRecord s t id stolen else s)

/-- RING_ACK_RECEIVED. -/
def execRingAckReceived (q : BitVec 16) (s : State) : Host.Outcome State Fault Refusal := .next (ackIn s q)

/-- RING_ITEM_RESEND: once in a frame; records wait while the firmware does not run, in NAP too (R10, R292). -/
def execRingItemResend (s : State) : Host.Outcome State Fault Refusal :=
  .next (if s.listens && s.fwRuns then resend s else s)

/-- RING_ITEM_GIVE_UP. -/
def execRingItemGiveUp (q : BitVec 16) (s : State) : Host.Outcome State Fault Refusal :=
  .next (if s.fwRuns then itemGiveUp s q else s)

/-- SPILL_REPORT_TIMEOUT. -/
def execSpillReportTimeout (t : Tenant) (g : Tag) (s : State) : Host.Outcome State Fault Refusal :=
  .next (if s.fwRuns then reportTimeout s t g else s)

/-- ORIGIN_SILENT. -/
def execOriginSilent (origin : Fin 16) (s : State) : Host.Outcome State Fault Refusal := .next (originSilent s origin.val)

end Sys2Proof.Machine
end

