-- ==== Sys2Proof/Machine/FieldLink.lean ====
section
/-! DEFINITION. What happens to the field die, the master clock, FRAME_IN and the die temperature from outside
(R12, R13, R24, R33, R149, R193, R352, R362, R366). -/

namespace Sys2Proof.Machine

/-! ## The field die and its link (R12, R13, R352, R366) -/

/-- VDD_FA rises above 4.60 V (R366). -/
def vddFaRise (s : State) : State := { s with supply := { s.supply with fa := true } }

/-- The field die passes its boot self-test, which it runs once VDD_FA, VFP and VFN are in range and the die-to-die link is up
(R319); every line queue stands at its fill, every rank window is filled with its
first word, and keys held are re-seeded. -/
def fieldPass (s : State) (vfUp : Bool) : State :=
  let s := { s with supply := { s.supply with vf := vfUp } }
  if s.hasField && s.supply.fa && s.supply.vf && s.field.link == .ok && s.power.st != .hibernate && !s.field.ready then
    let s := { s with field := { s.field with ready := true, fault := none } }
    let s := foldS (List.range 4) s fun s n => s.updLo n LineOut.fillQueue
    let s := refillRanks s
    steward { s with scan := { s.scan with reseed := true } } .fieldReady 0 []
  else s

/-- 100 us without a valid frame: line outputs at 0 V, CV and gate outputs hold (R12). -/
def linkSilent (s : State) : State :=
  if s.hasField && s.field.link == .ok && s.power.st != .hibernate then
    zeroLines { s with field := { s.field with link := .silent } }
  else s

/-- 10 ms of silence: every field output in high impedance until it is enabled again (R12). -/
def linkDark (s : State) : State :=
  if s.field.link = .silent then allHiz { s with field := { s.field with link := .dark } } else s

/-- The pin of every gate takes its stored level, unless it is held. -/
def gatePins (s : State) : State :=
  foldS (List.range 8) s fun s n => s.updGt n fun o => { o with pin := if s.fieldHeld then o.pin else o.high }

/-- The line queues stand at their fill again. -/
def topUpLines (s : State) : State := foldS (List.range 4) s fun s n => s.updLo n LineOut.topUp

/-- The link recovers (R12): after a short silence the outputs resume, and what waited for the link lands; the argument of
FIELD_LINK_LOST says which. -/
def linkRecover (s : State) : State :=
  let back := fun (s : State) (arg : BitVec 16) =>
    steward (refillRanks (gatePins (landLate (muteLines s)))) .fieldLinkLost arg []
  let up : State := { s with field := { s.field with link := .ok }, scan := { s.scan with reseed := true } }
  match s.field.link with
  | .ok => s
  | .silent => back (topUpLines up) 1
  | .dark => back up 0

/-- The field die faults, with the cause of FIELD_FAULT (R13). During the HIBERNATE hold the held state is lost and is
reported after the wake (R214, R215). -/
def fieldFault (s : State) (cause : Nat) : State :=
  let held := s.fieldHeld
  let s := allHiz s
  let s := { s with
    supply := { s.supply with fa := s.supply.fa && cause != 1 }
    field := { s.field with ready := false, fault := some cause, hold := none } }
  if held && s.power.st == .hibernate then { s with field := { s.field with holdLost := true } }
  else steward s .fieldFault (BitVec.ofNat 16 cause) []

/-- FIELD_DIE_FAULT: a cause of Table 04-17; a fall of VDD_FA that was already low is none. -/
def dieFault (s : State) (cause : Nat) : State :=
  if s.hasField = false ∨ cause = 0 ∨ (cause = 1 ∧ s.supply.fa = false) then s else fieldFault s cause

/-! ## The master clock (R33, R368) -/

/-- MCLK_IN is lost. -/
def mclkLoss (s : State) : State :=
  if s.core.mclkIn && !s.core.mclkLost then
    steward (zeroLines { s with core := { s.core with mclkLost := true } }) .mclkLost 0 []
  else s

/-- 1,024 stable AMC cycles have passed. -/
def mclkRestore (s : State) : State :=
  if s.core.mclkLost then
    steward (muteLines { s with core := { s.core with mclkLost := false } }) .mclkRestored 0 []
  else s

/-! ## FRAME_IN (R24) -/

/-- `tide.frame_edge` selects this edge: OFF, RISING, FALLING, BOTH. -/
def Core.selects (c : Core) (rising : Bool) : Bool :=
  c.frameEdge == 3 || (c.frameEdge == 1 && rising) || (c.frameEdge == 2 && !rising)

/-- An edge: it captures the tide, or counts an overrun when this et has captured one already. -/
def frameEdge (s : State) (rising : Bool) : State :=
  if s.core.selects rising = false ∨ s.power.st = .hibernate then s
  else if s.core.captured = some s.core.ticks then
    { s with core := { s.core with frameOverruns := s.core.frameOverruns + 1 } }
  else
    let s := { s with core := { s.core with captured := some s.core.ticks } }
    let data := leBytes 6 s.smp.toNat ++ leBytes 1 s.core.tide.et ++ [0]
    foldS allTenants s fun s t =>
      if (s.ten t).st = .opened then raiseTo s t .frameEdge (if rising then 0 else 1) data else s

/-! ## Heat (R149, Table 06-4, R168, R362) -/

/-- Sets the thermal state and the lanes allowed; what exceeds the ceiling is removed. -/
def setThermal (s : State) (st : Thermal) (n : Nat) : State :=
  removeExcess s.ceiling { s with alloc := { s.alloc with thermal := st, allowed := n } }

/-- THERMAL_SOFT with the lanes allowed. -/
def softEvent (s : State) (n : Nat) : State := steward s .thermalSoft (BitVec.ofNat 16 n) []

/-- The temperature is taken, and Table 06-4 applied. -/
def thermalSample (s : State) (tj : Int) : State :=
  if s.power.st = .hibernate ∨ s.fw.up = false then s
  else
    let s := { s with supply := { s.supply with tj := tj } }
    match s.alloc.thermal with
    | .normal =>
      if 110 ≤ tj then steward (setThermal s .hard 2) .thermalHard 1 []
      else if 100 ≤ tj then softEvent (setThermal s .soft 7) 7
      else s
    | .soft => if 110 ≤ tj then steward (setThermal s .hard 2) .thermalHard 1 [] else s
    | .hard => if tj < 105 then softEvent (steward (setThermal s .soft 4) .thermalHard 0 []) 4 else s

/-- A step of 100 ms in SOFT. -/
def softStep (s : State) : State :=
  let n := s.alloc.allowed
  if s.alloc.thermal = .soft ∧ s.power.st ≠ .hibernate then
    if 100 ≤ s.supply.tj ∧ 4 < n then softEvent (setThermal s .soft (n - 1)) (n - 1)
    else if s.supply.tj < 95 then
      if 7 ≤ n then softEvent (setThermal s .normal 8) 8 else softEvent (setThermal s .soft (n + 1)) (n + 1)
    else s
  else s

/-! ## The rows -/

/-- FIELD_SELFTEST_PASS. -/
def execFieldSelftestPass (vfUp : Bool) (s : State) : Host.Outcome State Fault Refusal := .next (fieldPass s vfUp)

/-- FIELD_LINK_SILENCE. -/
def execFieldLinkSilence (s : State) : Host.Outcome State Fault Refusal := .next (linkSilent s)

/-- FIELD_LINK_DARK. -/
def execFieldLinkDark (s : State) : Host.Outcome State Fault Refusal := .next (linkDark s)

/-- FIELD_LINK_RECOVER. -/
def execFieldLinkRecover (s : State) : Host.Outcome State Fault Refusal := .next (linkRecover s)

/-- FIELD_DIE_FAULT: 1 VDD_FA low, 2 die fault, 3 over-temperature. -/
def execFieldDieFault (cause : Fin 4) (s : State) : Host.Outcome State Fault Refusal := .next (dieFault s cause.val)

/-- FIELD_SUPPLY_LOW: VFP or VFN has left its range (R366). -/
def execFieldSupplyLow (s : State) : Host.Outcome State Fault Refusal :=
  .next (dieFault { s with supply := { s.supply with vf := false } } 2)

/-- VDD_FA_RISE. -/
def execVddFaRise (s : State) : Host.Outcome State Fault Refusal := .next (vddFaRise s)

/-- MCLK_LOSS. -/
def execMclkLoss (s : State) : Host.Outcome State Fault Refusal := .next (mclkLoss s)

/-- MCLK_RESTORE. -/
def execMclkRestore (s : State) : Host.Outcome State Fault Refusal := .next (mclkRestore s)

/-- FRAME_EDGE_CAPTURE. -/
def execFrameEdgeCapture (rising : Bool) (s : State) : Host.Outcome State Fault Refusal := .next (frameEdge s rising)

/-- THERMAL_SAMPLE. -/
def execThermalSample (tjC : Int) (s : State) : Host.Outcome State Fault Refusal := .next (thermalSample s tjC)

/-- THERMAL_SOFT_STEP. -/
def execThermalSoftStep (s : State) : Host.Outcome State Fault Refusal := .next (softStep s)

end Sys2Proof.Machine
end

