-- ==== Sys2Proof/Machine/LinkPort.lean ====
section
/-! DEFINITION. The link port (R34 to R62): how a frame is classified, what its commit does, enumeration, and the
twelve rows of the link. -/

namespace Sys2Proof.Machine

/-! ## Classifying a frame (R36 to R43, Table 02-3) -/

/-- What becomes of a frame, seen from this unit. -/
inductive Verdict where
  /-- the link port is not powered, or LK_CS_N fell without a header to this unit: nothing. -/
  | inert
  /-- discarded (R43); `head` is there when the header was good. -/
  | discarded (d : Discard) (head : Option (Nat × Nat))
  /-- it commits: address, kind, request payload. -/
  | commits (addr kind : Nat) (payload : List Byte)
  deriving DecidableEq, Repr, Inhabited

/-- Quad mode of this unit: a unit whose address is 30 works in single mode (R36). -/
def Link.quadNow (l : Link) : Bool := l.quad && l.assigned

/-- Request payload bytes of a kind and length field (Table 02-3). -/
def payloadLen (kind len : Nat) : Nat :=
  if kind = 5 then 8 + (len + 1) * 4 else if kind = 6 then 8 else len

/-- Kind, address and length lie in Table 02-3. -/
def headOk (addr kind len : Nat) (quad : Bool) : Bool :=
  match kind with
  | 0 => (addr < 16 || addr == 31) && 16 ≤ len && len ≤ 1040
  | 1 => addr < 16 && len == 4
  | 2 => addr < 16 && len == 4
  | 3 => (addr < 16 || addr == 31) && 8 ≤ len && len ≤ 260
  | 4 => addr == 30 && len == 4 && !quad
  | 5 => (addr < 16 || addr == 31) && len ≤ 16383
  | 6 => addr < 16 && len ≤ 16383
  | _ => false

/-- The register offset and word count of LREAD and LWRITE lie within 0x100. -/
def regRangeOk (p : List Byte) : Bool :=
  let off := field p 0 2
  let n := field p 2 2
  off % 4 == 0 && 1 ≤ n && n ≤ 64 && off + 4 * n ≤ 0x100

/-- The payload of a kind is as Table 02-3 gives it. -/
def payloadOk (kind : Nat) (p : List Byte) : Bool :=
  match kind with
  | 0 => true
  | 1 => byteAt p 0 < 8 && 1 ≤ byteAt p 1 && byteAt p 1 ≤ 64
  | 2 => regRangeOk p
  | 3 => regRangeOk p && p.length == 4 + 4 * field p 2 2
  | 4 => byteAt p 0 < 16 && zeros (p.drop 1)
  | _ => byteAt p 0 < 8 && zeros ((p.drop 1).take 3) && field p 4 4 % 4 == 0

/-- The header fields (Table 02-2). -/
def headOf (h : List Byte) : Nat × Nat × Nat := (byteAt h 1 / 8, byteAt h 1 % 8, field h 2 2)

/-- Sync byte and header CRC-16 are right. -/
def headGood (h : List Byte) : Bool := byteAt h 0 == 0xA5 && field h 4 2 == (crc16 (h.take 4)).toNat

/-- The frame is the confirm frame of an offer (R58), or a later frame to the address this unit holds tentatively
after a discarded confirm frame (R60). -/
def Link.isConfirm (l : Link) (addr : Nat) : Bool :=
  l.offer.map BitVec.toNat == some addr || (l.tentHold && l.tentative.map BitVec.toNat == some addr)

/-- RESP_WORDS of the status word that the unit shifts out (Table 02-6). -/
def Link.shiftedWords (l : Link) : Nat := l.status.toNat / 32768 % 32768

/-- Bytes of a frame's read phase (R39, R40, R58): status, die ID and CRC-32 in a confirm frame, 8 bytes that nobody
drives at the addresses 30 and 31, and 8 + 4 x RESP_WORDS of the status word that is shifted out in a frame to this unit.
A frame to another unit is as long as that unit's status word says, and the host's clocks show it. -/
def Link.readLen (l : Link) (f : RawFrame) (addr : Nat) : Nat :=
  if l.isConfirm addr then 16
  else if 30 ≤ addr then 8
  else if l.unitAddr.toNat = addr then 8 + 4 * l.shiftedWords
  else f.read

/-- The bytes that the unit takes as the request payload and its CRC-32: those that follow its own count of the read
phase (R40). While a host clocks a read phase that is longer, the pulled-up lines show ones (Table 02-1). -/
def Link.request (l : Link) (f : RawFrame) (addr : Nat) : List Byte :=
  (List.replicate f.read 0xFF ++ f.body).drop (l.readLen f addr)

/-- What becomes of a frame (R38, R42, R43). Where a frame has several faults the model counts one: a bad header as HDR, a
header outside Table 02-3 as KIND, then a frame that is cut short as SHORT, then a bad payload CRC-32 as PAY, then a
payload outside Table 02-3 as KIND; the spec names no order (log entry 10). -/
def classify (l : Link) (f : RawFrame) : Verdict :=
  if l.up = false then .inert
  else if f.hdr.length < 6 then .discarded .short none
  else if f.quad ≠ l.quadNow ∨ headGood f.hdr = false then .discarded .hdr none
  else
    let (addr, kind, len) := headOf f.hdr
    let hd := some (addr, kind)
    if headOk addr kind len f.quad = false then .discarded .kind hd
    else
      let n := payloadLen kind len
      let body := l.request f addr
      if body.length < n + 4 ∨ f.tail < 16 then .discarded .short hd
      else
        let p := body.take n
        if field body n 4 ≠ (crc32 p).toNat then .discarded .pay hd
        else if payloadOk kind p = false then .discarded .kind hd
        else .commits addr kind p

/-! ## Read phase and arbitration (R39, R40, R58, R59) -/

/-- The unit takes part in the confirm frame: TENTATIVE at that address, or its holder. -/
def Link.takesPart (l : Link) (addr : Nat) : Bool :=
  l.tentative.map BitVec.toNat == some addr || l.unitAddr.toNat == addr

/-- Die ID in the order it is transmitted: bytes from the low end, each MSB first. -/
def idBytes (d : BitVec 64) : List Nat := (leBytes 8 d.toNat).map BitVec.toNat

/-- The first of two byte strings holds 0 at the first bit in which they differ. -/
def idBefore : List Nat → List Nat → Bool
  | a :: x, b :: y => a < b || (a == b && idBefore x y)
  | _, _ => false

/-- This unit loses the arbitration (R59): a holder outlasts a TENTATIVE unit; among equals the die ID decides. -/
def losesTo (holder : Bool) (dieId : BitVec 64) (r : Rival) : Bool :=
  (r.holder && !holder) || (r.holder == holder && idBefore (idBytes r.dieId) (idBytes dieId))

/-- The bytes of a read phase: status word, response, CRC-32 over both (R40). -/
def readPhase (status : Word) (resp : List Byte) : List Byte :=
  let b := leBytes 4 status.toNat ++ resp
  b ++ leBytes 4 (crc32 b).toNat

/-- The read phase of a frame whose header was good, and the arbitration of a confirm frame. The unit drives the
latched status word and the staged response when the address is its own (R39, R45, R46). -/
def readPhaseOp (s : State) (f : RawFrame) (addr : Nat) : State :=
  let l := s.link
  if l.isConfirm addr && l.takesPart addr then
    let holder := l.unitAddr.toNat == addr
    if f.rivals.any (losesTo holder s.fuse.dieId) then
      { s with link := { l with unitAddr := 30, tentative := none, tentHold := false, driven := none } }
    else
      { s with link := { l with
          driven := some (readPhase (confirmStatus addr (!holder)) (leBytes 8 s.fuse.dieId.toNat)) } }
  else if l.unitAddr.toNat == addr && l.assigned then
    { s with link := { l with driven := some (readPhase l.status (l.staged.getD [])) } }
  else { s with link := { l with driven := none } }

/-! ## Commit -/

/-- Counts the discards of R43 and notes the level of ENUM_IN. -/
def commitBegin (s : State) (f : RawFrame) : State :=
  let l := if s.link.assigned then s.link.uncounted.foldl Link.count s.link else s.link
  { s with link := { l with uncounted := [], enumIn := f.enumIn } }

/-- Every assigned unit latches its status word at every commit (R45). -/
def latchStatus (s : State) : State :=
  if s.link.assigned then { s with link := { s.link with status := s.statusWord } } else s

/-- The queues are closed to new entries (R50): until they are initialised after a cold reset, and from step 1 of a
HIBERNATE entry. In a warm reset they stay initialised, also where its boot finds no slot to run (R343). -/
def State.queuesClosed (s : State) : Bool :=
  s.power.entry.isSome ||
    (!s.fw.up && match s.fw.boot with
      | .powering => true
      | .waitNvm w => !w
      | .laneTest w => !w
      | .stopped w => !w
      | .done => false)

/-- Free header slots of a submission queue. -/
def TenantSt.sqFree (x : TenantSt) : Nat := 128 - x.sq.length

/-- Bytes used in the payload area. -/
def TenantSt.payloadUsed (x : TenantSt) : Nat := (x.sq.map fun e => e.payload.length).sum

/-- The accept code of a SUBMIT (Table 02-8, R68). -/
def submitCode (s : State) (x : TenantSt) (p : List Byte) : Accept :=
  if s.queuesClosed then .notReady
  else if field p 6 2 + 16 ≠ p.length then .lenMismatch
  else if x.sqFree = 0 ∨ 4096 < x.payloadUsed + (p.length - 16) then .sqFull
  else .queued

/-- Accept codes (Table 02-8). -/
def Accept.code : Accept → Byte
  | .queued => 0 | .sqFull => 1 | .lenMismatch => 2 | .notReady => 3 | .windowRange => 4

/-- The tenant a byte names in its low three bits. -/
def tenantOf (n : Nat) : Tenant := Fin.ofNat 8 n

/-- A broadcast frame this unit could not accept (R55). -/
def bcastDrop (s : State) (bcast : Bool) (a : Accept) : State :=
  if bcast && (a == .sqFull || a == .notReady || a == .windowRange) then
    { s with link := { s.link with bcastDrop := s.link.bcastDrop + 1, linkErr := true } }
  else s

/-- A SUBMIT or BULK_WRITE that commits wakes the unit from DOZE and NAP (Table 13-7). -/
def linkWake (s : State) : State :=
  if s.power.st = .doze then { s with power := { s.power with st := .run, timerEntry := none } }
  else if s.power.st = .nap then noteWake s .link
  else s

/-- SUBMIT (R68, R55, Table 02-7): the state and the response. -/
def commitSubmit (s : State) (p : List Byte) (bcast : Bool) : State × List Byte :=
  let t := tenantOf (byteAt p 5)
  let code := submitCode s (s.ten t) p
  let s := if code = .queued then
      linkWake (s.updTen t fun x => { x with sq := x.sq ++ [{ header := p.take 16, payload := p.drop 16 }] })
    else bcastDrop s bcast code
  (s, [BitVec.ofNat 8 t.val, BitVec.ofNat 8 (byteAt p 4)] ++ (p.drop 2).take 2 ++
    [code.code, BitVec.ofNat 8 (s.ten t).sqFree, 0, 0])

/-- The delivered slots; one that ECC finds uncorrectable reads as 16 bytes of 0xFF (Table 12-5). -/
def reapSlots (bad : List Nat) : Nat → List CqSlot → List Byte
  | _, [] => []
  | i, c :: r => (if bad.contains i then List.replicate 16 0xFF else c.bytes) ++ reapSlots bad (i + 1) r

/-- REAP (R49): frees the records up to the acknowledge index and delivers up to the maximum number. `bad` lists the
delivered slots that ECC finds uncorrectable (R303). -/
def commitReap (s : State) (p : List Byte) (bad : List Nat) : State × List Byte :=
  let t := tenantOf (byteAt p 0)
  let max := byteAt p 1
  let ack := BitVec.ofNat 16 (field p 2 2)
  let s := s.updTen t fun x =>
    let k := (ack - x.cons).toNat
    if k ≤ x.cq.length then { x with cq := x.cq.drop k, cons := ack } else x
  let x := s.ten t
  let recs := x.cq.take max
  let out := [BitVec.ofNat 8 t.val, BitVec.ofNat 8 recs.length] ++ leBytes 2 x.cons.toNat ++
    padTo (16 * max) (reapSlots bad 0 recs)
  (foldS (bad.filter (· < recs.length)) s fun s _ => eccEvent s true 48, out)

/-- Register words from an offset on. -/
def regWords (s : State) (off : Nat) : Nat → List Byte
  | 0 => []
  | n + 1 => leBytes 4 (s.readReg off).toNat ++ regWords s (off + 4) n

/-- Applies register words from an offset on; a broadcast leaves word 0x08 unchanged (R55). -/
def writeWords (l : Link) (bcast : Bool) (off : Nat) (p : List Byte) : Nat → Link
  | 0 => l
  | n + 1 =>
    let l := if bcast && off == 0x08 then l else l.write off (BitVec.ofNat 32 (field p 0 4))
    writeWords l bcast (off + 4) (p.drop 4) n

/-- LWRITE (R53, R55). -/
def commitLwrite (s : State) (p : List Byte) (bcast : Bool) : State × List Byte :=
  let n := field p 2 2
  ({ s with link := writeWords s.link bcast (field p 0 2) (p.drop 4) n }, p.take 2 ++ [BitVec.ofNat 8 n, 0])

/-- Window length in bytes. -/
def TenantSt.windowBytes (x : TenantSt) : Nat := x.windowKib * 1024

/-- BULK_WRITE (R70, Table 02-8). -/
def commitBulkWrite (s : State) (p : List Byte) (bcast : Bool) : State × List Byte :=
  let t := tenantOf (byteAt p 0)
  let off := field p 4 4
  let data := p.drop 8
  let code : Accept := if s.queuesClosed then .notReady
    else if (s.ten t).windowBytes < off + data.length then .windowRange else .queued
  let s := if code = .queued then linkWake (s.updTen t fun x => { x with window := memWriteN x.window off data })
    else bcastDrop s bcast code
  (s, [BitVec.ofNat 8 t.val, code.code, 0, 0] ++ leBytes 4 (if code = .queued then data.length else 0))

/-- Bytes of a window from an offset on; beyond its end they read 0 (R70). -/
def TenantSt.windowRead (x : TenantSt) (off n : Nat) : List Byte :=
  padTo n (memReadN x.window off (Nat.min n (x.windowBytes - off)))

/-- BULK_READ (R70). -/
def commitBulkRead (s : State) (p : List Byte) (len : Nat) : State × List Byte :=
  (s, (s.ten (tenantOf (byteAt p 0))).windowRead (field p 4 4) (4 * (len + 1)))

/-- The tenant that a SUBMIT, REAP, BULK_WRITE or BULK_READ names; LREAD and LWRITE name none (R62). -/
def namedTenant (kind : Nat) (p : List Byte) : Option Tenant :=
  match kind with
  | 0 => some (tenantOf (byteAt p 5))
  | 1 | 5 | 6 => some (tenantOf (byteAt p 0))
  | _ => none

/-- The host-loss watchdog of the tenant that a committed frame names starts again (R62). -/
def State.feed (s : State) (kind : Nat) (p : List Byte) : State :=
  match namedTenant kind p with
  | some t => s.updTen t fun x => { x with lossMs := 0 }
  | none => s

/-- The effect of a committed frame of kind 0 to 3, 5 or 6 on the unit that executes it, with the response. -/
def commitEffect (s : State) (kind : Nat) (p : List Byte) (len : Nat) (bcast : Bool)
    (bad : List Nat) : State × List Byte :=
  let s := s.feed kind p
  match kind with
  | 0 => commitSubmit s p bcast
  | 1 => commitReap s p bad
  | 2 => (s, regWords s (field p 0 2) (field p 2 2))
  | 3 => commitLwrite s p bcast
  | 5 => commitBulkWrite s p bcast
  | _ => commitBulkRead s p len

/-- Executes a committed frame at its address: the effect, FRAMES_OK and the staged response in the addressed unit
(R46), the effect alone for a broadcast (R55), nothing for another unit's frame. -/
def executeFrame (s : State) (addr kind : Nat) (p : List Byte) (len : Nat) (bad : List Nat) : State :=
  if s.link.assigned && s.link.unitAddr.toNat == addr then
    let s := { s with link := { s.link with framesOk := s.link.framesOk + 1 } }
    let (s, resp) := commitEffect s kind p len false bad
    { s with link := { s.link with staged := some resp } }
  else if s.link.assigned && addr == 31 then (commitEffect s kind p len true bad).1
  else s

/-- A frame addressed elsewhere after ENUMERATE ends the TENTATIVE state; after a discarded confirm frame it does not
(R60). -/
def endOffer (s : State) (addr : Nat) : State :=
  let l := s.link
  if l.tentHold || l.tentative.map BitVec.toNat == some addr then { s with link := { l with offer := none } }
  else { s with link := { l with offer := none, tentative := none } }

/-- A commit that is not an ENUMERATE: read phase, tentative units that a frame elsewhere ends, counters, effect, status
latch (Table 02-5 step 3). -/
def commitFrame (s : State) (f : RawFrame) (addr kind : Nat) (p : List Byte) (bad : List Nat) : State :=
  let s := readPhaseOp s f addr
  let s := endOffer s addr
  let s := commitBegin s f
  latchStatus (executeFrame s addr kind p (field f.hdr 2 2) bad)

/-- The row of an ordinary frame of one kind. -/
def commitRow (s : State) (f : RawFrame) (kind : Nat) (bad : List Nat) : State :=
  match classify s.link f with
  | .commits addr k p => if k = kind ∧ s.link.isConfirm addr = false then commitFrame s f addr k p bad else s
  | _ => s

/-- ENUMERATE (R57): a unit with address 30 whose ENUM_IN is high becomes TENTATIVE and stages its die ID. -/
def commitEnumerate (s : State) (f : RawFrame) (p : List Byte) : State :=
  let s := readPhaseOp s f 30
  let s := endOffer s 30
  let s := commitBegin s f
  let a := BitVec.ofNat 5 (byteAt p 0)
  let l : Link := { s.link with offer := some a }
  let l : Link := if l.unitAddr = 30 ∧ f.enumIn = true then
      { l with tentative := some a, tentHold := false, staged := some (leBytes 8 s.fuse.dieId.toNat) }
    else l
  latchStatus { s with link := l }

/-- The confirm frame's commit (R58 to R60): after the arbitration of its read phase the TENTATIVE unit that remains
takes the address and executes the request, as the holder does. -/
def commitConfirm (s : State) (f : RawFrame) (addr kind : Nat) (p : List Byte) : State :=
  let s := readPhaseOp s f addr
  let s := commitBegin s f
  let l := s.link
  let l : Link := if l.tentative.map BitVec.toNat == some addr then
      { l with unitAddr := BitVec.ofNat 5 addr, tentative := none, tentHold := false } else l
  latchStatus (executeFrame { s with link := { l with offer := none } } addr kind p (field f.hdr 2 2) [])

/-- A discarded frame (R43, R54): it is counted at the next commit where this unit counts it; with a good header its
read phase and its address have the effects of R39, R59 and R60. -/
def discardOp (s : State) (f : RawFrame) (d : Discard) (head : Option (Nat × Nat)) : State :=
  let s := match head with
    | none => { s with link := { s.link with driven := none } }
    | some (addr, _) =>
      let confirm := s.link.isConfirm addr
      let s := readPhaseOp s f addr
      if confirm then
        { s with link := { s.link with offer := none, tentHold := s.link.tentative.isSome } }
      else endOffer s addr
  let mine := match head with
    | none => true
    | some (addr, _) => addr == s.link.unitAddr.toNat || addr == 31
  if s.link.assigned && mine then { s with link := { s.link with uncounted := s.link.uncounted ++ [d] } } else s

/-! ## The rows -/

/-- SUBMIT_COMMIT. -/
def execSubmitCommit (f : RawFrame) (s : State) : Host.Outcome State Fault Refusal := .next (commitRow s f 0 [])

/-- REAP_COMMIT; `bad` lists the records the read finds uncorrectable in exchange RAM (Table 12-5): their slots read
as 0xFF in the response. -/
def execReapCommit (f : RawFrame) (bad : List Nat) (s : State) : Host.Outcome State Fault Refusal :=
  .next (commitRow s f 1 bad)

/-- LREAD_COMMIT. -/
def execLreadCommit (f : RawFrame) (s : State) : Host.Outcome State Fault Refusal := .next (commitRow s f 2 [])

/-- LWRITE_COMMIT. -/
def execLwriteCommit (f : RawFrame) (s : State) : Host.Outcome State Fault Refusal := .next (commitRow s f 3 [])

/-- ENUMERATE_COMMIT. -/
def execEnumerateCommit (f : RawFrame) (s : State) : Host.Outcome State Fault Refusal :=
  .next (match classify s.link f with
    | .commits _ 4 p => commitEnumerate s f p
    | _ => s)

/-- CONFIRM_FRAME_COMMIT. -/
def execConfirmFrameCommit (f : RawFrame) (s : State) : Host.Outcome State Fault Refusal :=
  .next (match classify s.link f with
    | .commits addr k p => if s.link.isConfirm addr then commitConfirm s f addr k p else s
    | _ => s)

/-- BULK_WRITE_COMMIT. -/
def execBulkWriteCommit (f : RawFrame) (s : State) : Host.Outcome State Fault Refusal := .next (commitRow s f 5 [])

/-- BULK_READ_COMMIT. -/
def execBulkReadCommit (f : RawFrame) (s : State) : Host.Outcome State Fault Refusal := .next (commitRow s f 6 [])

/-- FRAME_DISCARD. -/
def execFrameDiscard (f : RawFrame) (s : State) : Host.Outcome State Fault Refusal :=
  .next (match classify s.link f with
    | .discarded d head => discardOp s f d head
    | _ => s)

/-- A register write on its own: LWRITE brings it, so it needs a powered link port and an assigned address (R53, R56). -/
def regWrite (s : State) (off : Nat) (v : Word) : State :=
  if s.link.up && s.link.assigned then { s with link := s.link.write off v } else s

/-- UNIT_ADDR_WRITE. -/
def execUnitAddrWrite (v : Word) (s : State) : Host.Outcome State Fault Refusal := .next (regWrite s 0x08 v)

/-- IRQ_SUM_CLEAR. -/
def execIrqSumClear (v : Word) (s : State) : Host.Outcome State Fault Refusal := .next (regWrite s 0x18 v)

/-- LINK_REGISTER_WRITE: any other register. -/
def execLinkRegisterWrite (off : BitVec 8) (v : Word) (s : State) : Host.Outcome State Fault Refusal :=
  .next (if off = 0x08 ∨ off = 0x18 then s else regWrite s off.toNat v)

end Sys2Proof.Machine
end

