-- ==== Sys2Proof/Machine/MemOps.lean ====
section
/-! DEFINITION. The memories: patch slots, wave memory, wave maps, sealed loads, bank power states, the key vault, the life
cycle, and firmware slots (R102 to R104, R109, R111, R146 to R148, R294 to R313). -/

namespace Sys2Proof.Machine

/-! ## Patch slots (R146, R148) -/

/-- Slot `n`. -/
def State.patch (s : State) (n : Nat) : PatchSlot := bankAt s.mem.patches n {}

/-- Replaces slot `n`. -/
def State.setPatch (s : State) (n : Nat) (p : PatchSlot) : State :=
  { s with mem := { s.mem with patches := bankPut s.mem.patches n p } }

/-- Empties slot `n`: it has no image, no owner and no seal. -/
def State.dropPatch (s : State) (n : Nat) : State := { s with mem := { s.mem with patches := bankDel s.mem.patches n } }

/-- The bank of a slot is ON. -/
def State.patchOn (s : State) (n : Nat) : Bool := s.mem.bankSt .patch (n / 64) == .on

/-- A working set names the slot as its tuning table (R144). -/
def tunesBy (ps : ParamSet) (n : Nat) : Bool := pget ps (pVoice 7) == 1 && pget ps (pVoice 8) == n

/-- A part of some tenant selects the slot, or names it as its tuning table. -/
def State.selected (s : State) (n : Nat) : Bool :=
  allTenants.any fun t => (s.ten t).parts.any fun p => p.2.slot == some n || tunesBy p.2.workset n

/-- PATCH_WRITE executes. -/
def doPatchWrite (s : State) (t : Tenant) (g : Tag) (slot win : Nat) : State :=
  let p := s.patch slot
  let len := field ((s.ten t).windowRead win 8) 6 2
  let img := (s.ten t).windowRead win len
  if p.image != [] && p.owner != some t && t != 0 then fail s t g .noRights
  else if !s.patchOn slot then fail s t g .bankOff
  else if s.selected slot then fail s t g .busyClassX
  else if p.loading || (p.sealedTo.isSome && p.sealedTo != some t) then fail s t g .vaultLocked
  else if 2048 < len ∨ (s.ten t).windowBytes < win + len then badField s t g 4
  else if !imageSound img then fail s t g .crcBad
  else match imageBad img with
    | some off => badField s t g (0x8000 + off)
    | none => ok (s.setPatch slot { image := img, owner := some t }) t g

/-- An uncorrectable word empties the slot (Table 12-5). -/
def patchBad (s : State) (slot : Nat) : State := eccEvent (s.dropPatch slot) true (16 + slot / 64)

/-- PATCH_READ executes. -/
def doPatchRead (s : State) (t : Tenant) (g : Tag) (slot win : Nat) (hw : HwAnswer) : State :=
  let p := s.patch slot
  if !s.patchOn slot then fail s t g .bankOff
  else if p.loading then fail s t g .vaultLocked
  else if p.image == [] then fail s t g .notFound
  else if p.sealedTo.isSome then fail s t g .vaultLocked
  else if hw.eccBad then fail (patchBad s slot) t g .notFound
  else if (s.ten t).windowBytes < win + p.image.length then badField s t g 4
  else
    let s := s.updTen t fun x => { x with window := memWriteN x.window win p.image }
    okShort s t g p.image.length

/-- PATCH_SELECT executes. -/
def doPatchSelect (s : State) (t : Tenant) (g : Tag) (part slot : Nat) (hw : HwAnswer) : State :=
  if !s.patchOn slot then fail s t g .bankOff
  else match s.voicePatch slot with
    | none => fail s t g .notFound
    | some p => if hw.eccBad then fail (patchBad s slot) t g .notFound else ok (selectPatch s t part slot p.image) t g

/-! ## Wave memory (R102, R104, R301, R309, R310) -/

/-- The address of an offset of a bank. -/
def waveAddr (bank off : Nat) : Nat := bank * 0x200000 + off

/-- Two byte ranges of one bank share a byte. -/
def overlaps (o1 n1 o2 n2 : Nat) : Bool := decide (o1 < o2 + n2) && decide (o2 < o1 + n1)

/-- The range overlaps a sealed region. -/
def State.sealedHit (s : State) (bank off n : Nat) : Bool :=
  s.mem.seals.any fun r => r.bank == bank && overlaps off n r.offset r.length

/-- The range overlaps a LOADING region. -/
def State.loadingHit (s : State) (bank off n : Nat) : Bool :=
  s.mem.loads.any fun l => !l.args.patch && l.args.target == bank && overlaps off n l.args.offset l.args.length

/-- Words of 64 bits that a range touches no longer hold an error. -/
def clearBad (l : List Nat) (a n : Nat) : List Nat := l.filter fun w => decide (w < a / 8) || decide (a + n ≤ w * 8)

/-- Writes bytes into wave memory. -/
def waveStore (s : State) (a : Nat) (b : List Byte) : State :=
  { s with mem := { s.mem with wave := memWriteN s.mem.wave a b, badWords := clearBad s.mem.badWords a b.length } }

/-- Zeroes a range of wave memory. -/
def waveZero (s : State) (a n : Nat) : State :=
  { s with mem := { s.mem with wave := memClear s.mem.wave a n, badWords := clearBad s.mem.badWords a n } }

/-- WAVE_WRITE begins: the window is taken, and the copy runs until WAVE_WRITE_DONE. -/
def doWaveWrite (s : State) (t : Tenant) (g : Tag) (bank off win n : Nat) : State :=
  if s.mem.bankSt .wave bank ≠ .on then fail s t g .bankOff
  else if s.sealedHit bank off n || s.loadingHit bank off n then fail s t g .vaultLocked
  else
    let c : WaveCopy := { t := t, g := g, bank := bank, offset := off, data := (s.ten t).windowRead win n }
    startLong { s with mem := { s.mem with copies := s.mem.copies ++ [c] } } t g

/-- The words of a range that hold an uncorrectable error. -/
def State.badIn (s : State) (a n : Nat) : List Nat :=
  s.mem.badWords.filter fun w => decide (a / 8 ≤ w) && decide (w * 8 < a + n)

/-- WAVE_READ executes: every word is copied, a bad word as zero (R104). -/
def doWaveRead (s : State) (t : Tenant) (g : Tag) (bank off win n : Nat) : State :=
  if s.mem.bankSt .wave bank ≠ .on then fail s t g .bankOff
  else if s.sealedHit bank off n || s.loadingHit bank off n then fail s t g .vaultLocked
  else
    let a := waveAddr bank off
    let bad := s.badIn a n
    let data := (List.range n).map fun i => if bad.contains ((a + i) / 8) then 0 else s.waveByte (a + i)
    let s := s.updTen t fun x => { x with window := memWriteN x.window win data }
    if bad = [] then ok s t g else fail (foldS bad s fun s _ => eccEvent s true bank) t g .eccUncorrected

/-- WAVE_MAP executes (R102). -/
def doWaveMap (s : State) (t : Tenant) (g : Tag) (a : MapArgs) : State :=
  let own := match bankGet s.mem.maps a.id with
    | some m => m.owner == t || t == 0
    | none => true
  if !own then fail s t g .noRights
  else
    let maps := if a.length = 0 then bankDel s.mem.maps a.id
      else bankPut s.mem.maps a.id
        { bank := a.bank, format := a.format, offset := a.offset, length := a.length, loopStart := a.loopStart,
          loopEnd := a.loopEnd, loopMode := a.loopMode, rootKey := a.rootKey, owner := t }
    ok { s with mem := { s.mem with maps := maps } } t g

/-! ## Sealed loads (R103, R309, R310) -/

/-- Wave regions under load that are not sealed already: a region reloaded in place counts once (R310). -/
def State.newRegions (s : State) : Nat :=
  (s.mem.loads.filter fun l => !l.args.patch && !s.mem.seals.any fun r =>
    r.bank == l.args.target && r.offset == l.args.offset && r.length == l.args.length).length

/-- The destination is refused because of a seal: a sealed region that is not the tenant's own same region, a patch slot
sealed to another tenant, or a 257th region. -/
def State.sealRefuses (s : State) (t : Tenant) (a : SealedArgs) : Bool :=
  if a.patch then
    let p := s.patch a.target
    p.sealedTo.isSome && p.sealedTo != some t
  else
    let same := s.mem.seals.any fun r =>
      r.bank == a.target && r.offset == a.offset && r.length == a.length && r.tenant == t
    !same && (s.sealedHit a.target a.offset a.length || decide (256 ≤ s.mem.seals.length + s.newRegions))

/-- A key read meets an uncorrectable word of the vault: the slot is erased (Table 12-5). -/
def keyBad (s : State) (slot : Nat) : State :=
  eccEvent { s with vault := { s.vault with keys := bankDel s.vault.keys slot } } true 57

/-- WAVE_LOAD_SEALED begins: the key is read and the destination is marked LOADING. -/
def doLoadSealed (s : State) (t : Tenant) (g : Tag) (a : SealedArgs) (hw : HwAnswer) : State :=
  let on := if a.patch then s.patchOn a.target else s.mem.bankSt .wave a.target == .on
  let busy := if a.patch then (s.patch a.target).loading || s.selected a.target
    else s.loadingHit a.target a.offset a.length
  if !on then fail s t g .bankOff
  else if busy then fail s t g .busyClassX
  else if s.sealRefuses t a then fail s t g .vaultLocked
  else match bankGet s.vault.keys a.keySlot with
    | none => fail s t g .vaultLocked
    | some k =>
      if hw.eccBad then fail (keyBad s a.keySlot) t g .vaultLocked else
      let l : SealedLoad := { t := t, g := g, args := a, key := k, blob := (s.ten t).windowRead a.window (a.length + 28) }
      let s := if a.patch then s.setPatch a.target { s.patch a.target with image := [], loading := true } else s
      startLong { s with mem := { s.mem with loads := s.mem.loads ++ [l] } } t g

/-- The destination after the tag was checked: sealed to the tenant with the plaintext, or zeroed. -/
def landSealed (s : State) (l : SealedLoad) (p : Option (List Byte)) : State :=
  let a := l.args
  if a.patch then
    match p with
    | some b => s.setPatch a.target { image := padTo a.length b, owner := some l.t, sealedTo := some l.t }
    | none => s.dropPatch a.target
  else
    let out := s.mem.seals.filter fun r => !(r.bank == a.target && overlaps a.offset a.length r.offset r.length)
    let s := { s with mem := { s.mem with seals := out } }
    match p with
    | some b =>
      let s := waveStore s (waveAddr a.target a.offset) (padTo a.length b)
      { s with mem := { s.mem with
          seals := s.mem.seals ++ [{ bank := a.target, offset := a.offset, length := a.length, tenant := l.t }] } }
    | none => waveZero s (waveAddr a.target a.offset) a.length

/-! ## Bank power states (R294, R296, R298, Table 12-3) -/

/-- The firmware bank holds firmware (R294). -/
def State.fwHeld (s : State) (n : Nat) : Bool :=
  decide (n < 4) || decide (n * 131072 < imageLen s.fw.sram)

/-- A running WAVE_WRITE or WAVE_LOAD_SEALED writes the bank (R298). -/
def State.bankWritten (s : State) (k : BankKind) (n : Nat) : Bool :=
  match k with
  | .wave => (s.mem.copies.any fun c => c.bank == n) || s.mem.loads.any fun l => !l.args.patch && l.args.target == n
  | .patch => s.mem.loads.any fun l => l.args.patch && l.args.target / 64 == n
  | .firmware => false

/-- A bank's contents are lost: zeros, empty slots, no seals, no bad words. -/
def clearBank (s : State) (k : BankKind) (n : Nat) : State :=
  match k with
  | .wave =>
    let s := waveZero s (waveAddr n 0) 0x200000
    { s with mem := { s.mem with seals := s.mem.seals.filter fun r => r.bank != n } }
  | .patch => { s with mem := { s.mem with patches := s.mem.patches.filter fun p => p.1 / 64 != n } }
  | .firmware => s

/-- Codes of bank states (Table 04-12). -/
def BankSt.code : BankSt → Nat
  | .on => 0 | .retain => 1 | .off => 2

/-- MEM_BANK_STATE acts on a bank that nothing writes: it completes, or the change begins. -/
def changeBank (s : State) (t : Tenant) (g : Tag) (k : BankKind) (n : Nat) (st : BankSt) : State :=
  let old := s.mem.bankSt k n
  if old = st then okShort s t g old.code
  else
    let m : BankMove := { kind := k, bank := n, target := st, ref := some (t, g), prev := old }
    startLong { s with mem := { s.mem with moves := s.mem.moves ++ [m] } } t g

/-- A bank that is being written, or that still changes: MEM_BANK_STATE waits (R298, log entry 22). -/
def State.bankBusy (s : State) (k : BankKind) (n : Nat) : Bool :=
  s.bankWritten k n || s.mem.moves.any fun m => m.kind == k && m.bank == n

/-- MEM_BANK_STATE executes, or waits for what writes or changes its bank, behind the commands that wait already. -/
def doBankState (s : State) (t : Tenant) (g : Tag) (k : BankKind) (n : Nat) (st : BankSt) : State :=
  if k = .firmware ∧ s.fwHeld n = true then badField s t g 1
  else if s.bankBusy k n || s.mem.bankWaits.any (fun w => w.kind == k && w.bank == n) then
    let w : BankWait := { t := t, g := g, kind := k, bank := n, target := st }
    startLong { s with mem := { s.mem with bankWaits := s.mem.bankWaits ++ [w] } } t g
  else changeBank s t g k n st

/-- The commands that waited for a bank execute, one after the other, while nothing writes or changes it. -/
def runBankWaits (s : State) : State :=
  foldS s.mem.bankWaits { s with mem := { s.mem with bankWaits := [] } } fun s w =>
    if s.bankBusy w.kind w.bank || s.mem.bankWaits.any (fun v => v.kind == w.kind && v.bank == w.bank) then
      { s with mem := { s.mem with bankWaits := s.mem.bankWaits ++ [w] } }
    else changeBank s w.t w.g w.kind w.bank w.target

/-- A WAVE_WRITE has copied everything; what waited for its bank executes (R298). -/
def waveWriteDone (s : State) (t : Tenant) (g : Tag) : State :=
  match s.mem.copies.find? fun c => c.t == t && c.g == g with
  | none => s
  | some c =>
    let s := waveStore s (waveAddr c.bank c.offset) c.data
    runBankWaits (ok { s with mem := { s.mem with copies := s.mem.copies.filter fun d => !(d.t == t && d.g == g) } } t g)

/-- SEALED_LOAD_DONE: the GCM tag decides; what waited for the bank executes (R298). -/
def sealedDone (s : State) (t : Tenant) (g : Tag) : State :=
  match s.mem.loads.find? fun l => l.t == t && l.g == g with
  | none => s
  | some l =>
    let s := { s with mem := { s.mem with loads := s.mem.loads.filter fun d => !(d.t == t && d.g == g) } }
    let p := Config.gcmOpen l.key l.args.aad l.blob
    let s := landSealed s l p
    runBankWaits (if p.isSome then ok s t g else fail s t g .signatureBad)

/-- A bank reaches its new state (Table 12-3). -/
def landMove (s : State) (m : BankMove) : State :=
  let s := { s with mem := { s.mem with moves := s.mem.moves.filter fun d => !(d.kind == m.kind && d.bank == m.bank) } }
  let s := if m.target = .off ∨ m.prev = .off then clearBank s m.kind m.bank else s
  let s := { s with mem := s.mem.setBank m.kind m.bank m.target }
  runBankWaits (finishRef s m.ref .ok (.bytes (leBytes 2 m.prev.code)))

/-- BANK_TRANSITION_DONE. -/
def bankDone (s : State) (k : BankKind) (n : Nat) : State :=
  match s.mem.moves.find? fun m => m.kind == k && m.bank == n with
  | some m => landMove s m
  | none => s

/-- Changes that complete at the next engine tick: ON to RETAIN, and to OFF (Table 12-3). -/
def tickMoves (s : State) : State :=
  foldS (s.mem.moves.filter fun m => m.target == .off || (m.prev == .on && m.target == .retain)) s landMove

/-! ## Key vault (R305 to R308) -/

/-- VAULT_KEY_LOAD is locked (R109, R315, Table 12-8). -/
def State.vaultLocked (s : State) : Bool :=
  s.nvm.life == .blank || s.nvm.life == .ret || s.nvm.tampered.isSome

/-- A running sealed load uses the key slot. -/
def State.keyInUse (s : State) (slot : Nat) : Bool := s.mem.loads.any fun l => l.args.keySlot == slot

/-- New content keys, with the vault image, wrapped under the storage key, written (R307); a failed verify leaves the keys
usable. -/
def storeKeys (s : State) (keys : Bank (List Byte)) (verify : Bool) : State :=
  let s := { s with vault := { s.vault with keys := keys }
                    nvm := { s.nvm with vault := s.nvm.vault.put { under := s.vault.storage, keys := keys } verify } }
  if verify then s else eccEvent s true 64

/-- VAULT_KEY_LOAD with op LOAD executes. -/
def doKeyLoad (s : State) (t : Tenant) (g : Tag) (slot : Nat) (w : List Byte) (hw : HwAnswer) : State :=
  if s.vaultLocked then fail s t g .vaultLocked
  else if s.keyInUse slot then s
  else match s.vault.kek.bind fun k => Config.unwrap k w with
    | none => fail s t g .signatureBad
    | some k => ok (storeKeys s (bankPut s.vault.keys slot k) hw.verify) t g

/-- VAULT_KEY_LOAD with op ERASE executes. -/
def doKeyErase (s : State) (t : Tenant) (g : Tag) (slot : Nat) (hw : HwAnswer) : State :=
  if s.vaultLocked then fail s t g .vaultLocked
  else if s.keyInUse slot then s
  else ok (storeKeys s (bankDel s.vault.keys slot) hw.verify) t g

/-- A vault wipe (R308). -/
def vaultWipe (s : State) : State :=
  let s := { s with vault := { s.vault with keys := [], kek := none }
                    nvm := { s.nvm with vault := s.nvm.vault.wipe } }
  let s := foldS s.mem.seals s fun s r => waveZero s (waveAddr r.bank r.offset) r.length
  { s with mem := { s.mem with seals := [], patches := s.mem.patches.filter fun p => p.2.sealedTo.isNone } }

/-! ## Life cycle (R109, R313) -/

/-- The next life-cycle state (R109). -/
def Life.next : Life → Option Life
  | .blank => some .maker
  | .maker => some .field
  | .field => some .ret
  | .ret => none

/-- Codes of the life-cycle states (Table 12-11). -/
def Life.code : Life → Nat
  | .blank => 0 | .maker => 1 | .field => 2 | .ret => 3

/-- Steps 2 to 4 of R313: the wipe, the maker key, the life-cycle record, and the pending record cleared. -/
def advanceLife (s : State) (to_ : Life) (key : List Byte) : State :=
  let s := vaultWipe s
  let m := s.nvm
  let m := match to_ with
    | .maker => { m with makerRec := m.makerRec.put (some key) true }
    | .ret => { m with makerRec := m.makerRec.put none true }
    | _ => m
  let s := { s with nvm := { m with lifeRec := m.lifeRec.put to_ true, advanceRec := m.advanceRec.put none true } }
  { s with vault := { s.vault with kek := s.kek } }

/-- The body of a command loads sealed content. -/
def Body.loads : Body → Bool
  | .waveLoadSealed _ => true
  | _ => false

/-- WAVE_LOAD_SEALED commands in flight, from their acceptance (R77), that can complete before the command on this tag does:
a load behind a FENCE that waits for it cannot. -/
def TenantSt.loadsInFlight (x : TenantSt) (g : Tag) : List InFlight :=
  let after := x.inflight.dropWhile fun c => c.tag != g
  (x.before g ++ after.takeWhile fun c => !c.fence).filter fun c => c.body.loads

/-- LIFECYCLE_ADVANCE executes; it waits for the sealed loads in flight. When a record fails to verify, the
advance-pending record may be set (R92): a free value says whether it is. -/
def doLifecycle (s : State) (t : Tenant) (g : Tag) (target : Nat) (die : BitVec 32) (key : List Byte) (hw : HwAnswer) :
    State :=
  if allTenants.any (fun u => u != 0 && (s.ten u).st != .closed) then fail s t g .busyClassX
  else match s.nvm.life.next with
    | none => fail s t g .lifecycleDenied
    | some l =>
      if l.code ≠ target ∨ s.fuse.dieId.setWidth 32 ≠ die then fail s t g .lifecycleDenied
      else if s.mem.loads ≠ [] ∨ (s.ten t).loadsInFlight g ≠ [] then s
      else if hw.verify then
        ok (advanceLife { s with nvm := { s.nvm with advanceRec := s.nvm.advanceRec.put (some (l, key)) true } } l key) t g
      else
        let set := (Config.freeWord s.freeCtr).getLsbD 0
        fail { s.drew with nvm := { s.nvm with advanceRec := s.nvm.advanceRec.put (some (l, key)) set } } t g .storeFailed

/-! ## Firmware slots (R111, R312, R342) -/

/-- What a failed store leaves: word by word old or new, each a free choice (R92). -/
def stagedPart (s : State) (m : Memory) (off : Nat) : Nat → List Byte → Memory
  | _, [] => m
  | i, b :: r =>
    let m := if (Config.freeWord (s.freeCtr + i / 4)).getLsbD 0 then memWrite m (off + i) b else m
    stagedPart s m off (i + 1) r

/-- The mark of R111 is cleared, when it stands. -/
def Nvm.unmark (m : Nvm) : Nvm := if m.verified then m.putSlot { m.slot with verified := false } true else m

/-- FW_STAGE executes. -/
def doFwStage (s : State) (t : Tenant) (g : Tag) (off win n : Nat) (final : Bool) (hw : HwAnswer) : State :=
  let data := (s.ten t).windowRead win n
  let old := s.nvm.slotMem (!s.nvm.activeB)
  let m := if hw.verify then memWriteN old off data else stagedPart s old off 0 data
  let s := { s with nvm := (s.nvm.setInactive m).unmark
                    freeCtr := if hw.verify then s.freeCtr else s.freeCtr + n / 4 }
  if !hw.verify then fail s t g .storeFailed
  else if !final then ok s t g
  else if s.nvm.imagePasses m then
    ok { s with nvm := s.nvm.putSlot { s.nvm.slot with verified := true } true } t g
  else fail s t g .signatureBad

/-- FW_ACTIVATE executes (R111, R342): the active-slot record names the verified slot, TRIAL, 0 attempts. -/
def doFwActivate (s : State) (t : Tenant) (g : Tag) (hw : HwAnswer) : State :=
  if !s.nvm.verified then fail s t g .notFound
  else
    let m := s.nvm.putSlot { activeB := !s.nvm.activeB, trial := true } hw.verify
    if !hw.verify then fail { s with nvm := m } t g .storeFailed
    else
      let s := ok s t g
      { s with nvm := m, fw := { s.fw with resetDue := true } }

/-- DEVICE_RESET executes (R111). -/
def doDeviceReset (s : State) (t : Tenant) (g : Tag) : State :=
  let s := ok s t g
  { s with fw := { s.fw with resetDue := true } }

/-! ## Scrub (R303, R304) -/

/-- The bank codes of ECC_ERROR (R303). -/
def eccBank (b : Nat) : Bool := decide (b < 20) || (decide (32 ≤ b) && decide (b < 40)) || b == 48 || b == 56 || b == 57 || b == 64

/-- One word the scrub found: uncorrectable words stay bad, corrected ones are rewritten. -/
def scrubWord (s : State) (e : Nat × Bool) : State :=
  let bank := e.1 / 0x40000
  if bank < 16 ∧ s.mem.bankSt .wave bank = .on then
    let s := if e.2 && !s.mem.badWords.contains e.1 then
        { s with mem := { s.mem with badWords := s.mem.badWords ++ [e.1] } } else s
    eccEvent s e.2 bank
  else s

/-! ## The rows -/

/-- PATCH_WRITE. -/
def execPatchWrite (t : Tenant) (g : Tag) (s : State) : Host.Outcome State Fault Refusal :=
  .next (onCmd s t g fun b => match b with
    | .patchWrite n w => some (doPatchWrite s t g n w)
    | _ => none)

/-- PATCH_READ. -/
def execPatchRead (t : Tenant) (g : Tag) (hw : HwAnswer) (s : State) : Host.Outcome State Fault Refusal :=
  .next (onCmd s t g fun b => match b with
    | .patchRead n w => some (doPatchRead s t g n w hw)
    | _ => none)

/-- PATCH_SELECT. -/
def execPatchSelect (t : Tenant) (g : Tag) (hw : HwAnswer) (s : State) : Host.Outcome State Fault Refusal :=
  .next (onCmd s t g fun b => match b with
    | .patchSelect p n => some (doPatchSelect s t g p n hw)
    | _ => none)

/-- WAVE_WRITE. -/
def execWaveWrite (t : Tenant) (g : Tag) (s : State) : Host.Outcome State Fault Refusal :=
  .next (onCmd s t g fun b => match b with
    | .waveWrite k o w n => some (doWaveWrite s t g k o w n)
    | _ => none)

/-- WAVE_WRITE_DONE. -/
def execWaveWriteDone (t : Tenant) (g : Tag) (s : State) : Host.Outcome State Fault Refusal :=
  .next (if s.fwRuns then waveWriteDone s t g else s)

/-- WAVE_READ. -/
def execWaveRead (t : Tenant) (g : Tag) (s : State) : Host.Outcome State Fault Refusal :=
  .next (onCmd s t g fun b => match b with
    | .waveRead k o w n => some (doWaveRead s t g k o w n)
    | _ => none)

/-- WAVE_MAP. -/
def execWaveMap (t : Tenant) (g : Tag) (s : State) : Host.Outcome State Fault Refusal :=
  .next (onCmd s t g fun b => match b with
    | .waveMap a => some (doWaveMap s t g a)
    | _ => none)

/-- WAVE_LOAD_SEALED. -/
def execWaveLoadSealed (t : Tenant) (g : Tag) (hw : HwAnswer) (s : State) : Host.Outcome State Fault Refusal :=
  .next (onCmd s t g fun b => match b with
    | .waveLoadSealed a => some (doLoadSealed s t g a hw)
    | _ => none)

/-- SEALED_LOAD_DONE. -/
def execSealedLoadDone (t : Tenant) (g : Tag) (s : State) : Host.Outcome State Fault Refusal :=
  .next (if s.fwRuns then sealedDone s t g else s)

/-- MEM_BANK_STATE. -/
def execMemBankState (t : Tenant) (g : Tag) (s : State) : Host.Outcome State Fault Refusal :=
  .next (onCmd s t g fun b => match b with
    | .memBankState k n st => some (doBankState s t g k n st)
    | _ => none)

/-- BANK_TRANSITION_DONE. -/
def execBankTransitionDone (k : BankKind) (n : Fin 16) (s : State) : Host.Outcome State Fault Refusal :=
  .next (if s.fwRuns then bankDone s k n.val else s)

/-- VAULT_KEY_LOAD with op LOAD. -/
def execVaultKeyLoad (t : Tenant) (g : Tag) (hw : HwAnswer) (s : State) : Host.Outcome State Fault Refusal :=
  .next (onCmd s t g fun b => match b with
    | .vaultLoad n w => some (doKeyLoad s t g n w hw)
    | _ => none)

/-- VAULT_KEY_LOAD with op ERASE. -/
def execVaultKeyErase (t : Tenant) (g : Tag) (hw : HwAnswer) (s : State) : Host.Outcome State Fault Refusal :=
  .next (onCmd s t g fun b => match b with
    | .vaultErase n => some (doKeyErase s t g n hw)
    | _ => none)

/-- LIFECYCLE_ADVANCE. -/
def execLifecycleAdvance (t : Tenant) (g : Tag) (hw : HwAnswer) (s : State) : Host.Outcome State Fault Refusal :=
  .next (onCmd s t g fun b => match b with
    | .lifecycle l d k => some (doLifecycle s t g l d k hw)
    | _ => none)

/-- FW_STAGE. -/
def execFwStage (t : Tenant) (g : Tag) (hw : HwAnswer) (s : State) : Host.Outcome State Fault Refusal :=
  .next (onCmd s t g fun b => match b with
    | .fwStage o w n f => some (doFwStage s t g o w n f hw)
    | _ => none)

/-- FW_ACTIVATE. -/
def execFwActivate (t : Tenant) (g : Tag) (hw : HwAnswer) (s : State) : Host.Outcome State Fault Refusal :=
  .next (onCmd s t g fun b => match b with
    | .fwActivate => some (doFwActivate s t g hw)
    | _ => none)

/-- DEVICE_RESET. -/
def execDeviceReset (t : Tenant) (g : Tag) (s : State) : Host.Outcome State Fault Refusal :=
  .next (onCmd s t g fun b => match b with
    | .deviceReset => some (doDeviceReset s t g)
    | _ => none)

/-- WAVE_SCRUB: `found` lists the 64-bit words of wave memory with an error, by word address, true when uncorrectable;
`corrected` the bank code of each word that other reads corrected (R303, log entry 39). -/
def execWaveScrub (found : List (Nat × Bool)) (corrected : List Nat) (s : State) : Host.Outcome State Fault Refusal :=
  .next (if s.fwRuns then foldS (corrected.filter eccBank) (foldS found s scrubWord) fun s b => eccEvent s false b else s)

end Sys2Proof.Machine
end

