-- ==== Sys2Proof/Machine/CalOps.lean ====
section
/-! DEFINITION. Calibration, self-tests, lane service and the life counts (R166, R167, R339 to R341, R345 to R350, R354). -/

namespace Sys2Proof.Machine

/-! ## Trims (R345 to R349, Tables 14-4 and 14-5) -/

/-- Trim entry `n`: CV0-CV15, CI0-CI7, LO0-LO3. -/
def State.trim (s : State) (n : Nat) : Trim := bankAt s.cal.trims n {}

/-- A sounding voice's matrix names CVn's input as source or via (Table 14-4). -/
def Voice.namesCi (v : Voice) (n : Nat) : Bool :=
  v.sounds && (List.range 32).any fun k =>
    v.sel (0x2000 + 4 * k) == 0x1000 + n || v.sel (0x2000 + 4 * k + 3) == 0x1000 + n

/-- The target is active (Table 14-4). -/
def State.trimActive (s : State) (n : Nat) : Bool :=
  if n < 16 then (s.cv n).active
  else if n < 24 then s.voices.any fun v => v.namesCi (n - 16)
  else (s.lo (n - 24)).enable

/-- Targets of a mask, in the order of Table 14-2. -/
def trimTargets (target mask : Nat) : List Nat :=
  match target with
  | 0 => (List.range 16).filter mask.testBit
  | 1 => ((List.range 8).filter mask.testBit).map (· + 16)
  | 2 => ((List.range 4).filter mask.testBit).map (· + 24)
  | _ => List.range 28

/-- Begins a trim: active targets are skipped unless `cal.trim_active` is YES. -/
def startTrim (s : State) (ref : Option (Tenant × Tag)) (l : List Nat) : State :=
  let skip := if s.cal.trimActive then [] else l.filter s.trimActive
  let r : TrimRun :=
    { ref := ref, targets := l.filter fun n => !skip.contains n, skipped := skip, limited := skip != [] }
  { s with cal := { s.cal with trim := some r } }

/-- CAL_RUN executes; it waits while another trim runs. -/
def doCalRun (s : State) (t : Tenant) (g : Tag) (target mask : Nat) : State :=
  if s.fieldDown then fail s t g .fieldDown
  else if s.cal.trim.isSome then s
  else startTrim (startLong s t g) (some (t, g)) (trimTargets target mask)

/-- The bounds of an offset and of a gain (Table 14-5). -/
def trimBounds (n : Nat) : Int × Int := if n < 24 then (20000, 5000) else (2000, 2000)

/-- Hours of operation now. -/
def Cal.hours (c : Cal) : Nat := c.lifeSec / 3600

/-- A trim lands on a target (R345, R346): clamped, offset only on an active output, CAL_DRIFT when it was clamped or has
drifted. -/
def landTrim (s : State) (m : Measured) : State :=
  let o := s.trim m.target
  let (bo, bg) := trimBounds m.target
  let off := clampI (-bo) bo m.offset
  let gain := clampI (-bg) bg m.gain
  let offsetOnly := s.trimActive m.target && (decide (m.target < 16) || decide (24 ≤ m.target))
  let n : Trim := { o with offset := off, gain := if offsetOnly then o.gain else gain,
                           hours := s.cal.hours, count := o.count + 1 }
  let drift := off != m.offset || (!offsetOnly && gain != m.gain) ||
    decide ((s.cal.driftLimitUv : Int) < (off - o.factoryOffset).natAbs)
  let s := { s with cal := { s.cal with trims := bankPut s.cal.trims m.target n } }
  if drift then steward s .calDrift (BitVec.ofNat 16 m.target) [] else s

/-- The measurements of a run's targets, when the row brings one for each. -/
def trimFound (r : TrimRun) (m : List Measured) : Option (List Measured) :=
  r.targets.mapM fun n => m.find? fun x => x.target == n

/-- A mask over trim targets. -/
def targetMask (l : List Nat) : Nat := (l.map (2 ^ ·)).sum

/-- CAL_RUN_DONE: the trims land, and CAL_RUN reports what it trimmed and skipped. -/
def calRunDone (s : State) (m : List Measured) : State :=
  match s.cal.trim with
  | some r =>
    match r.ref, trimFound r m with
    | some (t, g), some l =>
      let s := foldS l { s with cal := { s.cal with trim := none } } landTrim
      finish s t g (if r.limited then .okLimited else .ok)
        (.bytes (leBytes 4 (targetMask r.targets) ++ leBytes 4 (targetMask r.skipped)))
    | _, _ => s
  | none => s

/-- CAL_READ executes (Table 14-2). -/
def doCalRead (s : State) (t : Tenant) (g : Tag) (target index : Nat) : State :=
  if s.fieldDown then fail s t g .fieldDown
  else
    let x := s.trim (index + (if target = 0 then 0 else if target = 1 then 16 else 24))
    okBytes s t g (x.bytes.take 8 ++ leInt 4 (x.offset - x.factoryOffset) ++ (x.bytes.drop 16).take 4)

/-! ## CAL_STORE (R339, R340, Table 14-3) -/

/-- A store begins. -/
def startStore (s : State) (ref : Option (Tenant × Tag)) : State :=
  { s with cal := { s.cal with storing := some ref }, nvm := { s.nvm with cal := s.nvm.cal.start } }

/-- CAL_STORE executes; it waits for a trim and for another store. -/
def doCalStore (s : State) (t : Tenant) (g : Tag) : State :=
  if s.cal.trim.isSome || s.cal.storing.isSome then s else startStore (startLong s t g) (some (t, g))

/-- CAL_STORE_DONE: the working trims are the new record, or the verify has failed. -/
def calStoreDone (s : State) (verify : Bool) : State :=
  match s.cal.storing with
  | none => s
  | some ref =>
    let q := (if s.nvm.cal.target then s.nvm.cal.b else s.nvm.cal.a).seq
    let data := if s.hasField then s.cal.trims else []
    let s := { s with cal := { s.cal with storing := none } }
    let s := if verify then
        finishRef { s with nvm := { s.nvm with cal := s.nvm.cal.commit data } } ref .ok (.bytes (leBytes 4 q))
      else finishRef (eccEvent s true 64) ref .storeFailed (.note 0)
    if s.cal.storeOwed then startStore { s with cal := { s.cal with storeOwed := false } } none else s

/-! ## Periodic trim (R348) -/

/-- The periodic trim begins, unless a trim runs. -/
def startPeriodic (s : State) : State :=
  if s.hasField && s.field.ready && s.cal.trim.isNone then startTrim s none (List.range 28) else s

/-- PERIODIC_TRIM: due every `cal.trim_period_s`, in RUN and DOZE; in NAP it is owed. -/
def periodicDue (s : State) (elapsedS : Nat) : State :=
  if s.cal.trimPeriodS = 0 ∨ elapsedS < s.cal.trimPeriodS then s
  else if s.power.st = .nap then { s with cal := { s.cal with periodicOwed := true } }
  else if s.fwRuns then startPeriodic s
  else s

/-- An owed periodic trim begins at the first block boundary after the wake. -/
def periodicAfterNap (s : State) : State :=
  if s.cal.periodicOwed && s.fwRuns then startPeriodic { s with cal := { s.cal with periodicOwed := false } } else s

/-- PERIODIC_TRIM_DONE: the trims land; with `cal.auto_store` ON a change is stored. -/
def periodicDone (s : State) (m : List Measured) : State :=
  match s.cal.trim with
  | some r =>
    match r.ref, trimFound r m with
    | none, some l =>
      let s' := foldS l { s with cal := { s.cal with trim := none } } landTrim
      let changed := r.targets.any fun n => (s.trim n).offset != (s'.trim n).offset || (s.trim n).gain != (s'.trim n).gain
      if s.cal.autoStore && changed then
        if s'.cal.storing.isSome then { s' with cal := { s'.cal with storeOwed := true } } else startStore s' none
      else s'
    | _, _ => s
  | none => s

/-- An input that becomes active during its trim ends it (R349). -/
def abandonInputs (s : State) : State :=
  if s.cal.trim.isSome && !s.cal.trimActive then
    foldS ((List.range 8).map (· + 16)) s fun s n => if s.trimActive n then abandonTrim s n else s
  else s

/-! ## Self-tests (R350, Table 14-6) -/

/-- The lane is parked. -/
def State.laneParked (s : State) (n : Nat) : Bool := (s.alloc.lane n).st == .parked

/-- The converter is stopped (Table 14-6). -/
def State.convStopped (s : State) (n : Nat) : Bool :=
  if n < 16 then (s.cv n).st == .hiz else if n < 24 then !s.trimActive n else (s.lo (n - 24)).st == .hiz

/-- Blocks of a target that a mask names. -/
def maskBits (n : Nat) (m : BitVec 32) : List Nat := (List.range n).filter fun i => m.getLsbD i

/-- Every named block of the target is stopped. -/
def State.testStopped (s : State) (target : Nat) (m : BitVec 32) : Bool :=
  match target with
  | 0 => (maskBits 8 m).all s.laneParked
  | 1 => (maskBits 16 m).all fun n => s.mem.bankSt .wave n == .off
  | 2 => (maskBits 28 m).all s.convStopped
  | _ => true

/-- SELFTEST executes: the named blocks must be stopped; the tested wave banks lose their contents. A second SELFTEST
waits. -/
def doSelftest (s : State) (t : Tenant) (g : Tag) (target : Nat) (m : BitVec 32) : State :=
  if target = 2 ∧ s.fieldDown = true then fail s t g .fieldDown
  else if !s.testStopped target m then fail s t g .busyClassX
  else if s.cal.test.isSome then s
  else
    let banks := if target = 1 then maskBits 16 m
      else if target = 3 then (List.range 16).filter fun n => s.mem.bankSt .wave n == .off else []
    let s := foldS banks s fun s n => clearBank s .wave n
    startLong { s with cal := { s.cal with test := some { t := t, g := g, target := target, mask := m } } } t g

/-- SELFTEST_DONE: the failure mask is reported; a lane that failed raises LANE_FAULT. -/
def selftestDone (s : State) (failMask : BitVec 32) : State :=
  match s.cal.test with
  | none => s
  | some r =>
    let f := if r.target = 3 then failMask else failMask &&& r.mask
    let s := { s with cal := { s.cal with test := none } }
    let lanes := if r.target = 0 ∨ r.target = 3 then maskBits 8 f else []
    let s := foldS lanes s fun s n => steward s .laneFault (BitVec.ofNat 16 n) []
    finish s r.t r.g (if f = 0 then .ok else .selftestFailed) (.bytes (leBytes 4 f.toNat))

/-! ## Lane service (R166, R167, Table 06-3) -/

/-- A LANE_SERVICE runs on the lane. -/
def Lane.busy (l : Lane) : Bool := l.ref.isSome || l.joining || l.st == .draining || l.st == .testing

/-- LANE_SERVICE executes; while another runs on the lane, it waits. OUT on a parked lane and IN on a lane in service
change nothing. -/
def doLaneService (s : State) (t : Tenant) (g : Tag) (n : Nat) (inward : Bool) : State :=
  let l := s.alloc.lane n
  if l.busy then s
  else if inward then
    if l.st = .inService then ok s t g
    else (startLong (s.updLane n fun l => { l with ref := some (t, g) }) t g).writeB (.laneIn n t g)
  else if l.st = .parked then okShort s t g 0
  else (startLong (s.updLane n fun l => { l with ref := some (t, g) }) t g).writeB (.laneOut n t g)

/-- LANE_SERVICE OUT lands: the lane leaves the pool and its sounding voices enter release. -/
def landLaneOut (s : State) (n : Nat) : State :=
  let was := s.ceiling
  let hit := fun (v : Voice) => v.lane == n && v.sounds
  let s := s.updLane n fun l => { l with st := .draining, released := (s.voices.filter hit).length }
  let s := { s with voices := s.voices.map fun v => if hit v then releaseVoice v 0 else v }
  parkLane (removeExcess was s) n

/-- LANE_SERVICE IN lands: the parked lane runs its self-test. -/
def landLaneIn (s : State) (n : Nat) : State :=
  s.updLane n fun l => if l.st = .parked then { l with st := .testing } else l

/-- A passed lane joins the pool with zero filter state (R167). -/
def joinLane (s : State) (n : Nat) : State :=
  let l := s.alloc.lane n
  if l.joining then
    let s := s.updLane n fun l => { l with st := .inService, joining := false, ref := none }
    let s := { s with slots := s.slots.filter fun e => e.1 / 48 != n }
    finishRef (steward s .laneState (arg2 1 n) []) l.ref .ok (.note 0)
  else s

/-- Every lane that has passed joins. -/
def joinLanes (s : State) : State := foldS (List.range 8) s joinLane

/-- LANE_SELFTEST_DONE. -/
def laneTestDone (s : State) (n : Nat) (pass : Bool) : State :=
  let l := s.alloc.lane n
  if l.st = .testing ∧ l.joining = false then
    if pass then s.updLane n fun l => { l with joining := true }
    else
      let s := s.updLane n fun l => { l with st := .parked, ref := none }
      finishRef (steward s .laneFault (BitVec.ofNat 16 n) []) l.ref .selftestFailed (.note 0)
  else s

/-- A voice fades without a new note; its owner hears that it is stolen. -/
def fadeOut (s : State) (v : Voice) : State :=
  let s := match v.life with
    | .starting _ => finishRef s v.ref .noVoice (.note 0)
    | _ => s
  toldStolen (beginFade s v none .drain) v

/-- LANE_DRAIN_LIMIT: the voices still on a draining lane fade and are cleared (Table 06-3 step 3). -/
def drainLimit (s : State) (n ms : Nat) : State :=
  if (s.alloc.lane n).st = .draining ∧ s.alloc.drainMs ≤ ms then
    foldS (s.voices.filter fun v => v.lane == n && !v.fading) s fadeOut
  else s

/-! ## Life counts (R354) -/

/-- LIFE_SECOND: AF = 2^((Tj - 85) / 10); ECC_ERROR may be raised again (R303). -/
def lifeSecond (s : State) : State :=
  { s with
    cal := { s.cal with
      lifeSec := if s.power.enCore then s.cal.lifeSec + 1 else s.cal.lifeSec
      equivSec := s.cal.equivSec + Config.exp2 (mkRat (s.supply.tj - 85) 10) }
    fw := { s.fw with eccRaised := [] } }

/-- LIFE_HOURLY_STORE: both counts are stored by R337; a failed verify leaves the record in use. -/
def lifeStore (s : State) (hw : HwAnswer) : State :=
  if s.fwRuns then
    let s := { s with nvm := { s.nvm with countRec := s.nvm.countRec.put (s.cal.lifeSec, s.cal.equivSec) hw.verify } }
    if hw.verify then s else eccEvent s true 64
  else s

/-! ## The rows -/

/-- CAL_RUN. -/
def execCalRun (t : Tenant) (g : Tag) (s : State) : Host.Outcome State Fault Refusal :=
  .next (onCmd s t g fun b => match b with
    | .calRun a m => some (doCalRun s t g a m)
    | _ => none)

/-- CAL_RUN_DONE. -/
def execCalRunDone (m : List Measured) (s : State) : Host.Outcome State Fault Refusal :=
  .next (if s.fwRuns then calRunDone s m else s)

/-- CAL_STORE. -/
def execCalStore (t : Tenant) (g : Tag) (s : State) : Host.Outcome State Fault Refusal :=
  .next (onCmd s t g fun b => match b with
    | .calStore => some (doCalStore s t g)
    | _ => none)

/-- CAL_STORE_DONE. -/
def execCalStoreDone (verify : Bool) (s : State) : Host.Outcome State Fault Refusal :=
  .next (if s.fwRuns then calStoreDone s verify else s)

/-- CAL_READ. -/
def execCalRead (t : Tenant) (g : Tag) (s : State) : Host.Outcome State Fault Refusal :=
  .next (onCmd s t g fun b => match b with
    | .calRead a i => some (doCalRead s t g a i)
    | _ => none)

/-- SELFTEST. -/
def execSelftest (t : Tenant) (g : Tag) (s : State) : Host.Outcome State Fault Refusal :=
  .next (onCmd s t g fun b => match b with
    | .selftest a m => some (doSelftest s t g a m)
    | _ => none)

/-- SELFTEST_DONE. -/
def execSelftestDone (failMask : BitVec 32) (s : State) : Host.Outcome State Fault Refusal :=
  .next (if s.fwRuns then selftestDone s failMask else s)

/-- LANE_SERVICE with op OUT. -/
def execLaneServiceOut (t : Tenant) (g : Tag) (s : State) : Host.Outcome State Fault Refusal :=
  .next (onCmd s t g fun b => match b with
    | .laneService n false => some (doLaneService s t g n.val false)
    | _ => none)

/-- LANE_SERVICE with op IN. -/
def execLaneServiceIn (t : Tenant) (g : Tag) (s : State) : Host.Outcome State Fault Refusal :=
  .next (onCmd s t g fun b => match b with
    | .laneService n true => some (doLaneService s t g n.val true)
    | _ => none)

/-- LANE_SELFTEST_DONE. -/
def execLaneSelftestDone (lane : Fin 8) (pass : Bool) (s : State) : Host.Outcome State Fault Refusal :=
  .next (if s.fwRuns then laneTestDone s lane.val pass else s)

/-- LANE_DRAIN_LIMIT. -/
def execLaneDrainLimit (lane : Fin 8) (elapsedMs : Nat) (s : State) : Host.Outcome State Fault Refusal :=
  .next (if s.fwRuns then drainLimit s lane.val elapsedMs else s)

/-- PERIODIC_TRIM. -/
def execPeriodicTrim (elapsedS : Nat) (s : State) : Host.Outcome State Fault Refusal := .next (periodicDue s elapsedS)

/-- PERIODIC_TRIM_DONE. -/
def execPeriodicTrimDone (m : List Measured) (s : State) : Host.Outcome State Fault Refusal :=
  .next (if s.fwRuns then periodicDone s m else s)

/-- LIFE_SECOND. -/
def execLifeSecond (s : State) : Host.Outcome State Fault Refusal := .next (lifeSecond s)

/-- LIFE_HOURLY_STORE. -/
def execLifeHourlyStore (hw : HwAnswer) (s : State) : Host.Outcome State Fault Refusal := .next (lifeStore s hw)

end Sys2Proof.Machine
end

