-- ==== Sys2Proof/Machine/PropTable.lean ====
section
/-! DEFINITION. The property tables (01-8, 03-9, 05-3, 06-5, 07-4, 07-8, 08-6, 09-5, 09-7, 10-6, 11-7, 12-11, 13-13,
14-10): each property's path, wire type, change class, rights and range, and how a path is read (R113). -/

namespace Sys2Proof.Machine

/-- Wire types (Table 04-18): 1, 2 or 4 bytes, a signed 24-bit value, the tide. -/
inductive PropTy where
  | b1 | b2 | b4 | s24 | t51
  deriving DecidableEq, Repr

/-- "Takes effect": read only, a counter or mask cleared by writing 0, or a change class. -/
inductive PropClass where
  | ro | clear | l | b | x
  deriving DecidableEq, Repr

/-- Rights: steward; any tenant; own tenant and steward; owner of the serial channel and steward. -/
inductive PropRights where
  | steward | any | own | owner
  deriving DecidableEq, Repr

/-- A row of a property table. `#` in the path stands for a number. -/
structure PropRow where
  path : String
  ty : PropTy
  cls : PropClass
  rights : PropRights
  lo : Nat
  hi : Nat
  iLo : Nat := 0
  iHi : Nat := 0
  jLo : Nat := 0
  jHi : Nat := 0
  /-- belongs to the field die (R2, R13). -/
  field : Bool := false
  deriving DecidableEq, Repr

/-- A row with no number in its path, of the engine die. -/
def mkP (path : String) (ty : PropTy) (cls : PropClass) (rights : PropRights) (lo hi : Nat) : PropRow :=
  { path := path, ty := ty, cls := cls, rights := rights, lo := lo, hi := hi }

/-- The property tables. An enum's value is its position in the listed range (R113). -/
def propRow : PropKind → PropRow
  | .engRun => mkP "eng.run" .b1 .l .steward 0 1
  | .engFs => mkP "eng.fs" .b1 .x .steward 0 5
  | .engOsr => mkP "eng.osr" .b1 .x .steward 0 2
  | .clkSource => mkP "clk.source" .b1 .x .steward 0 1
  | .ctlLossAction => mkP "ctl.loss_action" .b1 .l .steward 0 1
  | .tideNow => mkP "tide.now" .t51 .ro .any 0 0
  | .tideFrameEdge => mkP "tide.frame_edge" .b1 .l .steward 0 3
  | .tideFrameOverruns => mkP "tide.frame_overruns" .b4 .clear .steward 0 0
  | .tenState => mkP "tenant.state" .b1 .ro .own 0 0
  | .tenFaultReason => mkP "tenant.fault_reason" .b1 .ro .own 0 0
  | .tenHostLossMs => mkP "tenant.host_loss_ms" .b2 .l .own 0 10000
  | .tenHostLossAction => mkP "tenant.host_loss_action" .b1 .l .own 0 2
  | .tenEvents => mkP "tenant.events" .b4 .l .own 0 4294967295
  | .tenEventsDropped => mkP "tenant.events_dropped" .b4 .clear .own 0 0
  | .tenWindowKib => mkP "tenant.window_kib" .b1 .x .steward 0 24
  | .tenSeqHigh => mkP "tenant.seq_high" .b2 .ro .own 0 0
  | .tenTempo => mkP "tenant.tempo" .b4 .b .own 2000 99900
  | .tenBeatReset => mkP "tenant.beat_reset" .b1 .b .own 0 1
  | .tenLfoShape => { mkP "tenant.lfo#.shape" .b1 .l .own 0 6 with iLo := 1, iHi := 8 }
  | .tenLfoRate => { mkP "tenant.lfo#.rate" .b4 .l .own 1 1000000 with iLo := 1, iHi := 8 }
  | .tenLfoSync => { mkP "tenant.lfo#.sync" .b1 .b .own 0 1 with iLo := 1, iHi := 8 }
  | .tenLfoPeriod => { mkP "tenant.lfo#.period_beats" .b4 .b .own 1 64000 with iLo := 1, iHi := 8 }
  | .tenLfoPhase => { mkP "tenant.lfo#.phase" .b2 .l .own 0 65535 with iLo := 1, iHi := 8 }
  | .tenLfoPolarity => { mkP "tenant.lfo#.polarity" .b1 .l .own 0 1 with iLo := 1, iHi := 8 }
  | .tenVoiceReserve => mkP "tenant.voice_reserve" .b2 .l .steward 0 384
  | .tenVoiceReserveEff => mkP "tenant.voice_reserve_eff" .b2 .ro .own 0 0
  | .tenVoiceCeiling => mkP "tenant.voice_ceiling" .b2 .l .steward 1 384
  | .tenVoices => mkP "tenant.voices" .b2 .ro .own 0 0
  | .tenStealPolicy => mkP "tenant.steal_policy" .b1 .l .own 0 3
  | .tenSpill => mkP "tenant.spill" .b1 .l .own 0 1
  | .allocStealFadeUs => mkP "alloc.steal_fade_us" .b4 .b .steward 250 4000
  | .allocDrainLimitMs => mkP "alloc.drain_limit_ms" .b4 .l .steward 0 60000
  | .allocSpillInCeiling => mkP "alloc.spill_in_ceiling" .b2 .l .steward 0 384
  | .allocCapacity => mkP "alloc.capacity" .b2 .ro .any 0 0
  | .allocLanes => mkP "alloc.lanes" .b1 .ro .any 0 0
  | .allocThermalLanes => mkP "alloc.thermal_lanes" .b1 .ro .any 0 0
  | .busPeakHoldMs => { mkP "bus#.peak_hold_ms" .b2 .b .steward 0 10000 with iLo := 0, iHi := 31 }
  | .busPeakDecay => { mkP "bus#.peak_decay" .b2 .b .steward 1 1000 with iLo := 0, iHi := 31 }
  | .busRmsMs => { mkP "bus#.rms_ms" .b2 .b .steward 1 300 with iLo := 0, iHi := 31 }
  | .busEnvAttackUs => { mkP "bus#.env_attack_us" .b4 .b .steward 10 1000000 with iLo := 0, iHi := 31 }
  | .busEnvReleaseUs => { mkP "bus#.env_release_us" .b4 .b .steward 1000 10000000 with iLo := 0, iHi := 31 }
  | .busClipMask => mkP "bus.clip_mask" .b4 .clear .steward 0 0
  | .decimPreset => mkP "decim.preset" .b1 .ro .any 0 0
  | .decimGroupDelay => mkP "decim.group_delay" .b2 .ro .any 0 0
  | .tpEnable => { mkP "tp#.enable" .b1 .l .steward 0 1 with iLo := 0, iHi := 5 }
  | .tpDirection => { mkP "tp#.direction" .b1 .x .steward 0 1 with iLo := 0, iHi := 5 }
  | .tpClock => { mkP "tp#.clock" .b1 .x .steward 0 1 with iLo := 0, iHi := 5 }
  | .tpFormat => { mkP "tp#.format" .b1 .x .steward 0 2 with iLo := 0, iHi := 5 }
  | .tpSlots => { mkP "tp#.slots" .b1 .x .steward 0 3 with iLo := 0, iHi := 5 }
  | .tpWordBits => { mkP "tp#.word_bits" .b1 .x .steward 0 2 with iLo := 0, iHi := 5 }
  | .tpFsDelay => { mkP "tp#.fs_delay" .b1 .x .steward 0 1 with iLo := 0, iHi := 5 }
  | .tpSlotK => { mkP "tp#.slot#" .b1 .b .steward 0 255 with iLo := 0, iHi := 5, jLo := 0, jHi := 15 }
  | .tpState => { mkP "tp#.state" .b1 .ro .any 0 0 with iLo := 0, iHi := 5 }
  | .tpFifoFrames => { mkP "tp#.fifo_frames" .b1 .ro .any 0 0 with iLo := 0, iHi := 5 }
  | .tpSlips => { mkP "tp#.slips" .b4 .clear .steward 0 0 with iLo := 0, iHi := 5 }
  | .loTap => { mkP "lo#.tap" .b1 .b .steward 0 1 with iLo := 0, iHi := 3, field := true }
  | .loState => { mkP "lo#.state" .b1 .ro .any 0 0 with iLo := 0, iHi := 3, field := true }
  | .loFlags => { mkP "lo#.flags" .b1 .clear .steward 0 0 with iLo := 0, iHi := 3, field := true }
  | .loUnderruns => { mkP "lo#.underruns" .b4 .clear .steward 0 0 with iLo := 0, iHi := 3, field := true }
  | .cvSense => { mkP "cv#.sense" .b1 .l .steward 0 1 with iLo := 0, iHi := 15, field := true }
  | .cvState => { mkP "cv#.state" .b1 .ro .any 0 0 with iLo := 0, iHi := 15, field := true }
  | .cvCode => { mkP "cv#.code" .b2 .ro .any 0 0 with iLo := 0, iHi := 15, field := true }
  | .cvFlags => { mkP "cv#.flags" .b1 .clear .steward 0 0 with iLo := 0, iHi := 15, field := true }
  | .cvQueueFill => { mkP "cv#.queue_fill" .b1 .ro .any 0 0 with iLo := 0, iHi := 15, field := true }
  | .cvUnderruns => { mkP "cv#.underruns" .b4 .clear .steward 0 0 with iLo := 0, iHi := 15, field := true }
  | .cvRetries => { mkP "cv#.retries" .b4 .clear .steward 0 0 with iLo := 0, iHi := 15, field := true }
  | .gtEnable => { mkP "gt#.enable" .b1 .l .steward 0 1 with iLo := 0, iHi := 7, field := true }
  | .gtLevel => { mkP "gt#.level" .b1 .x .steward 0 1 with iLo := 0, iHi := 7, field := true }
  | .gtFaultPolicy => { mkP "gt#.fault_policy" .b1 .l .steward 0 1 with iLo := 0, iHi := 7, field := true }
  | .gtState => { mkP "gt#.state" .b1 .ro .any 0 0 with iLo := 0, iHi := 7, field := true }
  | .gtFlags => { mkP "gt#.flags" .b1 .clear .steward 0 0 with iLo := 0, iHi := 7, field := true }
  | .gtRetries => { mkP "gt#.retries" .b4 .clear .steward 0 0 with iLo := 0, iHi := 7, field := true }
  | .gateTimerSmp => { mkP "gate.timer_smp" .b2 .b .steward 1 65535 with field := true }
  | .ciValue => { mkP "ci#.value" .s24 .ro .any 0 0 with iLo := 0, iHi := 7, field := true }
  | .ciRank => { mkP "ci#.rank" .b1 .ro .any 0 0 with iLo := 0, iHi := 7, field := true }
  | .ciFirBank => { mkP "ci#.fir_bank" .b1 .ro .any 0 0 with iLo := 0, iHi := 7, field := true }
  | .ciFlags => { mkP "ci#.flags" .b1 .clear .steward 0 0 with iLo := 0, iHi := 7, field := true }
  | .ciOverloads => { mkP "ci#.overloads" .b4 .clear .steward 0 0 with iLo := 0, iHi := 7, field := true }
  | .keyBaseKey => { mkP "key.base_key" .b1 .l .steward 0 127 with field := true }
  | .keyVelFastUs => { mkP "key.vel_fast_us" .b4 .l .steward 100 1000000 with field := true }
  | .keyVelSlowUs => { mkP "key.vel_slow_us" .b4 .l .steward 200 2000000 with field := true }
  | .keyStartThreshold => { mkP "key.start_threshold" .b2 .l .steward 1 9998 with field := true }
  | .keyOffThreshold => { mkP "key.off_threshold" .b2 .l .steward 0 65535 with field := true }
  | .keyOnThreshold => { mkP "key.on_threshold" .b2 .l .steward 2 9999 with field := true }
  | .keyAnalogSpan => { mkP "key.analog_span" .b2 .l .steward 256 32767 with field := true }
  | .keyPressureStep => { mkP "key.pressure_step" .b2 .l .steward 1 65535 with field := true }
  | .keyCellMin => { mkP "key.cell_min" .b2 .l .steward 0 32767 with field := true }
  | .keyCellMax => { mkP "key.cell_max" .b2 .l .steward 32768 65535 with field := true }
  | .keyOrderErrors => { mkP "key.order_errors" .b4 .clear .steward 0 0 with field := true }
  | .keyCheckFails => { mkP "key.check_fails" .b4 .clear .steward 0 0 with field := true }
  | .scState => { mkP "sc#.state" .b1 .ro .any 0 0 with iLo := 0, iHi := 3 }
  | .scLocked => { mkP "sc#.locked" .b1 .ro .any 0 0 with iLo := 0, iHi := 3 }
  | .scBaudN => { mkP "sc#.baud_n" .b2 .ro .any 0 0 with iLo := 0, iHi := 3 }
  | .scBaudF => { mkP "sc#.baud_f" .b1 .ro .any 0 0 with iLo := 0, iHi := 3 }
  | .scRxFill => { mkP "sc#.rx_fill" .b2 .ro .any 0 0 with iLo := 0, iHi := 3 }
  | .scTxFill => { mkP "sc#.tx_fill" .b2 .ro .any 0 0 with iLo := 0, iHi := 3 }
  | .scFramingErrors => { mkP "sc#.framing_errors" .b4 .clear .owner 0 0 with iLo := 0, iHi := 3 }
  | .scParityErrors => { mkP "sc#.parity_errors" .b4 .clear .owner 0 0 with iLo := 0, iHi := 3 }
  | .scOverruns => { mkP "sc#.overruns" .b4 .clear .owner 0 0 with iLo := 0, iHi := 3 }
  | .scRxDiscards => { mkP "sc#.rx_discards" .b4 .clear .owner 0 0 with iLo := 0, iHi := 3 }
  | .scCtsIgnored => { mkP "sc#.cts_ignored" .b4 .clear .owner 0 0 with iLo := 0, iHi := 3 }
  | .cardClkDiv => mkP "card.clk_div" .b1 .x .steward 10 48
  | .ringRole => mkP "ring.role" .b1 .ro .any 0 0
  | .ringState => mkP "ring.state" .b1 .ro .any 0 0
  | .ringPosition => mkP "ring.position" .b1 .ro .any 0 0
  | .ringDMax => mkP "ring.d_max" .b2 .ro .any 0 0
  | .ringAlignDelay => mkP "ring.align_delay" .b2 .ro .any 0 0
  | .ringAlignResidual => mkP "ring.align_residual" .b2 .ro .any 0 0
  | .ringHopNs => mkP "ring.hop_ns" .b2 .ro .any 0 0
  | .ringContribMask => mkP "ring.contrib_mask" .b4 .ro .any 0 0
  | .ringSlips => mkP "ring.slips" .b4 .clear .steward 0 0
  | .ringHibernateGrant => mkP "ring.hibernate_grant" .b1 .l .steward 0 1
  | .memWaveState => { mkP "mem.wave#.state" .b1 .ro .any 0 0 with iLo := 0, iHi := 15 }
  | .memPatchState => { mkP "mem.patch#.state" .b1 .ro .any 0 0 with iLo := 0, iHi := 3 }
  | .memFwState => { mkP "mem.fw#.state" .b1 .ro .any 0 0 with iLo := 0, iHi := 7 }
  | .memEccCorrected => mkP "mem.ecc_corrected" .b4 .clear .steward 0 0
  | .memEccUncorrected => mkP "mem.ecc_uncorrected" .b4 .clear .steward 0 0
  | .vaultSlotsLo => mkP "vault.slots_lo" .b4 .ro .steward 0 0
  | .vaultSlotsHi => mkP "vault.slots_hi" .b4 .ro .steward 0 0
  | .vaultSealedRegions => mkP "vault.sealed_regions" .b2 .ro .any 0 0
  | .vaultTampered => mkP "vault.tampered" .b1 .l .steward 0 0
  | .lifecycleState => mkP "lifecycle.state" .b1 .ro .any 0 0
  | .fwRollback => mkP "fw.rollback" .b4 .ro .any 0 0
  | .powerDozeIdleMs => mkP "power.doze_idle_ms" .b4 .l .steward 0 60000
  | .powerNapIdleMs => mkP "power.nap_idle_ms" .b4 .l .steward 0 3600000
  | .powerHibernateIdleS => mkP "power.hibernate_idle_s" .b4 .l .steward 0 86400
  | .powerEntryPolicy => mkP "power.entry_policy" .b1 .l .steward 0 1
  | .powerState => mkP "power.state" .b1 .ro .any 0 0
  | .powerLastWake => mkP "power.last_wake" .b1 .ro .any 0 0
  | .powerLastReset => mkP "power.last_reset" .b1 .ro .any 0 0
  | .calTrimActive => mkP "cal.trim_active" .b1 .l .steward 0 1
  | .calTrimPeriodS => mkP "cal.trim_period_s" .b4 .l .steward 0 86400
  | .calAutoStore => mkP "cal.auto_store" .b1 .l .steward 0 1
  | .calDriftLimitUv => mkP "cal.drift_limit_uv" .b4 .l .steward 100 20000
  | .calSlot => mkP "cal.slot" .b1 .ro .any 0 0
  | .calSeq => mkP "cal.seq" .b4 .ro .any 0 0
  | .fwSlot => mkP "fw.slot" .b1 .ro .any 0 0
  | .fwSlotState => mkP "fw.slot_state" .b1 .ro .any 0 0
  | .lifeHours => mkP "life.hours" .b4 .ro .any 0 0
  | .lifeEquivHours => mkP "life.equiv_hours" .b4 .ro .any 0 0

/-- Every property. -/
def allProps : List PropKind :=
  [.engRun, .engFs, .engOsr, .clkSource, .ctlLossAction, .tideNow, .tideFrameEdge, .tideFrameOverruns,
   .tenState, .tenFaultReason, .tenHostLossMs, .tenHostLossAction, .tenEvents, .tenEventsDropped,
   .tenWindowKib, .tenSeqHigh, .tenTempo, .tenBeatReset, .tenLfoShape, .tenLfoRate, .tenLfoSync, .tenLfoPeriod,
   .tenLfoPhase, .tenLfoPolarity, .tenVoiceReserve, .tenVoiceReserveEff, .tenVoiceCeiling, .tenVoices,
   .tenStealPolicy, .tenSpill, .allocStealFadeUs, .allocDrainLimitMs, .allocSpillInCeiling, .allocCapacity,
   .allocLanes, .allocThermalLanes, .busPeakHoldMs, .busPeakDecay, .busRmsMs, .busEnvAttackUs,
   .busEnvReleaseUs, .busClipMask, .decimPreset, .decimGroupDelay, .tpEnable, .tpDirection, .tpClock,
   .tpFormat, .tpSlots, .tpWordBits, .tpFsDelay, .tpSlotK, .tpState, .tpFifoFrames, .tpSlips, .loTap, .loState,
   .loFlags, .loUnderruns, .cvSense, .cvState, .cvCode, .cvFlags, .cvQueueFill, .cvUnderruns, .cvRetries,
   .gtEnable, .gtLevel, .gtFaultPolicy, .gtState, .gtFlags, .gtRetries, .gateTimerSmp, .ciValue, .ciRank,
   .ciFirBank, .ciFlags, .ciOverloads, .keyBaseKey, .keyVelFastUs, .keyVelSlowUs, .keyStartThreshold,
   .keyOffThreshold, .keyOnThreshold, .keyAnalogSpan, .keyPressureStep, .keyCellMin, .keyCellMax,
   .keyOrderErrors, .keyCheckFails, .scState, .scLocked, .scBaudN, .scBaudF, .scRxFill, .scTxFill,
   .scFramingErrors, .scParityErrors, .scOverruns, .scRxDiscards, .scCtsIgnored, .cardClkDiv, .ringRole,
   .ringState, .ringPosition, .ringDMax, .ringAlignDelay, .ringAlignResidual, .ringHopNs, .ringContribMask,
   .ringSlips, .ringHibernateGrant, .memWaveState, .memPatchState, .memFwState, .memEccCorrected,
   .memEccUncorrected, .vaultSlotsLo, .vaultSlotsHi, .vaultSealedRegions, .vaultTampered, .lifecycleState,
   .fwRollback, .powerDozeIdleMs, .powerNapIdleMs, .powerHibernateIdleS, .powerEntryPolicy, .powerState,
   .powerLastWake, .powerLastReset, .calTrimActive, .calTrimPeriodS, .calAutoStore, .calDriftLimitUv, .calSlot,
   .calSeq, .fwSlot, .fwSlotState, .lifeHours, .lifeEquivHours]

/-- Reads the decimal number at the front of a path: one or two digits, no leading zero. -/
def takeNumber : List Nat → Option (Nat × List Nat)
  | a :: b :: r =>
    if 48 ≤ a ∧ a ≤ 57 then
      if 48 ≤ b ∧ b ≤ 57 then if a = 48 then none else some ((a - 48) * 10 + (b - 48), r)
      else some (a - 48, b :: r)
    else none
  | [a] => if 48 ≤ a ∧ a ≤ 57 then some (a - 48, []) else none
  | [] => none

/-- Matches a path against a pattern, collecting the numbers. -/
def matchPath : List Char → List Nat → Option (List Nat)
  | [], [] => some []
  | [], _ => none
  | c :: p, n =>
    if c = '#' then
      match takeNumber n with
      | some (k, r) => (matchPath p r).map (k :: ·)
      | none => none
    else
      match n with
      | a :: r => if a = c.toNat then matchPath p r else none
      | [] => none

/-- The path names this property, with its numbers in range. -/
def matchProp (k : PropKind) (n : List Nat) : Option PropRef :=
  let r := propRow k
  match matchPath r.path.toList n with
  | some l =>
    let i := l.getD 0 0
    let j := l.getD 1 0
    if r.iLo ≤ i ∧ i ≤ r.iHi ∧ r.jLo ≤ j ∧ j ≤ r.jHi then some { kind := k, i := i, j := j } else none
  | none => none

/-- The property a path names (R113). -/
def findProp (n : List Nat) : Option PropRef := allProps.findSome? fun k => matchProp k n

/-- Properties named `tenant.*` carry a tenant number; the others are device properties (R113). -/
def PropKind.ofTenant (k : PropKind) : Bool := (propRow k).path.toList.take 7 == "tenant.".toList

/-- Bytes of a value on the wire (Table 04-18). -/
def PropTy.size : PropTy → Nat
  | .b1 => 1 | .b2 => 2 | .b4 => 4 | .s24 => 4 | .t51 => 8

/-- A property that PROP_SET may write. -/
def PropRow.writable (r : PropRow) : Bool := r.cls != .ro

/-- A value in the listed range; 0 only for what is cleared by writing 0. `tenant.host_loss_ms`, `cal.trim_period_s`
and `tp#.slot#` have a further condition where they are written. -/
def PropRow.inRange (r : PropRow) (v : Nat) : Bool :=
  if r.cls = .clear then v == 0 else r.lo ≤ v && v ≤ r.hi

end Sys2Proof.Machine
end

