-- ==== Sys2Proof/Machine/Landing.lean ====
section
/-! DEFINITION. Starting and stopping the engine, and how an executed write of class L or B lands (R26, R27, R31, R32). -/

namespace Sys2Proof.Machine

/-! ## Stopping and starting the engine (R31, R32) -/

/-- A voice is cleared without release: notes that wait on it find no voice. -/
def clearOne (s : State) (v : Voice) : State :=
  let s := match v.life with
    | .starting _ => finishRef s v.ref .noVoice (.note 0)
    | _ => finishRef s (v.retrig.bind (·.ref)) .ok (.note 0)
  let s := finishRef s (v.succ.bind (·.ref)) .noVoice (.note 0)
  s.clearVoice v

/-- All voices are cleared without release. -/
def clearVoices (s : State) : State := foldS s.voices s clearOne

/-- Tags of the commands of a tenant that stand in a schedule. -/
def TenantSt.scheduled (x : TenantSt) : List Tag :=
  (x.inflight.filter fun c => c.phase == .scheduled).map (·.tag)

/-- Tags of the commands of a tenant that wait, scheduled or not. -/
def TenantSt.notStarted (x : TenantSt) : List Tag :=
  (x.inflight.filter fun c => c.phase != .executing).map (·.tag)

/-- Scheduled commands of every tenant complete ABORTED (R32). -/
def abortSchedules (s : State) : State :=
  foldS allTenants s fun s t => foldS (s.ten t).scheduled s fun s g => finish s t g .aborted (.note 0)

/-- Every running fade of a COEF_SWITCH ends. -/
def endAllFades (s : State) : State := endFades s (allBuses.filter fun n => (s.bus n).fade.isSome) true

/-- The end of the stop fade: voices cleared, schedules aborted, the tide at 0, the engine stopped. -/
def stopNow (s : State) : State :=
  let s := parkLanes (clearVoices (endAllFades s))
  let s := abortSchedules s
  { s with core := { s.core with run := .stopped, stopPos := 0, tide := {}, boundaryDone := false } }

/-- The 20 ms of the stop fade have passed. -/
def State.stopDue (s : State) : Bool := s.core.run == .stopping && decide (s.fs ≤ s.core.stopPos * 50)

/-- STOP lands: the fade begins. -/
def beginStop (s : State) : State :=
  if s.core.run = .running then { s with core := { s.core with run := .stopping, stopPos := 0 } } else s

/-- RUN lands: the tide starts at 0, the preset swaps in, every bus resets, the enabled ports start (R31, R174). R31 does not
say what a RUN does that lands while the stop fade still runs: DESIGN CHOICE, log entry 45, the fade ends at once, with all
that its end does, and the engine starts. -/
def startEngine (s : State) : State :=
  if s.core.run = .running then s
  else
    let s := if s.core.run = .stopping then stopNow s else s
    let s := { s with core := { s.core with run := .running, tide := {}, boundaryDone := false }
                      mix := { s.mix with preset := s.mix.presetNext } }
    let s := foldS allBuses s syncReset
    foldS (List.range 6) s portStart

/-! ## Properties (R26, R29) -/

/-- The i-th of a list of numbers. -/
def pick (l : List Nat) (v : Nat) : Nat := l.getD v 0

/-- Changes a tenant LFO. -/
def TenantSt.updLfo (x : TenantSt) (n : Nat) (f : TenLfo → TenLfo) : TenantSt :=
  { x with lfos := bankPut x.lfos n (f (x.lfo n)) }

/-- A tenant property lands. -/
def landTenProp (x : TenantSt) (p : PropRef) (n : Nat) : TenantSt :=
  match p.kind with
  | .tenHostLossMs => { x with hostLossMs := n }
  | .tenHostLossAction => { x with hostLossAction := if n = 0 then .hold else if n = 1 then .release else .mute }
  | .tenEvents => { x with events := BitVec.ofNat 32 n }
  | .tenEventsDropped => { x with eventsDropped := 0 }
  | .tenTempo => { x with tempo := n }
  | .tenBeatReset => if n = 1 then { x with beatZero := true } else x
  | .tenLfoShape => x.updLfo p.i fun l => { l with shape := n }
  | .tenLfoRate => x.updLfo p.i fun l => { l with rate := n }
  | .tenLfoSync => x.updLfo p.i fun l => { l with sync := n == 1 }
  | .tenLfoPeriod => x.updLfo p.i fun l => { l with period := n }
  | .tenLfoPhase => x.updLfo p.i fun l =>
      { l with phase := n, run := if l.sync then l.run else { l.run with phase := (n : Rat) / 65536 } }
  | .tenLfoPolarity => x.updLfo p.i fun l => { l with unipolar := n == 1 }
  | .tenVoiceReserve => { x with reserve := n }
  | .tenVoiceCeiling => { x with ceiling := n }
  | .tenStealPolicy => { x with policy := [StealPolicy.quietest, .oldest, .sameNoteFirst, .never].getD n .quietest }
  | .tenSpill => { x with spill := n == 1 }
  | _ => x

/-- A bus property lands; a changed RMS window restarts its sum (R186). -/
def landBusProp (b : Bus) (p : PropRef) (n : Nat) : Bus :=
  match p.kind with
  | .busPeakHoldMs => { b with peakHoldMs := n }
  | .busPeakDecay => { b with peakDecay := n }
  | .busRmsMs => if n = b.rmsMs then b else { b with rmsMs := n, sq := [] }
  | .busEnvAttackUs => { b with attackUs := n }
  | .busEnvReleaseUs => { b with releaseUs := n }
  | _ => b

/-- A port property is written; a write of the direction sets every slot to 0xFF (R192). -/
def landPortProp (x : Port) (p : PropRef) (n : Nat) : Port :=
  match p.kind with
  | .tpEnable => { x with enable := n == 1 }
  | .tpDirection => { x with isIn := n == 1, codes := List.replicate 16 255 }
  | .tpClock => { x with slave := n == 1 }
  | .tpFormat => { x with format := n }
  | .tpSlots => { x with slots := pick [2, 4, 8, 16] n }
  | .tpWordBits => { x with wordBits := pick [16, 24, 32] n }
  | .tpFsDelay => { x with fsDelay := n }
  | .tpSlotK => { x with codes := x.codes.set p.j n }
  | .tpSlips => { x with slips := 0 }
  | _ => x

/-- A key-scanner property lands. -/
def landKeyProp (x : Scanner) (p : PropRef) (n : Nat) : Scanner :=
  match p.kind with
  | .keyBaseKey => { x with baseKey := n }
  | .keyVelFastUs => { x with velFast := n }
  | .keyVelSlowUs => { x with velSlow := n }
  | .keyStartThreshold => { x with startThr := n }
  | .keyOffThreshold => { x with offThr := n }
  | .keyOnThreshold => { x with onThr := n }
  | .keyAnalogSpan => { x with analogSpan := n }
  | .keyPressureStep => { x with pressureStep := n }
  | .keyCellMin => { x with cellMin := n }
  | .keyCellMax => { x with cellMax := n }
  | .keyOrderErrors => { x with orderErrors := 0 }
  | .keyCheckFails => { x with checkFails := 0 }
  | _ => x

/-- A property of a serial channel is cleared. -/
def landScProp (x : Serial) (p : PropRef) : Serial :=
  match p.kind with
  | .scFramingErrors => { x with framing := 0 }
  | .scParityErrors => { x with parityErr := 0 }
  | .scOverruns => { x with overruns := 0 }
  | .scRxDiscards => { x with discards := 0 }
  | .scCtsIgnored => { x with ctsIgnored := 0 }
  | _ => x

/-- A property of the field outputs and inputs lands. -/
def landFieldProp (s : State) (p : PropRef) (n : Nat) : State :=
  match p.kind with
  | .loTap => s.updLo p.i fun o => { o with ringTap := n == 1 }
  | .loFlags => s.updLo p.i fun o => { o with flags := 0 }
  | .loUnderruns => s.updLo p.i fun o => { o with underruns := 0 }
  | .cvSense => s.updCv p.i fun c => { c with remote := n == 1, fallback := c.fallback && n == 1 }
  | .cvFlags => s.updCv p.i fun c => { c with flags := 0 }
  | .cvUnderruns => s.updCv p.i fun c => { c with underruns := 0 }
  | .cvRetries => s.updCv p.i fun c => { c with retries := 0 }
  | .gtEnable => landGtEnable s p.i (n == 1)
  | .gtLevel => s.updGt p.i fun o => { o with v10 := n == 1 }
  | .gtFaultPolicy => s.updGt p.i fun o => { o with latch := n == 1 }
  | .gtFlags => s.updGt p.i fun o => { o with flags := 0 }
  | .gtRetries => s.updGt p.i fun o => { o with retries := 0 }
  | .gateTimerSmp => { s with field := { s.field with gateTimer := n } }
  | .ciFlags => s.updCi p.i fun c => { c with flags := 0 }
  | .ciOverloads => s.updCi p.i fun c => { c with overloads := 0 }
  | _ => { s with scan := landKeyProp s.scan p n }

/-- A device property of the engine die lands. -/
def landDevProp (s : State) (p : PropRef) (n : Nat) : State :=
  match p.kind with
  | .engRun => if n = 0 then beginStop s else startEngine s
  | .engFs => { s with core := { s.core with fs := n } }
  | .engOsr => { s with core := { s.core with osr := pick [2, 4, 8] n } }
  | .clkSource => { s with core := { s.core with mclkIn := n == 1, mclkLost := s.core.mclkLost && n == 1 } }
  | .ctlLossAction => { s with core := { s.core with lossHold := n == 1 } }
  | .tideFrameEdge => { s with core := { s.core with frameEdge := n } }
  | .tideFrameOverruns => { s with core := { s.core with frameOverruns := 0 } }
  | .allocStealFadeUs => { s with alloc := { s.alloc with fadeUs := n } }
  | .allocDrainLimitMs => { s with alloc := { s.alloc with drainMs := n } }
  | .allocSpillInCeiling => { s with alloc := { s.alloc with spillIn := n } }
  | .busClipMask => { s with mix := { s.mix with clip := 0 } }
  | .tpEnable => portStart (s.updPort p.i fun x => landPortProp x p n) p.i
  | .cardClkDiv => { s with card := { s.card with clkDiv := n } }
  | .ringSlips => { s with ring := { s.ring with slips := 0 } }
  | .ringHibernateGrant => { s with ring := { s.ring with grant := n == 1 } }
  | .memEccCorrected => { s with mem := { s.mem with eccCorrected := 0 } }
  | .memEccUncorrected => { s with mem := { s.mem with eccUncorrected := 0 } }
  | .vaultTampered => { s with nvm := { s.nvm with tamperedRec := s.nvm.tamperedRec.put none true } }
  | .powerDozeIdleMs => { s with power := { s.power with dozeMs := n } }
  | .powerNapIdleMs => { s with power := { s.power with napMs := n } }
  | .powerHibernateIdleS => { s with power := { s.power with hibS := n } }
  | .powerEntryPolicy => { s with power := { s.power with abandon := n == 1 } }
  | .calTrimActive => { s with cal := { s.cal with trimActive := n == 1 } }
  | .calTrimPeriodS => { s with cal := { s.cal with trimPeriodS := n } }
  | .calAutoStore => { s with cal := { s.cal with autoStore := n == 1 } }
  | .calDriftLimitUv => { s with cal := { s.cal with driftLimitUv := n } }
  | _ => s

/-- A property takes its new value. -/
def landProp (s : State) (t : Tenant) (p : PropRef) (v : Int) : State :=
  let n := v.toNat
  if p.kind.ofTenant then s.updTen t fun x => landTenProp x p n
  else if (propRow p.kind).field then landFieldProp s p n
  else
    match p.kind with
    | .busPeakHoldMs | .busPeakDecay | .busRmsMs | .busEnvAttackUs | .busEnvReleaseUs =>
      s.updBus p.i fun b => landBusProp b p n
    | .tpDirection | .tpClock | .tpFormat | .tpSlots | .tpWordBits | .tpFsDelay | .tpSlotK | .tpSlips =>
      s.updPort p.i fun x => landPortProp x p n
    | .scFramingErrors | .scParityErrors | .scOverruns | .scRxDiscards | .scCtsIgnored =>
      s.updSc p.i fun x => landScProp x p
    | _ => landDevProp s p n

/-! ## Every write -/

/-- A parameter of a spilled-in voice lands (R284). -/
def landSpilledParam (s : State) (origin : Nat) (t : Tenant) (id : BitVec 32) (pid : Nat) (x : Int) : State :=
  match s.spilled? origin t id with
  | some v => s.setVoice (if v.started then landParam v pid x else { v with copy := pset v.copy pid x })
  | none => s

/-- A write lands. -/
def landWrite (s : State) (w : Write) : State :=
  match w with
  | .prop t p v => landProp s t p v
  | .voiceParam t id pid v => landVoiceParam s t id pid v
  | .spilledParam o t id pid v => landSpilledParam s o t id pid v
  | .partParam t part pid v => landPartParam s t part pid v
  | .note t id c => landNote s t id c
  | .partPressure t part v => s.updTen t fun x => x.updPart part fun p => { p with pressure := v }
  | .partBend t part v => s.updTen t fun x => x.updPart part fun p => { p with bend := v }
  | .partCc t part i v => s.updTen t fun x => x.updPart part fun p => { p with cc := bankPut p.cc i v }
  | .busGain n c => landGain s n c
  | .busEnable n on => landEnable s n on
  | .busResync n => syncReset s n
  | .busRing n on => landContrib s n on
  | .coefSwitch m _ _ => landSwitch s m
  | .cvConfig a => landCvConfig s a
  | .lineSpanEnable a => landLine s a
  | .lineSource o b => s.updLo o fun x => { x with source := b }
  | .ciConfig n r b => landCi s n r b
  | .laneOut l _ _ => landLaneOut s l
  | .laneIn l _ _ => landLaneIn s l
  | .powerEnter st => { s with power := { s.power with request := some st } }
  | .wakeConfig m n => { s with power := { s.power with wakeMask := m, wakeTimer := n } }
  | .padRelease => landPadRelease s

/-- A COEF_SWITCH, which lands after the resets of its boundary (R182). -/
def Write.isSwitch : Write → Bool
  | .coefSwitch _ _ _ => true
  | _ => false

/-- The class-L writes executed before this tick land, in the order of execution; a write whose note has not started
stays. -/
def landL (s : State) : State :=
  let l := s.readyL
  foldS l { s with readyL := [] } landWrite

/-- The class-B writes executed before this boundary land; switches last. -/
def landB (s : State) : State :=
  let l := s.readyB
  let s := foldS (l.filter fun w => !w.isSwitch) { s with readyB := [] } landWrite
  foldS (l.filter Write.isSwitch) s landWrite

end Sys2Proof.Machine
end

