-- ==== Sys2Proof/Machine/PropOps.lean ====
section
/-! DEFINITION. PROP_GET and PROP_SET: the value of every property, rights, classes and the conditions a write must meet
(R28 to R31, R87, R113, R152, R189, R192, Tables 03-9 and 04-18). -/

namespace Sys2Proof.Machine

/-! ## Values (R30, Table 04-18) -/

/-- A mask over a list of numbers. -/
def maskOf (l : List Nat) : Nat := (l.map (2 ^ ·)).sum

/-- The position of a value in a list. -/
def posOf (l : List Nat) (v : Nat) : Nat := l.findIdx (· == v)

/-- Positions of `tenant.state`. -/
def TState.code : TState → Nat
  | .closed => 0 | .opened => 1 | .faulted => 2 | .resetting => 3

/-- Positions of the states of a CV output (Table 08-1). -/
def OutState.cvCode : OutState → Nat
  | .hiz => 0 | .safe => 1 | .driven => 2 | .limit => 3 | .hizRetrying => 4 | .hizLatched => 5 | .held => 6

/-- Positions of the states of a gate, which has no SAFE (Table 08-6). -/
def OutState.gtCode : OutState → Nat
  | .hiz => 0 | .driven => 1 | .limit => 2 | .hizRetrying => 3 | .hizLatched => 4 | .held => 5 | .safe => 0

/-- Positions of the states of a line output (Table 08-6). -/
def OutState.loCode : OutState → Nat
  | .hiz => 0 | .safe => 1 | .driven => 2 | .limit => 3 | .held => 4 | .hizRetrying => 0 | .hizLatched => 0

/-- Positions of `tpN.state`. -/
def TpState.code : TpState → Nat
  | .off => 0 | .running => 1 | .noClock => 2 | .frameTooLong => 3 | .badSlot => 4

/-- Positions of `scN.state`. -/
def ScMode.code : ScMode → Nat
  | .off => 0 | .midi => 1 | .general => 2 | .ir => 3 | .card => 4

/-- Positions of `power.last_wake`. -/
def wakeCode : WakeSrc → Nat
  | .none => 0 | .link => 1 | .schedule => 2 | .event => 3 | .wakeN => 4 | .sc n => 5 + n.val | .timer => 9 | .key => 10

/-- Positions of `power.last_reset`. -/
def LastReset.code : LastReset → Nat
  | .powerOn => 0 | .resetN => 1 | .warm => 2 | .tamper => 3

/-- Value of a tenant property. -/
def tenVal (s : State) (t : Tenant) (p : PropRef) : Nat :=
  let x := s.ten t
  let l := x.lfo p.i
  match p.kind with
  | .tenState => x.st.code
  | .tenFaultReason => match x.fault with
    | .none => 0
    | .ctlRestart => 1
    | .hostLoss => 2
  | .tenHostLossMs => x.hostLossMs
  | .tenHostLossAction => match x.hostLossAction with
    | .hold => 0
    | .release => 1
    | .mute => 2
  | .tenEvents => x.events.toNat
  | .tenEventsDropped => x.eventsDropped.toNat
  | .tenWindowKib => x.windowKib
  | .tenSeqHigh => x.seqHigh.toNat
  | .tenTempo => x.tempo
  | .tenLfoShape => l.shape
  | .tenLfoRate => l.rate
  | .tenLfoSync => if l.sync then 1 else 0
  | .tenLfoPeriod => l.period
  | .tenLfoPhase => l.phase
  | .tenLfoPolarity => if l.unipolar then 1 else 0
  | .tenVoiceReserve => x.reserve
  | .tenVoiceReserveEff => s.reserveEff t
  | .tenVoiceCeiling => x.ceiling
  | .tenVoices => s.count t
  | .tenStealPolicy => match x.policy with
    | .quietest => 0
    | .oldest => 1
    | .sameNoteFirst => 2
    | .never => 3
  | .tenSpill => if x.spill then 1 else 0
  | _ => 0

/-- Value of a property of buses and ports. -/
def busVal (s : State) (p : PropRef) : Nat :=
  let b := s.bus p.i
  let x := s.port p.i
  match p.kind with
  | .busPeakHoldMs => b.peakHoldMs
  | .busPeakDecay => b.peakDecay
  | .busRmsMs => b.rmsMs
  | .busEnvAttackUs => b.attackUs
  | .busEnvReleaseUs => b.releaseUs
  | .busClipMask => s.mix.clip.toNat
  | .decimPreset => presetIx s.mix.preset
  | .decimGroupDelay => groupDelay16 s.mix.preset s.core.osr
  | .tpEnable => if x.enable then 1 else 0
  | .tpDirection => if x.isIn then 1 else 0
  | .tpClock => if x.slave then 1 else 0
  | .tpFormat => x.format
  | .tpSlots => posOf [2, 4, 8, 16] x.slots
  | .tpWordBits => posOf [16, 24, 32] x.wordBits
  | .tpFsDelay => x.fsDelay
  | .tpSlotK => x.codes.getD p.j 255
  | .tpState => x.st.code
  | .tpFifoFrames => x.fifo.length
  | .tpSlips => x.slips.toNat
  | _ => 0

/-- Value of a property of the field die. -/
def fieldVal (s : State) (p : PropRef) : Int :=
  let o := s.lo p.i
  let c := s.cv p.i
  let g := s.gt p.i
  let i := s.ci p.i
  let k := s.scan
  match p.kind with
  | .loTap => if o.ringTap then 1 else 0
  | .loState => o.st.loCode
  | .loFlags => o.flags.toNat
  | .loUnderruns => o.underruns.toNat
  | .cvSense => if c.remote then 1 else 0
  | .cvState => c.st.cvCode
  | .cvCode => c.code.toNat
  | .cvFlags => c.flags.toNat
  | .cvQueueFill => c.queue.length
  | .cvUnderruns => c.underruns.toNat
  | .cvRetries => c.retries.toNat
  | .gtEnable => if g.enable then 1 else 0
  | .gtLevel => if g.v10 then 1 else 0
  | .gtFaultPolicy => if g.latch then 1 else 0
  | .gtState => g.st.gtCode
  | .gtFlags => g.flags.toNat
  | .gtRetries => g.retries.toNat
  | .gateTimerSmp => s.field.gateTimer
  | .ciValue => i.value
  | .ciRank => i.rank
  | .ciFirBank => i.bank
  | .ciFlags => i.flags.toNat
  | .ciOverloads => i.overloads.toNat
  | .keyBaseKey => k.baseKey
  | .keyVelFastUs => k.velFast
  | .keyVelSlowUs => k.velSlow
  | .keyStartThreshold => k.startThr
  | .keyOffThreshold => k.offThr
  | .keyOnThreshold => k.onThr
  | .keyAnalogSpan => k.analogSpan
  | .keyPressureStep => k.pressureStep
  | .keyCellMin => k.cellMin
  | .keyCellMax => k.cellMax
  | .keyOrderErrors => k.orderErrors.toNat
  | .keyCheckFails => k.checkFails.toNat
  | _ => 0

/-- Value of a property of the serial channels, the card and the ring. -/
def linkVal (s : State) (p : PropRef) : Int :=
  let x := s.sc p.i
  let r := s.ring
  match p.kind with
  | .scState => x.mode.code
  | .scLocked => if x.locked then 1 else 0
  | .scBaudN => x.baudN
  | .scBaudF => x.baudF
  | .scRxFill => x.rx.length
  | .scTxFill => (x.tx.filter fun i => match i with | .byte _ => true | .brk _ _ => false).length
  | .scFramingErrors => x.framing.toNat
  | .scParityErrors => x.parityErr.toNat
  | .scOverruns => x.overruns.toNat
  | .scRxDiscards => x.discards.toNat
  | .scCtsIgnored => x.ctsIgnored.toNat
  | .cardClkDiv => s.card.clkDiv
  | .ringRole => r.role.code
  | .ringState => r.st.code
  | .ringPosition => r.position
  | .ringDMax => r.dMax
  | .ringAlignDelay => r.align
  | .ringAlignResidual => r.residual
  | .ringHopNs => r.hopNs
  | .ringContribMask => maskOf (allBuses.filter fun n => (s.bus n).contrib)
  | .ringSlips => r.slips.toNat
  | .ringHibernateGrant => if r.grant then 1 else 0
  | _ => 0

/-- The calibration copy in use: A, B or NONE (Table 14-10). -/
def State.calSlot (s : State) : Nat := if s.nvm.cal.useB then 1 else if s.nvm.cal.a.ok then 0 else 2

/-- Value of any other device property. -/
def devVal (s : State) (p : PropRef) : Nat :=
  match p.kind with
  | .engRun => if s.core.run = .running then 1 else 0
  | .engFs => s.core.fs
  | .engOsr => posOf [2, 4, 8] s.core.osr
  | .clkSource => if s.core.mclkIn then 1 else 0
  | .ctlLossAction => if s.core.lossHold then 1 else 0
  | .tideFrameEdge => s.core.frameEdge
  | .tideFrameOverruns => s.core.frameOverruns.toNat
  | .allocStealFadeUs => s.alloc.fadeUs
  | .allocDrainLimitMs => s.alloc.drainMs
  | .allocSpillInCeiling => s.alloc.spillIn
  | .allocCapacity => s.ceiling
  | .allocLanes => maskOf s.lanesIn
  | .allocThermalLanes => s.alloc.allowed
  | .memWaveState => (s.mem.bankSt .wave p.i).code
  | .memPatchState => (s.mem.bankSt .patch p.i).code
  | .memFwState => (s.mem.bankSt .firmware p.i).code
  | .memEccCorrected => s.mem.eccCorrected.toNat
  | .memEccUncorrected => s.mem.eccUncorrected.toNat
  | .vaultSlotsLo => maskOf ((List.range 32).filter fun n => (bankGet s.vault.keys n).isSome)
  | .vaultSlotsHi => maskOf ((List.range 32).filter fun n => (bankGet s.vault.keys (32 + n)).isSome)
  | .vaultSealedRegions => s.mem.seals.length
  | .vaultTampered => if s.nvm.tampered.isSome then 1 else 0
  | .lifecycleState => s.nvm.life.code
  | .fwRollback => s.nvm.rollback
  | .powerDozeIdleMs => s.power.dozeMs
  | .powerNapIdleMs => s.power.napMs
  | .powerHibernateIdleS => s.power.hibS
  | .powerEntryPolicy => if s.power.abandon then 1 else 0
  | .powerState => if s.power.st = .doze then 1 else 0
  | .powerLastWake => wakeCode s.power.lastWake
  | .powerLastReset => s.power.lastReset.code
  | .calTrimActive => if s.cal.trimActive then 1 else 0
  | .calTrimPeriodS => s.cal.trimPeriodS
  | .calAutoStore => if s.cal.autoStore then 1 else 0
  | .calDriftLimitUv => s.cal.driftLimitUv
  | .calSlot => s.calSlot
  | .calSeq => if s.nvm.cal.useB then s.nvm.cal.b.seq else if s.nvm.cal.a.ok then s.nvm.cal.a.seq else 0
  | .fwSlot => if s.fw.slotB then 1 else 0
  | .fwSlotState => if s.nvm.trial && s.nvm.activeB == s.fw.slotB then 1 else 0
  | .lifeHours => s.cal.hours
  | .lifeEquivHours => (s.cal.equivSec / 3600).floor.toNat
  | _ => 0

/-- The value in effect of a property other than `tide.now` (R30). -/
def propVal (s : State) (t : Tenant) (p : PropRef) : Int :=
  if p.kind.ofTenant then tenVal s t p
  else if (propRow p.kind).field then fieldVal s p
  else
    match p.kind with
    | .scState | .scLocked | .scBaudN | .scBaudF | .scRxFill | .scTxFill | .scFramingErrors | .scParityErrors
    | .scOverruns | .scRxDiscards | .scCtsIgnored | .cardClkDiv | .ringRole | .ringState | .ringPosition | .ringDMax
    | .ringAlignDelay | .ringAlignResidual | .ringHopNs | .ringContribMask | .ringSlips | .ringHibernateGrant =>
      linkVal s p
    | .busPeakHoldMs | .busPeakDecay | .busRmsMs | .busEnvAttackUs | .busEnvReleaseUs | .busClipMask | .decimPreset
    | .decimGroupDelay | .tpEnable | .tpDirection | .tpClock | .tpFormat | .tpSlots | .tpWordBits | .tpFsDelay | .tpSlotK
    | .tpState | .tpFifoFrames | .tpSlips => busVal s p
    | _ => devVal s p

/-- The value's bytes on the wire (Table 04-18). -/
def propBytes (s : State) (t : Tenant) (p : PropRef) : List Byte :=
  match (propRow p.kind).ty with
  | .t51 => leBytes 6 s.smp.toNat ++ leBytes 1 s.core.tide.et ++ [0]
  | ty => leInt ty.size (propVal s t p)

/-! ## Rights (R64, R87, R93) -/

/-- The tenant that sends the command may read and write the property; `own` is the tenant the payload names. -/
def propRights (s : State) (t own : Tenant) (p : PropRef) : Bool :=
  match (propRow p.kind).rights with
  | .steward => t == 0
  | .any => true
  | .own => t == 0 || t == own
  | .owner => t == 0 || t == (s.sc p.i).owner

/-- PROP_GET executes. -/
def doPropGet (s : State) (t : Tenant) (g : Tag) (own : Tenant) (p : PropRef) : State :=
  if propRights s t own p then okBytes s t g (propBytes s own p) else fail s t g .noRights

/-! ## Conditions of a write at execution -/

/-- Characters of the path that names a property. -/
def PropRef.pathLen (p : PropRef) : Nat :=
  let d := fun (n : Nat) => if n < 10 then 1 else 2
  let l := (propRow p.kind).path.toList
  let k := (l.filter (· == '#')).length
  l.length - k + (if 1 ≤ k then d p.i else 0) + (if 2 ≤ k then d p.j else 0)

/-- A reservation or a ceiling as executed writes will leave it. -/
def pendingVal (s : State) (k : PropKind) (u : Tenant) (now : Nat) : Nat :=
  (s.readyL ++ s.pendL).foldl (fun n w => match w with
    | .prop t p v => if t = u ∧ p.kind = k then v.toNat else n
    | _ => n) now

/-- Sum of the reservations when tenant `u` has `v` (R152). -/
def reserveWith (s : State) (u : Tenant) (v : Nat) : Nat :=
  (allTenants.map fun w => if w = u then v else pendingVal s .tenVoiceReserve w (s.ten w).reserve).sum

/-- A slot code is listed for the port's direction (Table 07-7). -/
def slotCodeOk (isIn : Bool) (v : Nat) : Bool := decide (v < 32) || v == 255 || (!isIn && decide (v < 64))

/-- The write is in range as the state stands: R152, R189, R192, Tables 03-9, 07-8 and 09-7. -/
def propFits (s : State) (own : Tenant) (p : PropRef) (v : Nat) : Bool :=
  let x := s.port p.i
  match p.kind with
  | .tenVoiceReserve => decide (reserveWith s own v ≤ s.ceiling) &&
      decide (v ≤ pendingVal s .tenVoiceCeiling own (s.ten own).ceiling)
  | .tenVoiceCeiling => decide (pendingVal s .tenVoiceReserve own (s.ten own).reserve ≤ v)
  | .tenWindowKib => decide ((allTenants.map fun u => if u = own then v else (s.ten u).windowKib).sum ≤ 24)
  | .tpEnable => v == 0 || (!x.tooLong s.core.fs && (x.format == 2 || x.slots == 2))
  | .tpSlots => v == 0 || x.format == 2
  | .tpSlotK => slotCodeOk x.isIn v
  | .keyVelFastUs => decide (v < pendingVal s .keyVelSlowUs own s.scan.velSlow)
  | .keyStartThreshold => decide (v < pendingVal s .keyOffThreshold own s.scan.offThr)
  | .keyOffThreshold => decide (pendingVal s .keyStartThreshold own s.scan.startThr < v) &&
      decide (v < pendingVal s .keyOnThreshold own s.scan.onThr)
  | .keyOnThreshold => decide (pendingVal s .keyOffThreshold own s.scan.offThr < v)
  | _ => true

/-- The payload names an offset of the staging window. -/
def Body.usesWindow : Body → Bool
  | .patchWrite _ _ | .patchRead _ _ | .waveWrite _ _ _ _ | .waveRead _ _ _ _ | .waveLoadSealed _ | .fwStage _ _ _ _ => true
  | _ => false

/-- The owners of `tenant.window_kib` are stopped (Table 03-9). -/
def windowStopped (s : State) (own : Tenant) (t : Tenant) (g : Tag) : Bool :=
  allTenants.all fun u =>
    if u = own then
      if u = 0 then (s.ten 0).inflight.all fun c => !c.body.usesWindow || (t == 0 && c.tag == g)
      else (s.ten u).st == .closed
    else !(decide (own.val < u.val) && (s.ten u).windowKib != 0) || (s.ten u).st == .closed

/-- The owner of a class-X item is stopped (R28, R97), and a STOP is not refused on a ring (R31). -/
def ownerStopped (s : State) (own : Tenant) (p : PropRef) (v : Nat) (t : Tenant) (g : Tag) : Bool :=
  match p.kind with
  | .engRun => v != 0 || !s.onRing
  | .engFs | .engOsr | .clkSource => s.engStopped
  | .tenWindowKib => windowStopped s own t g
  | .tpDirection | .tpClock | .tpFormat | .tpSlots | .tpWordBits | .tpFsDelay => !(s.port p.i).enable
  | .gtLevel => !(s.gt p.i).enable
  | .cardClkDiv => s.card.phase == .idle
  | _ => true

/-- A write of `tenant.window_kib`: the tenant's window keeps what fits, and the windows that move hold zeros. -/
def resizeWindow (s : State) (own : Tenant) (kib : Nat) : State :=
  let moved := kib != (s.ten own).windowKib
  let s := s.updTen own fun x => { x with windowKib := kib, window := x.window.filter fun e => decide (e.1 < kib * 1024) }
  foldS (allTenants.filter fun u => moved && decide (own.val < u.val)) s fun s u =>
    s.updTen u fun x => { x with window := [] }

/-- PROP_SET executes: classes X and the clearing of counters at once, L and B by landing. -/
def doPropSet (s : State) (t : Tenant) (g : Tag) (own : Tenant) (p : PropRef) (v : Int) : State :=
  let n := v.toNat
  let r := propRow p.kind
  if !propRights s t own p then fail s t g .noRights
  else if !propFits s own p n then badField s t g (2 + p.pathLen)
  else if !ownerStopped s own p n t g then fail s t g .busyClassX
  else if r.field && s.fieldDown then fail s t g .fieldDown
  else match r.cls with
    | .l => ok (s.writeL (.prop own p v)) t g
    | .b => ok (s.writeB (.prop own p v)) t g
    | _ => ok (if p.kind = .tenWindowKib then resizeWindow s own n else landProp s own p v) t g

/-! ## The rows -/

/-- A property write with a row of its own. -/
def hasOwnRow (p : PropRef) (v : Int) : Bool :=
  match p.kind with
  | .engRun | .tenWindowKib | .tpEnable | .gtEnable | .vaultTampered => true
  | .tenBeatReset => v == 1
  | _ => false

/-- Runs a PROP_SET of the named kind of property. -/
def propRowOp (s : State) (t : Tenant) (g : Tag) (is : PropRef → Int → Bool) : State :=
  onCmd s t g fun b => match b with
    | .propSet own p v => if is p v then some (doPropSet s t g own p v) else none
    | _ => none

/-- PROP_GET. -/
def execPropGet (t : Tenant) (g : Tag) (s : State) : Host.Outcome State Fault Refusal :=
  .next (onCmd s t g fun b => match b with
    | .propGet own p => some (doPropGet s t g own p)
    | _ => none)

/-- PROP_SET of a property that has no row of its own. -/
def execPropSet (t : Tenant) (g : Tag) (s : State) : Host.Outcome State Fault Refusal :=
  .next (propRowOp s t g fun p v => !hasOwnRow p v)

/-- ENG_RUN_STOP. -/
def execEngRunStop (t : Tenant) (g : Tag) (s : State) : Host.Outcome State Fault Refusal :=
  .next (propRowOp s t g fun p v => p.kind == .engRun && v == 0)

/-- ENG_RUN_RUN. -/
def execEngRunRun (t : Tenant) (g : Tag) (s : State) : Host.Outcome State Fault Refusal :=
  .next (propRowOp s t g fun p v => p.kind == .engRun && v == 1)

/-- TENANT_BEAT_RESET. -/
def execTenantBeatReset (t : Tenant) (g : Tag) (s : State) : Host.Outcome State Fault Refusal :=
  .next (propRowOp s t g fun p v => p.kind == .tenBeatReset && v == 1)

/-- TENANT_WINDOW_RESIZE. -/
def execTenantWindowResize (t : Tenant) (g : Tag) (s : State) : Host.Outcome State Fault Refusal :=
  .next (propRowOp s t g fun p _ => p.kind == .tenWindowKib)

/-- TP_ENABLE_WRITE. -/
def execTpEnableWrite (t : Tenant) (g : Tag) (s : State) : Host.Outcome State Fault Refusal :=
  .next (propRowOp s t g fun p _ => p.kind == .tpEnable)

/-- GT_ENABLE_WRITE. -/
def execGtEnableWrite (t : Tenant) (g : Tag) (s : State) : Host.Outcome State Fault Refusal :=
  .next (propRowOp s t g fun p _ => p.kind == .gtEnable)

/-- VAULT_TAMPERED_CLEAR. -/
def execVaultTamperedClear (t : Tenant) (g : Tag) (s : State) : Host.Outcome State Fault Refusal :=
  .next (propRowOp s t g fun p _ => p.kind == .vaultTampered)

/-- BUS_STOP_FADE_END: the 20 ms of the stop fade have passed. -/
def execBusStopFadeEnd (s : State) : Host.Outcome State Fault Refusal :=
  .next (if s.stopDue && !s.power.quiesceFade then stopNow s else s)

end Sys2Proof.Machine
end

