-- ==== Sys2Proof/Machine/Tenants.lean ====
section
/-! DEFINITION. Sessions and tenants (R65 to R67, R76), abort (R83), host loss (R84), notices (R81), and the restart of
the control processor (R10, R85): the rows of the session family and the rows of the tenants in time. -/

namespace Sys2Proof.Machine

/-! ## Headers of submission entries (Table 04-1) -/

/-- Byte 0 of the header: the opcode. -/
def SqEntry.op (e : SqEntry) : Nat := byteAt e.header 0

/-- Byte 1: the flags. -/
def SqEntry.flags (e : SqEntry) : Nat := byteAt e.header 1

/-- Bytes 2 and 3: the sequence number. -/
def SqEntry.seq (e : SqEntry) : BitVec 16 := BitVec.ofNat 16 (field e.header 2 2)

/-- Byte 4, bits [6:0]: the tag. -/
def SqEntry.tag (e : SqEntry) : Tag := Fin.ofNat 128 (byteAt e.header 4)

/-- The tag names a command in flight under the same sequence number: the entry would be absorbed (Table 03-4 step 1). -/
def TenantSt.flying (x : TenantSt) (q : BitVec 16) : Bool := x.inflight.any fun c => c.seq == q

/-- The record of an entry that never was in flight. -/
def entryRec (s : State) (e : SqEntry) (st : Status) (short : BitVec 16) : Rec :=
  mkRec (BitVec.ofNat 8 e.op) st e.seq e.tag false (.note short) s.smp

/-- Writes the record of an untaken entry that ends ABORTED or LOST: its number is the one last committed on its tag (R83).
`store`: it uses the sequence number and enters the echo store (Table 03-4, R73). -/
def recordEntry (s : State) (t : Tenant) (e : SqEntry) (r : Rec) (store : Bool) : State :=
  s.updTen t fun x =>
    let d := (e.seq - x.seqHigh).toNat
    let x := { x with doneTags := bankPut x.doneTags e.tag.val e.seq }
    let x := if store && decide (1 ≤ d) && decide (d ≤ 128) then x.setHigh e.seq else x
    let x := x.writeGroup r []
    if store then x.storeEcho r else x

/-! ## What a reset does to a tenant (R67) -/

/-- R67 step 1 and step 4: every command that has not started executing completes ABORTED. -/
def abortWaiting (s : State) (t : Tenant) : State :=
  foldS (s.ten t).notStarted s fun s g => finish s t g .aborted (.note 0)

/-- A MUTE from host loss is lifted, of the tenant's voices here and, by record, of its notes on other units (R67 step 3,
R84, R357). -/
def unmute (s : State) (t : Tenant) : State :=
  let s := if (s.ten t).muted then
      foldS ((s.ten t).outIds none) s fun s id => ((cmdToNote s t none id .unmute none).map (·.1)).getD s
    else s
  let s := s.updTen t fun x => { x with muted := false }
  { s with voices := s.voices.map fun v => if v.owner = .tenant t then { v with mute := none } else v }

/-- R67 step 3: every voice enters release, the gates the tenant last set go low. -/
def releaseAll (s : State) (t : Tenant) : State :=
  unmute (releaseGates (cmdToAll s t none (.allRelease none false)) t) t

/-- Nothing of the tenant is in flight but this command. -/
def TenantSt.only (x : TenantSt) (g : Tag) : Bool := x.inflight.all fun c => c.tag == g

/-! ## Sessions (R76) -/

/-- FREE tenant LFOs take their phase at TENANT_OPEN (R137). -/
def startTenLfos (x : TenantSt) : TenantSt :=
  [1, 2, 3, 4, 5, 6, 7, 8].foldl (fun x n => x.updLfo n fun l =>
    { l with run := if l.sync then { l.run with age := 0 } else { l.run with age := 0, phase := (l.phase : Rat) / 65536 } }) x

/-- What waited for T0's session: the kept events in order (R322), then the tamper record that is owed (R315). -/
def tellSteward (s : State) : State :=
  let l := s.fw.kept
  let s := foldS l { s with fw := { s.fw with kept := [] } } fun s k => stewardAt s k.ev k.arg k.cont k.tide
  match (if s.nvm.tamperOwed then s.nvm.tampered else none) with
  | some src =>
    let n := match src with
      | .pin => 1
      | .glitch => 2
      | .temperature => 3
    steward { s with nvm := { s.nvm with tamperOwed := false } } .tamperRecorded n []
  | none => { s with nvm := { s.nvm with tamperOwed := false } }

/-- The session begins: B will be 0 at the next block boundary (R136), the echo store is cleared, H becomes the command's sequence number, the tenant is OPEN, and
the previous session's H is the short result (0 from CLOSED). -/
def newSession (s : State) (t : Tenant) (g : Tag) (release : Bool) : State :=
  match (s.ten t).find g with
  | none => s
  | some c =>
    let prev := if (s.ten t).st = .closed then 0 else (s.ten t).seqHigh.toNat
    let s := if release then releaseAll s t else unmute s t
    let s := s.updTen t fun x => startTenLfos { x with
      echo := [], seqHigh := c.seq, st := .opened, fault := .none, session := .none, resetBy := none, doneTags := [],
      openedSinceWake := true }
    let s := okShort (s.writeB (.prop t { kind := .tenBeatReset } 1)) t g prev
    if t = 0 then tellSteward s else s

/-- The tenant closes: as a reset, and its window, its reservation and its ceiling are released (Table 03-1, R70). -/
def closeSession (s : State) (t : Tenant) (g : Tag) : State :=
  let s := releaseAll s t
  ok (s.updTen t fun x => { x with
    st := .closed, fault := .none, session := .none, window := [], reserve := 0, ceiling := 384 }) t g

/-- Session work goes on once every other command of the tenant has ended (R67 step 2). -/
def settleSession (s : State) (t : Tenant) : State :=
  if s.fwRuns then
    match (s.ten t).session with
    | .opening g rel => if (s.ten t).only g then newSession s t g rel else s
    | .closing g => if (s.ten t).only g then closeSession s t g else s
    | .none => s
  else s

/-- Settles every tenant. -/
def settleSessions (s : State) : State := foldS allTenants s settleSession

/-- TENANT_OPEN executes: at once from CLOSED, otherwise after the work of R67 steps 1, 2 and 4. -/
def doOpen (s : State) (t : Tenant) (g : Tag) (release : Bool) : State :=
  if (s.ten t).st = .closed then newSession s t g release
  else
    let s := abortWaiting (startLong s t g) t
    settleSession (s.updTen t fun x => { x with session := .opening g release }) t

/-- TENANT_CLOSE executes. -/
def doClose (s : State) (t : Tenant) (g : Tag) : State :=
  let s := abortWaiting (startLong s t g) t
  settleSession (s.updTen t fun x => { x with session := .closing g }) t

/-! ## TENANT_RESET (R67) -/

/-- TENANT_RESET executes. Another tenant may be named by T0 while T0 is OPEN. On a CLOSED tenant nothing is to be
done; while other session work runs on the target, the command waits. -/
def doReset (s : State) (t : Tenant) (g : Tag) (u : Tenant) : State :=
  if u ≠ t ∧ (t ≠ 0 ∨ (s.ten t).st ≠ .opened) then fail s t g .noRights
  else if (s.ten u).st = .closed then ok s t g
  else if !(s.ten u).free then s
  else
    let s := startLong s t g
    abortWaiting (s.updTen u fun x => { x with st := .resetting, resetBy := some (t, g) }) u

/-- TENANT_RESET_DONE: once nothing of the tenant executes, voices and gates are released and the tenant is OPEN; when
the steward forced it, the tenant hears TENANT_FORCED. -/
def resetDone (s : State) (u : Tenant) : State :=
  match (s.ten u).resetBy with
  | none => s
  | some (t, g) =>
    let clear := if t = u then (s.ten u).only g else (s.ten u).inflight.isEmpty
    if s.fwRuns && (s.ten u).st == .resetting && clear then
      let s := releaseAll s u
      let s := s.updTen u fun x => { x with st := .opened, fault := .none, resetBy := none }
      let s := ok s t g
      if t = u then s else raiseTo s u .tenantForced 0 []
    else s

/-! ## IDENTIFY and HEARTBEAT (Table 04-3) -/

/-- The 32 bytes of IDENTIFY (R1). -/
def State.identity (s : State) (t : Tenant) : List Byte :=
  leBytes 8 s.fuse.dieId.toNat ++ [0x42, if s.hasField then 0x41 else 0, 4, 2] ++
    leBytes 2 Config.patchVersion.toNat ++
    [if s.hasField then 0 else 1, BitVec.ofNat 8 s.nvm.life.code] ++ leBytes 2 s.ceiling ++
    [BitVec.ofNat 8 (maskOf s.lanesIn), s.link.unitAddr.setWidth 8, BitVec.ofNat 8 s.ring.role.code,
      BitVec.ofNat 8 (s.ten t).st.code] ++ List.replicate 10 0

/-- The 8 bytes of HEARTBEAT. -/
def State.heartbeat (s : State) (t : Tenant) : List Byte :=
  leBytes 6 s.smp.toNat ++ [BitVec.ofNat 8 s.core.tide.et, BitVec.ofNat 8 (s.ten t).sqFree]

/-! ## ABORT (R83, Table 03-7) -/

/-- An untaken entry on a tag that is no retry of a command in flight or completed. -/
def TenantSt.untaken (x : TenantSt) (g : Tag) : Option SqEntry :=
  x.sq.find? fun e => e.tag == g && !x.flying e.seq && (x.echoOf e.seq).isNone

/-- Notes what the ABORT on tag `g` found. -/
def State.aimAt (s : State) (t : Tenant) (g : Tag) (a : Aim) : State :=
  s.updTen t fun x => x.updCmd g fun c => { c with aim := a }

/-- Table 03-7 at the moment the ABORT on tag `g` is taken: a target that waits (scheduled, behind a FENCE, not yet
started) completes ABORTED, and so does one that is published and untaken, once there is room for its record; a target
that executes or has committed is too late. -/
def judgeAbort (s : State) (t : Tenant) (g target : Tag) : State :=
  match (s.ten t).find target with
  | some c =>
    if c.phase = .executing then s.aimAt t g (.ran c.seq)
    else finish (s.aimAt t g (.hit c.seq)) t target .aborted (.note 0)
  | none =>
    match (s.ten t).untaken target with
    | some e =>
      if (s.ten t).cqFree = 0 then s
      else
        let d := (e.seq - (s.ten t).seqHigh).toNat
        let used := decide (d ≤ 128) || (s.ten t).inWindow e.seq
        let s := (s.aimAt t g (.hit e.seq)).updTen t fun x => { x with sq := x.sq.erase e }
        recordEntry s t e (entryRec s e .aborted 0) used
    | none => s.aimAt t g (match bankGet (s.ten t).doneTags target.val with
      | some q => .ran q
      | none => .nothing)

/-- The completion of an ABORT by what it found; it waits for a target that still executes, and for room for the record of
an untaken one. -/
def settleAbort (s : State) (t : Tenant) (g target : Tag) (a : Aim) : State :=
  match a with
  | .unjudged => s
  | .hit q => okShort s t g q.toNat
  | .ran q =>
    if ((s.ten t).find target).any fun c => c.seq == q && c.phase == .executing then startLong s t g
    else finish s t g .tooLate (.bytes (leBytes 2 q.toNat))
  | .nothing => finish s t g .notFound (.note 0)

/-- What the ABORT on a tag has found. -/
def TenantSt.aimOf (x : TenantSt) (g : Tag) : Aim := ((x.find g).map (·.aim)).getD .unjudged

/-- ABORT executes: it is judged now unless it was judged when it was taken (R83), and it completes. -/
def doAbort (s : State) (t : Tenant) (g target : Tag) : State :=
  let s := if (s.ten t).aimOf g = .unjudged then judgeAbort s t g target else s
  settleAbort s t g target ((s.ten t).aimOf g)

/-! ## Host loss (R84) -/

/-- Code of a host-loss action. -/
def LossAction.code : LossAction → Nat
  | .hold => 0
  | .release => 1
  | .mute => 2

/-- The host-loss action of a tenant (Table 03-8). -/
def lossAction (s : State) (t : Tenant) : State :=
  match (s.ten t).hostLossAction with
  | .hold => s
  | .release => releaseGates (cmdToAll s t none (.allRelease none false)) t
  | .mute => cmdToAll (s.updTen t fun x => { x with muted := true }) t none .mute

/-- HOST_LOSS_TIMEOUT, the firmware's check of a watchdog: `ms` have passed since the later of its last restart (R62) and
its last check. The action is taken once the timeout has passed since the restart. -/
def hostLoss (s : State) (t : Tenant) (ms : Nat) : State :=
  let x := s.ten t
  if s.fwRuns && x.st == .opened && x.hostLossMs != 0 then
    let s := s.updTen t fun x => { x with lossMs := x.lossMs + ms }
    if x.hostLossMs ≤ x.lossMs + ms then
      let s := lossAction (abortWaiting s t) t
      let s := s.updTen t fun x => { x with st := .faulted, fault := .hostLoss }
      raiseTo s t .hostLost (BitVec.ofNat 16 x.hostLossAction.code) []
    else s
  else s

/-! ## Notices (R80, R81) -/

/-- A notice event: the notice slot carries it when nothing else fits. -/
def TenantSt.notice (x : TenantSt) (e : Event) (arg : BitVec 16) (tide : Smp) : TenantSt :=
  if x.events.getLsbD e.code = false then x
  else if x.cqFree = 0 ∧ x.noticeFree = true then
    { (x.writeGroup (evRec e x.evSeq arg [] tide) []) with evSeq := x.evSeq + 1 }
  else x.raiseEv e arg [] tide

/-- EVENTS_DROPPED_NOTICE: with two slots free beyond the notice slot, or in the notice slot when nothing else fits. Where the
tenant's mask bars EVENTS_DROPPED nothing is written, and the count goes on (R82). The count saturates at 0xFFFF
(Table 04-17). -/
def droppedNotice (s : State) (t : Tenant) : State :=
  let x := s.ten t
  if s.fwRuns && x.st != .closed && x.droppedSince != 0 && x.events.getLsbD 1 && (decide (2 ≤ x.cqFree) || (x.cqFree == 0 && x.noticeFree)) then
    s.updTen t fun x =>
      { (x.notice .eventsDropped (BitVec.ofNat 16 (Nat.min x.droppedSince 0xFFFF)) s.smp) with droppedSince := 0 }
  else s

/-! ## The control processor stops and returns (R10, R85) -/

/-- A voice that has not started is given up; the origin of a spilled note hears that it ended. -/
def dropStart (s : State) (v : Voice) : State :=
  match v.life with
  | .starting _ =>
    let s := s.clearVoice v
    match v.owner with
    | .tenant _ => s
    | .spilled o t => ringEnded s o t v.noteId false
  | _ => s

/-- No voice starts while the control processor is stopped: what waits to start is dropped. -/
def dropStarts (s : State) : State :=
  let s := foldS s.voices s dropStart
  { s with voices := s.voices.map fun v => { v with succ := none, retrig := none, ref := none } }

/-- `ctl.loss_action` RELEASE: sounding voices enter release, gates go low (Table 01-3). -/
def lossRelease (s : State) : State :=
  let s := { s with
    voices := s.voices.map fun v => if v.sounds then releaseVoice v 0 else v, field := { s.field with pendGate := [] } }
  foldS (List.range 8) s fun s n => s.updGt n fun o =>
    { o with high := false, pin := if s.field.link = .ok ∧ s.field.hold.isNone then false else o.pin }

/-- CTL_WATCHDOG_RESTART: the entries published so far are to be answered LOST, and the loss action applies. -/
def watchdog (s : State) : State :=
  if s.fwRuns then
    let s := { s with fw := { s.fw with restarting := true } }
    let s := foldS allTenants s fun s t => s.updTen t fun x =>
      if x.st = .closed then x else { x with sq := x.sq.map fun e => { e with lost := true } }
    let s := dropStarts s
    if s.core.lossHold then s else lossRelease s
  else s

/-- A switch or a lane service that was executed for a command: the command is lost. -/
def Write.hasRef : Write → Bool
  | .coefSwitch _ _ _ => true
  | .laneOut _ _ _ => true
  | .laneIn _ _ _ => true
  | _ => false

/-- A TX item whose command is lost. -/
def TxItem.drop : TxItem → TxItem
  | .byte b => .byte b
  | .brk n _ => .brk n none

/-- Nothing waits on a command any longer: the blocks forget the commands they served. A load, a copy, a trim, a store,
a test, a search for a keeper and an asked-for entry end with their command. -/
def dropRefs (s : State) : State :=
  let s := foldS s.mem.loads s fun s l => landSealed s l none
  let s := foldS allTenants s fun s t => s.updTen t fun x =>
    { x with spilledOut := x.spilledOut.map fun o => { o with ref := none } }
  let runs := s.mix.switches.filter fun w => w.phase == .fading
  let s := { s with mem := { s.mem with bankWaits := [] },
                    mix := { s.mix with coefWaits := [], switches := runs.map fun w => { w with ref := none } } }
  let s := foldS (List.range 8) s fun s n => s.updLane n fun l => { l with ref := none }
  let s := foldS (List.range 4) s fun s n => s.updSc n fun c =>
    { c with tx := c.tx.map TxItem.drop, txBreak := c.txBreak.map fun b => (b.1, none) }
  { s with
    voices := s.voices.map fun v => { v with ref := none, retrig := none, succ := v.succ.map fun n => { n with ref := none } }
    readyB := s.readyB.filter fun w => !w.hasRef
    pendB := s.pendB.filter fun w => !w.hasRef
    card := { s.card with ref := none }
    ring := { s.ring with
      electing := none, higher := none, joining := none, leaveRef := none, waits := [], txOn := s.onRing,
      out := if s.onRing then s.ring.out else [] }
    mem := { s.mem with moves := s.mem.moves.map (fun m => { m with ref := none }), loads := [], copies := [] }
    cal := { s.cal with trim := none, storing := none, test := none }
    power := { s.power with request := none, timerEntry := none } }

/-- The LOST record of a command in flight. -/
def loseInFlight (s : State) (t : Tenant) (g : Tag) : State :=
  commitOne (s.updTen t fun x => x.updCmd g fun c => { c with execAt := none }) t g .lost (.note 0)

/-- The LOST record of an untaken entry, when there is room for it; a retry of a command that has completed stays in
the queue. -/
def loseEntry (s : State) (t : Tenant) (e : SqEntry) : State :=
  let x := s.ten t
  if (x.echoOf e.seq).isSome then
    s.updTen t fun x => { x with sq := x.sq.map fun d => if d = e then { d with lost := false } else d }
  else if x.cqFree = 0 then s
  else
    recordEntry (s.updTen t fun x => { x with sq := x.sq.erase e }) t e (entryRec s e .lost 0) true

/-- R85 step 1 and 2 for one tag: the command in flight on it, then its untaken entries. -/
def loseTag (t : Tenant) (s : State) (g : Nat) : State :=
  let s := loseInFlight s t (Fin.ofNat 128 g)
  foldS ((s.ten t).sq.filter fun e => e.lost && e.tag.val == g) s fun s e => loseEntry s t e

/-- LOST records of a tenant, in tag order. -/
def loseAll (s : State) (t : Tenant) : State := foldS (List.range 128) s (loseTag t)

/-- R85 for one tenant that is not CLOSED. -/
def returnTenant (s : State) (t : Tenant) : State :=
  if (s.ten t).st = .closed then s
  else
    let s := loseAll s t
    s.updTen t fun x =>
      { (x.notice .ctlRestarted 0 s.smp) with
        st := .faulted, fault := .ctlRestart, session := .none, resetBy := none }

/-- CTL_FIRMWARE_RETURN; the key state is re-seeded from the next scan (R235). -/
def firmwareReturn (s : State) : State :=
  if s.fw.restarting then
    let s := { s with fw := { s.fw with restarting := false }, link := { s.link with fwReady := true } }
    raiseHeld (dropRefs (foldS allTenants { s with scan := { s.scan with reseed := true } } returnTenant))
  else s

/-! ## The rows -/

/-- NOP. -/
def execNop (t : Tenant) (g : Tag) (s : State) : Host.Outcome State Fault Refusal :=
  .next (onCmd s t g fun b => match b with
    | .nop => some (ok s t g)
    | _ => none)

/-- IDENTIFY. -/
def execIdentify (t : Tenant) (g : Tag) (s : State) : Host.Outcome State Fault Refusal :=
  .next (onCmd s t g fun b => match b with
    | .identify => some (okBytes s t g (s.identity t))
    | _ => none)

/-- TENANT_OPEN: it executes, or the session work it has begun goes on. -/
def execTenantOpen (t : Tenant) (g : Tag) (s : State) : Host.Outcome State Fault Refusal :=
  .next (match (s.ten t).session with
    | .opening h _ => if h = g then settleSession s t else s
    | _ => onCmd s t g fun b => match b with
      | .tenantOpen r => some (doOpen s t g r)
      | _ => none)

/-- TENANT_CLOSE: it executes, or the session work it has begun goes on. -/
def execTenantClose (t : Tenant) (g : Tag) (s : State) : Host.Outcome State Fault Refusal :=
  .next (match (s.ten t).session with
    | .closing h => if h = g then settleSession s t else s
    | _ => onCmd s t g fun b => match b with
      | .tenantClose => some (doClose s t g)
      | _ => none)

/-- TENANT_RESET. -/
def execTenantReset (t : Tenant) (g : Tag) (s : State) : Host.Outcome State Fault Refusal :=
  .next (onCmd s t g fun b => match b with
    | .tenantReset u => some (doReset s t g u)
    | _ => none)

/-- TENANT_RESET_DONE. -/
def execTenantResetDone (t : Tenant) (s : State) : Host.Outcome State Fault Refusal := .next (resetDone s t)

/-- HEARTBEAT. -/
def execHeartbeat (t : Tenant) (g : Tag) (s : State) : Host.Outcome State Fault Refusal :=
  .next (onCmd s t g fun b => match b with
    | .heartbeat => some (okBytes s t g (s.heartbeat t))
    | _ => none)

/-- ABORT. -/
def execAbort (t : Tenant) (g : Tag) (s : State) : Host.Outcome State Fault Refusal :=
  .next (onCmd s t g fun b => match b with
    | .abort x => some (doAbort s t g x)
    | _ => none)

/-- HOST_LOSS_TIMEOUT. -/
def execHostLossTimeout (t : Tenant) (elapsedMs : Nat) (s : State) : Host.Outcome State Fault Refusal :=
  .next (hostLoss s t elapsedMs)

/-- EVENTS_DROPPED_NOTICE. -/
def execEventsDroppedNotice (t : Tenant) (s : State) : Host.Outcome State Fault Refusal := .next (droppedNotice s t)

/-- CTL_WATCHDOG_RESTART: a hang, or a word of firmware SRAM that cannot be corrected (R85, Table 12-5). -/
def execCtlWatchdogRestart (sramBad : Option (Fin 8)) (s : State) : Host.Outcome State Fault Refusal :=
  .next (match sramBad with
    | some n => if s.fwRuns then eccEvent (watchdog s) true (32 + n.val) else s
    | none => watchdog s)

/-- CTL_FIRMWARE_RETURN. -/
def execCtlFirmwareReturn (s : State) : Host.Outcome State Fault Refusal := .next (firmwareReturn s)

end Sys2Proof.Machine
end

