-- ==== Sys2Proof/Machine/Power.lean ====
section
/-! DEFINITION. Power states: idleness and its timers, POWER_POLICY, POWER_ENTER and WAKE_CONFIG, entry to DOZE, NAP and
HIBERNATE with its abort points, and the wakes from DOZE and NAP (R110, R326 to R336). -/

namespace Sys2Proof.Machine

/-! ## Idleness (R326) -/

/-- Every command in flight is scheduled, and nothing waits to be taken. -/
def TenantSt.quiet (x : TenantSt) : Bool := x.sq.isEmpty && x.inflight.all fun c => c.phase == .scheduled

/-- A command of the tenant is scheduled. -/
def TenantSt.hasSchedule (x : TenantSt) : Bool := x.inflight.any fun c => c.phase == .scheduled

/-- A command of any tenant is scheduled. -/
def State.anySchedule (s : State) : Bool := allTenants.any fun t => (s.ten t).hasSchedule

/-- A card exchange runs. -/
def Card.exchanging (c : Card) : Bool := match c.phase with
  | .procedure => true
  | .data _ => true
  | .sw2 _ => true
  | _ => false

/-- The channel neither holds bytes nor sends. -/
def Serial.empty (c : Serial) : Bool := c.rx.isEmpty && c.tx.isEmpty && c.txBreak.isNone

/-- An enabled IN port maps a slot to a bus. -/
def Port.feeds (p : Port) : Bool := p.enable && p.isIn && (p.codes.take p.slots).any (· < 32)

/-- The unit is idle (R326). -/
def State.idle (s : State) : Bool :=
  s.voices.isEmpty && decide (256 ≤ s.power.quiet) &&
    allTenants.all (fun t => (s.ten t).quiet) &&
    allBuses.all (fun n => (s.bus n).fade.isNone) &&
    (List.range 8).all (fun n => !(s.alloc.lane n).busy) &&
    (s.cal.trim.all fun r => r.ref.isNone) && s.cal.storing.isNone && s.cal.test.isNone && !s.card.exchanging &&
    (List.range 4).all (fun n => (s.sc n).empty) &&
    (List.range 16).all (fun n => !(s.cv n).gliding && (s.cv n).queue.isEmpty) &&
    (List.range 6).all (fun n => !(s.port n).feeds)

/-! ## States and events -/

/-- Numbers of the power states in POWER_STATE (Table 13-13). -/
def stateNum : PState → Nat
  | .run => 0
  | .doze => 1
  | .nap => 2
  | .hibernate => 3

/-- The deeper of two entries that fall due at one boundary. -/
def deeper (a b : Option PState) : Option PState :=
  match a, b with
  | some x, some y => if stateNum x < stateNum y then some y else some x
  | some x, none => some x
  | none, y => y

/-- A ringed unit that may not hibernate: a keeper, or a member without the keeper's grant (R292, R293). -/
def State.ringAwake (s : State) : Bool :=
  s.ring.role == .keeper || (s.ring.role == .member && !s.ring.keeperGrant)

/-! ## Wakes (Table 13-7, R333) -/

/-- A wake source is enabled for a target state. LINK, SCHEDULE and EVENT wake from NAP always and from HIBERNATE never;
the others by WAKE_CONFIG. From DOZE only LINK wakes, beside the end of idleness. -/
def State.wakeOn (s : State) (target : PState) (src : WakeSrc) : Bool :=
  match src with
  | .none => false
  | .link => target == .doze || target == .nap
  | .schedule => target == .nap
  | .event => target == .nap
  | .wakeN => target != .doze && s.power.wakeMask.getLsbD 0
  | .sc n => target != .doze && s.scWakes n.val && !(s.sc n.val).disarmed
  | .timer => target != .doze && s.power.wakeMask.getLsbD 5 && s.power.wakeTimer != 0
  | .key => target != .doze && s.power.wakeMask.getLsbD 6 && s.hasField && s.scan.mode != 0

/-- The state the unit sleeps in or is entering. -/
def State.sleepTarget (s : State) : Option PState :=
  if s.power.entry.isSome then some .hibernate
  else if s.power.st = .nap then some .nap
  else if s.power.st = .hibernate then some .hibernate
  else none

/-- A wake source fires while the unit sleeps or enters HIBERNATE. -/
def wakeBy (s : State) (src : WakeSrc) : State :=
  match s.sleepTarget with
  | some p => if s.wakeOn p src then noteWake s src else s
  | none => s

/-- The entry that is due at the coming block boundary. -/
def State.entryDue (s : State) : Option PState := deeper s.power.request s.power.timerEntry

/-- The entry that begins at a block boundary outside NAP (R327, R328): HIBERNATE by command at once, all else only when the
unit is idle; a ringed unit that may not hibernate enters NAP. -/
def State.entryNow (s : State) : Option PState :=
  if s.power.entry.isSome || !s.fwRuns then none
  else if s.power.request = some .hibernate then some .hibernate
  else if !s.idle then none
  else match s.entryDue with
    | some .run => none
    | some .hibernate => if s.ringAwake then some .nap else some .hibernate
    | e => e

/-- WAKE_DURING_ENTRY: also at the boundary at which an entry is about to begin. -/
def wakeInEntry (s : State) (src : WakeSrc) : State :=
  if s.power.entry.isSome then wakeBy s src
  else
    match (if s.core.tide.isBoundary then s.entryNow else none) with
    | some p => if s.wakeOn p src then noteWake s src else s
    | none => s

/-! ## The commands (R110, R328) -/

/-- POWER_POLICY: the four properties, class L. -/
def doPolicy (s : State) (t : Tenant) (g : Tag) (a : PolicyArgs) : State :=
  let w := fun (s : State) (k : PropKind) (n : Nat) => s.writeL (.prop 0 { kind := k } n)
  ok (w (w (w (w s .powerDozeIdleMs a.dozeMs) .powerNapIdleMs a.napMs) .powerHibernateIdleS a.hibernateS)
    .powerEntryPolicy (if a.abandon then 1 else 0)) t g

/-- POWER_ENTER: the completion names the state that will be entered; a keeper, or a member without the grant, that is
asked for HIBERNATE enters NAP. -/
def doPowerEnter (s : State) (t : Tenant) (g : Tag) (st : PState) : State :=
  let s' := fun (p : PState) => s.writeL (.powerEnter p)
  if st = .hibernate ∧ s.ring.role = .keeper then finish (s' .nap) t g .ringBusy (.bytes (leBytes 2 2))
  else if st = .hibernate ∧ s.ringAwake = true then finish (s' .nap) t g .okLimited (.bytes (leBytes 2 2))
  else okShort (s' st) t g (stateNum st)

/-! ## Entry to DOZE and NAP (R328, R329, R330, R332) -/

/-- POWER_STATE with a kind and a state or abort point. -/
def powerEvent (s : State) (kind n : Nat) : State := steward s .powerState (arg2 kind n) []

/-- The entry is over: the unit is in RUN, and the timers start again (R327, R334). -/
def clearEntry (s : State) : State :=
  { s with power := { s.power with
      st := .run, request := none, timerEntry := none, wake := none, byCommand := false, schedTicks := 0 } }

/-- AP1 of an entry to DOZE or NAP: under ABANDON a wake that has come stops it. -/
def State.stopsAt (s : State) : Bool := s.power.abandon && s.power.wake.isSome

/-- DOZE is entered. -/
def enterDoze (s : State) (byCommand : Bool) : State :=
  if s.stopsAt then powerEvent (clearEntry s) 3 1
  else
    let s := if byCommand then powerEvent s 1 1 else s
    { s with power := { s.power with st := .doze, request := none, timerEntry := none } }

/-- The due sample of the earliest scheduled command. -/
def State.earliest (s : State) : Option Nat :=
  let l := allTenants.flatMap fun t => ((s.ten t).inflight.filter fun c => c.phase == .scheduled).map (·.due.toNat)
  match l with
  | [] => none
  | a :: r => some (r.foldl Nat.min a)

/-- 72 us in samples, rounded up. -/
def State.wakeSamples (s : State) : Nat := (72 * s.fs + 999999) / 1000000

/-- The tide stands within one block and 72 us of the earliest due tick (R330). -/
def State.scheduleNear (s : State) : Bool := s.earliest.any fun due => decide (due ≤ s.smp.toNat + 32 + s.wakeSamples)

/-- NAP is entered: POWER_STATE entered, then the processor halts with LK_IRQ_N at its level and the tide comparator
armed for the schedule. A due tick that is near already as the entry begins is a wake that has come (R333). -/
def enterNap (s : State) : State :=
  let s := if s.scheduleNear then noteWake s .schedule else s
  if s.stopsAt then powerEvent (clearEntry s) 3 1
  else
    let s := powerEvent s 1 2
    { s with power := { s.power with
        st := .nap, request := none, timerEntry := none, napIrq := some s.irqPin, comparator := s.anySchedule } }

/-! ## Entry to HIBERNATE (Table 13-10) -/

/-- TX queues are discarded; an SC_BREAK in one completes ABORTED. -/
def dropTx (s : State) (n : Nat) : State :=
  let refs := (s.sc n).tx.filterMap fun i => match i with
    | .byte _ => none
    | .brk _ r => r
  let s := s.updSc n fun c => { c with tx := [] }
  foldS refs s fun s r => finish s r.1 r.2 .aborted (.note 0)

/-- Step 1: FW_UP is 0, the ring is left, what waits completes ABORTED, the card is deactivated, TX queues are
discarded, and voices that sound get the stop fade. -/
def startHibernate (s : State) (byCommand : Bool) : State :=
  let s := { s with
    fw := { s.fw with up := false }
    power := { s.power with
      st := .run, request := none, timerEntry := none, byCommand := byCommand, entry := some .quiesce,
      napIrq := none, comparator := false } }
  let s := if s.onRing && !s.ring.leaving then announceLeave s none else s
  let s := foldS allTenants s abortWaiting
  let s := if s.card.active then (if s.card.ref.isSome then cardFail s .cardAbsent else deactivate s) else s
  let s := foldS (List.range 4) s dropTx
  if s.voices ≠ [] ∧ s.core.run = .running then
    { s with core := { s.core with run := .stopping, stopPos := 0 }, power := { s.power with quiesceFade := true } }
  else s

/-- The unit returns to RUN from abort point n (R334). -/
def abandonEntry (s : State) (n : Nat) : State :=
  let s := { s with fw := { s.fw with up := true }, power := { s.power with entry := none } }
  raiseHeld (powerEvent (clearEntry s) 3 n)

/-- The entry passes an abort point: under ABANDON a wake stops it there. -/
def passPoint (s : State) (n : Nat) (next : State → State) : State :=
  if s.stopsAt then abandonEntry s n else next s

/-- The quiesce is over: the fade has ended, the voices are cleared, the ring is left; AP1. -/
def quiesceDone (s : State) : State :=
  if s.power.entry ≠ some .quiesce ∨ s.ring.leaving = true then s
  else
    let faded := s.power.quiesceFade && s.stopDue
    if faded || (!s.power.quiesceFade && s.voices.isEmpty && s.core.run != .stopping) then
      let s := if faded then
          let s := parkLanes (clearVoices s)
          { s with core := { s.core with run := .running, stopPos := 0 }, power := { s.power with quiesceFade := false } }
        else s
      passPoint s 1 fun s => { s with power := { s.power with entry := some .gated } }
    else s

/-- The settings of SC_CONFIG bytes 0 to 9 (Table 13-12). -/
def Serial.settings (c : Serial) : Serial :=
  { mode := c.mode, loopback := c.loopback, echo := c.echo, flow := c.flow, autobaud := c.autobaud,
    dataBits := c.dataBits, parity := c.parity, twoStop := c.twoStop, divN := c.divN, divF := c.divF,
    owner := c.owner, high := c.high, low := c.low }

/-- The settings of a port that the save list holds (Table 13-12). -/
def Port.settings (n : Nat) (p : Port) : Port :=
  { Port.reset n with
    enable := p.enable, isIn := p.isIn, slave := p.slave, format := p.format, slots := p.slots,
    wordBits := p.wordBits, fsDelay := p.fsDelay }

/-- Step 3: the save list, without the tide (Table 13-12). -/
def State.saveList (s : State) : SaveList :=
  { fs := s.core.fs, osr := s.core.osr, mclkIn := s.core.mclkIn, preset := s.mix.presetNext, lossHold := s.core.lossHold,
    frameEdge := s.core.frameEdge, quad := s.link.quad, irqOd := s.link.irqOd, irqEn := s.link.irqEn,
    dozeMs := s.power.dozeMs, napMs := s.power.napMs, hibS := s.power.hibS, abandon := s.power.abandon,
    wakeMask := s.power.wakeMask, wakeTimer := s.power.wakeTimer,
    serials := (List.range 4).map (fun n => (n, (s.sc n).settings)), clkDiv := s.card.clkDiv,
    gateTimer := s.field.gateTimer, ports := (List.range 6).map (fun n => (n, Port.settings n (s.port n))),
    lanes := (List.range 8).map (fun n => (n, { st := if s.inService n then .inService else .parked })),
    slotB := s.fw.slotB }

/-- What an output reads during the hold: HELD, or its high impedance. -/
def OutState.latched (o : OutState) : OutState :=
  match o with
  | .hiz => .hiz
  | .hizRetrying => .hiz
  | .hizLatched => .hizLatched
  | _ => .held

/-- The field die's step 4 (R213): line outputs at 0 V, glides at their targets, every state latched. -/
def holdField (s : State) : State :=
  if s.hasField && s.field.ready then
    let h : FieldHold := {
      lines := (List.range 4).map fun n => (s.lo n).st
      cvs := (List.range 16).map fun n => (s.cv n).st
      gates := (List.range 8).map fun n => (s.gt n).st }
    let s := foldS (List.range 4) s fun s n => s.updLo n fun o =>
      { o with st := o.st.latched, carries := false, level := 0, safeLeft := 0, disabling := false }
    let s := foldS (List.range 16) s fun s n => s.updCv n fun c =>
      let code := if c.gliding then c.target else c.code
      { c with st := c.st.latched, code := code, dac := if c.gliding then c.target else c.dac, gliding := false,
               safeLeft := 0, retrying := false }
    let s := foldS (List.range 8) s fun s n => s.updGt n fun o => { o with st := o.st.latched, retrying := false }
    { s with field := { s.field with hold := some h, holdCleared := false, holdLost := false } }
  else s

/-- Step 4: the field die holds, the engine die latches its pads (R335). -/
def latchPads (s : State) : State :=
  let h : PadHold := {
    tx := (List.range 4).map fun n => (s.sc n).txHigh
    rts := (List.range 4).map fun n => (s.sc n).rtsPin
    cardEn := s.card.en, cardClk := s.card.clk, cardRst := s.card.rst, irqAsserted := s.irqPin }
  holdField { s with power := { s.power with pads := some h, entry := some .latched } }

/-- AP4 under ABANDON: the latches are released first. -/
def unlatch (s : State) : State :=
  landPadRelease (holdEvents s)

/-- Step 5: the tide goes into save RAM, and PWR_EN_CORE falls. -/
def powerOff (s : State) : State :=
  { s with
    link := { s.link with up := false, driven := none }
    power := { s.power with
      save := { s.power.save with tide := s.core.tide }, enCore := false, st := .hibernate, entry := none } }

/-- The steps of a HIBERNATE entry that follow the quiesce. -/
def entryStep (s : State) : State :=
  match s.power.entry with
  | some .gated => passPoint s 2 fun s =>
      { s with power := { s.power with save := s.saveList, entry := some .saved } }
  | some .saved => passPoint s 3 latchPads
  | some .latched => if s.stopsAt then abandonEntry (unlatch s) 4 else powerOff s
  | _ => s

/-- The entry of a block boundary begins; an idle timer's HIBERNATE entry also begins in NAP. -/
def powerBoundary (s : State) : State :=
  if s.power.entry.isSome then s
  else if s.power.st = .nap then
    if s.power.timerEntry = some .hibernate ∧ s.ringAwake = false ∧ s.power.wake = none then startHibernate s false
    else { s with power := { s.power with timerEntry := none } }
  else match s.entryNow with
    | some .doze => enterDoze s (s.power.request.isSome && s.entryDue == s.power.request)
    | some .nap => enterNap s
    | some .hibernate => startHibernate s (s.power.request == some .hibernate)
    | _ => if s.fwRuns && !s.idle then { s with power := { s.power with timerEntry := none } } else s

/-! ## Idle timers and the end of DOZE (R327, R329) -/

/-- The deepest state whose timer has run out after `ms` of idleness; the HIBERNATE timer has not counted while a command
was scheduled. -/
def State.expired (s : State) (ms : Nat) : Option PState :=
  let p := s.power
  if p.hibS ≠ 0 ∧ p.hibS * 1000 * s.engineRate + p.schedTicks * 1000 ≤ ms * s.engineRate ∧ s.anySchedule = false then some .hibernate
  else if p.napMs ≠ 0 ∧ p.napMs ≤ ms then some .nap
  else if p.dozeMs ≠ 0 ∧ p.dozeMs ≤ ms then some .doze
  else none

/-- IDLE_TIMER_EXPIRY: entry to the deepest state beyond the present one is due at the next block boundary. -/
def idleExpiry (s : State) (ms : Nat) : State :=
  if s.idle && s.power.entry.isNone && s.fw.up && !s.fw.restarting && s.power.st != .hibernate then
    match s.expired ms with
    | some p => if stateNum s.power.st < stateNum p then { s with power := { s.power with timerEntry := some p } } else s
    | none => s
  else s

/-- IDLENESS_END: DOZE ends, and the timers start again; a commit on the link ends DOZE too (Table 13-7). -/
def idlenessEnd (s : State) : State :=
  if !s.idle || (s.power.st == .doze && s.power.wake.isSome) then
    { s with power := { s.power with
        st := if s.power.st = .doze then .run else s.power.st
        wake := if s.power.st = .doze then none else s.power.wake
        timerEntry := none, schedTicks := 0 } }
  else s

/-! ## Wake from NAP (R330, R358) -/

/-- NAP_TIDE_COMPARATOR: one block and 72 us before the earliest due tick. -/
def tideComparator (s : State) : State :=
  if s.power.st = .nap ∧ s.power.comparator = true ∧ s.scheduleNear = true then noteWake s .schedule else s

/-- Every tenant's host-loss watchdog restarts (R358). -/
def restartWatchdogs (s : State) : State := foldS allTenants s fun s t => s.updTen t fun x => { x with lossMs := 0 }

/-- NAP_WAKE: the firmware runs again, bytes of the wake buffers reach their queues, POWER_STATE woke and what waited
are raised. -/
def napWake (s : State) (src : WakeSrc) : State :=
  if s.power.st = .nap ∧ s.power.wake = some src then
    let s := { s with power := { s.power with
      st := .run, lastWake := src, wake := none, timerEntry := none, napIrq := none, comparator := false, schedTicks := 0 } }
    let s := foldS (List.range 4) (restartWatchdogs s) drainWake
    raiseHeld (powerEvent s 2 2)
  else s

/-! ## The rows -/

/-- POWER_POLICY. -/
def execPowerPolicy (t : Tenant) (g : Tag) (s : State) : Host.Outcome State Fault Refusal :=
  .next (onCmd s t g fun b => match b with
    | .powerPolicy a => some (doPolicy s t g a)
    | _ => none)

/-- A POWER_ENTER row runs on a POWER_ENTER for its state. -/
def powerEnterRow (s : State) (t : Tenant) (g : Tag) (st : PState) : State :=
  onCmd s t g fun b => match b with
    | .powerEnter p => if p = st then some (doPowerEnter s t g p) else none
    | _ => none

/-- POWER_ENTER DOZE. -/
def execPowerEnterDoze (t : Tenant) (g : Tag) (s : State) : Host.Outcome State Fault Refusal :=
  .next (powerEnterRow s t g .doze)

/-- POWER_ENTER NAP. -/
def execPowerEnterNap (t : Tenant) (g : Tag) (s : State) : Host.Outcome State Fault Refusal :=
  .next (powerEnterRow s t g .nap)

/-- POWER_ENTER HIBERNATE. -/
def execPowerEnterHibernate (t : Tenant) (g : Tag) (s : State) : Host.Outcome State Fault Refusal :=
  .next (powerEnterRow s t g .hibernate)

/-- WAKE_CONFIG executes. -/
def doWakeConfig (s : State) (t : Tenant) (g : Tag) (m : BitVec 7) (timer : Nat) : State :=
  ok (s.writeL (.wakeConfig m timer)) t g

/-- WAKE_CONFIG. -/
def execWakeConfig (t : Tenant) (g : Tag) (s : State) : Host.Outcome State Fault Refusal :=
  .next (onCmd s t g fun b => match b with
    | .wakeConfig m n => some (doWakeConfig s t g m n)
    | _ => none)

/-- IDLE_TIMER_EXPIRY. -/
def execIdleTimerExpiry (idleMs : Nat) (s : State) : Host.Outcome State Fault Refusal := .next (idleExpiry s idleMs)

/-- IDLENESS_END. -/
def execIdlenessEnd (s : State) : Host.Outcome State Fault Refusal := .next (idlenessEnd s)

/-- POWER_ENTRY_BEGIN: an entry to DOZE or NAP begins at a block boundary. -/
def execPowerEntryBegin (s : State) : Host.Outcome State Fault Refusal :=
  .next (if s.core.tide.isBoundary then powerBoundary s else s)

/-- HIBERNATE_ENTRY: the next step of the entry; its first one at a block boundary. -/
def execHibernateEntry (s : State) : Host.Outcome State Fault Refusal :=
  .next (if s.power.entry.isSome then entryStep s
    else if s.core.tide.isBoundary && s.entryDue == some .hibernate then powerBoundary s
    else s)

/-- HIBERNATE_QUIESCE_DONE. -/
def execHibernateQuiesceDone (s : State) : Host.Outcome State Fault Refusal := .next (quiesceDone s)

/-- WAKE_DURING_ENTRY. -/
def execWakeDuringEntry (src : WakeSrc) (s : State) : Host.Outcome State Fault Refusal := .next (wakeInEntry s src)

/-- NAP_TIDE_COMPARATOR. -/
def execNapTideComparator (s : State) : Host.Outcome State Fault Refusal := .next (tideComparator s)

/-- NAP_WAKE. -/
def execNapWake (src : WakeSrc) (s : State) : Host.Outcome State Fault Refusal := .next (napWake s src)

/-- WAKE_N_EDGE: a low of 1 us or longer, as R369 times it. -/
def execWakeNEdge (lowNs : Nat) (s : State) : Host.Outcome State Fault Refusal :=
  .next (s.onLow lowNs fun s => wakeBy s .wakeN)

/-- AON_TIMER_WAKE: `elapsedS` seconds since entry. -/
def execAonTimerWake (elapsedS : Nat) (s : State) : Host.Outcome State Fault Refusal :=
  .next (if s.power.wakeTimer ≤ elapsedS then wakeBy s .timer else s)

/-- KEY_PRESS_WAKE. -/
def execKeyPressWake (s : State) : Host.Outcome State Fault Refusal := .next (wakeBy s .key)

end Sys2Proof.Machine
end

