-- ==== Sys2Proof/Machine/Pins.lean ====
section
/-! DEFINITION. The states of the pins (R320, Table 13-2, R335, R336). -/

namespace Sys2Proof.Machine

/-- The pins of Table 13-2. -/
inductive Pin where
  | pwrEnCore | link | irqN | enumOut
  | scTx (n : Fin 4) | scRtsN (n : Fin 4)
  | cardEn | cardClk | cardRst
  | tdm (p : Fin 6)
  | mclkOut
  | ringTx
  | tdo
  | lo (n : Fin 4) | cv (n : Fin 16) | gt (n : Fin 8)
  | keyDrive
  deriving DecidableEq, Repr, Inhabited

/-- What a pin does. -/
inductive PinLevel where
  /-- high impedance; for LK_IRQ_N: released. -/
  | highZ
  /-- the internal pull-down of PWR_EN_CORE holds it low. -/
  | pulledLow
  /-- weak pull-up, driven only during a read phase (R39). -/
  | pullUp
  /-- driven at a level. -/
  | level (high : Bool)
  /-- driven by the block's own rules: a clock, frames, samples, a voltage. -/
  | active
  /-- a ring lane without light. -/
  | noSignal
  /-- no rule states it. -/
  | unstated
  deriving DecidableEq, Repr, Inhabited

/-- The "Supply off" column of Table 13-2: VDD_AON or the pin's VIO supply is below range. -/
def Pin.unpowered : Pin → PinLevel
  | .pwrEnCore => .pulledLow
  | .ringTx => .noSignal
  | _ => .highZ

/-- A field output in one of its states. -/
def OutState.pin (o : OutState) : PinLevel := if o.highZ then .highZ else .active

/-- A level that the pads latch for HIBERNATE, else the live one (R335, R336). -/
def State.padLevel (s : State) (held : PadHold → Bool) (live : Bool) : PinLevel :=
  .level (match s.power.pads with
    | some h => held h
    | none => live)

/-- The PLLs of a cold boot have locked (Table 13-3 step 3), and the engine die is powered. -/
def State.clocked (s : State) : Bool := s.power.enCore && s.fw.boot != .powering

/-- A pin, with the supplies on: before FW_UP and from then on (Table 13-2). -/
def State.pin (s : State) (p : Pin) : PinLevel :=
  match p with
  | .pwrEnCore => .level s.power.enCore
  | .link => .pullUp
  | .irqN => if s.irqPin then .level false else .highZ
  | .enumOut => .level s.link.assigned
  | .scTx n => s.padLevel (fun h => h.tx.getD n.val true) (s.sc n.val).txHigh
  | .scRtsN n => s.padLevel (fun h => h.rts.getD n.val true) (s.sc n.val).rtsPin
  | .cardEn => s.padLevel (·.cardEn) s.card.en
  | .cardClk => if s.card.clk && s.power.pads.isNone then .active else s.padLevel (·.cardClk) s.card.clk
  | .cardRst => s.padLevel (·.cardRst) s.card.rst
  | .tdm n => if s.power.st != .hibernate && (s.port n.val).enable then .active else .highZ
  | .mclkOut => if s.power.st = .hibernate then .unstated else if s.clocked then .active else .level false
  | .ringTx => if s.ring.txOn then .active else .noSignal
  | .tdo => if s.fw.up then .active else .highZ
  | .lo n => if s.field.ready then (s.lo n.val).st.pin else .highZ
  | .cv n => if s.field.ready then (s.cv n.val).st.pin else .highZ
  | .gt n => if s.field.ready then (s.gt n.val).st.pin else .highZ
  | .keyDrive => if s.scan.mode = 0 then .highZ else .active

/-- A pin, by whether VDD_AON and its VIO supply are in range (R320). -/
def State.pinAt (s : State) (powered : Bool) (p : Pin) : PinLevel := if powered then s.pin p else p.unpowered

end Sys2Proof.Machine
end

