-- ==== Sys2Proof/Machine/Boot.lean ====
section
/-! DEFINITION. Resets and boots: power-on reset, RESET_N, tamper, warm reset and the wake from HIBERNATE, what each of
them keeps (Table 13-5), and the boot steps they share (Table 13-3, Table 13-9). -/

namespace Sys2Proof.Machine

/-! ## Boot steps 4 to 7 (Table 13-3) -/

/-- Step 4, tamper: the TAMPERED record is written and both vault images are invalidated (Table 12-10 step 2). -/
def tamperRecord (s : State) : State :=
  match s.vault.latched with
  | some src => { s with
      vault := { s.vault with latched := none }
      nvm := { s.nvm with tamperedRec := s.nvm.tamperedRec.put (some src) true, tamperOwed := true
                          vault := s.nvm.vault.wipe } }
  | none => s

/-- The words of MRAM that a boot cannot correct: their record copies are invalid, and each counts (R303). -/
def readErrors (s : State) (rd : BootRead) : State :=
  foldS rd.bad s fun s e => eccEvent { s with nvm := s.nvm.spoil e } true 64

/-- The slot that boots, its record, and whether its image passes (R343): a TRIAL slot counts an attempt; after three, or
when its image fails, the other slot is written CONFIRMED and boots. -/
def slotBoot (v : Nvm) (rd : BootRead) : Nvm × Bool × Bool :=
  let r := v.slot
  let passes := fun b => !rd.bad.contains (.image, b) && v.imagePasses (v.slotMem b)
  if (r.trial = true ∧ 3 ≤ r.attempts) ∨ passes r.activeB = false then
    (v.putSlot { activeB := !r.activeB } rd.verify, !r.activeB, passes (!r.activeB))
  else (if r.trial then v.putSlot { r with attempts := r.attempts + 1 } rd.verify else v, r.activeB, true)

/-- Step 6, calibration (R341): the valid copy with the higher number is used; an interrupted store is reported; with no
valid copy every trim is 0. -/
def calSelect (s : State) : State :=
  let p := s.nvm.cal
  let reverted := fun (x y : Copy (Bank Trim)) => x.ok && y.magic && !y.valid && decide (x.seq < y.seq)
  let s := { s with cal := { s.cal with trims := p.newest.getD [] } }
  if p.newest = none then eccEvent s true 64
  else if reverted p.a p.b then steward s .calSlotReverted 0 []
  else if reverted p.b p.a then steward s .calSlotReverted 1 []
  else s

/-- Step 6, life cycle: a pending advance is finished (R313). -/
def finishAdvance (s : State) : State :=
  match s.nvm.advance with
  | some (l, k) => advanceLife s l k
  | none => s

/-- Step 6, vault: the device keys are derived, the newest image fills the vault after a cold reset, and the KEK is derived
(R305 to R307). -/
def fillVault (s : State) (warm : Bool) : State :=
  let s := { s with vault := { s.vault with identity := some s.fuse.identityKey, storage := some s.fuse.storageKey } }
  let image := (s.nvm.vault.newest.bind fun i => i.opened s.vault.storage).getD []
  { s with vault := { s.vault with keys := if warm then s.vault.keys else image, kek := s.kek } }

/-- Firmware banks that hold the running image are ON, the others OFF (R294). -/
def setFwBanks (s : State) : State :=
  foldS [4, 5, 6, 7] s fun s n => { s with mem := s.mem.setBank .firmware n (if s.fwHeld n then .on else .off) }

/-- Steps 4 to 7: the boot waits for VDD_NVM, stops when both slots fail, and otherwise copies the image into firmware SRAM
(R294) and reaches the lane self-test. -/
def bootRun (s : State) (warm : Bool) (rd : BootRead) : State :=
  if s.supply.nvm = false then { s with fw := { s.fw with boot := .waitNvm warm } }
  else
    let s := tamperRecord (readErrors s rd)
    let (n, b, runs) := slotBoot s.nvm rd
    let s := { s with nvm := n }
    if !runs then { s with fw := { s.fw with boot := .stopped warm } }
    else
      let s := { s with fw := { s.fw with slotB := b, sram := imageBody (n.slotMem b) } }
      let s := calSelect (fillVault (finishAdvance s) warm)
      let s := if warm ∨ s.fw.slotB = true ∨ s.fwHeld 4 then setFwBanks s else s
      { s with fw := { s.fw with boot := .laneTest warm } }

/-! ## Cold resets (Table 13-4, Table 13-5) -/

/-- What RESET_N, power-on reset and tamper leave: the fuses, MRAM, the supplies, the service-life counts, the card in
its socket; everything else at its reset value. -/
def coldState (s : State) (kind : LastReset) (keepLatch : Bool) : State :=
  { pending := s.pending, freeCtr := s.freeCtr, fuse := s.fuse, supply := s.supply, nvm := s.nvm,
    core := { ticks := s.core.ticks }
    fw := { sram := [] }
    vault := { latched := if keepLatch then s.vault.latched else none, identity := none, storage := none }
    card := { present := s.card.present }
    cal := { lifeSec := s.cal.lifeSec, equivSec := s.cal.equivSec }
    power := { lastReset := kind } }

/-- A cold reset: the boot begins at step 1, and its later steps run as it goes on (`coldBoot`). -/
def coldReset (s : State) (kind : LastReset) (keepLatch : Bool) : State :=
  let s := coldState s kind keepLatch
  { s with fw := { s.fw with boot := .powering } }

/-- VDD_ENG has come into range: steps 3 to 7. -/
def coldBoot (s : State) (rd : BootRead) : State :=
  bootRun { s with power := { s.power with enCore := true }, link := { s.link with up := true } } false rd

/-- TAMPER_DETECT (Table 12-10): the source is latched; the record is written while MRAM is powered; the vault is
zeroed; the tamper reset follows. -/
def tamper (s : State) (src : TamperSrc) : State :=
  let s := { s with vault := { s.vault with keys := [], kek := none, latched := some src } }
  let s := if s.supply.nvm ∧ s.power.enCore then tamperRecord s else s
  coldReset s .tamper true

/-- VDD_ENG counts as powered while PWR_EN_CORE is high, and every supply from 100 us after it entered its range; a fall to the
low threshold that takes 10 us or longer is a power-down (R318). -/
def State.powered (s : State) (eng : Bool) (poweredUs : Nat) (fallNs : Option Nat) : Bool :=
  (!eng || s.power.enCore) && decide (100 ≤ poweredUs) && fallNs.all fun n => decide (n < 10000)

/-- What is seen is a tamper, and of which source (Table 12-9). -/
def State.tamperSrc (s : State) (seen : TamperSeen) : Option TamperSrc :=
  match seen with
  | .pin ns => if 200 ≤ ns then some .pin else none
  | .glitch eng mv ns us fall =>
    let out := if eng then decide (mv < 650) || decide (850 < mv) else decide (mv < 700) || decide (900 < mv)
    if out = true ∧ 20 ≤ ns ∧ s.powered eng us fall = true then some .glitch else none
  | .temperature c => if c < -40 ∨ 125 < c then some .temperature else none

/-- What the monitors do with what they see. A TAMPER_N low between 100 and 200 ns may act or not (R369): a free value. -/
def tamperSeen (s : State) (seen : TamperSeen) : State :=
  match s.tamperSrc seen, seen with
  | some src, _ => tamper s src
  | none, .pin ns =>
    if 100 < ns then if (Config.freeWord s.freeCtr).getLsbD 0 then tamper s.drew .pin else s.drew else s
  | none, _ => s

/-! ## Warm reset (R323 to R325) -/

/-- A tenant through a warm reset: its queues, window, echo store, tag tables and state. -/
def TenantSt.warm (x : TenantSt) : TenantSt :=
  { st := x.st, fault := x.fault, seqHigh := x.seqHigh, sq := x.sq, cq := x.cq, cons := x.cons, echo := x.echo,
    inflight := x.inflight, doneTags := x.doneTags, window := x.window, windowKib := x.windowKib, evSeq := x.evSeq }

/-- A line output at a warm reset: 0 V for 1 ms when it was driven, then high impedance. -/
def LineOut.warm (o : LineOut) (n : Nat) : LineOut :=
  if o.st.live then { source := n, st := .safe, disabling := true }
  else { source := n, st := if o.st = .held then .held else .hiz }

/-- The field die through a warm reset: its configuration at the defaults, its readiness, its fault and its hold kept;
the stored output states are gone (R325). -/
def Field.warm (f : Field) (s : State) : Field :=
  let held := fun (o : OutState) => if o = .held then OutState.held else .hiz
  { ready := f.ready, fault := f.fault, link := f.link, hold := f.hold, holdCleared := f.hold.isSome,
    holdLost := f.holdLost,
    los := (List.range 4).map (fun n => (n, (s.lo n).warm n)),
    cvs := (List.range 16).map (fun n => (n, { st := held (s.cv n).st })),
    gts := (List.range 8).map (fun n => (n, { st := held (s.gt n).st })) }

/-- Memories through a warm reset: contents, seals, maps and slots kept; RETAIN and OFF banks ON; a load in flight ends
as one whose tag failed. -/
def Mem.warm (m : Mem) : Mem :=
  { wave := m.wave, badWords := m.badWords, patches := m.patches, maps := m.maps, seals := m.seals, fwBanks := m.fwBanks }

/-- The warm reset begins, and the boot runs steps 4, 5 and 6. -/
def warmReset (s : State) (rd : BootRead) : State :=
  let s := foldS s.mem.loads s fun s l => landSealed s l none
  let w : State :=
    { pending := s.pending, freeCtr := s.freeCtr, fuse := s.fuse, supply := s.supply, nvm := s.nvm, vault := s.vault,
      link := { s.link with up := true }, tenants := s.tenants.map (fun e => (e.1, e.2.warm)),
      fw := { sram := s.fw.sram, slotB := s.fw.slotB }
      core := { ticks := s.core.ticks }, field := s.field.warm s, mem := s.mem.warm,
      card := { present := s.card.present }
      power := { pads := s.power.pads, lastWake := s.power.lastWake, lastReset := .warm, save := s.power.save }
      cal := { lifeSec := s.cal.lifeSec, equivSec := s.cal.equivSec } }
  bootRun w true rd

/-! ## FW_UP (Table 13-3 step 9, R324, R344) -/

/-- R324 for one tenant: LOST for every command in flight, then CLOSED. -/
def closeAfterWarm (s : State) (t : Tenant) : State :=
  if (s.ten t).st = .closed then s
  else
    let s := foldS ((List.range 128).map (Fin.ofNat 128)) s fun s g => loseInFlight s t g
    s.updTen t fun x => { x with st := .closed, fault := .none, session := .none, resetBy := none }

/-- R344: a TRIAL slot becomes CONFIRMED, and the rollback counter rises to the image's. -/
def confirmSlot (s : State) (rd : BootRead) : State :=
  let v := s.nvm
  if v.trial && v.activeB == s.fw.slotB then
    let c := leNat (memReadN (v.slotMem v.activeB) 16 4)
    let n := v.putSlot { v.slot with trial := false, attempts := 0 } rd.verify
    { s with nvm := { n with rollbackRec := n.rollbackRec.put (Nat.max v.rollback c) rd.verify } }
  else s

/-- A lane's self-test at boot (R166). -/
def bootLane (fails : BitVec 8) (s : State) (n : Nat) : State :=
  if fails.getLsbD n then
    steward (s.updLane n fun l => { l with st := .parked }) .laneFault (BitVec.ofNat 16 n) []
  else s

/-- BOOT_COMPLETE: the steps before it have run, and the lanes have been tested; FW_UP is 1, FW_READY is set, what waited
is raised. -/
def bootComplete (s : State) (fails : BitVec 8) (rd : BootRead) : State :=
  let s := if s.fw.boot = .powering then coldBoot s rd else s
  match s.fw.boot with
  | .laneTest _ =>
    let s := foldS (List.range 8) s (bootLane fails)
    let s := { s with fw := { s.fw with up := true, boot := .done }, link := { s.link with fwReady := true } }
    holdEvents (raiseHeld (foldS allTenants (confirmSlot s rd) closeAfterWarm))
  | _ => s

/-! ## Wake from HIBERNATE (Table 13-9) -/

/-- A serial channel at the wake: the saved settings; a wake-enabled one keeps its lock, its wake buffer and its error
counts (R258, R359). -/
def wakeSerial (s : State) (n : Nat) : Serial :=
  let c := s.sc n
  let d := (bankAt s.power.save.serials n {}).settings
  let d : Serial := if s.scWakes n then
      { d with locked := c.locked, baudN := c.baudN, baudF := c.baudF, wakeBuf := c.wakeBuf, disarmed := c.disarmed,
               waking := c.waking, brk := c.brk, brkL16 := c.brkL16, errAt := c.errAt, framing := c.framing,
               parityErr := c.parityErr, overruns := c.overruns }
    else d
  d.rts

/-- Steps 1 to 7: the unit as the save list and the kept parts give it. -/
def wakeState (s : State) (src : WakeSrc) : State :=
  let v := s.power.save
  { pending := s.pending, freeCtr := s.freeCtr, fuse := s.fuse, supply := s.supply, nvm := s.nvm, vault := s.vault,
    link := { unitAddr := s.link.unitAddr, enumIn := s.link.enumIn, quad := v.quad, irqOd := v.irqOd, irqEn := v.irqEn,
              status := BitVec.ofNat 32 (s.link.unitAddr.toNat % 16) },
    tenants := allTenants.map (fun t => (t.val, { openedSinceWake := false })),
    fw := { slotB := v.slotB, sram := imageBody (s.nvm.slotMem v.slotB), boot := .done },
    core := { tide := v.tide, fs := v.fs, osr := v.osr, mclkIn := v.mclkIn, lossHold := v.lossHold,
              frameEdge := v.frameEdge, ticks := s.core.ticks },
    alloc := { lanes := v.lanes }, mix := { preset := v.preset, presetNext := v.preset }, ports := v.ports,
    field := { (landLate s).field with link := .ok, gateTimer := v.gateTimer, pendCv := [], pendGate := [] },
    cis := s.cis, scan := { s.scan with reseed := true },
    serials := (List.range 4).map (fun n => (n, wakeSerial s n)),
    card := { present := s.card.present, clkDiv := v.clkDiv },
    power := { dozeMs := v.dozeMs, napMs := v.napMs, hibS := v.hibS, abandon := v.abandon, wakeMask := v.wakeMask,
               wakeTimer := v.wakeTimer, lastWake := src, lastReset := s.power.lastReset, pads := s.power.pads, save := v },
    cal := { trims := s.cal.trims, lifeSec := s.cal.lifeSec, equivSec := s.cal.equivSec } }

/-- Step 8: FW_UP is 1, FW_READY is set, POWER_STATE woke is kept for T0, the wake buffers reach their queues. -/
def wakeDone (s : State) : State :=
  let s := foldS (List.range 6) (setFwBanks (refillRanks s)) portStart
  let s := { s with fw := { s.fw with up := true }, link := { s.link with fwReady := true } }
  let s := holdEvents (powerEvent s 2 3)
  foldS (List.range 4) s drainWake

/-- HIBERNATE_WAKE: a save-RAM word that cannot be corrected, which counts (Table 12-5), or a digest that differs makes it a
warm reset. -/
def hibernateWake (s : State) (src : WakeSrc) (saveBad digestBad : Bool) (rd : BootRead) : State :=
  if s.power.st = .hibernate ∧ s.power.wake = some src then
    let w := wakeState s src
    if saveBad then eccEvent (warmReset w rd) true 56
    else if digestBad then warmReset w rd
    else wakeDone w
  else s

/-! ## The rows -/

/-- WARM_RESET: 10 ms after DEVICE_RESET or FW_ACTIVATE. -/
def execWarmReset (rd : BootRead) (s : State) : Host.Outcome State Fault Refusal :=
  .next (if s.fw.resetDue then warmReset s rd else s)

/-- POWER_ON_RESET: everything is reset; the boot follows the release. -/
def execPowerOnReset (nvmUp : Bool) (s : State) : Host.Outcome State Fault Refusal :=
  .next (coldReset { s with supply := { s.supply with nvm := nvmUp } } .powerOn false)

/-- RESET_N_ASSERT: a low of 1 us or longer, as R369 times it. -/
def execResetNAssert (lowNs : Nat) (s : State) : Host.Outcome State Fault Refusal :=
  .next (s.onLow lowNs fun s => coldReset s .resetN true)

/-- BOOT_COMPLETE. -/
def execBootComplete (laneFail : BitVec 8) (rd : BootRead) (s : State) : Host.Outcome State Fault Refusal :=
  .next (bootComplete s laneFail rd)

/-- VDD_ENG_TIMEOUT, while a cold boot powers up or from State.reset: PWR_EN_CORE falls, and the link port is in reset with
the engine die; no later boot step has run, so no TRIAL attempt counts (R317, R343). It rises again 10 ms later, which
BOOT_COMPLETE shows (log entry 47). -/
def execVddEngTimeout (s : State) : Host.Outcome State Fault Refusal :=
  .next (if s.fw.boot = .powering ∨ s.fw.boot = .laneTest false then
      let s := coldReset s s.power.lastReset true
      { s with power := { s.power with enCore := false }, link := { s.link with up := false } }
    else s)

/-- TAMPER_DETECT. -/
def execTamperDetect (seen : TamperSeen) (s : State) : Host.Outcome State Fault Refusal := .next (tamperSeen s seen)

/-- VDD_NVM_IN_RANGE: a boot that waits at step 4 goes on. -/
def execVddNvmInRange (rd : BootRead) (s : State) : Host.Outcome State Fault Refusal :=
  let s := { s with supply := { s.supply with nvm := true } }
  .next (match s.fw.boot with
    | .waitNvm w => bootRun s w rd
    | _ => s)

/-- VDD_ENG_OUT_OF_RANGE: while PWR_EN_CORE is high, a reset of the RESET_N kind. -/
def execVddEngOutOfRange (s : State) : Host.Outcome State Fault Refusal :=
  .next (if s.power.enCore then coldReset s .resetN true else s)

/-- HIBERNATE_WAKE. -/
def execHibernateWake (src : WakeSrc) (saveBad digestBad : Bool) (rd : BootRead) (s : State) :
    Host.Outcome State Fault Refusal :=
  .next (hibernateWake s src saveBad digestBad rd)

end Sys2Proof.Machine
end

