-- ==== Sys2Proof/Machine/Operands.lean ====
section
/-! DEFINITION. Operand forms: the payload of every Belelxus opcode (Tables 04-3 to 04-15, 04-19), its range checks (R89 to R91,
R95), its rights class (R64, R93) and the size of its largest result (R94). -/

namespace Sys2Proof.Machine

/-! ## Checks -/

/-- What the payload checks need to know of the tenant and the header. -/
structure PCtx where
  osr : Nat
  timed : Bool
  /-- length of the staging window in bytes. -/
  window : Nat
  tag : Nat
  deriving DecidableEq, Repr, Inhabited

/-- A payload after its checks: decoded, with its et offset; a field out of range at an offset; a length that is wrong
(R89), for which R90 states no offset. -/
inductive Parsed where
  | good (b : Body) (et : Nat)
  | bad (off : Nat)
  | badLen
  deriving DecidableEq, Repr

/-- The first check in ascending offset that fails, or the decoded payload (R90). -/
def firstFail (checks : List (Nat × Bool)) (b : Body) (et : Nat := 0) : Parsed :=
  match checks.find? fun c => !c.2 with
  | some c => .bad c.1
  | none => .good b et

/-- A field of `n` bytes that must be zero; its offset is that of its first byte. -/
def zeroAt (p : List Byte) (off n : Nat) : List (Nat × Bool) := [(off, zeros ((p.drop off).take n))]

/-- The et offset at a byte (R91). -/
def etAt (c : PCtx) (p : List Byte) (off : Nat) : Nat × Bool :=
  (off, decide (byteAt p off < c.osr) && (c.timed || byteAt p off == 0))

/-- A window offset (R95). -/
def winAt (c : PCtx) (p : List Byte) (off : Nat) : Nat × Bool :=
  (off, field p off 4 % 4 == 0 && decide (field p off 4 ≤ c.window))

/-- The bytes a command uses from its window offset end inside the window (R95). -/
def winEnd (c : PCtx) (p : List Byte) (off n : Nat) : Bool := decide (field p off 4 + n ≤ c.window)

/-- A payload of one fixed length. -/
def fixed (p : List Byte) (n : Nat) (r : Parsed) : Parsed := if p.length = n then r else .badLen

/-! ## Session (Table 04-3) -/

/-- PROP_GET and PROP_SET (R113). -/
def parseProp (p : List Byte) (set : Bool) : Parsed :=
  let extra := if set then 8 else 0
  let t := byteAt p 0
  let n := byteAt p 1
  if p.length < 3 + extra ∨ 50 + extra < p.length then .badLen
  else if ¬(t < 8 ∨ t = 255) then .bad 0
  else if n < 1 ∨ 48 < n ∨ p.length ≠ 2 + n + extra then .bad 1
  else
    match findProp (((p.drop 2).take n).map BitVec.toNat) with
    | none => .bad 2
    | some r =>
      let row := propRow r.kind
      let own : Tenant := Fin.ofNat 8 t
      if r.kind.ofTenant ≠ decide (t < 8) then .bad 0
      else if set = false then .good (.propGet own r) 0
      else if row.writable = false then .bad 2
      else
        let v := field p (2 + n) 8
        if row.inRange v && (r.kind != .calTrimPeriodS || v == 0 || decide (60 ≤ v)) then .good (.propSet own r v) 0
        else .bad (2 + n)

/-- Opcodes 0x00 to 0x08. -/
def parseSession (c : PCtx) (op : Nat) (p : List Byte) : Parsed :=
  match op with
  | 0x00 => fixed p 0 (.good .nop 0)
  | 0x01 => fixed p 0 (.good .identify 0)
  | 0x02 => fixed p 4 (firstFail ((0, decide (byteAt p 0 ≤ 1)) :: zeroAt p 1 3) (.tenantOpen (byteAt p 0 == 1)))
  | 0x03 => fixed p 0 (.good .tenantClose 0)
  | 0x04 => fixed p 4 (firstFail ((0, decide (byteAt p 0 < 8)) :: zeroAt p 1 3) (.tenantReset (Fin.ofNat 8 (byteAt p 0))))
  | 0x05 => fixed p 0 (.good .heartbeat 0)
  | 0x06 => fixed p 4 (firstFail ((0, decide (byteAt p 0 < 127) && byteAt p 0 != c.tag) :: zeroAt p 1 3)
      (.abort (Fin.ofNat 128 (byteAt p 0))))
  | 0x07 => parseProp p false
  | _ => parseProp p true

/-! ## Notes (Table 04-4) -/

/-- Entries of VOICE_PARAM and PART_PARAM: 2-byte ID and 4-byte value each. -/
def entriesOf (p : List Byte) : Nat → Nat → List (Nat × Int)
  | _, 0 => []
  | o, n + 1 => (field p o 2, paramVal (field p o 2) (field p (o + 2) 4)) :: entriesOf p (o + 6) n

/-- Checks of the entries that need no other value (R138, R145). -/
def entryChecks : Nat → List (Nat × Int) → List (Nat × Bool)
  | _, [] => []
  | o, e :: l => (o, (paramRow e.1).isSome) :: (o + 2, paramFits e.1 e.2) :: entryChecks (o + 6) l

/-- A packet of one 32-bit word, message type 0x2 (Table 04-19). -/
def ump2 (w : Nat) : Option UmpOp :=
  let part := w / 65536 % 16
  let a := w / 256 % 128
  let b := w % 128
  match w / 1048576 % 16 with
  | 0x8 => some (.noteOff part a (b * 516))
  | 0x9 => some (if b = 0 then .noteOff part a 0 else .noteOn part a (b * 516))
  | 0xA => some (.polyPressure part a b 127)
  | 0xB => some (.control part a b 127)
  | 0xC => some (.program part a none)
  | 0xD => some (.chanPressure part a 127)
  | 0xE => some (.pitchBend part (a + 128 * b) 16383)
  | _ => none

/-- A packet of two words, message type 0x4 (Table 04-19). -/
def ump4 (w x : Nat) : Option UmpOp :=
  let part := w / 65536 % 16
  let a := w / 256 % 128
  let b := w % 256
  let full := 4294967295
  match w / 1048576 % 16 with
  | 0x0 => some (.perNoteCtl part a b x false)
  | 0x1 => some (.perNoteCtl part a b x true)
  | 0x2 => some (if a = 0 ∧ b % 128 = 0 then .bendRange part (x / 2 ^ 25) else .ignored)
  | 0x3 => some .ignored
  | 0x6 => some (.perNoteBend part a x)
  | 0x8 => if b = 0 ∨ b = 3 then some (.noteOff part a (x / 65536)) else none
  | 0x9 => if b = 0 ∨ b = 3 then
      some (if x / 65536 = 0 then .noteOff part a 0 else .noteOn part a (x / 65536)) else none
  | 0xA => some (.polyPressure part a x full)
  | 0xB => some (.control part a x full)
  | 0xC => some (.program part (x / 2 ^ 24 % 128) (if b % 2 = 1 ∧ x % 128 ≤ 1 then some (x % 128) else none))
  | 0xD => some (.chanPressure part x full)
  | 0xE => some (.pitchBend part x full)
  | _ => none

/-- The packets of a UMP payload, or the offset of the first that is rejected (R114). -/
def umpPackets : Nat → Nat → List Byte → Sum Nat (List UmpOp)
  | 0, _, _ => .inr []
  | n + 1, o, p =>
    if p.length ≤ o then .inr []
    else
      let w := field p o 4
      let step := if w / 2 ^ 28 = 4 then 8 else 4
      let op := if w / 2 ^ 28 = 2 then ump2 w
        else if w / 2 ^ 28 = 4 ∧ o + 8 ≤ p.length then ump4 w (field p (o + 4) 4) else none
      match op with
      | none => .inl o
      | some u =>
        match umpPackets n (o + step) p with
        | .inl e => .inl e
        | .inr l => .inr (u :: l)

/-- Opcodes 0x10 to 0x16. -/
def parseNote (c : PCtx) (op : Nat) (p : List Byte) : Parsed :=
  let id := BitVec.ofNat 32 (field p 0 4)
  let b := byteAt p
  match op with
  | 0x10 => fixed p 12 (firstFail
      [(0, decide (field p 0 4 ≤ 0xFEFFFFFF)), (4, decide (b 4 < 16)), (5, decide (b 5 < 128)), etAt c p 8,
        (9, decide (b 9 < 4))]
      (.noteOn { noteId := id, part := b 4, key := b 5, velocity := field p 6 2, noSpill := b 9 % 2 == 1,
                 noSteal := b 9 / 2 % 2 == 1, detune := signed 16 (field p 10 2) }) (b 8))
  | 0x11 => fixed p 8 (firstFail [etAt c p 4, (5, b 5 == 0)] (.noteOff id (field p 6 2)) (b 4))
  | 0x12 => fixed p 8 (match b 5 with
      | 0 => firstFail [etAt c p 4] (.noteBend id (signed 16 (field p 6 2))) (b 4)
      | 1 => firstFail [etAt c p 4] (.notePressure id (field p 6 2)) (b 4)
      | 2 => firstFail [etAt c p 4, (6, decide (b 6 < 128)), (7, b 7 == 0)] (.noteRetarget id (b 6)) (b 4)
      | _ => firstFail [etAt c p 4, (5, false)] .nop)
  | 0x13 => fixed p 4 (firstFail ([(0, decide (b 0 < 16) || b 0 == 255), (1, decide (b 1 < 2))] ++ zeroAt p 2 2)
      (.allRelease (if b 0 = 255 then none else some (b 0)) (b 1 == 1)))
  | 0x14 => if p.length < 4 ∨ p.length % 4 ≠ 0 then .badLen
      else match umpPackets (p.length / 4) 0 p with
        | .inl o => .bad o
        | .inr l => .good (.ump l) 0
  | 0x15 =>
    let l := entriesOf p 8 (b 5)
    if p.length < 14 ∨ 1022 < p.length then .badLen
    else firstFail ([etAt c p 4, (5, decide (1 ≤ b 5 ∧ b 5 ≤ 169) && p.length == 8 + 6 * b 5)] ++ zeroAt p 6 2
      ++ entryChecks 8 l) (.voiceParam id l) (b 4)
  | _ =>
    let l := entriesOf p 8 (b 2)
    if p.length < 14 ∨ 1022 < p.length then .badLen
    else firstFail ([(0, decide (b 0 < 16)), etAt c p 1, (2, decide (1 ≤ b 2 ∧ b 2 ≤ 169) && p.length == 8 + 6 * b 2)]
      ++ zeroAt p 3 5 ++ entryChecks 8 l) (.partParam (b 0) l) (b 1)

/-! ## Patches and wave memory (Tables 04-5, 04-6) -/

/-- Bytes of a wave bank (Table 12-1). -/
def bankBytes : Nat := 2097152

/-- Opcodes 0x20 to 0x2B. -/
def parsePatch (c : PCtx) (op : Nat) (p : List Byte) : Parsed :=
  let b := byteAt p
  let w2 := field p 8 4
  match op with
  | 0x20 => fixed p 8 (firstFail ((0, decide (field p 0 2 < 256)) :: zeroAt p 2 2 ++ [winAt c p 4])
      (.patchWrite (field p 0 2) (field p 4 4)))
  | 0x21 => fixed p 8 (firstFail ((0, decide (field p 0 2 < 256)) :: zeroAt p 2 2 ++ [winAt c p 4])
      (.patchRead (field p 0 2) (field p 4 4)))
  | 0x22 => fixed p 4 (firstFail [(0, decide (b 0 < 16)), (1, b 1 == 0), (2, decide (field p 2 2 < 256))]
      (.patchSelect (b 0) (field p 2 2)))
  | 0x2A =>
    let n := w2
    let off := field p 4 4
    fixed p 24 (firstFail ([(0, decide (field p 0 2 < 4096)), (2, decide (b 2 < 16)), (3, decide (b 3 < 3)),
        (4, decide (off < bankBytes)),
        (8, n == 0 || (decide (off + n * sampleBytes (b 3) ≤ bankBytes) && (b 3 != 2 || decide (4096 ≤ n)))),
        (20, decide (b 20 < 4)), (21, decide (b 21 < 128))] ++ zeroAt p 22 2)
      (.waveMap { id := field p 0 2, bank := b 2, format := b 3, offset := off, length := n,
                  loopStart := field p 12 4, loopEnd := field p 16 4, loopMode := b 20, rootKey := b 21 }))
  | 0x2B =>
    let n := field p 12 4
    let off := field p 4 4
    let patch := b 0 == 1
    fixed p 24 (firstFail ([(0, decide (b 0 < 2)), (1, decide (b 1 < 64)),
        (2, decide (field p 2 2 < if patch then 256 else 16)),
        (4, if patch then off == 0 else off % 8 == 0 && decide (off < bankBytes)), winAt c p 8,
        (12, n % 4 == 0 && decide (if patch then n ≤ 2048 else off + n ≤ bankBytes) && winEnd c p 8 (28 + n))]
        ++ zeroAt p 16 8)
      (.waveLoadSealed { patch := patch, keySlot := b 1, target := field p 2 2, offset := off, window := w2,
                         length := n, aad := p.take 16 }))
  | _ =>
    let n := field p 12 4
    let off := field p 4 4
    let body := if op = 0x28 then Body.waveWrite (b 0) off w2 n else Body.waveRead (b 0) off w2 n
    fixed p 16 (firstFail ((0, decide (b 0 < 16)) :: zeroAt p 1 3 ++ [(4, off % 8 == 0 && decide (off < bankBytes)), winAt c p 8,
        (12, n % 8 == 0 && decide (off + n ≤ bankBytes) && winEnd c p 8 n)]) body)

/-! ## Buses (Table 04-7) -/

/-- A bus of BUS_CONFIG, none for all. -/
def busOf (n : Nat) : Option Nat := if n = 255 then none else some n

/-- The 64 coefficients of COEF_LOAD. -/
def coefsOf (p : List Byte) : Nat → Nat → List Int
  | _, 0 => []
  | o, n + 1 => signed 32 (field p o 4) :: coefsOf p (o + 4) n

/-- Opcodes 0x30 to 0x34. -/
def parseBus (op : Nat) (p : List Byte) : Parsed :=
  let b := byteAt p
  match op with
  | 0x30 =>
    let bus := (0, decide (b 0 < 32) || b 0 == 255)
    let pre := bus :: (1, decide (b 1 < 4)) :: zeroAt p 2 2
    let gain := signed 16 (field p 4 2)
    let flag := (4, decide (b 4 < 2)) :: zeroAt p 5 3
    fixed p 8 (match b 1 with
      | 0 => firstFail (pre ++ (4, decide (-9600 ≤ gain ∧ gain ≤ 1200)) :: zeroAt p 6 2) (.busGain (busOf (b 0)) gain)
      | 1 => firstFail (pre ++ flag) (.busEnable (busOf (b 0)) (b 4 == 1))
      | 2 => firstFail (pre ++ zeroAt p 4 4) (.busResync (busOf (b 0)))
      | _ => firstFail (pre ++ flag) (.busRing (busOf (b 0)) (b 4 == 1)))
  | 0x31 => fixed p 4 (firstFail ((0, decide (b 0 < 3)) :: zeroAt p 1 3)
      (.decimConfig (match b 0 with | 0 => .sandpiper | 1 => .heron | _ => .bittern)))
  | 0x32 => fixed p 264 (firstFail (zeroAt p 4 4) (.coefLoad (BitVec.ofNat 32 (field p 0 4)) (coefsOf p 8 64)))
  | 0x33 => fixed p 4 (.good (.coefSwitch (BitVec.ofNat 32 (field p 0 4))) 0)
  | _ =>
    let d := BitVec.ofNat 3 (b 1)
    let x := BitVec.ofNat 32 (field p 4 4)
    fixed p 12 (firstFail ([(0, decide (b 0 < 2)), (1, decide (b 1 < 8))] ++ zeroAt p 2 2 ++ zeroAt p 8 4)
      (if b 0 = 0 then .detectBuses d x else .detectNote d x))

/-! ## Field outputs and inputs (Tables 04-8, 04-9) -/

/-- Entries of CV_SET. -/
def cvEntries (p : List Byte) : Nat → Nat → List CvEntry
  | _, 0 => []
  | o, n + 1 =>
    { out := Fin.ofNat 16 (byteAt p o), noGlide := byteAt p (o + 1) % 2 == 1, code := BitVec.ofNat 16 (field p (o + 2) 2) }
      :: cvEntries p (o + 4) n

/-- Checks of CV_SET: outputs 0 to 15, none named twice (R106), flag bits 7 to 1 zero. -/
def cvChecks (p : List Byte) : List Nat → Nat → Nat → List (Nat × Bool)
  | _, _, 0 => []
  | seen, o, n + 1 =>
    (o, decide (byteAt p o < 16) && !seen.contains (byteAt p o)) :: (o + 1, decide (byteAt p (o + 1) < 2))
      :: cvChecks p (byteAt p o :: seen) (o + 4) n

/-- Codes of CV_QUEUE. -/
def codesOf (p : List Byte) : Nat → Nat → List (BitVec 16)
  | _, 0 => []
  | o, n + 1 => BitVec.ofNat 16 (field p o 2) :: codesOf p (o + 2) n

/-- Opcodes 0x38 to 0x42. -/
def parseField (c : PCtx) (op : Nat) (p : List Byte) : Parsed :=
  let b := byteAt p
  match op with
  | 0x38 =>
    let v := field p 4 4
    fixed p 12 (firstFail [(0, decide (b 0 < 16)), (1, decide (b 1 < 4)), (2, decide (b 2 < 2)), (3, decide (b 3 < 3)),
        (4, match b 3 with | 0 => v == 0 | 1 => decide (1 ≤ v ∧ v ≤ 60000000) | _ => decide (1 ≤ v ∧ v ≤ 65535)),
        (8, field p 8 2 != 0), (10, decide (b 10 < 2)), (11, decide (b 11 < 2))]
      (.cvConfig { out := Fin.ofNat 16 (b 0), span := b 1, queue := b 2 == 1, glide := b 3, glideVal := v,
                   period := field p 8 2, latch := b 10 == 1, enable := b 11 == 1 }))
  | 0x39 => if p.length < 4 ∨ 64 < p.length ∨ p.length % 4 ≠ 0 then .badLen
      else firstFail (cvChecks p [] 0 (p.length / 4)) (.cvSet (cvEntries p 0 (p.length / 4)))
  | 0x3A => if p.length < 6 ∨ 1024 < p.length ∨ p.length % 2 ≠ 0 then .badLen
      else
        let n := field p 2 2
        firstFail [(0, decide (b 0 < 16)), (1, b 1 == 0), (2, decide (1 ≤ n ∧ n ≤ 510) && p.length == 4 + 2 * n)]
          (.cvQueue (Fin.ofNat 16 (b 0)) (codesOf p 4 n))
  | 0x3B => fixed p 4 (firstFail [etAt c p 2, (3, b 3 == 0)] (.gateSet (BitVec.ofNat 8 (b 0)) (BitVec.ofNat 8 (b 1))) (b 2))
  | 0x3C => fixed p 4 (firstFail [(0, decide (b 0 < 4)), (1, decide (b 1 < 2)), (2, decide (b 2 < 32)), (3, decide (b 3 < 2))]
      (.lineConfig { out := Fin.ofNat 4 (b 0), consumer := b 1 == 1, source := b 2, enable := b 3 == 1 }))
  | 0x3D => fixed p 0 (.good .padRelease 0)
  | 0x40 => fixed p 4 (firstFail [(0, decide (b 0 < 8) || b 0 == 255), (1, decide (b 1 < 5)), (2, decide (b 2 < 2)), (3, b 3 == 0)]
      (.ciConfig (busOf (b 0)) (b 1) (b 2)))
  | 0x41 => fixed p 4 (firstFail [(0, decide (b 0 < 3)), (1, decide (b 1 < 8)), (2, decide (b 2 < 16)), (3, b 3 == 0)]
      (.keyscanConfig (b 0) (Fin.ofNat 8 (b 1)) (b 2)))
  | _ => fixed p 0 (.good .keyscanStatus 0)

/-! ## Serial channels (Table 04-10, R107, R236, R246, R247, R264, R363) -/

/-- The mode a byte names. -/
def scModeOf : Nat → ScMode
  | 0 => .off | 1 => .midi | 2 => .general | 3 => .ir | _ => .card

/-- SC_CONFIG. The ranges of Table 04-10 hold in every mode (R90); MIDI takes bytes 3 to 6 as 0 and auto-baud bytes 4 to
6 (R107), the rate limit is IR's (R246) and the 8 data bits of auto-baud GENERAL's and IR's (R247). -/
def parseScConfig (p : List Byte) : Parsed :=
  let b := byteAt p
  let mode := scModeOf (b 1)
  let opt := b 2
  let loop := opt % 2 == 1
  let echo := opt / 2 % 2 == 1
  let flow := opt / 4 % 2 == 1
  let auto := opt / 8 % 2 == 1
  let bits := b 3 % 16
  let par := b 3 / 16 % 4
  let n := field p 4 2
  let framed := mode == .general || mode == .ir
  let clash := (flow && decide (b 0 < 2)) || (loop && echo) || (mode == .card && (loop || echo)) || (loop && auto)
  let frameOk := if mode = .midi then b 3 == 0
    else decide (5 ≤ bits ∧ bits ≤ 8 ∧ par ≤ 2 ∧ b 3 < 128) && (!(framed && auto) || (bits == 8 && par == 0))
  let zero46 := mode == .midi || auto
  let rateOk := decide (3 ≤ n) && (mode != .ir || decide (6667 ≤ 16 * n + b 6))
  firstFail ([(0, decide (b 0 < 4)), (1, decide (b 1 < 5)), (2, decide (opt < 16) && !clash), (3, frameOk),
      (4, if zero46 then b 4 == 0 else rateOk), (5, !zero46 || b 5 == 0),
      (6, if zero46 then b 6 == 0 else decide (b 6 < 16)), (7, decide (b 7 < 8)),
      (8, b 8 != 0), (9, decide (b 9 < b 8))] ++ zeroAt p 10 6)
    (.scConfig { ch := Fin.ofNat 4 (b 0), mode := mode, loopback := loop, echo := echo, flow := flow, autobaud := auto,
                 dataBits := bits, parity := par, twoStop := b 3 / 64 % 2 == 1, divN := n, divF := b 6,
                 owner := Fin.ofNat 8 (b 7), high := b 8, low := b 9 })

/-- CARD_SESSION. -/
def parseCard (p : List Byte) : Parsed :=
  let b := byteAt p
  if p.length < 4 ∨ 264 < p.length then .badLen
  else match b 0 with
    | 0 => fixed p 4 (firstFail (zeroAt p 1 3) .cardStart)
    | 2 => fixed p 4 (firstFail (zeroAt p 1 3) .cardStop)
    | 1 =>
      if p.length < 9 then .badLen
      else
        let pre := (1, decide (b 1 < 3)) :: zeroAt p 2 2
        let hdr := (p.drop 4).take 5
        match b 1 with
        | 0 => fixed p 9 (firstFail (pre ++ [(8, b 8 == 0)]) (.cardExchange .none hdr []))
        | 1 => fixed p 9 (firstFail pre (.cardExchange .inward hdr []))
        | _ => if p.length = 9 + b 8 ∨ 3 ≤ b 1 then firstFail (pre ++ [(8, b 8 != 0)]) (.cardExchange .outward hdr (p.drop 9))
            else .badLen
    | _ => .bad 0

/-- Opcodes 0x48 to 0x4B. -/
def parseSerial (op : Nat) (p : List Byte) : Parsed :=
  let b := byteAt p
  let n := field p 2 2
  match op with
  | 0x48 => fixed p 16 (parseScConfig p)
  | 0x49 => if p.length < 5 ∨ 1024 < p.length then .badLen
      else firstFail [(0, decide (b 0 < 4)), (1, b 1 == 0), (2, decide (1 ≤ n ∧ n ≤ 1020) && p.length == 4 + n)]
        (.scSend (Fin.ofNat 4 (b 0)) (p.drop 4))
  | 0x4A => fixed p 4 (firstFail [(0, decide (b 0 < 4)), (1, b 1 == 0), (2, n != 0)] (.scBreak (Fin.ofNat 4 (b 0)) n))
  | _ => parseCard p

/-! ## Chain, memory, security, power (Tables 04-11 to 04-13) -/

/-- Opcodes 0x50 to 0x53. -/
def parseChain (op : Nat) (p : List Byte) : Parsed :=
  fixed p 0 (.good (match op with | 0x50 => .chainInfo | 0x51 => .ringStart | 0x52 => .ringStatus | _ => .ringLeave) 0)

/-- Opcodes 0x58 to 0x5A. -/
def parseMem (op : Nat) (p : List Byte) : Parsed :=
  let b := byteAt p
  match op with
  | 0x58 =>
    let kind : BankKind := match b 0 with | 0 => .wave | 1 => .patch | _ => .firmware
    let ok := match kind with
      | .wave => decide (b 1 < 16)
      | .patch => decide (b 1 < 4)
      | .firmware => decide (4 ≤ b 1 ∧ b 1 < 8)
    fixed p 4 (firstFail [(0, decide (b 0 < 3)), (1, ok), (2, decide (b 2 < 3)), (3, b 3 == 0)]
      (.memBankState kind (b 1) (match b 2 with | 0 => .on | 1 => .retain | _ => .off)))
  | 0x59 => fixed p 44 (match b 1 with
      | 0 => firstFail ((0, decide (b 0 < 64)) :: zeroAt p 2 2) (.vaultLoad (b 0) (p.drop 4))
      | 1 => firstFail ((0, decide (b 0 < 64)) :: (zeroAt p 2 2 ++ zeroAt p 4 40)) (.vaultErase (b 0))
      | _ => firstFail [(0, decide (b 0 < 64)), (1, false)] .nop)
  | _ =>
    if p = [] then .badLen
    else if 4 ≤ b 0 then .bad 0
    else fixed p (if b 0 = 1 then 72 else 8)
      (firstFail (zeroAt p 1 3) (.lifecycle (b 0) (BitVec.ofNat 32 (field p 4 4)) (p.drop 8)))

/-- Opcodes 0x60 to 0x62. -/
def parsePower (op : Nat) (p : List Byte) : Parsed :=
  let b := byteAt p
  let f := fun o => field p o 4
  match op with
  | 0x60 => fixed p 16 (firstFail ([(0, decide (f 0 ≤ 60000)), (4, decide (f 4 ≤ 3600000)), (8, decide (f 8 ≤ 86400)),
        (12, decide (b 12 < 2))] ++ zeroAt p 13 3)
      (.powerPolicy { dozeMs := f 0, napMs := f 4, hibernateS := f 8, abandon := b 12 == 1 }))
  | 0x61 => fixed p 4 (firstFail ((0, decide (1 ≤ b 0 ∧ b 0 ≤ 3)) :: zeroAt p 1 3)
      (.powerEnter (match b 0 with | 1 => .doze | 2 => .nap | _ => .hibernate)))
  | _ => fixed p 8 (firstFail [(0, decide (f 0 < 128)), (4, decide (f 4 ≤ 86400))] (.wakeConfig (BitVec.ofNat 7 (f 0)) (f 4)))

/-! ## Calibration, tests, firmware, reset (Tables 04-14, 04-15) -/

/-- Opcodes 0x68 to 0x6C. -/
def parseCal (op : Nat) (p : List Byte) : Parsed :=
  let b := byteAt p
  let m := field p 2 2
  match op with
  | 0x68 =>
    let ok := match b 0 with | 0 => true | 1 => decide (m < 256) | 2 => decide (m < 16) | _ => m == 0xFFFF
    fixed p 8 (firstFail ([(0, decide (b 0 < 4)), (1, b 1 == 0), (2, ok)] ++ zeroAt p 4 4) (.calRun (b 0) m))
  | 0x69 => fixed p 0 (.good .calStore 0)
  | 0x6A =>
    let ok := match b 0 with | 0 => decide (b 1 < 16) | 1 => decide (b 1 < 8) | _ => decide (b 1 < 4)
    fixed p 4 (firstFail ([(0, decide (b 0 < 3)), (1, ok)] ++ zeroAt p 2 2) (.calRead (b 0) (b 1)))
  | 0x6B =>
    let n := field p 4 4
    let ok := match b 0 with | 0 => decide (n < 256) | 1 => decide (n < 65536) | 2 => decide (n < 2 ^ 28) | _ => true
    fixed p 8 (firstFail ((0, decide (b 0 < 4)) :: zeroAt p 1 3 ++ [(4, ok)]) (.selftest (b 0) (BitVec.ofNat 32 n)))
  | _ => fixed p 4 (firstFail ([(0, decide (b 0 < 8)), (1, decide (b 1 < 2))] ++ zeroAt p 2 2)
      (.laneService (Fin.ofNat 8 (b 0)) (b 1 == 1)))

/-- Bytes of a firmware slot (R111). -/
def fwSlotBytes : Nat := 1572864

/-- Opcodes 0x70 to 0x72. -/
def parseFw (c : PCtx) (op : Nat) (p : List Byte) : Parsed :=
  let off := field p 0 4
  let n := field p 8 4
  match op with
  | 0x70 => fixed p 16 (firstFail ([(0, off % 4 == 0 && decide (off ≤ fwSlotBytes)), winAt c p 4,
        (8, n % 4 == 0 && decide (off + n ≤ fwSlotBytes) && winEnd c p 4 n), (12, decide (byteAt p 12 < 2))] ++ zeroAt p 13 3)
      (.fwStage off (field p 4 4) n (byteAt p 12 == 1)))
  | 0x71 => fixed p 4 (firstFail (zeroAt p 0 4) .fwActivate)
  | _ => fixed p 4 (firstFail ((0, byteAt p 0 == 0) :: zeroAt p 1 3) .deviceReset)

/-! ## The opcode table -/

/-- The opcodes of Tables 04-3 to 04-15. -/
def opKnown (op : Nat) : Bool :=
  op ≤ 0x08 || (0x10 ≤ op && op ≤ 0x16) || (0x20 ≤ op && op ≤ 0x22) || (0x28 ≤ op && op ≤ 0x2B) ||
  (0x30 ≤ op && op ≤ 0x34) || (0x38 ≤ op && op ≤ 0x3D) || (0x40 ≤ op && op ≤ 0x42) || (0x48 ≤ op && op ≤ 0x4B) ||
  (0x50 ≤ op && op ≤ 0x53) || (0x58 ≤ op && op ≤ 0x5A) || (0x60 ≤ op && op ≤ 0x62) || (0x68 ≤ op && op ≤ 0x6C) ||
  (0x70 ≤ op && op ≤ 0x72)

/-- Rights S, which count as device-level (R93). -/
def opSteward (op : Nat) : Bool :=
  (0x30 ≤ op && op ≤ 0x33) || op == 0x38 || op == 0x3C || op == 0x3D || op == 0x40 || op == 0x41 || op == 0x48 ||
  op == 0x51 || op == 0x53 || (0x58 ≤ op && op ≤ 0x5A) || (0x60 ≤ op && op ≤ 0x62) || op == 0x68 || op == 0x69 ||
  op == 0x6B || op == 0x6C || (0x70 ≤ op && op ≤ 0x72)

/-- The command is a field-die function (Table 00-2). A target or a property counts only where the payload names one. -/
def opField (op : Nat) (p : List Byte) : Bool :=
  (0x38 ≤ op && op ≤ 0x3C) || (0x40 ≤ op && op ≤ 0x42) ||
  (p != [] && ((op == 0x68 && byteAt p 0 < 4) || (op == 0x6A && byteAt p 0 < 3) || (op == 0x6B && byteAt p 0 == 2))) ||
  ((op == 0x07 || op == 0x08) && decide (2 + byteAt p 1 ≤ p.length) && match findProp (((p.drop 2).take (byteAt p 1)).map BitVec.toNat) with
    | some r => (propRow r.kind).field
    | none => false)

/-- Bytes of the largest result of an opcode, 2 for one that travels in SHORT and 0 for none (R94). -/
def resultMax (op : Nat) : Nat :=
  match op with
  | 0x02 | 0x06 | 0x10 | 0x13 | 0x21 | 0x3A | 0x3D | 0x49 | 0x58 | 0x61 | 0x6C => 2
  | 0x01 => 32 | 0x05 => 8 | 0x07 => 8 | 0x34 => 192 | 0x42 => 20 | 0x4B => 258 | 0x50 => 48 | 0x51 => 8 | 0x52 => 32
  | 0x68 => 8 | 0x69 => 4 | 0x6A => 16 | 0x6B => 4
  | _ => 0

/-- Completion-queue slots reserved for an opcode: 1 + ceil(largest / 16) (R80, R94). -/
def opReserve (op : Nat) : Nat := 1 + (resultMax op + 15) / 16

/-- The payload of an opcode (R89 to R91). -/
def parse (c : PCtx) (op : Nat) (p : List Byte) : Parsed :=
  match op / 8 with
  | 0x00 | 0x01 => parseSession c op p
  | 0x02 => parseNote c op p
  | 0x04 | 0x05 => parsePatch c op p
  | 0x06 => parseBus op p
  | 0x07 | 0x08 => parseField c op p
  | 0x09 => parseSerial op p
  | 0x0A => parseChain op p
  | 0x0B => parseMem op p
  | 0x0C => parsePower op p
  | 0x0D => parseCal op p
  | _ => parseFw c op p

end Sys2Proof.Machine
end

