-- ==== Sys2Proof/Machine/Tick.lean ====
section
/-! DEFINITION. The engine tick (R16, R118), the block boundary (R20), the end of a steal fade (R159), starts and ends of
voices (R117, R119), and tenant LFOs and beats in time (R136, R137). -/

namespace Sys2Proof.Machine

/-! ## Voice starts and steal fades (R99, R100, R117, R159, R161) -/

/-- Result of a NOTE_ON: the latency in et, or nothing when it is 0 (R100). -/
def latencyResult (n : Nat) : Result := if n = 0 then .note 0 else .bytes (leBytes 2 n)

/-- A voice starts, or a started one retriggers, at this tick. R99 does not say what a retrigger takes from its NOTE_ON: DESIGN
CHOICE, log entry 46, the key, the velocity and the detune; a part that it names, if another, is not taken, and the voice
keeps its part and its copy of the parameters. -/
def startOne (s : State) (v : Voice) : State :=
  let re := match v.retrig with
    | some r => { v with key := r.key, vel := r.vel, detune := r.detune, retrig := none, ref := none }
    | none => { v with ref := none }
  let started := fun (first : Bool) =>
    let w := startVoice s re first
    notePitch (s.setVoice w) w
  match v.life with
  | .starting none =>
    let s := finishRef (started true) v.ref .ok (latencyResult v.latency)
    finishRef s (v.retrig.bind (·.ref)) .ok (.note 0)
  | .starting _ => s
  | _ => if v.retrig.isSome then finishRef (started false) (v.retrig.bind (·.ref)) .ok (.note 0) else s

/-- Every voice whose start tick this is. -/
def startAll (s : State) : State := foldS s.voices s startOne

/-- A command held for a note takes effect right after its start (R161). -/
def applyHeld (lane slot : Nat) (s : State) (c : NoteCmd) : State :=
  match s.voices.find? fun v => v.lane == lane && v.slot == slot with
  | some v => if v.started then cmdOnVoice s v c else s
  | none => s

/-- The end of a voice that ALL_RELEASE faded: its origin is told, and a retrigger that came too late completes. -/
def endFaded (s : State) (v : Voice) : State :=
  let s := finishRef s (v.retrig.bind (·.ref)) .ok (.note 0)
  match v.fade, v.owner with
  | .release, .spilled o t => ringEnded s o t v.noteId false
  | _, _ => s

/-- Tick F of a steal fade: the victim is cleared, and the note that waits starts in its slot. -/
def endSteal (s : State) (v : Voice) : State :=
  let s := s.clearVoice v
  match v.succ with
  | none => endFaded s v
  | some n =>
    let s := startIn s v.lane v.slot n none
    match s.voices.find? fun w => w.lane == v.lane && w.slot == v.slot with
    | some w => foldS n.holding (startOne s w) (applyHeld v.lane v.slot)
    | none => s

/-- The fade has run its F ticks. -/
def Voice.fadeOver (v : Voice) : Bool := match v.life with
  | .fading k n => decide (n ≤ k)
  | _ => false

/-- Every fade that is over ends. -/
def endSteals (s : State) : State := foldS (s.voices.filter Voice.fadeOver) s endSteal

/-! ## Tenant LFOs and beats (R136, R137) -/

/-- A tenant LFO advances by one tick; a wrap draws its next random value, a free value. -/
def tenLfoTick (t : Tenant) (s : State) (n : Nat) : State :=
  let x := s.ten t
  let l := x.lfo n
  let (p, wrapped) := lfoStep s l.sync x.beat l.rate l.period l.phase l.run
  if wrapped then
    let r := 2 * unit01 ((Config.freeWord s.freeCtr).setWidth 32) - 1
    s.drew.updTen t fun x => x.updLfo n fun l => { l with run :=
      { l.run with phase := p, age := l.run.age + 1, rnd := l.run.rndNext, rndNext := r } }
  else s.updTen t fun x => x.updLfo n fun l => { l with run := { l.run with phase := p, age := l.run.age + 1 } }

/-- The tenant LFOs of every tenant with a session. -/
def tenLfosTick (s : State) : State :=
  foldS allTenants s fun s t => if (s.ten t).st = .closed then s else foldS [1, 2, 3, 4, 5, 6, 7, 8] s (tenLfoTick t)

/-- Beats advance by tempo / (6,000 x Fs x OSR) per et. -/
def beatsTick (s : State) : State :=
  foldS allTenants s fun s t => s.updTen t fun x =>
    if x.st = .closed ∨ x.beatOn = false then x else { x with beat := x.beat + mkRat x.tempo (6000 * s.engineRate) }

/-- A beat reset acts at a block boundary. -/
def beatZeros (s : State) : State :=
  foldS allTenants s fun s t => s.updTen t fun x =>
    if x.beatZero then { x with beat := 0, beatOn := true, beatZero := false } else x

/-! ## The voices of one tick (R118) -/

/-- The sends of a voice reach their buses (R169). -/
def addSends (s : State) (l : List (Nat × Int)) : State :=
  foldS l s fun s e => if e.1 < 32 then s.updBus e.1 fun b => { b with send := wrap48 (b.send + e.2) } else s

/-- BANK_OFF, once for each note, to its owner (R297): to the origin's tenant by a record, as R284 carries a note's events. -/
def bankOffEvent (s : State) (v : Voice) (bank : Nat) : State :=
  match v.owner with
  | .tenant t => raiseTo s t .bankOff (BitVec.ofNat 16 bank) (leBytes 4 v.noteId.toNat)
  | .spilled o t => ringSend s (.bankOff o t v.noteId bank)

/-- One voice computes its sample; `again` lists the slots that retriggered at this tick. -/
def computeVoice (again : List (Nat × Nat)) (s : State) (v : Voice) : State :=
  match v.life with
  | .starting _ => s
  | _ =>
    let (w, off) := voiceTick s v (v.startNo == s.core.ticks || again.contains (v.lane, v.slot))
    let s := addSends s (sends s w)
    let s := match off with
      | some b => if v.bankOffRaised then s else bankOffEvent s v b
      | none => s
    let s := foldS (laneBad s w) s fun s a => eccEvent s true (a / 0x40000)
    let w := { w with bankOffRaised := w.bankOffRaised || off.isSome }
    s.setVoice (match w.life with
      | .fading k n => { w with life := .fading (k + 1) n }
      | _ => w)

/-- A voice whose ENV1 has ended leaves its slot (R119); the origin of a spilled note is told. -/
def endVoice (s : State) (v : Voice) : State :=
  if v.sounds && v.ended then
    let s := s.clearVoice v
    match v.owner with
    | .tenant _ => s
    | .spilled o t => ringEnded s o t v.noteId false
  else s

/-- Starts, computes and ends the voices. -/
def voicesTick (s : State) : State :=
  let again := (s.voices.filter fun v => v.started && v.retrig.isSome).map fun v => (v.lane, v.slot)
  let s := tenLfosTick (startAll (endSteals s))
  let s := foldS s.voices s (computeVoice again)
  parkLanes (foldS s.voices s endVoice)

/-! ## Landing and the boundary (R20, R26) -/

/-- The work of a block boundary: put-off switches, the ring frame, class-B writes, beats, lanes, a leave that is over. -/
def boundaryWork (s : State) : State :=
  let s := { s with core := { s.core with boundaryDone := true } }
  let s := beatZeros (landB (ringBoundary (startPutOff s)))
  leaveBoundary (periodicAfterNap (joinLanes s))

/-- The boundary work, when this tick is a boundary on which it has not been done. -/
def atBoundary (s : State) : State :=
  if s.core.tide.isBoundary && !s.core.boundaryDone then boundaryWork s else s

/-- A switch that a reset of this tick put off starts at the next boundary. -/
def CoefSw.settle (w : CoefSw) : CoefSw := if w.phase = .putOff true then { w with phase := .putOff false } else w

/-- What has been executed in this tick lands from the next one on. -/
def rotate (s : State) : State :=
  { s with mix := { s.mix with switches := s.mix.switches.map CoefSw.settle }, readyL := s.readyL ++ s.pendL, pendL := [], readyB := s.readyB ++ s.pendB, pendB := [] }

/-- The writes and sets of class L that land at this tick. -/
def landTick (s : State) : State := landGates (landCvSets (landL s))

/-! ## The tick -/

/-- Strobes come: the boot is over, the core is powered, the master clock runs. -/
def State.strobes (s : State) : Bool :=
  s.fw.boot == .done && s.power.enCore && s.power.st != .hibernate && !s.core.mclkLost

/-- The ENG clock is gated: in NAP, and from AP1 of a HIBERNATE entry. -/
def State.engGated (s : State) : Bool :=
  s.power.st == .nap || (match s.power.entry with
    | some .gated => true
    | some .saved => true
    | some .latched => true
    | _ => false)

/-- TDM ports run: not from AP1 of a HIBERNATE entry. -/
def State.portsRun (s : State) : Bool := match s.power.entry with
  | some .gated => false
  | some .saved => false
  | some .latched => false
  | _ => true

/-- The frames that arrive in a sample at the master IN ports. -/
def sampleIn (s : State) : State := if s.portsRun then foldS (List.range 6) s masterIn else s

/-- The samples that leave at the end of a sample: ports and line outputs. -/
def sampleOut (s : State) : State :=
  let s := if s.portsRun then foldS (List.range 6) s portSample else s
  lineSamples s

/-- One more sample without a voice, or a voice (R326). -/
def quietStep (s : State) : State :=
  { s with power := { s.power with quiet := if s.voices.isEmpty then Nat.min 256 (s.power.quiet + 1) else 0 } }

/-- One tick of idleness with a command scheduled does not count for the HIBERNATE timer; the end of idleness restarts it
(R327). -/
def hibernateCount (s : State) : State :=
  if s.anySchedule then
    { s with power := { s.power with schedTicks := if s.idle then s.power.schedTicks + 1 else 0 } }
  else if s.power.schedTicks ≠ 0 ∧ s.idle = false then { s with power := { s.power with schedTicks := 0 } }
  else s

/-- The end of a sample: scores, ports, line outputs, ring history, the stop fade, the quiet count. -/
def sampleEnd (s : State) : State :=
  let s := if s.engGated then s else { s with voices := s.voices.map (scoreTick s) }
  let s := ringSample (sampleOut s)
  quietStep { s with
    core := { s.core with stopPos := if s.core.run = .stopping then s.core.stopPos + 1 else s.core.stopPos } }

/-- What is left of ring work for the firmware at a tick: spilled-in notes and records that have come (R10). -/
def ringWork (s : State) : State := if s.fwRuns then allFallbacks (landAllDue (startAllArrived s)) else s

/-- A strobe while the engine is stopped: the tide holds 0; writes land, outputs run at the sample rate (R32). -/
def stoppedTick (s : State) : State :=
  let first := s.core.ticks % s.core.osr == 0
  let s := if first then outputSamples s else s
  let s := powerBoundary (landTick (boundaryWork s))
  let s := tickMoves (abandonInputs s)
  let s := if first then quietStep (sampleOut (sampleIn s)) else s
  let s := rotate (hibernateCount s)
  { s with core := { s.core with ticks := s.core.ticks + 1, boundaryDone := false } }

/-- The tide after the present tick; a realignment to the marker drops the sample that would follow, or repeats the one that
ends (R277). -/
def nextTide (s : State) : Tide :=
  let t := s.core.tide.succ s.core.osr
  if t.et ≠ 0 then t
  else match s.ring.slipNow with
    | some true => { t with smp := t.smp + 1 }
    | some false => { t with smp := t.smp - 1 }
    | none => t

/-- The tide goes on; the boundary work is not done again in a sample that is repeated. -/
def advance (s : State) : State :=
  let t := nextTide s
  { s with
    core := { s.core with tide := t, ticks := s.core.ticks + 1, boundaryDone := t.et == 0 && s.ring.slipNow == some false }
    ring := { s.ring with slipNow := if t.et = 0 then none else s.ring.slipNow } }

/-- A strobe while the engine runs. -/
def runningTick (s : State) : State :=
  let first := s.core.tide.et == 0
  let last := s.core.tide.et + 1 == s.core.osr
  let s := if first then outputSamples (endDueFades s) else s
  let s := landTick (atBoundary s)
  let s := if s.core.tide.isBoundary then powerBoundary s else s
  let s := ringWork s
  let s := tickMoves (abandonInputs s)
  let s := if last then sampleIn s else s
  let s := if s.engGated then s else foldS allBuses (voicesTick s) busTick
  let s := beatsTick s
  let s := if last then sampleEnd s else s
  let s := advance (rotate (hibernateCount s))
  if s.stopDue && !s.power.quiesceFade then stopNow s else s

/-- ENGINE_TICK. -/
def tick (s : State) : State :=
  if s.strobes then settleSessions (if s.engStopped then stoppedTick s else runningTick s) else s

/-! ## The rows -/

/-- ENGINE_TICK. -/
def execEngineTick (s : State) : Host.Outcome State Fault Refusal := .next (tick s)

/-- STEAL_FADE_END: the fade of this slot is over. -/
def execStealFadeEnd (lane : Fin 8) (slot : Fin 48) (s : State) : Host.Outcome State Fault Refusal :=
  .next (match s.voices.find? fun v => v.lane == lane.val && v.slot == slot.val with
    | some v => if v.fadeOver && s.strobes then endSteal s v else s
    | none => s)

/-- BLOCK_BOUNDARY: the boundary work of the tick about to be computed. -/
def execBlockBoundary (s : State) : Host.Outcome State Fault Refusal := .next (if s.strobes then atBoundary s else s)

end Sys2Proof.Machine
end

