-- ==== Sys2Proof/Machine/Take.lean ====
section
/-! DEFINITION. TAKE_ENTRY and COMMAND_DUE: which submission entry the firmware takes (R69, R80), the checks of
Table 03-4, the classification of a timestamp (R22), and the execution of a scheduled command at its due tick. -/

namespace Sys2Proof.Machine

/-! ## Which entry (R69, R80) -/

/-- A header flag (Table 03-5): 0 TIMED, 1 FENCE, 2 QUIET, 3 URGENT. -/
def SqEntry.flag (e : SqEntry) (n : Nat) : Bool := e.flags.testBit n

/-- The entry a tenant offers next: its first URGENT one, else its oldest. -/
def TenantSt.nextEntry (x : TenantSt) : Option SqEntry :=
  match x.sq.find? fun e => e.flag 3 with
  | some e => some e
  | none => x.sq.head?

/-- The entry the firmware can take from a tenant now: its completion queue has room for the largest group (R80). -/
def TenantSt.offers (x : TenantSt) : Option SqEntry :=
  if x.free then
    match x.nextEntry with
    | some e => if (if e.lost then 1 else opReserve e.op) ≤ x.cqFree then some e else none
    | none => none
  else none

/-- The tenants in round-robin order. -/
def State.turn (s : State) : List Tenant := allTenants.map fun t => t + s.fw.rr

/-- The tenant and entry that come next: URGENT entries of any tenant first. -/
def State.candidateEntry (s : State) : Option (Tenant × SqEntry) :=
  let l := s.turn.filterMap fun t => (s.ten t).offers.map fun e => (t, e)
  match l.find? fun p => p.2.flag 3 with
  | some p => some p
  | none => l.head?

/-! ## The checks (Table 03-4) -/

/-- Step 7: a header bit or byte that must be 0 is not. -/
def SqEntry.badFrame (e : SqEntry) : Bool :=
  decide (128 ≤ byteAt e.header 4) || decide (8 ≤ byteAt e.header 5) || decide (16 ≤ e.flags) ||
    field e.header 14 2 != 0 || (!e.flag 0 && field e.header 8 6 != 0)

/-- Step 8: the opcodes a tenant's state executes (Table 03-2), and the status of the others. -/
def stateRefuses (st : TState) (op : Nat) : Option Status :=
  match st with
  | .closed => if op ≤ 2 then none else some .tenantClosed
  | .faulted => if op ≤ 4 ∨ op = 6 ∨ op = 7 then none else some .tenantFaulted
  | _ => none

/-- What the checks from step 6 on find: a refusal with its SHORT, or the payload with its et. -/
inductive Verdict12 where
  | refuse (st : Status) (short : BitVec 16)
  | accept (b : Body) (et : Nat)
  | openLen
  deriving DecidableEq, Repr

/-- Step 12: the payload, then the timestamp. -/
def checkPayload (s : State) (t : Tenant) (e : SqEntry) (d : Int) : Verdict12 :=
  let c : PCtx := { osr := s.core.osr, timed := e.flag 0, window := (s.ten t).windowBytes, tag := e.tag.val }
  match parse c e.op e.payload with
  | .badLen => .openLen
  | .bad off => .refuse .badField (BitVec.ofNat 16 off)
  | .good b et => if e.flag 0 ∧ 2 ^ 20 < d then .refuse .badField 0xFFFF else .accept b et

/-- Steps 6 to 12 in order. -/
def checkEntry (s : State) (t : Tenant) (e : SqEntry) (ecc : EntryEcc) (d : Int) : Verdict12 :=
  let x := s.ten t
  if e.tag = 127 ∨ (x.find e.tag).isSome = true then .refuse .badTag 0
  else if e.badFrame || ecc == .entryBad then .refuse .badFrame 0
  else match stateRefuses x.st e.op with
    | some st => .refuse st 0
    | none =>
      if !opKnown e.op then .refuse .badOpcode 0
      else if opSteward e.op ∧ t ≠ 0 then .refuse .noRights 0
      else if !s.hasField && opField e.op e.payload then .refuse .notPresent 0
      else checkPayload s t e d

/-- Writes the record of a command that is not accepted, and stores it where the table says so. -/
def refuse (s : State) (t : Tenant) (e : SqEntry) (st : Status) (short : BitVec 16) : State :=
  let r := entryRec s e st short
  s.updTen t fun x => (x.writeGroup r []).storeEcho r

/-- Step 13: the command is in flight. A timed one is past (LATE) or scheduled (Table 01-5). An ABORT that is not scheduled
is judged at this moment (Table 03-7), whatever FENCE its own start waits for. -/
def accept (s : State) (t : Tenant) (e : SqEntry) (d : Int) (b : Body) (et : Nat) : State :=
  let late := e.flag 0 && decide (d ≤ 0)
  let c : InFlight := {
    tag := e.tag, seq := e.seq, op := BitVec.ofNat 8 e.op, timed := e.flag 0, fence := e.flag 1, quiet := e.flag 2,
    due := BitVec.ofNat 48 (field e.header 8 6), et := et, late := late,
    phase := if e.flag 0 && !late then .scheduled else .waiting,
    reserve := opReserve e.op, body := b, execAt := none }
  let s := s.updTen t fun x => { x with inflight := x.inflight ++ [c] }
  match b with
  | .abort target => if c.phase = .waiting then judgeAbort s t e.tag target else s
  | _ => s

/-- Steps 6 to 13. A payload of a wrong length is BAD_FIELD with an offset no rule states: a free value. -/
def judge (s : State) (t : Tenant) (e : SqEntry) (ecc : EntryEcc) : State :=
  let d := smpDiff (BitVec.ofNat 48 (field e.header 8 6)) s.smp
  match checkEntry s t e ecc d with
  | .refuse st short => refuse s t e st short
  | .openLen => refuse s.drew t e .badField ((Config.freeWord s.freeCtr).setWidth 16)
  | .accept b et => accept s t e d b et

/-- A stored completion is written again with DUP; one whose echo entry cannot be read is LOST (Table 12-5). -/
def resendEcho (s : State) (t : Tenant) (r : Rec) (ecc : EntryEcc) : State :=
  let r := if ecc = .echoBad then { r with status := Status.lost.code, len := 0, short := 0, flags := 1 }
    else { r with flags := (r.flags &&& 7) ||| 1 }
  s.updTen t fun x => x.writeGroup r []

/-- Steps 1 to 5, on an entry that has left the queue. -/
def checkTaken (s : State) (t : Tenant) (e : SqEntry) (ecc : EntryEcc) : State :=
  let x := s.ten t
  let d := (e.seq - x.seqHigh).toNat
  if x.flying e.seq then s
  else match x.echoOf e.seq with
    | some r => resendEcho s t r ecc
    | none =>
      if e.op = 2 then judge s t e ecc
      else if 129 ≤ d ∧ d ≤ 32767 then s.updTen t fun x => x.writeGroup (entryRec s e .seqGap 0) []
      else if x.inWindow e.seq = false ∧ ¬(1 ≤ d ∧ d ≤ 128) then
        s.updTen t fun x => x.writeGroup (entryRec s e .staleSeq 0) []
      else
        let s := if 1 ≤ d ∧ d ≤ 128 then s.updTen t fun x => x.setHigh e.seq else s
        judge s t e ecc

/-- What exchange-RAM ECC found while the entry was read (R303). -/
def entryEcc (s : State) (ecc : EntryEcc) : State :=
  match ecc with
  | .clean => s
  | .corrected => eccEvent s false 48
  | _ => eccEvent s true 48

/-- TAKE_ENTRY: the entry that comes next leaves its queue and is checked; an entry that a restart has lost is answered
LOST. The round robin goes on behind the tenant whose entry is taken, also when the entry is URGENT: R69 does not say
whether an URGENT entry moves the turn (log entry 4). -/
def takeEntry (s : State) (ecc : EntryEcc) : State :=
  if s.fwRuns then
    match s.candidateEntry with
    | none => s
    | some (t, e) =>
      let s := { s with fw := { s.fw with rr := t + 1 } }
      if e.lost then loseEntry s t e
      else
        let s := s.updTen t fun x => { x with sq := x.sq.erase e }
        entryEcc (checkTaken s t e ecc) ecc
  else s

/-! ## Execution of a scheduled command (R22, R23) -/

/-- Every command by its payload. -/
def execBody (s : State) (t : Tenant) (g : Tag) (c : InFlight) (hw : HwAnswer) : State :=
  match c.body with
  | .nop => ok s t g
  | .identify => okBytes s t g (s.identity t)
  | .heartbeat => okBytes s t g (s.heartbeat t)
  | .tenantClose => doClose s t g
  | .keyscanStatus => doKeyscanStatus s t g
  | .padRelease => doPadRelease s t g
  | .chainInfo => okBytes s t g s.chainInfo
  | .ringStart => doRingStart s t g
  | .ringStatus => okBytes s t g s.ringStatus
  | .ringLeave => doRingLeave s t g
  | .calStore => doCalStore s t g
  | .fwActivate => doFwActivate s t g hw
  | .deviceReset => doDeviceReset s t g
  | .tenantOpen r => doOpen s t g r
  | .tenantReset u => doReset s t g u
  | .abort x => doAbort s t g x
  | .propGet u p => doPropGet s t g u p
  | .propSet u p v => doPropSet s t g u p v
  | .noteOn a => doNoteOn s t g a
  | .noteOff id r => noteCmd s t g id (.off r)
  | .noteBend id n => noteCmd s t g id (.bend n)
  | .notePressure id v => noteCmd s t g id (.pressure v)
  | .noteRetarget id k => noteCmd s t g id (.retarget k)
  | .allRelease p f => doAllRelease s t g p f
  | .ump l => doUmp s t g l
  | .voiceParam id l => doVoiceParam s t g id l
  | .partParam p l => doPartParam s t g p l
  | .patchWrite n w => doPatchWrite s t g n w
  | .patchRead n w => doPatchRead s t g n w hw
  | .patchSelect p n => doPatchSelect s t g p n hw
  | .waveWrite b o w n => doWaveWrite s t g b o w n
  | .waveRead b o w n => doWaveRead s t g b o w n
  | .waveMap a => doWaveMap s t g a
  | .waveLoadSealed a => doLoadSealed s t g a hw
  | .busGain b n => doBusWrite s t g b fun i => .busGain i n
  | .busEnable b on => doBusWrite s t g b fun i => .busEnable i on
  | .busResync b => doBusWrite s t g b fun i => .busResync i
  | .busRing b on => doBusWrite s t g b fun i => .busRing i on
  | .decimConfig p => doDecim s t g p
  | .coefLoad m l => doCoefLoad s t g m l
  | .coefSwitch m => doCoefSwitch s t g m
  | .detectBuses d m => doDetectBuses s t g d m
  | .detectNote _ id => doDetectNote s t g id
  | .cvConfig a => doCvConfig s t g a
  | .cvSet l => doCvSet s t g c.timed l
  | .cvQueue n l => doCvQueue s t g (if c.timed then some c.due else none) n.val l
  | .gateSet m l => doGateSet s t g c.timed m l
  | .lineConfig a => doLineConfig s t g a
  | .ciConfig n r k => doCiConfig s t g n r k
  | .keyscanConfig m u p => doKeyscanConfig s t g m u p
  | .scConfig a => doScConfig s t g a
  | .scSend n b => doScSend s t g n.val b
  | .scBreak n k => doScBreak s t g n.val k
  | .cardStart => doCardStart s t g
  | .cardExchange d h l => doCardExchange s t g d h l
  | .cardStop => doCardStop s t g
  | .memBankState k n st => doBankState s t g k n st
  | .vaultLoad n w => doKeyLoad s t g n w hw
  | .vaultErase n => doKeyErase s t g n hw
  | .lifecycle l d k => doLifecycle s t g l d k hw
  | .powerPolicy a => doPolicy s t g a
  | .powerEnter st => doPowerEnter s t g st
  | .wakeConfig m n => doWakeConfig s t g m n
  | .calRun a m => doCalRun s t g a m
  | .calRead a i => doCalRead s t g a i
  | .selftest a m => doSelftest s t g a m
  | .laneService n i => doLaneService s t g n.val i
  | .fwStage o w n f => doFwStage s t g o w n f hw

/-- COMMAND_DUE: the scheduled command on a tag executes at its due tick, or LATE after it. -/
def commandDue (s : State) (t : Tenant) (g : Tag) (hw : HwAnswer) : State :=
  match dueCmd s t g with
  | none => s
  | some c =>
    let late := decide (({ smp := c.due, et := c.et } : Tide).num < s.core.tide.num)
    execBody (s.updTen t fun x => x.updCmd g fun c => { c with late := c.late || late }) t g c hw

/-! ## The rows -/

/-- TAKE_ENTRY. -/
def execTakeEntry (ecc : EntryEcc) (s : State) : Host.Outcome State Fault Refusal := .next (takeEntry s ecc)

/-- COMMAND_DUE. -/
def execCommandDue (t : Tenant) (g : Tag) (hw : HwAnswer) (s : State) : Host.Outcome State Fault Refusal :=
  .next (commandDue s t g hw)

end Sys2Proof.Machine
end

