-- ==== Sys2Proof/Machine/Dispatch.lean ====
section
/-! DEFINITION. The meaning of every command: one arm for each constructor of `Instr`. -/

namespace Sys2Proof.Machine

def exec (i : Instr) (s : State) : Host.Outcome State Fault Refusal :=
  match i with
  | .submitCommit f => Sys2Proof.Machine.execSubmitCommit f s
  | .reapCommit f bad => Sys2Proof.Machine.execReapCommit f bad s
  | .lreadCommit f => Sys2Proof.Machine.execLreadCommit f s
  | .lwriteCommit f => Sys2Proof.Machine.execLwriteCommit f s
  | .enumerateCommit f => Sys2Proof.Machine.execEnumerateCommit f s
  | .confirmFrameCommit f => Sys2Proof.Machine.execConfirmFrameCommit f s
  | .bulkWriteCommit f => Sys2Proof.Machine.execBulkWriteCommit f s
  | .bulkReadCommit f => Sys2Proof.Machine.execBulkReadCommit f s
  | .frameDiscard f => Sys2Proof.Machine.execFrameDiscard f s
  | .unitAddrWrite v => Sys2Proof.Machine.execUnitAddrWrite v s
  | .irqSumClear v => Sys2Proof.Machine.execIrqSumClear v s
  | .linkRegisterWrite off v => Sys2Proof.Machine.execLinkRegisterWrite off v s
  | .takeEntry ecc => Sys2Proof.Machine.execTakeEntry ecc s
  | .commandDue t g hw => Sys2Proof.Machine.execCommandDue t g hw s
  | .nop t g => Sys2Proof.Machine.execNop t g s
  | .identify t g => Sys2Proof.Machine.execIdentify t g s
  | .tenantOpen t g => Sys2Proof.Machine.execTenantOpen t g s
  | .tenantClose t g => Sys2Proof.Machine.execTenantClose t g s
  | .tenantReset t g => Sys2Proof.Machine.execTenantReset t g s
  | .tenantResetDone t => Sys2Proof.Machine.execTenantResetDone t s
  | .heartbeat t g => Sys2Proof.Machine.execHeartbeat t g s
  | .abort t g => Sys2Proof.Machine.execAbort t g s
  | .propGet t g => Sys2Proof.Machine.execPropGet t g s
  | .propSet t g => Sys2Proof.Machine.execPropSet t g s
  | .engRunStop t g => Sys2Proof.Machine.execEngRunStop t g s
  | .engRunRun t g => Sys2Proof.Machine.execEngRunRun t g s
  | .busStopFadeEnd => Sys2Proof.Machine.execBusStopFadeEnd s
  | .tenantBeatReset t g => Sys2Proof.Machine.execTenantBeatReset t g s
  | .tenantWindowResize t g => Sys2Proof.Machine.execTenantWindowResize t g s
  | .tpEnableWrite t g => Sys2Proof.Machine.execTpEnableWrite t g s
  | .gtEnableWrite t g => Sys2Proof.Machine.execGtEnableWrite t g s
  | .vaultTamperedClear t g => Sys2Proof.Machine.execVaultTamperedClear t g s
  | .noteOn t g => Sys2Proof.Machine.execNoteOn t g s
  | .noteOff t g => Sys2Proof.Machine.execNoteOff t g s
  | .noteChangeBend t g => Sys2Proof.Machine.execNoteChangeBend t g s
  | .noteChangePressure t g => Sys2Proof.Machine.execNoteChangePressure t g s
  | .noteChangeRetarget t g => Sys2Proof.Machine.execNoteChangeRetarget t g s
  | .allRelease t g => Sys2Proof.Machine.execAllRelease t g s
  | .allReleaseFade t g => Sys2Proof.Machine.execAllReleaseFade t g s
  | .ump t g => Sys2Proof.Machine.execUmp t g s
  | .voiceParam t g => Sys2Proof.Machine.execVoiceParam t g s
  | .partParam t g => Sys2Proof.Machine.execPartParam t g s
  | .patchWrite t g => Sys2Proof.Machine.execPatchWrite t g s
  | .patchRead t g hw => Sys2Proof.Machine.execPatchRead t g hw s
  | .patchSelect t g hw => Sys2Proof.Machine.execPatchSelect t g hw s
  | .waveWrite t g => Sys2Proof.Machine.execWaveWrite t g s
  | .waveRead t g => Sys2Proof.Machine.execWaveRead t g s
  | .waveMap t g => Sys2Proof.Machine.execWaveMap t g s
  | .waveLoadSealed t g hw => Sys2Proof.Machine.execWaveLoadSealed t g hw s
  | .sealedLoadDone t g => Sys2Proof.Machine.execSealedLoadDone t g s
  | .busConfigGain t g => Sys2Proof.Machine.execBusConfigGain t g s
  | .busConfigEnable t g => Sys2Proof.Machine.execBusConfigEnable t g s
  | .busConfigResync t g => Sys2Proof.Machine.execBusConfigResync t g s
  | .busConfigRing t g => Sys2Proof.Machine.execBusConfigRing t g s
  | .decimConfig t g => Sys2Proof.Machine.execDecimConfig t g s
  | .coefLoad t g => Sys2Proof.Machine.execCoefLoad t g s
  | .coefSwitch t g => Sys2Proof.Machine.execCoefSwitch t g s
  | .coefFadeEnd bus => Sys2Proof.Machine.execCoefFadeEnd bus s
  | .detectRead t g => Sys2Proof.Machine.execDetectRead t g s
  | .cvConfig t g => Sys2Proof.Machine.execCvConfig t g s
  | .cvSet t g => Sys2Proof.Machine.execCvSet t g s
  | .cvQueue t g => Sys2Proof.Machine.execCvQueue t g s
  | .gateSet t g => Sys2Proof.Machine.execGateSet t g s
  | .lineConfig t g => Sys2Proof.Machine.execLineConfig t g s
  | .padRelease t g => Sys2Proof.Machine.execPadRelease t g s
  | .ciConfig t g => Sys2Proof.Machine.execCiConfig t g s
  | .keyscanConfig t g => Sys2Proof.Machine.execKeyscanConfig t g s
  | .keyscanStatus t g => Sys2Proof.Machine.execKeyscanStatus t g s
  | .scConfig t g => Sys2Proof.Machine.execScConfig t g s
  | .scSend t g => Sys2Proof.Machine.execScSend t g s
  | .scBreak t g => Sys2Proof.Machine.execScBreak t g s
  | .cardSessionStart t g => Sys2Proof.Machine.execCardSessionStart t g s
  | .cardSessionExchange t g => Sys2Proof.Machine.execCardSessionExchange t g s
  | .cardSessionStop t g => Sys2Proof.Machine.execCardSessionStop t g s
  | .chainInfo t g => Sys2Proof.Machine.execChainInfo t g s
  | .ringStart t g => Sys2Proof.Machine.execRingStart t g s
  | .ringStatus t g => Sys2Proof.Machine.execRingStatus t g s
  | .ringLeave t g => Sys2Proof.Machine.execRingLeave t g s
  | .memBankState t g => Sys2Proof.Machine.execMemBankState t g s
  | .bankTransitionDone kind bank => Sys2Proof.Machine.execBankTransitionDone kind bank s
  | .vaultKeyLoad t g hw => Sys2Proof.Machine.execVaultKeyLoad t g hw s
  | .vaultKeyErase t g hw => Sys2Proof.Machine.execVaultKeyErase t g hw s
  | .lifecycleAdvance t g hw => Sys2Proof.Machine.execLifecycleAdvance t g hw s
  | .powerPolicy t g => Sys2Proof.Machine.execPowerPolicy t g s
  | .powerEnterDoze t g => Sys2Proof.Machine.execPowerEnterDoze t g s
  | .powerEnterNap t g => Sys2Proof.Machine.execPowerEnterNap t g s
  | .powerEnterHibernate t g => Sys2Proof.Machine.execPowerEnterHibernate t g s
  | .wakeConfig t g => Sys2Proof.Machine.execWakeConfig t g s
  | .calRun t g => Sys2Proof.Machine.execCalRun t g s
  | .calRunDone m => Sys2Proof.Machine.execCalRunDone m s
  | .calStore t g => Sys2Proof.Machine.execCalStore t g s
  | .calRead t g => Sys2Proof.Machine.execCalRead t g s
  | .selftest t g => Sys2Proof.Machine.execSelftest t g s
  | .laneServiceOut t g => Sys2Proof.Machine.execLaneServiceOut t g s
  | .laneServiceIn t g => Sys2Proof.Machine.execLaneServiceIn t g s
  | .laneSelftestDone lane pass => Sys2Proof.Machine.execLaneSelftestDone lane pass s
  | .laneDrainLimit lane elapsedMs => Sys2Proof.Machine.execLaneDrainLimit lane elapsedMs s
  | .fwStage t g hw => Sys2Proof.Machine.execFwStage t g hw s
  | .fwActivate t g hw => Sys2Proof.Machine.execFwActivate t g hw s
  | .deviceReset t g => Sys2Proof.Machine.execDeviceReset t g s
  | .warmReset rd => Sys2Proof.Machine.execWarmReset rd s
  | .engineTick => Sys2Proof.Machine.execEngineTick s
  | .stealFadeEnd lane slot => Sys2Proof.Machine.execStealFadeEnd lane slot s
  | .blockBoundary => Sys2Proof.Machine.execBlockBoundary s
  | .hostLossTimeout t elapsedMs => Sys2Proof.Machine.execHostLossTimeout t elapsedMs s
  | .eventsDroppedNotice t => Sys2Proof.Machine.execEventsDroppedNotice t s
  | .ctlWatchdogRestart b => Sys2Proof.Machine.execCtlWatchdogRestart b s
  | .ctlFirmwareReturn => Sys2Proof.Machine.execCtlFirmwareReturn s
  | .powerOnReset nvmUp => Sys2Proof.Machine.execPowerOnReset nvmUp s
  | .resetNAssert lowNs => Sys2Proof.Machine.execResetNAssert lowNs s
  | .bootComplete laneFail rd => Sys2Proof.Machine.execBootComplete laneFail rd s
  | .vddEngTimeout => Sys2Proof.Machine.execVddEngTimeout s
  | .tamperDetect seen => Sys2Proof.Machine.execTamperDetect seen s
  | .fieldSelftestPass vfUp => Sys2Proof.Machine.execFieldSelftestPass vfUp s
  | .fieldLinkSilence => Sys2Proof.Machine.execFieldLinkSilence s
  | .fieldLinkDark => Sys2Proof.Machine.execFieldLinkDark s
  | .fieldLinkRecover => Sys2Proof.Machine.execFieldLinkRecover s
  | .fieldDieFault cause => Sys2Proof.Machine.execFieldDieFault cause s
  | .fieldSupplyLow => Sys2Proof.Machine.execFieldSupplyLow s
  | .vddFaRise => Sys2Proof.Machine.execVddFaRise s
  | .mclkLoss => Sys2Proof.Machine.execMclkLoss s
  | .mclkRestore => Sys2Proof.Machine.execMclkRestore s
  | .frameEdgeCapture rising => Sys2Proof.Machine.execFrameEdgeCapture rising s
  | .thermalSample tjC => Sys2Proof.Machine.execThermalSample tjC s
  | .thermalSoftStep => Sys2Proof.Machine.execThermalSoftStep s
  | .markerArrival m => Sys2Proof.Machine.execMarkerArrival m s
  | .gossipSection entries crcOk => Sys2Proof.Machine.execGossipSection entries crcOk s
  | .sumSection sums crcOk => Sys2Proof.Machine.execSumSection sums crcOk s
  | .totalSection sums crcOk => Sys2Proof.Machine.execTotalSection sums crcOk s
  | .startRecordReceived dieId fsIndex => Sys2Proof.Machine.execStartRecordReceived dieId fsIndex s
  | .startRecordTimer => Sys2Proof.Machine.execStartRecordTimer s
  | .keeperRecordReceived r => Sys2Proof.Machine.execKeeperRecordReceived r s
  | .electionWindowEnd => Sys2Proof.Machine.execElectionWindowEnd s
  | .joinNoticeReceived h d => Sys2Proof.Machine.execJoinNoticeReceived h d s
  | .joinBoundary m => Sys2Proof.Machine.execJoinBoundary m s
  | .leaveNoticeReceived h d => Sys2Proof.Machine.execLeaveNoticeReceived h d s
  | .ringLeaveBoundary => Sys2Proof.Machine.execRingLeaveBoundary s
  | .ringLaneLoss laneA neighbour => Sys2Proof.Machine.execRingLaneLoss laneA neighbour s
  | .ringHeal m => Sys2Proof.Machine.execRingHeal m s
  | .ringUnfold m => Sys2Proof.Machine.execRingUnfold m s
  | .spilledNoteArrival n => Sys2Proof.Machine.execSpilledNoteArrival n s
  | .spilledNoteStart origin t noteId => Sys2Proof.Machine.execSpilledNoteStart origin t noteId s
  | .spillStartReport h t id => Sys2Proof.Machine.execSpillStartReport h t id s
  | .spillRefusal h t id => Sys2Proof.Machine.execSpillRefusal h t id s
  | .spillFallbackSteal t noteId => Sys2Proof.Machine.execSpillFallbackSteal t noteId s
  | .spillCommandRecord r => Sys2Proof.Machine.execSpillCommandRecord r s
  | .spillEndRecord h t id b => Sys2Proof.Machine.execSpillEndRecord h t id b s
  | .ringAckReceived seq => Sys2Proof.Machine.execRingAckReceived seq s
  | .ringItemResend => Sys2Proof.Machine.execRingItemResend s
  | .ringItemGiveUp seq => Sys2Proof.Machine.execRingItemGiveUp seq s
  | .spillReportTimeout t g => Sys2Proof.Machine.execSpillReportTimeout t g s
  | .originSilent origin => Sys2Proof.Machine.execOriginSilent origin s
  | .cvSafeEnd n => Sys2Proof.Machine.execCvSafeEnd n s
  | .lineSafeEnd n => Sys2Proof.Machine.execLineSafeEnd n s
  | .lineDisableEnd n => Sys2Proof.Machine.execLineDisableEnd n s
  | .cvLimitBegin o positive => Sys2Proof.Machine.execCvLimitBegin o positive s
  | .cvLimitTimeout o => Sys2Proof.Machine.execCvLimitTimeout o s
  | .cvRetryTimer o => Sys2Proof.Machine.execCvRetryTimer o s
  | .cvRetryEnd o limited => Sys2Proof.Machine.execCvRetryEnd o limited s
  | .cvEpisodeEnd o => Sys2Proof.Machine.execCvEpisodeEnd o s
  | .pairSuspect a b => Sys2Proof.Machine.execPairSuspect a b s
  | .lineLimitBegin n => Sys2Proof.Machine.execLineLimitBegin n s
  | .lineLimitClear n => Sys2Proof.Machine.execLineLimitClear n s
  | .senseInjection n diffMv => Sys2Proof.Machine.execSenseInjection n diffMv s
  | .senseOpenDetect n diffMv => Sys2Proof.Machine.execSenseOpenDetect n diffMv s
  | .ciSample c bits => Sys2Proof.Machine.execCiSample c bits s
  | .ciOverloadEnd c => Sys2Proof.Machine.execCiOverloadEnd c s
  | .keyScan r => Sys2Proof.Machine.execKeyScan r s
  | .keyRestCaptureDone => Sys2Proof.Machine.execKeyRestCaptureDone s
  | .keyCellFaultClear cell => Sys2Proof.Machine.execKeyCellFaultClear cell s
  | .scCharReceived ch e h => Sys2Proof.Machine.execScCharReceived ch e h s
  | .scLineRise ch lowCycles => Sys2Proof.Machine.execScLineRise ch lowCycles s
  | .scBreakSaturate ch => Sys2Proof.Machine.execScBreakSaturate ch s
  | .scRxDeliver ch oldestMs => Sys2Proof.Machine.execScRxDeliver ch oldestMs s
  | .scTxCharacter ch ctsHigh => Sys2Proof.Machine.execScTxCharacter ch ctsHigh s
  | .scTxBreakStart ch ctsHigh => Sys2Proof.Machine.execScTxBreakStart ch ctsHigh s
  | .scTxBreakEnd ch => Sys2Proof.Machine.execScTxBreakEnd ch s
  | .scWakeEdge ch => Sys2Proof.Machine.execScWakeEdge ch s
  | .scWakeRearm ch => Sys2Proof.Machine.execScWakeRearm ch s
  | .cardDetectChange present => Sys2Proof.Machine.execCardDetectChange present s
  | .cardActivationTimer => Sys2Proof.Machine.execCardActivationTimer s
  | .cardTsReceived moments t3 => Sys2Proof.Machine.execCardTsReceived moments t3 s
  | .cardTsTimeout => Sys2Proof.Machine.execCardTsTimeout s
  | .cardCharReceived m => Sys2Proof.Machine.execCardCharReceived m s
  | .cardWaitTimeout => Sys2Proof.Machine.execCardWaitTimeout s
  | .tdmSlaveFrame p bclks words => Sys2Proof.Machine.execTdmSlaveFrame p bclks words s
  | .tdmNoClock p => Sys2Proof.Machine.execTdmNoClock p s
  | .idleTimerExpiry idleMs => Sys2Proof.Machine.execIdleTimerExpiry idleMs s
  | .idlenessEnd => Sys2Proof.Machine.execIdlenessEnd s
  | .powerEntryBegin => Sys2Proof.Machine.execPowerEntryBegin s
  | .hibernateEntry => Sys2Proof.Machine.execHibernateEntry s
  | .hibernateQuiesceDone => Sys2Proof.Machine.execHibernateQuiesceDone s
  | .wakeDuringEntry src => Sys2Proof.Machine.execWakeDuringEntry src s
  | .napTideComparator => Sys2Proof.Machine.execNapTideComparator s
  | .napWake src => Sys2Proof.Machine.execNapWake src s
  | .wakeNEdge lowNs => Sys2Proof.Machine.execWakeNEdge lowNs s
  | .aonTimerWake elapsedS => Sys2Proof.Machine.execAonTimerWake elapsedS s
  | .keyPressWake => Sys2Proof.Machine.execKeyPressWake s
  | .hibernateWake src saveBad digestBad rd => Sys2Proof.Machine.execHibernateWake src saveBad digestBad rd s
  | .waveScrub found corrected => Sys2Proof.Machine.execWaveScrub found corrected s
  | .lifeSecond => Sys2Proof.Machine.execLifeSecond s
  | .lifeHourlyStore hw => Sys2Proof.Machine.execLifeHourlyStore hw s
  | .periodicTrim elapsedS => Sys2Proof.Machine.execPeriodicTrim elapsedS s
  | .limitExit o => Sys2Proof.Machine.execLimitExit o s
  | .vddNvmInRange rd => Sys2Proof.Machine.execVddNvmInRange rd s
  | .vddEngOutOfRange => Sys2Proof.Machine.execVddEngOutOfRange s
  | .selftestDone failMask => Sys2Proof.Machine.execSelftestDone failMask s
  | .periodicTrimDone m => Sys2Proof.Machine.execPeriodicTrimDone m s
  | .calStoreDone verify => Sys2Proof.Machine.execCalStoreDone verify s
  | .waveWriteDone t g => Sys2Proof.Machine.execWaveWriteDone t g s
  | .foldNoticeReceived h d => Sys2Proof.Machine.execFoldNoticeReceived h d s

end Sys2Proof.Machine
end

