-- ==== Sys2Proof/Safety.lean ====
section
/-! DEFINITION. The terms in which the statements speak of the block: what a good state is, when a command that is in
flight may start, and what its completion leaves (R77 to R79, R88). -/

namespace Sys2Proof.Machine

/-! ## Good states -/

/-- Every memory of the state is canonical: wave memory, the firmware slots, the firmware SRAM and the staging
windows. -/
def State.memoriesWf (s : State) : Bool :=
  Memory.wf s.mem.wave && Memory.wf s.nvm.fwA && Memory.wf s.nvm.fwB && Memory.wf s.fw.sram &&
    s.tenants.all fun e => Memory.wf e.2.window

/-- UNIT_ADDR holds an assigned address or 30 (R53, R61), and an address held tentatively is one that can be assigned
(R57, Table 02-3). -/
def Link.addrOk (l : Link) : Prop :=
  (l.unitAddr.toNat < 16 ∨ l.unitAddr = 30) ∧ ∀ a, l.tentative = some a → a.toNat < 16

/-! ## Frames -/

/-- The state in which a committed frame takes effect: its read phase is over, an offer that it ends has ended, the
discards before it are counted (Table 02-5). -/
def State.framed (s : State) (f : RawFrame) (addr : Nat) : State :=
  commitBegin (endOffer (readPhaseOp s f addr) addr) f

/-- The state with a response staged and the frame counted (R46, Table 02-9). -/
def State.responded (s : State) (resp : List Byte) : State :=
  { s with link := { s.link with framesOk := s.link.framesOk + 1, staged := some resp } }

/-- The host-loss watchdog of a tenant starts again (R62). -/
def State.fed (s : State) (t : Tenant) : State := s.updTen t fun x => { x with lossMs := 0 }

/-- A frame with one header (its CRC-16 follows it), one request payload (its CRC-32 follows it) and no rival, in single
mode, with a read phase of `read` bytes (Table 02-2, R42). -/
def plainFrame (h p : List Byte) (read tail : Nat) (enumIn : Bool) : RawFrame :=
  { hdr := h ++ leBytes 2 (crc16 h).toNat, read := read, body := p ++ leBytes 4 (crc32 p).toNat, tail := tail, quad := false,
    enumIn := enumIn, rivals := [] }

/-- The frame commits at this unit, whose address is `addr`, or at every unit (address 31), as an ordinary frame of a
kind with a payload. -/
structure Arrives (s : State) (f : RawFrame) (addr kind : Nat) (p : List Byte) : Prop where
  assigned : s.link.assigned = true
  plain : s.link.isConfirm addr = false
  commits : classify s.link f = .commits addr kind p
  here : addr = s.link.unitAddr.toNat ∨ addr = 31

/-! ## Commands -/

/-- No ABORT of the tenant waits for a command that executes (Table 03-7). -/
def TenantSt.noAbortWaits (x : TenantSt) : Prop :=
  ∀ d ∈ x.inflight, ∀ g : Tag, d.phase = .executing → d.body ≠ .abort g

/-- The command on tag `g` of tenant `t` is `c` with the checked payload `b`; it may start, it is not QUIET, and no
ABORT waits in its tenant. -/
structure Starts (s : State) (t : Tenant) (g : Tag) (c : InFlight) (b : Body) : Prop where
  start : startable s t g = some c
  body : c.body = b
  loud : c.quiet = false
  calm : (s.ten t).noAbortWaits

/-- A tenant after the completion of its command `c`: the record and its continuation slots stand in the completion
queue, the echo store has the record without MORE, the tag is free (R77 to R79). -/
def TenantSt.answered (x : TenantSt) (c : InFlight) (st : Status) (res : Result) (tide : Smp) : TenantSt :=
  let late := c.late && st != .aborted && st != .lost
  let r := mkRec c.op (lateStatus late st) c.seq c.tag late res tide
  ({ x with
      inflight := x.inflight.filter fun d => d.tag != c.tag
      doneTags := bankPut x.doneTags c.tag.val c.seq
      cq := x.cq ++ (CqSlot.record r :: (pieces 16 ((res.cont.length + 15) / 16) res.cont).map CqSlot.cont) } :
    TenantSt).storeEcho { r with flags := r.flags &&& 7 }

/-- The state after the completion of command `c` of tenant `t`, and nothing else. TIDE is the tick of the executed
change where there is one, else the present one (R88). -/
def State.answer (s : State) (t : Tenant) (c : InFlight) (st : Status) (res : Result) : State :=
  s.setTen t ((s.ten t).answered c st res (c.execAt.getD s.smp))

/-- The command goes on executing: its record is still owed (R77). -/
def State.executing (s : State) (t : Tenant) (g : Tag) : State :=
  s.setTen t { s.ten t with
    inflight := (s.ten t).inflight.map fun d =>
      if d.tag = g then { d with phase := .executing } else d }

end Sys2Proof.Machine
end

