-- ==== Sys2Proof/Certificates/Slice0/Obligations.lean ====
section
/-! DEFINITION. The statements for the provers: what each command and each event does, in the terms of Safety. A statement
about a command says what it does when it may start (`Starts`), a statement about an event when its conditions hold and that
nothing changes when they do not. -/

open Sys2Proof Sys2Proof.Machine

/-! ## The queue and the reset of the block -/

/-- A step runs the command at the front of the queue on the state with the rest of the queue; with an empty queue the block
idles. The queue is the model's, and idling its choice (log entry 1). -/
def Obligations.StepRunsTheFrontCommand : Prop :=
  (∀ (s : State) (c : Instr) (rest : List Instr),
    step { s with pending := c :: rest } = exec c { s with pending := rest }) ∧
  ∀ s : State, s.pending = [] → step s = .next s

/-- A block is 32 smp, and its boundary is the first tick of every sample whose count is a multiple of 32 (R20). -/
def Obligations.BoundariesAreTheFirstTicksOfBlocks : Prop :=
  ∀ s : State, s.core.tide.isBoundary = true ↔ s.core.tide.et = 0 ∧ 32 ∣ s.core.tide.smp.toNat

/-- What reset leaves (R319, R321, Table 02-9, Table 03-9): UNIT_ADDR 30, LINK_CFG 2, IRQ_EN, IRQ_SUM and the counters 0,
FW_UP 0; every tenant CLOSED with empty queues, H 0, a window of 3 KiB that reads zero and every event enabled; the tide 0,
48 kHz, OSR 4; every field output HIZ; no note, no ring, power state RUN. -/
def Obligations.ResetLeavesTheStatedValues : Prop :=
  let s := State.reset
  s.readReg 0x08 = 30 ∧ s.readReg 0x0C = 2 ∧ s.readReg 0x10 = 0 ∧ s.readReg 0x14 = 0 ∧ s.readReg 0x18 = 0 ∧
  (∀ n, n < 6 → s.readReg (0x20 + 4 * n) = 0) ∧
  (∀ t, (s.ten t).st = .closed ∧ (s.ten t).sq = [] ∧ (s.ten t).cq = [] ∧ (s.ten t).seqHigh = 0 ∧
    (s.ten t).windowKib = 3 ∧ (∀ a, memRead (s.ten t).window a = 0) ∧ (s.ten t).events = 0xFFFFFFFF) ∧
  s.core.tide = { smp := 0, et := 0 } ∧ s.fs = 48000 ∧ s.core.osr = 4 ∧ s.core.run = .running ∧
  (∀ n, (s.lo n).st = .hiz ∧ (s.cv n).st = .hiz ∧ (s.gt n).st = .hiz ∧ (s.cv n).code = 0x8000) ∧
  s.voices = [] ∧ s.ring.role = .standalone ∧ s.power.st = .run ∧ (∀ a, memRead s.mem.wave a = 0) ∧ s.pending = []

/-- At reset UNIT_ADDR holds 30 and every memory is canonical. -/
def Obligations.InvariantsHoldAtReset : Prop :=
  State.reset.link.addrOk ∧ State.reset.memoriesWf = true

/-- Every command leaves UNIT_ADDR at an assigned address or 30 (R53, R61), and a tentative address at one that ENUMERATE can
assign (R57). -/
def Obligations.UnitAddressStaysLegal : Prop :=
  ∀ s u : State, s.link.addrOk → step s = .next u → u.link.addrOk

/-- Every command leaves the wave memory, the firmware slots, the firmware SRAM and the staging windows canonical: addresses rising, no byte
listed that holds 0. -/
def Obligations.MemoriesStayCanonical : Prop :=
  ∀ s u : State, s.memoriesWf = true → step s = .next u → u.memoriesWf = true

/-! ## The link port -/

/-- Before an ordinary frame takes effect it changes the link port alone, and there neither UNIT_ADDR, FRAMES_OK, BCAST_DROP,
the staged response, LINK_CFG nor IRQ_EN; the discards before it are counted, each in its counter, with LINK_ERR set, and
ENUM_IN is the level at the commit (R43, R54, Table 02-9). -/
def Obligations.FramesCountTheDiscardsBeforeThem : Prop :=
  ∀ (s : State) (f : RawFrame) (addr : Nat), s.link.assigned = true → s.link.isConfirm addr = false →
    let b := s.framed f addr
    let k := fun d => BitVec.ofNat 32 (s.link.uncounted.count d)
    b = { s with link := b.link } ∧ b.link.unitAddr = s.link.unitAddr ∧ b.link.framesOk = s.link.framesOk ∧
      b.link.bcastDrop = s.link.bcastDrop ∧ b.link.staged = s.link.staged ∧ b.link.quad = s.link.quad ∧
      b.link.irqOd = s.link.irqOd ∧ b.link.irqEn = s.link.irqEn ∧ b.link.uncounted = [] ∧
      b.link.enumIn = f.enumIn ∧ b.link.errShort = s.link.errShort + k .short ∧
      b.link.errHdr = s.link.errHdr + k .hdr ∧ b.link.errPay = s.link.errPay + k .pay ∧
      b.link.errKind = s.link.errKind + k .kind ∧
      b.link.linkErr = (s.link.linkErr || !s.link.uncounted.isEmpty)

/-- SUBMIT (R68, R46, R55, Table 02-8). The header and the payload enter the tenant's queue exactly when the queues are
open, the length matches and there is room; the addressed unit stages its answer with the accept code and the free headers;
a broadcast that finds no room or closed queues counts in BCAST_DROP and sets LINK_ERR. Whatever the answer, the frame
starts the host-loss watchdog of the tenant that it names again (R62). -/
def Obligations.SubmitQueuesTheEntry : Prop :=
  ∀ (s : State) (f : RawFrame) (addr : Nat) (p : List Byte), Arrives s f addr 0 p →
    let t := tenantOf (byteAt p 5)
    let b := (s.framed f addr).fed t
    let n := (s.ten t).sq.length
    let room := n < 128 ∧ (s.ten t).payloadUsed + (p.length - 16) ≤ 4096
    let fits := field p 6 2 + 16 = p.length
    let answer := fun (code : Byte) (free : Nat) =>
      [BitVec.ofNat 8 t.val, BitVec.ofNat 8 (byteAt p 4)] ++ (p.drop 2).take 2 ++ [code, BitVec.ofNat 8 free, 0, 0]
    let taken := linkWake (b.updTen t fun x =>
      { x with sq := x.sq ++ [{ header := p.take 16, payload := p.drop 16 }] })
    let dropped := { b with link := { b.link with bcastDrop := b.link.bcastDrop + 1, linkErr := true } }
    let code : Byte := if s.queuesClosed = true then 3 else if ¬ fits then 2 else 1
    ((s.queuesClosed = false ∧ fits ∧ room) →
      exec (.submitCommit f) s = .next (latchStatus (if addr = 31 then taken else taken.responded (answer 0 (128 - (n + 1)))))) ∧
    (¬ (s.queuesClosed = false ∧ fits ∧ room) →
      exec (.submitCommit f) s = .next (latchStatus (if addr = 31 then (if code = 2 then b else dropped)
        else b.responded (answer code (128 - n)))))

/-- REAP of the addressed unit (R49, R71): the records up to the acknowledge index are freed when it lies between the
consumer and the producer index, up to the maximum number of slots is delivered without being consumed, the rest of the
response reads 0. A delivered slot that ECC finds uncorrectable reads as 0xFF and is counted (Table 12-5). The frame starts the host-loss
watchdog of the tenant again (R62). -/
def Obligations.ReapDeliversTheOldestRecords : Prop :=
  ∀ (s : State) (f : RawFrame) (p : List Byte), Arrives s f s.link.unitAddr.toNat 1 p →
    let t := tenantOf (byteAt p 0)
    let b := s.framed f s.link.unitAddr.toNat
    let x := { s.ten t with lossMs := 0 }
    let ack := BitVec.ofNat 16 (field p 2 2)
    let k := (ack - x.cons).toNat
    let y := if k ≤ x.cq.length then { x with cq := x.cq.drop k, cons := ack } else x
    let got := y.cq.take (byteAt p 1)
    let answer := fun slots => [BitVec.ofNat 8 t.val, BitVec.ofNat 8 got.length] ++ leBytes 2 y.cons.toNat ++
      padTo (16 * byteAt p 1) slots
    exec (.reapCommit f []) s = .next (latchStatus ((b.setTen t y).responded (answer (got.flatMap CqSlot.bytes)))) ∧
    ∀ bad, ∃ u, exec (.reapCommit f bad) s = .next u ∧
      u.link.staged = some (answer ((got.zipIdx.map fun e =>
        if bad.contains e.2 then List.replicate 16 0xFF else e.1.bytes).flatten)) ∧
      u.mem.eccUncorrected = s.mem.eccUncorrected + BitVec.ofNat 32 (bad.filter (· < got.length)).length

/-- LREAD and BULK_READ of the addressed unit (R46, R53, R70): each stages its answer and counts the frame; LREAD changes
nothing but the port, BULK_READ the port and the host-loss watchdog of its tenant, which starts again (R62). LREAD answers the words of the registers as they stand after the frame was counted; BULK_READ the bytes
of the window, and 0 beyond the end of the window. -/
def Obligations.ReadFramesStageWhatTheyRead : Prop :=
  ∀ (s : State) (f : RawFrame) (p : List Byte),
    let b := s.framed f s.link.unitAddr.toNat
    (Arrives s f s.link.unitAddr.toNat 2 p → exec (.lreadCommit f) s = .next (latchStatus
      (b.responded (regWords (b.responded []) (field p 0 2) (field p 2 2))))) ∧
    (Arrives s f s.link.unitAddr.toNat 6 p → ∃ data,
      exec (.bulkReadCommit f) s = .next (latchStatus ((b.fed (tenantOf (byteAt p 0))).responded data)) ∧
      data.length = 4 * (field f.hdr 2 2 + 1) ∧
      ∀ i, i < data.length → data.getD i 0 =
        if field p 4 4 + i < (s.ten (tenantOf (byteAt p 0))).windowKib * 1024 then
          memRead (s.ten (tenantOf (byteAt p 0))).window (field p 4 4 + i) else 0)

/-- The link registers (R53), while the port is powered and the unit has an address; a unit with address 30 executes no
LWRITE (R56), and its registers keep their values. UNIT_ADDR takes 0 to 15 and 30 only, IRQ_SUM bits clear by writing 1,
LINK_CFG and IRQ_EN take their bits, a counter takes the value 0 only, every other register keeps its value; offsets 0x38 to
0xFC read 0 and ignore writes. LWRITE writes its words at the commit of its frame, in rising order, but for UNIT_ADDR in a
broadcast; LREAD answers the words. -/
def Obligations.RegisterWritesFollowTheTable : Prop :=
  (∀ (s : State) (v : Word) (off : BitVec 8), s.link.assigned = false →
    exec (.unitAddrWrite v) s = .next s ∧ exec (.irqSumClear v) s = .next s ∧
    exec (.linkRegisterWrite off v) s = .next s) ∧
  ∀ (s : State) (v : Word), s.link.up = true → s.link.assigned = true →
    let a : BitVec 5 := v.setWidth 5
    exec (.unitAddrWrite v) s =
      .next (if a.toNat < 16 ∨ a = 30 then { s with link := { s.link with unitAddr := a } } else s) ∧
    exec (.irqSumClear v) s = .next { s with link := { s.link with
      fwReady := s.link.fwReady && !v.getLsbD 8, linkErr := s.link.linkErr && !v.getLsbD 9 } } ∧
    exec (.linkRegisterWrite 0x0C v) s =
      .next { s with link := { s.link with quad := v.getLsbD 0, irqOd := v.getLsbD 1 } } ∧
    exec (.linkRegisterWrite 0x14 v) s = .next { s with link := { s.link with irqEn := v.setWidth 10 } } ∧
    (v ≠ 0 → ∀ off : BitVec 8, off ≠ 0x08 → off ≠ 0x0C → off ≠ 0x14 → off ≠ 0x18 →
      exec (.linkRegisterWrite off v) s = .next s) ∧
    exec (.linkRegisterWrite 0x20 0) s = .next { s with link := { s.link with errShort := 0 } } ∧
    exec (.linkRegisterWrite 0x24 0) s = .next { s with link := { s.link with errHdr := 0 } } ∧
    exec (.linkRegisterWrite 0x28 0) s = .next { s with link := { s.link with errPay := 0 } } ∧
    exec (.linkRegisterWrite 0x2C 0) s = .next { s with link := { s.link with errKind := 0 } } ∧
    exec (.linkRegisterWrite 0x30 0) s = .next { s with link := { s.link with bcastDrop := 0 } } ∧
    exec (.linkRegisterWrite 0x34 0) s = .next { s with link := { s.link with framesOk := 0 } } ∧
    (∀ off : Nat, 0x38 ≤ off → off ≤ 0xFC → s.readReg off = 0) ∧
    (∀ f p, Arrives s f s.link.unitAddr.toNat 2 p →
      let b := (s.framed f s.link.unitAddr.toNat).responded []
      exec (.lreadCommit f) s = .next (latchStatus { b with link := { b.link with
        staged := some (regWords b (field p 0 2) (field p 2 2)) } })) ∧
    ∀ f addr p, Arrives s f addr 3 p →
      let b := s.framed f addr
      let write := fun l => writeWords l (addr == 31) (field p 0 2) (p.drop 4) (field p 2 2)
      exec (.lwriteCommit f) s = .next (latchStatus (if addr = 31 then { b with link := write b.link }
        else { b with link := { write { b.link with framesOk := b.link.framesOk + 1 } with
          staged := some (p.take 2 ++ [BitVec.ofNat 8 (field p 2 2), 0]) } }))

/-- BULK_WRITE (R70, R55, Table 02-8): data that lie within the window are written to it from the offset on and nowhere
else; data beyond it, and data while the queues are closed, write nothing. The addressed unit answers the code and the
bytes written; a broadcast that is turned away counts in BCAST_DROP. Whatever the answer, the frame starts the host-loss
watchdog of the tenant again (R62). -/
def Obligations.BulkWriteFillsTheWindow : Prop :=
  ∀ (s : State) (f : RawFrame) (addr : Nat) (p : List Byte), Arrives s f addr 5 p →
    let t := tenantOf (byteAt p 0)
    let b := (s.framed f addr).fed t
    let data := p.drop 8
    let off := field p 4 4
    let answer := fun (code : Byte) (n : Nat) => [BitVec.ofNat 8 t.val, code, 0, 0] ++ leBytes 4 n
    let taken := linkWake (b.updTen t fun x => { x with window := memWriteN x.window off data })
    let dropped := { b with link := { b.link with bcastDrop := b.link.bcastDrop + 1, linkErr := true } }
    ((s.queuesClosed = false ∧ off + data.length ≤ (s.ten t).windowKib * 1024) →
      exec (.bulkWriteCommit f) s = .next (latchStatus (if addr = 31 then taken
        else taken.responded (answer 0 data.length)))) ∧
    (¬ (s.queuesClosed = false ∧ off + data.length ≤ (s.ten t).windowKib * 1024) →
      exec (.bulkWriteCommit f) s = .next (latchStatus (if addr = 31 then dropped
        else b.responded (answer (if s.queuesClosed = true then 3 else 4) 0)))) ∧
    (∀ a, a < off ∨ off + data.length ≤ a → memRead (memWriteN (s.ten t).window off data) a = memRead (s.ten t).window a) ∧
    (Memory.wf (s.ten t).window = true → memReadN (memWriteN (s.ten t).window off data) off data.length = data)

/-- Enumeration (R57 to R60). ENUMERATE makes a unit without an address whose ENUM_IN is high TENTATIVE and stages its die
ID. In the confirm frame the TENTATIVE unit drives its die ID; it takes the address and executes the request unless a rival
holds the address or has a die ID that comes before, and then it has address 30 again. The last two clauses give the bytes:
an ENUMERATE frame of Table 02-3 that offers an address 0 to 15 is executed by every unit in single mode; and a confirm frame
whose request is an LREAD within the registers gives the TENTATIVE unit its address and stages the words, while a rival that
holds the address, or whose die ID comes before, leaves it at address 30. -/
def Obligations.EnumerationAssignsAddresses : Prop :=
  (∀ (s : State) (a tail : Nat) (e : Bool), s.link.up = true → s.link.quadNow = false → s.link.isConfirm 30 = false →
    a < 16 → 16 ≤ tail →
    let f := plainFrame [0xA5, 0xF4, 4, 0] [BitVec.ofNat 8 a, 0, 0, 0] 8 tail e
    let b := s.framed f 30
    let o := BitVec.ofNat 5 a
    exec (.enumerateCommit f) s = .next (latchStatus { b with link :=
      if s.link.unitAddr = 30 ∧ e = true then
        { b.link with offer := some o, tentative := some o, tentHold := false, staged := some (leBytes 8 s.fuse.dieId.toNat) }
      else { b.link with offer := some o } })) ∧
  (∀ (s : State) (o : BitVec 5) (off n tail : Nat) (e : Bool), s.link.up = true → s.link.unitAddr = 30 → o.toNat < 16 →
    s.link.tentative = some o → s.link.tentHold = false → s.link.offer = some o →
    off % 4 = 0 → 1 ≤ n → n ≤ 64 → off + 4 * n ≤ 256 → 16 ≤ tail →
    let f := plainFrame [0xA5, BitVec.ofNat 8 (o.toNat * 8 + 2), 4, 0] (leBytes 2 off ++ leBytes 2 n) 16 tail e
    let has := fun (addr : BitVec 5) (bytes : Option (List Byte)) => ({ s with link := { s.link with
      unitAddr := addr, tentative := none, tentHold := false, offer := none, uncounted := [], enumIn := e,
      driven := bytes } } : State)
    let won := (has o (some (readPhase (confirmStatus o.toNat true) (leBytes 8 s.fuse.dieId.toNat)))).responded []
    exec (.confirmFrameCommit f) s = .next (latchStatus { won with link := { won.link with
      staged := some (regWords won off n) } }) ∧
    ∀ r : Rival, losesTo false s.fuse.dieId r = true →
      exec (.confirmFrameCommit { f with rivals := [r] }) s = .next (has 30 none)) ∧
  ∀ (s : State) (f : RawFrame) (p : List Byte), s.link.unitAddr = 30 → s.link.tentHold = false →
    let a := BitVec.ofNat 5 (byteAt p 0)
    let quiet := { s.link with driven := none, uncounted := [], enumIn := f.enumIn, offer := some a }
    (classify s.link f = .commits 30 4 p → s.link.offer ≠ some 30 → s.link.tentative ≠ some 30 →
      exec (.enumerateCommit f) s = .next { s with link :=
        if f.enumIn = true then { quiet with tentative := some a, staged := some (leBytes 8 s.fuse.dieId.toNat) }
        else { quiet with tentative := none } }) ∧
    ∀ (o : BitVec 5) (kind : Nat), o.toNat < 16 → s.link.tentative = some o → s.link.offer = some o →
      classify s.link f = .commits o.toNat kind p →
      let wins := { s.link with
        unitAddr := o, tentative := none, tentHold := false, offer := none, uncounted := [],
        enumIn := f.enumIn, driven := some (readPhase (confirmStatus o.toNat true) (leBytes 8 s.fuse.dieId.toNat)) }
      let loses := { s.link with
        unitAddr := 30, tentative := none, tentHold := false, offer := none, uncounted := [],
        enumIn := f.enumIn, driven := none }
      exec (.confirmFrameCommit f) s = .next (
        if f.rivals.any (losesTo false s.fuse.dieId) then
          latchStatus (executeFrame { s with link := loses } o.toNat kind p (field f.hdr 2 2) [])
        else latchStatus (executeFrame { s with link := wins } o.toNat kind p (field f.hdr 2 2) []))

/-- A discarded frame changes the port alone (R39, R43, R54): a frame with a bad header is counted by every unit with an
address and drives nothing; a frame with a good header is counted by the unit it addresses, which has driven its read
phase. The count shows at the next commit. -/
def Obligations.DiscardedFramesAreCounted : Prop :=
  ∀ (s : State) (f : RawFrame) (d : Discard), s.link.assigned = true →
    (classify s.link f = .discarded d none → exec (.frameDiscard f) s =
      .next { s with link := { s.link with driven := none, uncounted := s.link.uncounted ++ [d] } }) ∧
    ∀ addr kind, s.link.isConfirm addr = false → s.link.tentative = none →
      classify s.link f = .discarded d (some (addr, kind)) → exec (.frameDiscard f) s = .next { s with link :=
        if addr = s.link.unitAddr.toNat then { s.link with
          offer := none, driven := some (readPhase s.link.status (s.link.staged.getD [])), uncounted := s.link.uncounted ++ [d] }
        else if addr = 31 then { s.link with offer := none, driven := none, uncounted := s.link.uncounted ++ [d] }
        else { s.link with offer := none, driven := none } }

/-! ## Taking entries -/

/-- What taking the next entry does (R69, R72 to R76, Table 03-4): the entry leaves its queue and the round robin goes on.
An entry under the number of a command in flight is absorbed; a completed one is answered again with DUP set and MORE clear;
a number 129 to 32,767 ahead is SEQ_GAP and one behind the window STALE_SEQ, neither of which changes H; a number 1 to 128
ahead becomes H; a refused command leaves its record in the completion queue and the echo store, an accepted one is in
flight, scheduled when its timestamp lies ahead and LATE when it does not. An ABORT that is not scheduled is judged by what
is on its target at this moment (R83). -/
def Obligations.TakingAnEntryFollowsTheChecks : Prop :=
  ∀ (s : State) (t : Tenant) (e : SqEntry), s.fwRuns = true → s.candidateEntry = some (t, e) → e.lost = false →
    let x := s.ten t
    let d := (e.seq - x.seqHigh).toNat
    let popped := { x with sq := x.sq.erase e }
    let out := fun (y : TenantSt) => ({ s with fw := { s.fw with rr := t + 1 } } : State).setTen t y
    let plain := fun (st : Status) (short : BitVec 16) => mkRec (BitVec.ofNat 8 e.op) st e.seq e.tag false (.note short) s.smp
    let wait := smpDiff (BitVec.ofNat 48 (field e.header 8 6)) s.smp
    let inFlight := fun (y : TenantSt) (b : Body) (et : Nat) => { y with inflight := y.inflight ++ [{
      tag := e.tag, seq := e.seq, op := BitVec.ofNat 8 e.op, timed := e.flag 0, fence := e.flag 1, quiet := e.flag 2,
      due := BitVec.ofNat 48 (field e.header 8 6), et := et, late := e.flag 0 && decide (wait ≤ 0),
      phase := if e.flag 0 = true ∧ 0 < wait then .scheduled else .waiting,
      reserve := opReserve e.op, body := b, execAt := none }] }
    (x.inflight.any (fun c => c.seq == e.seq) = true → exec (.takeEntry .clean) s = .next (out popped)) ∧
    (x.inflight.any (fun c => c.seq == e.seq) = false →
      (∀ r, x.echoOf e.seq = some r → exec (.takeEntry .clean) s =
        .next (out (popped.writeGroup { r with flags := (r.flags &&& 7) ||| 1 } []))) ∧
      (x.echoOf e.seq = none → e.op ≠ 2 →
        (129 ≤ d → d ≤ 32767 → exec (.takeEntry .clean) s = .next (out (popped.writeGroup (plain .seqGap 0) []))) ∧
        (32768 ≤ d → (x.seqHigh - e.seq).toNat ≥ 128 →
          exec (.takeEntry .clean) s = .next (out (popped.writeGroup (plain .staleSeq 0) []))) ∧
        (1 ≤ d → d ≤ 128 →
          let h := popped.setHigh e.seq
          (∀ st short, checkEntry (out h) t e .clean wait = .refuse st short →
            exec (.takeEntry .clean) s = .next (out ((h.writeGroup (plain st short) []).storeEcho (plain st short)))) ∧
          (∀ b et, checkEntry (out h) t e .clean wait = .accept b et → (∀ x, b ≠ .abort x) ∨ (e.flag 0 = true ∧ 0 < wait) →
            exec (.takeEntry .clean) s = .next (out (inFlight h b et))) ∧
          (∀ x et, checkEntry (out h) t e .clean wait = .accept (.abort x) et → ¬(e.flag 0 = true ∧ 0 < wait) →
            exec (.takeEntry .clean) s = .next (judgeAbort (out (inFlight h (.abort x) et)) t e.tag x)))) ∧
      (x.echoOf e.seq = none → e.op = 2 → ∀ b et, checkEntry (out popped) t e .clean wait = .accept b et →
        (∀ x, b ≠ .abort x) → exec (.takeEntry .clean) s = .next (out (inFlight popped b et))))

/-- A scheduled command that is due runs as its own row would, were it waiting; after its tick it is LATE; before its tick
nothing happens (R21 to R23). So a due NOP, IDENTIFY or HEARTBEAT completes with its answer, and a due NOTE_OFF of a sounding
note gives the note its release at the next tick and completes. -/
def Obligations.DueCommandsRunAsTheirRows : Prop :=
  ∀ (s : State) (t : Tenant) (g : Tag) (hw : HwAnswer) (c : InFlight), s.fwRuns = true → (s.ten t).free = true →
    (s.ten t).find g = some c → c.phase = .scheduled → (s.ten t).fenceOk c = true →
    let due := c.due.toNat * 8 + c.et
    let now := s.smp.toNat * 8 + s.core.tide.et
    (now < due → exec (.commandDue t g hw) s = .next s) ∧
    (due ≤ now → exec (.commandDue t g hw) s = .next (execBody (s.updTen t fun x => { x with
      inflight := x.inflight.map fun d => if d.tag = g then { d with late := d.late || decide (due < now) } else d })
      t g c hw)) ∧
    (due ≤ now → c.quiet = false → (s.ten t).noAbortWaits →
      let d := { c with late := c.late || decide (due < now) }
      (c.body = .nop → exec (.commandDue t g hw) s = .next (s.answer t d .ok (.note 0))) ∧
      (c.body = .identify → exec (.commandDue t g hw) s = .next (s.answer t d .ok (.bytes (s.identity t)))) ∧
      (c.body = .heartbeat → exec (.commandDue t g hw) s = .next (s.answer t d .ok (.bytes (s.heartbeat t)))) ∧
      ∀ id r v, c.body = .noteOff id r → s.note? t id = some v → exec (.commandDue t g hw) s =
        .next (({ s with pendL := s.pendL ++ [.note t v.noteId (.off r)] } : State).answer t d .ok (.note 0)))

/-! ## Sessions -/

/-- NOP, IDENTIFY, HEARTBEAT and PROP_GET change nothing but their own record; IDENTIFY answers 32 bytes that begin with
the die ID, HEARTBEAT the present tide and the free queue headers, PROP_GET the value in effect (Table 04-3, R30, R87). -/
def Obligations.ReadingCommandsOnlyAnswer : Prop :=
  ∀ (s : State) (t : Tenant) (g : Tag) (c : InFlight),
    (Starts s t g c .nop → exec (.nop t g) s = .next (s.answer t c .ok (.note 0))) ∧
    (Starts s t g c .identify → exec (.identify t g) s = .next (s.answer t c .ok (.bytes (s.identity t))) ∧
      (s.identity t).length = 32 ∧ (s.identity t).take 8 = leBytes 8 s.fuse.dieId.toNat ∧
      (s.identity t).getD 19 0 = s.link.unitAddr.setWidth 8) ∧
    (Starts s t g c .heartbeat → exec (.heartbeat t g) s = .next (s.answer t c .ok (.bytes
      (leBytes 6 s.smp.toNat ++ [BitVec.ofNat 8 s.core.tide.et, BitVec.ofNat 8 (128 - (s.ten t).sq.length)])))) ∧
    ∀ own p, Starts s t g c (.propGet own p) →
      (propRights s t own p = true →
        exec (.propGet t g) s = .next (s.answer t c .ok (.bytes (propBytes s own p)))) ∧
      (propRights s t own p = false → exec (.propGet t g) s = .next (s.answer t c .noRights (.note 0)))

/-- TENANT_OPEN with KEEP from CLOSED, by a tenant other than T0: the tenant is OPEN, H is the command's sequence number, the
echo store holds this completion only, the short result is 0, the tenant's beat counter becomes 0 at the next block boundary
(R136), and no other tenant changes (R65, R76). With the tenant OPEN and nothing else in flight the short result is the
previous session's H. -/
def Obligations.TenantOpenStartsASession : Prop :=
  ∀ (s : State) (t : Tenant) (g : Tag) (c : InFlight), Starts s t g c (.tenantOpen false) → t ≠ 0 →
    (s.ten t).inflight = [c] →
    ∃ u, exec (.tenantOpen t g) s = .next u ∧
      (u.ten t).st = .opened ∧ (u.ten t).fault = .none ∧ (u.ten t).session = .none ∧
      (u.ten t).seqHigh = c.seq ∧ (u.ten t).inflight = [] ∧
      u.pendB = s.pendB ++ [.prop t { kind := .tenBeatReset } 1] ∧
      (∀ q, q ≠ c.seq → (u.ten t).echoOf q = none) ∧
      (u.ten t).cq = (s.ten t).cq ++ [CqSlot.record (mkRec c.op (lateStatus c.late .ok) c.seq g c.late
        (.bytes (leBytes 2 (if (s.ten t).st = .closed then 0 else (s.ten t).seqHigh.toNat)))
        (c.execAt.getD s.smp))] ∧
      (∀ w, w ≠ t → u.ten w = s.ten w) ∧
      u = { s with tenants := u.tenants, voices := u.voices, pendL := u.pendL, pendB := u.pendB, ring := u.ring }

/-- TENANT_CLOSE with nothing else in flight: the tenant is CLOSED, its window holds zeros, its reservation is 0 and its
ceiling 384, its record is written, and no other tenant changes (Table 03-1, R66, R70). -/
def Obligations.TenantCloseReleasesWhatTheTenantHeld : Prop :=
  ∀ (s : State) (t : Tenant) (g : Tag) (c : InFlight), Starts s t g c .tenantClose →
    (s.ten t).inflight = [c] →
    ∃ u, exec (.tenantClose t g) s = .next u ∧
      (u.ten t).st = .closed ∧ (u.ten t).window = [] ∧ (u.ten t).reserve = 0 ∧ (u.ten t).ceiling = 384 ∧
      (u.ten t).inflight = [] ∧
      (u.ten t).cq = (s.ten t).cq ++ [CqSlot.record (mkRec c.op (lateStatus c.late .ok) c.seq g c.late (.note 0)
        (c.execAt.getD s.smp))] ∧
      (∀ w, w ≠ t → u.ten w = s.ten w) ∧ u.mem = s.mem ∧ u.nvm = s.nvm ∧ u.link = s.link ∧ u.core = s.core

/-- TENANT_RESET of the sender's own tenant: it is RESETTING and the command executes; TENANT_RESET_DONE, once nothing
else is in flight, opens it again without a fault and writes the command's record (R66, R67). -/
def Obligations.TenantResetOpensTheTenantAgain : Prop :=
  ∀ (s : State) (t : Tenant) (g : Tag) (c : InFlight),
    (Starts s t g c (.tenantReset t) → (s.ten t).st ≠ .closed → (s.ten t).inflight = [c] →
      exec (.tenantReset t g) s = .next ((s.executing t g).updTen t fun x =>
        { x with st := .resetting, resetBy := some (t, g) })) ∧
    (∀ w, w ≠ t → t ≠ 0 → Starts s t g c (.tenantReset w) →
      exec (.tenantReset t g) s = .next (s.answer t c .noRights (.note 0))) ∧
    (s.fwRuns = true → (s.ten t).st = .resetting → (s.ten t).resetBy = some (t, g) → (s.ten t).inflight = [c] →
      c.tag = g → c.quiet = false → (∀ x, c.body ≠ .abort x) →
      ∃ u, exec (.tenantResetDone t) s = .next u ∧ (u.ten t).st = .opened ∧ (u.ten t).fault = .none ∧
        (u.ten t).resetBy = none ∧ (u.ten t).inflight = [] ∧
        (u.ten t).cq = (s.ten t).cq ++ [CqSlot.record (mkRec c.op (lateStatus c.late .ok) c.seq g c.late (.note 0)
          (c.execAt.getD s.smp))] ∧
        (∀ w, w ≠ t → u.ten w = s.ten w) ∧ u.mem = s.mem ∧ u.nvm = s.nvm ∧ u.link = s.link ∧ u.core = s.core)

/-- ABORT, by what is on the target tag when ABORT is taken, or when it executes where it was scheduled (R83, Table 03-7): a
command that waits completes ABORTED and then ABORT OK with its number; a command that executes lets ABORT wait behind it; an
entry not yet taken leaves the queue with an ABORTED record before ABORT's OK, and where there is no room for that record ABORT
waits; a tag whose command has completed gives TOO_LATE with its number; an unknown tag NOT_FOUND. An ABORT that was judged when
it was taken answers what it found then. -/
def Obligations.AbortFollowsTheTargetsState : Prop :=
  ∀ (s : State) (t : Tenant) (g x : Tag) (c : InFlight), Starts s t g c (.abort x) → x ≠ g →
    let two := fun q : BitVec 16 => Result.bytes (leBytes 2 q.toNat)
    (c.aim = .unjudged →
      (∀ d, (s.ten t).find x = some d → d.phase ≠ .executing → d.quiet = false → exec (.abort t g) s =
        .next ((s.answer t d .aborted (.note 0)).answer t c .ok (two d.seq))) ∧
      (∀ d, (s.ten t).find x = some d → d.phase = .executing → exec (.abort t g) s =
        .next (s.updTen t fun y => { y with inflight := y.inflight.map fun e =>
          if e.tag = g then { e with aim := .ran d.seq, phase := .executing } else e })) ∧
      ((s.ten t).find x = none →
        (∀ e, (s.ten t).untaken x = some e → (s.ten t).cqFree = 0 → exec (.abort t g) s = .next s) ∧
        (∀ e, (s.ten t).untaken x = some e → (s.ten t).cqFree ≠ 0 → ∃ u, exec (.abort t g) s = .next u ∧
          (u.ten t).sq = (s.ten t).sq.erase e ∧
          (u.ten t).cq = (s.ten t).cq ++ [.record (mkRec (BitVec.ofNat 8 e.op) .aborted e.seq e.tag false (.note 0) s.smp),
            .record (mkRec c.op (lateStatus c.late .ok) c.seq g c.late (two e.seq) (c.execAt.getD s.smp))] ∧
          bankGet (u.ten t).doneTags x.val = some e.seq ∧
          (∀ w, w ≠ t → u.ten w = s.ten w) ∧ u = { s with tenants := u.tenants }) ∧
        ((s.ten t).untaken x = none → ∀ q, bankGet (s.ten t).doneTags x.val = some q →
          exec (.abort t g) s = .next (s.answer t c .tooLate (two q))) ∧
        ((s.ten t).untaken x = none → bankGet (s.ten t).doneTags x.val = none →
          exec (.abort t g) s = .next (s.answer t c .notFound (.note 0))))) ∧
    (∀ q, c.aim = .hit q → exec (.abort t g) s = .next (s.answer t c .ok (two q))) ∧
    (∀ q, c.aim = .ran q → exec (.abort t g) s =
      .next (if ((s.ten t).find x).any (fun d => d.seq == q && d.phase == .executing) then s.executing t g
        else s.answer t c .tooLate (two q))) ∧
    (c.aim = .nothing → exec (.abort t g) s = .next (s.answer t c .notFound (.note 0)))

/-! ## Properties -/

/-- A property write, by the row its property has: PROP_SET, ENG_RUN_STOP, ENG_RUN_RUN, TENANT_BEAT_RESET, TP_ENABLE_WRITE,
GT_ENABLE_WRITE and VAULT_TAMPERED_CLEAR (R13, R26, R28, R90). Without rights it completes NO_RIGHTS, with the field die down FIELD_DOWN, and changes
nothing. Otherwise it completes OK: a write of class L or B waits for its landing, and no register changes before it. -/
def Obligations.PropertyWritesWaitForTheirLanding : Prop :=
  ∀ (s : State) (t own : Tenant) (g : Tag) (c : InFlight) (p : PropRef) (v : Int) (row : Instr),
    Starts s t g c (.propSet own p v) →
    (row = .propSet t g ∧ hasOwnRow p v = false ∨ row = .engRunStop t g ∧ p.kind = .engRun ∧ v = 0 ∨
      row = .engRunRun t g ∧ p.kind = .engRun ∧ v = 1 ∨ row = .tenantBeatReset t g ∧ p.kind = .tenBeatReset ∧ v = 1 ∨
      row = .tpEnableWrite t g ∧ p.kind = .tpEnable ∨ row = .gtEnableWrite t g ∧ p.kind = .gtEnable ∨
      row = .vaultTamperedClear t g ∧ p.kind = .vaultTampered) →
    let r := propRow p.kind
    (propRights s t own p = false → exec row s = .next (s.answer t c .noRights (.note 0))) ∧
    (propRights s t own p = true → propFits s own p v.toNat = true → ownerStopped s own p v.toNat t g = false →
      exec row s = .next (s.answer t c .busyClassX (.note 0))) ∧
    (propRights s t own p = true → propFits s own p v.toNat = true → ownerStopped s own p v.toNat t g = true →
      (r.field = true → s.field.ready = false → exec row s = .next (s.answer t c .fieldDown (.note 0))) ∧
      ((r.field = true → s.field.ready = true) →
        (r.cls = .l → exec row s =
          .next (({ s with pendL := s.pendL ++ [.prop own p v] } : State).answer t c .ok (.note 0))) ∧
        (r.cls = .b → exec row s =
          .next (({ s with pendB := s.pendB ++ [.prop own p v] } : State).answer t c .ok (.note 0)))))

/-- Class X and the clearing of counters act at execution (R26, R28): `eng.fs`, `eng.osr` and `clk.source` only while the
engine is stopped, else BUSY_CLASS_X and no change; a counter or mask cleared by writing 0 reads 0 at once. A window resize
needs the tenants it concerns closed (Table 03-9): the tenant's window keeps the bytes that fit, and the windows above it,
which move, belong to closed tenants and hold zeros (R70). -/
def Obligations.ClassXWritesActAtOnce : Prop :=
  (∀ (s : State) (g : Tag) (c : InFlight) (i : Nat) (v : Int),
    (∀ k, k = PropKind.engFs ∨ k = .engOsr ∨ k = .clkSource → Starts s 0 g c (.propSet 0 { kind := k, i := i } v) →
      s.core.run ≠ .stopped → exec (.propSet 0 g) s = .next (s.answer 0 c .busyClassX (.note 0))) ∧
    (Starts s 0 g c (.propSet 0 { kind := .engOsr, i := i } v) → s.core.run = .stopped → exec (.propSet 0 g) s =
      .next (({ s with core := { s.core with osr := [2, 4, 8].getD v.toNat 0 } } : State).answer 0 c .ok (.note 0))) ∧
    (Starts s 0 g c (.propSet 0 { kind := .clkSource, i := i } v) → s.core.run = .stopped → exec (.propSet 0 g) s =
      .next (({ s with core := { s.core with mclkIn := v.toNat == 1, mclkLost := s.core.mclkLost && v.toNat == 1 } } :
        State).answer 0 c .ok (.note 0))) ∧
    (Starts s 0 g c (.propSet 0 { kind := .tideFrameOverruns, i := i } v) → exec (.propSet 0 g) s =
      .next (({ s with core := { s.core with frameOverruns := 0 } } : State).answer 0 c .ok (.note 0))) ∧
    (Starts s 0 g c (.propSet 0 { kind := .memEccCorrected, i := i } v) → exec (.propSet 0 g) s =
      .next (({ s with mem := { s.mem with eccCorrected := 0 } } : State).answer 0 c .ok (.note 0))) ∧
    (Starts s 0 g c (.propSet 0 { kind := .busClipMask, i := i } v) → exec (.propSet 0 g) s =
      .next (({ s with mix := { s.mix with clip := 0 } } : State).answer 0 c .ok (.note 0)))) ∧
  ∀ (s : State) (t own : Tenant) (g : Tag) (c : InFlight) (p : PropRef) (v : Int),
    Starts s t g c (.propSet own p v) → p.kind = .tenWindowKib → t = 0 → propFits s own p v.toNat = true →
    (windowStopped s own t g = false → exec (.tenantWindowResize t g) s = .next (s.answer t c .busyClassX (.note 0))) ∧
    (windowStopped s own t g = true → own ≠ 0 → v.toNat ≠ (s.ten own).windowKib →
      ∃ u, exec (.tenantWindowResize t g) s = .next u ∧ (u.ten own).windowKib = v.toNat ∧
        (∀ a, memRead (u.ten own).window a = if a < v.toNat * 1024 then memRead (s.ten own).window a else 0) ∧
        (∀ w, own < w → u.ten w = { s.ten w with window := [] }) ∧
        (∀ w, w < own → w ≠ 0 → u.ten w = s.ten w) ∧
        u.ten 0 = (s.ten 0).answered c .ok (.note 0) (c.execAt.getD s.smp) ∧
        u = { s with tenants := u.tenants })

/-- The end of the stop fade (R31, R32): once the fade has run its 20 ms, and the fade is not the quiesce of a HIBERNATE
entry, the engine is stopped with the tide at 0, Fs and OSR unchanged, and no command of any tenant stands in a schedule.
Before that the row changes nothing. -/
def Obligations.StopFadeEndsInAStoppedEngine : Prop :=
  ∀ s : State,
    (s.core.run = .stopping ∧ s.fs ≤ s.core.stopPos * 50 ∧ s.power.quiesceFade = false ∧ s.fw.restarting = false →
      ∃ u, exec .busStopFadeEnd s = .next u ∧ u.core.run = .stopped ∧ u.core.tide = { smp := 0, et := 0 } ∧
        u.core.fs = s.core.fs ∧ u.core.osr = s.core.osr ∧
        (∀ t, ∀ d ∈ (u.ten t).inflight, d.phase ≠ .scheduled) ∧ u.link = s.link ∧ u.nvm = s.nvm) ∧
    (s.core.run ≠ .stopping ∨ s.core.stopPos * 50 < s.fs → exec .busStopFadeEnd s = .next s)

/-! ## Notes -/

/-- NOTE_ON (R99, R100, R150, R153, R157). A note whose ID names a voice of the tenant retriggers it and starts no voice. Else,
with room below the ceiling and a free slot that the reservations of others leave, a voice waits to start at the coming tick
in the lowest free slot of the chosen lane, with the part's working set as its copy. Without room, spill or leave to steal the
command completes NO_VOICE; with a victim, the victim fades and the note waits behind it. -/
def Obligations.NoteOnPlacesTheNote : Prop :=
  ∀ (s : State) (t : Tenant) (g : Tag) (c : InFlight) (a : NoteOnArgs), Starts s t g c (.noteOn a) →
    let run := s.updTen t fun x =>
      { x with inflight := x.inflight.map fun d => if d.tag = g then { d with phase := .executing } else d }
    let copy := ((s.ten t).part a.part).workset
    (∀ v, s.note? t a.noteId = some v → v.retrig = none → exec (.noteOn t g) s = .next (run.setVoice { v with
      retrig := some { key := a.key, vel := a.velocity, detune := a.detune, ref := some (t, g) } })) ∧
    (s.note? t a.noteId = none → s.waiting? t a.noteId = none → (s.ten t).out? a.noteId = none →
      (s.count t < (s.ten t).ceiling → 1 ≤ s.freeFor (some t) → exec (.noteOn t g) s = .next { run with
        voices := run.voices ++ [{
          lane := s.pickLane, slot := (s.freeOf s.pickLane).headD 0, owner := .tenant t, noteId := a.noteId,
          part := a.part, key := a.key, vel := a.velocity, detune := a.detune, life := .starting none, copy := copy,
          ref := some (t, g) }] }) ∧
      ((s.ten t).ceiling ≤ s.count t ∨ s.freeFor (some t) = 0 → (s.ten t).spill = false →
        (a.noSteal = true ∨ (s.ten t).policy = .never ∨ s.victim t a.part a.key = none →
          exec (.noteOn t g) s = .next (s.answer t c .noVoice (.note 0))) ∧
        ∀ v, a.noSteal = false → (s.ten t).policy ≠ .never → s.victim t a.part a.key = some v →
          exec (.noteOn t g) s = .next (toldStolen (beginFade run v (some {
            owner := .tenant t, noteId := a.noteId, part := a.part, key := a.key, vel := a.velocity, detune := a.detune, copy := copy, ref := some (t, g),
            latency := run.fadeTicks }) .steal) v)))

/-- NOTE_OFF and the three items of NOTE_CHANGE (R26, R119, R143, R161, R284). For a voice of the tenant the change waits for
the next tick and the command completes OK; for a note behind a steal fade it is held; for a note on another unit it is sent
and the command waits for the report; for no note the status is NOT_FOUND. -/
def Obligations.NoteChangesReachTheNote : Prop :=
  ∀ (s : State) (t : Tenant) (g : Tag) (c : InFlight) (row : Instr) (b : Body) (id : BitVec 32) (k : NoteCmd),
    (∃ r, row = .noteOff t g ∧ b = .noteOff id r ∧ k = .off r) ∨
    (∃ n, row = .noteChangeBend t g ∧ b = .noteBend id n ∧ k = .bend n) ∨
    (∃ v, row = .noteChangePressure t g ∧ b = .notePressure id v ∧ k = .pressure v) ∨
    (∃ n, row = .noteChangeRetarget t g ∧ b = .noteRetarget id n ∧ k = .retarget n) →
    Starts s t g c b →
    (∀ v, s.note? t id = some v → exec row s =
      .next (({ s with pendL := s.pendL ++ [.note t v.noteId k] } : State).answer t c .ok (.note 0))) ∧
    (∀ v, s.note? t id = none → s.waiting? t id = some v → exec row s = .next ((s.setVoice { v with
      succ := v.succ.map fun n => { n with holding := n.holding ++ [k] } }).answer t c .ok (.note 0))) ∧
    (∀ o, s.note? t id = none → s.waiting? t id = none → (s.ten t).out? id = some o → o.refused = false →
      exec row s = .next ((sendCmd s t (some g) o k none).executing t g)) ∧
    (s.note? t id = none → s.waiting? t id = none → (s.ten t).out? id = none →
      exec row s = .next (s.answer t c .notFound (.note 0)))

/-- ALL_RELEASE in both modes (R119, R159): with no note of the tenant on another unit or behind a fade, every voice of the
named part, or of every part, that bears its note's ID gets its release or its fade at the next tick, and SHORT counts them. -/
def Obligations.AllReleaseReachesEveryVoice : Prop :=
  ∀ (s : State) (t : Tenant) (g : Tag) (c : InFlight) (part : Option Nat) (fade : Bool) (row : Instr),
    (row = .allRelease t g ∧ fade = false ∨ row = .allReleaseFade t g ∧ fade = true) →
    Starts s t g c (.allRelease part fade) → (s.ten t).outIds part = [] →
    (∀ v ∈ s.voices, v.named = false → v.succ = none) →
    let mine := s.voices.filter fun v =>
      v.named && v.owner == .tenant t && (part == none || part == some v.part)
    exec row s = .next (({ s with pendL := s.pendL ++ mine.map fun v => .note t v.noteId (.allRelease part fade) } :
      State).answer t c .ok (.bytes (leBytes 2 mine.length)))

/-- UMP (R98, R114, Table 04-19): the packets act in order at one tick. A note on for key k of part p plays the note
0xFF00_0000 + 256 p + k; note offs, pressure, bend and controllers wait for the next tick; a packet without a meaning does
nothing. -/
def Obligations.UmpPacketsActAsTheTableSays : Prop :=
  ∀ (s : State) (t : Tenant) (g : Tag) (c : InFlight) (p k v full : Nat),
    let id := BitVec.ofNat 32 (0xFF000000 + p * 256 + k)
    let adds := fun w => exec (.ump t g) s =
      .next (({ s with pendL := s.pendL ++ [w] } : State).answer t c .ok (.note 0))
    (Starts s t g c (.ump [.noteOn p k v]) → s.note? t id = none → s.waiting? t id = none → (s.ten t).out? id = none →
      s.count t < (s.ten t).ceiling → 1 ≤ s.freeFor (some t) → exec (.ump t g) s = .next (({ s with
        voices := s.voices ++ [{
          lane := s.pickLane, slot := (s.freeOf s.pickLane).headD 0, owner := .tenant t, noteId := id, part := p, key := k,
          vel := v, detune := 0, life := .starting none, copy := ((s.ten t).part p).workset, ref := none }] } :
          State).answer t c .ok (.note 0))) ∧
    (∀ w, Starts s t g c (.ump [.noteOff p k v]) → s.note? t id = some w → adds (.note t w.noteId (.off v))) ∧
    (Starts s t g c (.ump [.chanPressure p v full]) → adds (.partPressure t p ((v : Rat) / full))) ∧
    (Starts s t g c (.ump [.pitchBend p v full]) → adds (.partBend t p (bendQ v full))) ∧
    (Starts s t g c (.ump [.control p 1 v full]) → adds (.partCc t p 1 ((v : Rat) / full))) ∧
    (Starts s t g c (.ump [.bendRange p v]) → adds (.partParam t p (pVoice 2) (Nat.min 48 v))) ∧
    (Starts s t g c (.ump [.ignored]) → exec (.ump t g) s = .next (s.answer t c .ok (.note 0)))

/-- VOICE_PARAM and PART_PARAM (R90, R92, R101, R145): the first entry out of range completes BAD_FIELD with its value's offset
and writes nothing; entries of class L wait for the next tick and entries of class B for the next boundary; an entry of class V
of PART_PARAM is in the working set at once. VOICE_PARAM to no note completes NOT_FOUND. -/
def Obligations.ParameterEntriesFollowTheirClass : Prop :=
  ∀ (s : State) (t : Tenant) (g : Tag) (c : InFlight) (id : BitVec 32) (part : Nat) (l : List (Nat × Int)),
    (Starts s t g c (.voiceParam id l) →
      (s.noteCopy t id = none → exec (.voiceParam t g) s = .next (s.answer t c .notFound (.note 0))) ∧
      ∀ v, s.note? t id = some v →
        (∀ off, badEntry v.copy l 8 = some off →
          exec (.voiceParam t g) s = .next (s.answer t c .badField (.note (BitVec.ofNat 16 off)))) ∧
        (badEntry v.copy l 8 = none → (∀ e ∈ l, pcls e.1 = .l) → exec (.voiceParam t g) s = .next (({ s with
          pendL := s.pendL ++ l.map fun e => .voiceParam t v.noteId e.1 e.2 } : State).answer t c .ok (.note 0))) ∧
        (badEntry v.copy l 8 = none → (∀ e ∈ l, pcls e.1 = .b) → exec (.voiceParam t g) s = .next (({ s with
          pendB := s.pendB ++ l.map fun e => .voiceParam t v.noteId e.1 e.2 } : State).answer t c .ok (.note 0)))) ∧
    (Starts s t g c (.partParam part l) →
      (∀ off, badEntry ((s.ten t).part part).workset l 8 = some off →
        exec (.partParam t g) s = .next (s.answer t c .badField (.note (BitVec.ofNat 16 off)))) ∧
      (badEntry ((s.ten t).part part).workset l 8 = none → (∀ e ∈ l, pcls e.1 = .l) → exec (.partParam t g) s =
        .next (({ s with pendL := s.pendL ++ l.map fun e => .partParam t part e.1 e.2 } : State).answer t c .ok
          (.note 0))) ∧
      (badEntry ((s.ten t).part part).workset l 8 = none → (∀ e ∈ l, pcls e.1 = .b) → exec (.partParam t g) s =
        .next (({ s with pendB := s.pendB ++ l.map fun e => .partParam t part e.1 e.2 } : State).answer t c .ok
          (.note 0))) ∧
      (∀ pid v, l = [(pid, v)] → paramFitsIn ((s.ten t).part part).workset pid v = true → pcls pid = .v → s.voices = [] →
        exec (.partParam t g) s = .next ((s.updTen t fun x => x.updPart part fun q =>
          { q with workset := pset q.workset pid v }).answer t c .ok (.note 0))))

/-! ## Patches and wave memory -/

/-- PATCH_WRITE, PATCH_READ and PATCH_SELECT (R92, R116, R148, Table 04-5): what each needs, in order, and what it does. A
sound image becomes the slot's, owned by the writer; a read puts the image into the window and nothing else; a selection gives
the part the image's parameters. A refused command changes nothing. -/
def Obligations.PatchCommandsFollowTheSlot : Prop :=
  ∀ (s : State) (t : Tenant) (g : Tag) (c : InFlight) (slot win part : Nat) (hw : HwAnswer),
    let p := s.patch slot
    let len := field ((s.ten t).windowRead win 8) 6 2
    let img := (s.ten t).windowRead win len
    let fails := fun (row : Instr) (st : Status) => exec row s = .next (s.answer t c st (.note 0))
    (Starts s t g c (.patchWrite slot win) →
      (p.image ≠ [] → p.owner ≠ some t → t ≠ 0 → fails (.patchWrite t g) .noRights) ∧
      ((p.image = [] ∨ p.owner = some t ∨ t = 0) →
        (s.mem.bankSt .patch (slot / 64) ≠ .on → fails (.patchWrite t g) .bankOff) ∧
        (s.mem.bankSt .patch (slot / 64) = .on →
          (s.selected slot = true → fails (.patchWrite t g) .busyClassX) ∧
          (s.selected slot = false → p.loading = false → (p.sealedTo = none ∨ p.sealedTo = some t) →
            len ≤ 2048 → win + len ≤ (s.ten t).windowKib * 1024 →
            (imageSound img = false → fails (.patchWrite t g) .crcBad) ∧
            (imageSound img = true → imageBad img = none → exec (.patchWrite t g) s =
              .next (({ s with mem := { s.mem with patches := bankPut s.mem.patches slot { image := img, owner := some t } } } :
                State).answer t c .ok (.note 0))))))) ∧
    (Starts s t g c (.patchRead slot win) →
      (s.mem.bankSt .patch (slot / 64) ≠ .on → fails (.patchRead t g hw) .bankOff) ∧
      (s.mem.bankSt .patch (slot / 64) = .on → p.loading = false →
        (p.image = [] → fails (.patchRead t g hw) .notFound) ∧
        (p.image ≠ [] → p.sealedTo ≠ none → fails (.patchRead t g hw) .vaultLocked) ∧
        (p.image ≠ [] → p.sealedTo = none → hw.eccBad = false → win + p.image.length ≤ (s.ten t).windowKib * 1024 →
          exec (.patchRead t g hw) s = .next ((s.updTen t fun x => { x with window := memWriteN x.window win p.image }).answer
            t c .ok (.bytes (leBytes 2 p.image.length)))))) ∧
    (Starts s t g c (.patchSelect part slot) →
      (s.mem.bankSt .patch (slot / 64) ≠ .on → fails (.patchSelect t g hw) .bankOff) ∧
      (s.mem.bankSt .patch (slot / 64) = .on → s.voicePatch slot = none → fails (.patchSelect t g hw) .notFound) ∧
      (∀ q, s.mem.bankSt .patch (slot / 64) = .on → s.voicePatch slot = some q → hw.eccBad = false →
        ∃ u, exec (.patchSelect t g hw) s = .next u ∧
          ((u.ten t).part part).workset = voiceImage q.image ∧ ((u.ten t).part part).slot = some slot ∧
          (∀ r, r ≠ part → (u.ten t).part r = (s.ten t).part r) ∧ (∀ w, w ≠ t → u.ten w = s.ten w) ∧
          u = { s with tenants := u.tenants, pendL := u.pendL, readyL := u.readyL, pendB := u.pendB, readyB := u.readyB }))

/-- WAVE_WRITE, its end, WAVE_READ and WAVE_MAP (R102, R104, R301, Table 04-6). A write copies the window's bytes, which stand
in wave memory when the copy has ended, and completes then (here: with no MEM_BANK_STATE waiting for it); a read without a bad word puts the bytes into the window; a map is
set, or removed with length 0, by its owner or T0. A sealed or loading range is VAULT_LOCKED, a bank that is not ON BANK_OFF. -/
def Obligations.WaveCommandsMoveTheBytes : Prop :=
  ∀ (s : State) (t : Tenant) (g : Tag) (c : InFlight) (bank off win n : Nat) (a : MapArgs),
    let data := (s.ten t).windowRead win n
    let free := s.sealedHit bank off n = false ∧ s.loadingHit bank off n = false
    let entry : WaveMap := {
      bank := a.bank, format := a.format, offset := a.offset, length := a.length, loopStart := a.loopStart,
      loopEnd := a.loopEnd, loopMode := a.loopMode, rootKey := a.rootKey, owner := t }
    let maps := if a.length = 0 then bankDel s.mem.maps a.id else bankPut s.mem.maps a.id entry
    (Starts s t g c (.waveWrite bank off win n) →
      (s.mem.bankSt .wave bank ≠ .on → exec (.waveWrite t g) s = .next (s.answer t c .bankOff (.note 0))) ∧
      (s.mem.bankSt .wave bank = .on → ¬ free → exec (.waveWrite t g) s = .next (s.answer t c .vaultLocked (.note 0))) ∧
      (s.mem.bankSt .wave bank = .on → free → exec (.waveWrite t g) s = .next (({ s with mem := { s.mem with copies :=
        s.mem.copies ++ [{ t := t, g := g, bank := bank, offset := off, data := data }] } } : State).executing t g))) ∧
    (∀ w, s.mem.copies.find? (fun d => d.t == t && d.g == g) = some w → (s.ten t).find g = some c → c.quiet = false →
      s.fwRuns = true → s.mem.bankWaits = [] → (s.ten t).noAbortWaits → exec (.waveWriteDone t g) s =
        .next (({ s with mem := { s.mem with
          wave := memWriteN s.mem.wave (w.bank * 0x200000 + w.offset) w.data
          badWords := clearBad s.mem.badWords (w.bank * 0x200000 + w.offset) w.data.length
          copies := s.mem.copies.filter fun d => !(d.t == t && d.g == g) } } : State).answer t c .ok (.note 0))) ∧
    (Starts s t g c (.waveRead bank off win n) → s.mem.bankSt .wave bank = .on → free →
      s.badIn (bank * 0x200000 + off) n = [] → exec (.waveRead t g) s = .next ((s.updTen t fun x => { x with
        window := memWriteN x.window win ((List.range n).map fun i => s.waveByte (bank * 0x200000 + off + i)) }).answer
          t c .ok (.note 0))) ∧
    (Starts s t g c (.waveMap a) →
      (∀ m, bankGet s.mem.maps a.id = some m → m.owner ≠ t → t ≠ 0 →
        exec (.waveMap t g) s = .next (s.answer t c .noRights (.note 0))) ∧
      ((∀ m, bankGet s.mem.maps a.id = some m → m.owner = t ∨ t = 0) → exec (.waveMap t g) s =
        .next (({ s with mem := { s.mem with maps := maps } } : State).answer t c .ok (.note 0))))

/-- WAVE_LOAD_SEALED into wave memory and its end (R103, R309, R310). With the bank ON, the range free and the key in its slot,
the load takes the key and the window's bytes and runs; at its end a good tag leaves the plaintext in the range, sealed to the
tenant, and a bad tag zeros there and SIGNATURE_BAD. Without a key the command is VAULT_LOCKED, and so it is when the vault
word of the key cannot be corrected, which leaves the slot erased (Table 12-5). -/
def Obligations.SealedLoadsSealWhatTheyDecrypt : Prop :=
  ∀ (s : State) (t : Tenant) (g : Tag) (c : InFlight) (a : SealedArgs) (hw : HwAnswer), a.patch = false →
    (Starts s t g c (.waveLoadSealed a) → s.mem.bankSt .wave a.target = .on →
      s.loadingHit a.target a.offset a.length = false → s.sealRefuses t a = false →
      (bankGet s.vault.keys a.keySlot = none →
        exec (.waveLoadSealed t g hw) s = .next (s.answer t c .vaultLocked (.note 0))) ∧
      (∀ k, bankGet s.vault.keys a.keySlot = some k → hw.eccBad = true → ∃ u : State,
        exec (.waveLoadSealed t g hw) s = .next u ∧ bankGet u.vault.keys a.keySlot = none ∧ u.mem.loads = s.mem.loads ∧
        u.mem.eccUncorrected = s.mem.eccUncorrected + 1 ∧ u.mem.wave = s.mem.wave) ∧
      ∀ k, bankGet s.vault.keys a.keySlot = some k → hw.eccBad = false → exec (.waveLoadSealed t g hw) s =
        .next (({ s with mem := { s.mem with loads := s.mem.loads ++ [{
          t := t, g := g, args := a, key := k, blob := (s.ten t).windowRead a.window (a.length + 28) }] } } :
          State).executing t g)) ∧
    (∀ l, s.mem.loads.find? (fun d => d.t == t && d.g == g) = some l → l.args = a → l.t = t → (s.ten t).find g = some c →
      c.quiet = false → s.fwRuns = true → s.mem.bankWaits = [] → (s.ten t).noAbortWaits →
      let adr := a.target * 0x200000 + a.offset
      let m := { s.mem with
        loads := s.mem.loads.filter fun d => !(d.t == t && d.g == g)
        seals := s.mem.seals.filter fun r => !(r.bank == a.target && overlaps a.offset a.length r.offset r.length) }
      (∀ b, Config.gcmOpen l.key a.aad l.blob = some b → exec (.sealedLoadDone t g) s =
        .next (({ s with mem := { m with
          wave := memWriteN s.mem.wave adr (padTo a.length b)
          badWords := clearBad s.mem.badWords adr (padTo a.length b).length
          seals := m.seals ++ [{ bank := a.target, offset := a.offset, length := a.length, tenant := t }] } } :
          State).answer t c .ok (.note 0))) ∧
      (Config.gcmOpen l.key a.aad l.blob = none → exec (.sealedLoadDone t g) s =
        .next (({ s with mem := { m with
          wave := memClear s.mem.wave adr a.length
          badWords := clearBad s.mem.badWords adr a.length } } : State).answer t c .signatureBad (.note 0))))

/-- MEM_BANK_STATE and the end of a transition (R294 to R298, Table 12-3). A bank that holds firmware is BAD_FIELD; the state a
bank already has completes at once with its code; else the bank changes when the transition ends, the command completes with
the former state's code, and a wave bank that goes OFF or leaves OFF holds zeros. While the bank is written or changes, the
command waits (R298), and it executes when that has ended: with the bank then in the state asked for, it completes with it. -/
def Obligations.BankTransitionsEndInTheirState : Prop :=
  ∀ (s : State) (t : Tenant) (g : Tag) (c : InFlight) (k : BankKind) (n : Fin 16) (st : BankSt),
    (Starts s t g c (.memBankState k n.val st) →
      (k = .firmware → s.fwHeld n.val = true → exec (.memBankState t g) s = .next (s.answer t c .badField (.note 1))) ∧
      (k ≠ .firmware ∨ s.fwHeld n.val = false →
        s.bankWritten k n.val = true ∨ (∃ m ∈ s.mem.moves, m.kind = k ∧ m.bank = n.val) → exec (.memBankState t g) s =
          .next (({ s with mem := { s.mem with bankWaits := s.mem.bankWaits ++ [{
            t := t, g := g, kind := k, bank := n.val, target := st }] } } : State).executing t g)) ∧
      (k ≠ .firmware ∨ s.fwHeld n.val = false → s.bankWritten k n.val = false →
        (∀ m ∈ s.mem.moves, m.kind = k → m.bank ≠ n.val) → (∀ w ∈ s.mem.bankWaits, w.kind = k → w.bank ≠ n.val) →
        (s.mem.bankSt k n.val = st → exec (.memBankState t g) s = .next (s.answer t c .ok (.bytes (leBytes 2 st.code)))) ∧
        (s.mem.bankSt k n.val ≠ st → exec (.memBankState t g) s = .next (({ s with mem := { s.mem with moves :=
          s.mem.moves ++ [{ kind := k, bank := n.val, target := st, ref := some (t, g), prev := s.mem.bankSt k n.val }] } } :
          State).executing t g)))) ∧
    (∀ m, s.mem.moves.find? (fun m => m.kind == .wave && m.bank == n.val) = some m → m.ref = some (t, g) →
      (s.ten t).find g = some c → c.quiet = false → s.fwRuns = true → s.mem.bankWaits = [] → (s.ten t).noAbortWaits →
      ∃ u : State, exec (.bankTransitionDone .wave n) s = .next (u.answer t c .ok (.bytes (leBytes 2 m.prev.code))) ∧
        u.mem.bankSt .wave n.val = m.target ∧ (∀ j, j ≠ n.val → u.mem.bankSt .wave j = s.mem.bankSt .wave j) ∧
        (∀ adr, memRead u.mem.wave adr = if (m.target = .off ∨ m.prev = .off) ∧ adr / 0x200000 = n.val then 0
          else memRead s.mem.wave adr) ∧
        u = { s with mem := u.mem }) ∧
    (s.mem.bankWaits = [{ t := t, g := g, kind := k, bank := n.val, target := st }] → s.bankBusy k n.val = false →
      s.mem.bankSt k n.val = st → (s.ten t).find g = some c → c.quiet = false → s.fw.restarting = false →
      (s.ten t).noAbortWaits → runBankWaits s = ({ s with mem := { s.mem with bankWaits := [] } } : State).answer t c .ok
        (.bytes (leBytes 2 st.code)))

/-! ## Buses and ports -/

/-- BUS_CONFIG (class B, R171, R180, R278), DECIM_CONFIG (class X, R174) and DETECT_READ (R186): a bus operation waits for the
next boundary, for the named bus or for all 32, and no bus changes before it; a preset is taken only while the engine is
stopped; a reading changes nothing and answers two bytes for each detector of each named bus, or 8 bytes for a note. -/
def Obligations.BusOperationsWaitForTheBoundary : Prop :=
  ∀ (s : State) (t : Tenant) (g : Tag) (c : InFlight) (n : Option Nat) (row : Instr) (b : Body) (w : Nat → Write),
    let named := match n with
      | some k => [k]
      | none => List.range 32
    ((∃ x, row = .busConfigGain t g ∧ b = .busGain n x ∧ w = fun k => .busGain k x) ∨
      (∃ x, row = .busConfigEnable t g ∧ b = .busEnable n x ∧ w = fun k => .busEnable k x) ∨
      (row = .busConfigResync t g ∧ b = .busResync n ∧ w = fun k => .busResync k) ∨
      (∃ x, row = .busConfigRing t g ∧ b = .busRing n x ∧ w = fun k => .busRing k x) → Starts s t g c b →
      exec row s = .next (({ s with pendB := s.pendB ++ named.map w } : State).answer t c .ok (.note 0))) ∧
    (∀ p, Starts s t g c (.decimConfig p) →
      (s.core.run ≠ .stopped → exec (.decimConfig t g) s = .next (s.answer t c .busyClassX (.note 0))) ∧
      (s.core.run = .stopped → exec (.decimConfig t g) s =
        .next (({ s with mix := { s.mix with presetNext := p } } : State).answer t c .ok (.note 0)))) ∧
    (∀ d m, Starts s t g c (.detectBuses d m) → exec (.detectRead t g) s = .next (s.answer t c .ok (.bytes
      (((List.range 32).filter fun k => m.getLsbD k).map fun k =>
        (if d.getLsbD 0 then leInt 2 (dbFs (s.bus k).peak) else []) ++
        (if d.getLsbD 1 then leInt 2 (dbFs (s.busRms (s.bus k))) else []) ++
        (if d.getLsbD 2 then leInt 2 (dbFs (s.bus k).env) else [])).flatten))) ∧
    (∀ d id, Starts s t g c (.detectNote d id) →
      (s.note? t id = none → exec (.detectRead t g) s = .next (s.answer t c .notFound (.note 0))) ∧
      ∀ v, s.note? t id = some v → ∃ rms, (leInt 2 rms).length = 2 ∧ exec (.detectRead t g) s =
        .next (s.answer t c .ok (.bytes (leInt 2 rms ++ leInt 2 v.score ++ [0, 0, 0, 0]))))

/-- COEF_LOAD, COEF_SWITCH and the end of a fade (R105, R177 to R179). A load writes the inactive bank of each named bus, so
that what sounds does not change, unless a named bus fades: then the whole load waits. A switch starts at the next boundary; a
bus whose switch is under way makes it queue, a bus with a switch queued makes it FADE_PENDING. After 256 samples the banks of
the bus exchange roles and the switch completes. A switch that names no bus completes OK: the model's choice (log entry 30). -/
def Obligations.CoefficientsSwitchWithoutAStep : Prop :=
  ∀ (s : State) (t : Tenant) (g : Tag) (c : InFlight) (m : BitVec 32) (l : List Int) (n : Fin 32),
    let runs := fun (w : CoefSw) => w.phase = .landing ∨ w.phase = .fading
    let begun := fun p : SwPhase => ({ s with mix := { s.mix with
      switches := s.mix.switches ++ [{ ref := some (t, g), mask := m, phase := p }] } } : State)
    (Starts s t g c (.coefLoad m l) →
      ((∀ k, m.getLsbD k = true → (s.bus k).fade = none) →
        ∃ u : State, exec (.coefLoad t g) s = .next (u.answer t c .ok (.note 0)) ∧
          (∀ k, k < 32 → m.getLsbD k = true → (u.bus k).inactive = l ∧ (u.bus k).active = (s.bus k).active) ∧
          (∀ k, m.getLsbD k = false → u.bus k = s.bus k) ∧ u = { s with mix := u.mix }) ∧
      ((∃ k, k < 32 ∧ m.getLsbD k = true ∧ (s.bus k).fade ≠ none) → exec (.coefLoad t g) s =
        .next (({ s with mix := { s.mix with coefWaits := s.mix.coefWaits ++ [{ t := t, g := g, mask := m, coefs := l }] } } :
          State).executing t g))) ∧
    (Starts s t g c (.coefSwitch m) →
      ((∃ w ∈ s.mix.switches, w.mask &&& m ≠ 0 ∧ ¬ runs w) →
        exec (.coefSwitch t g) s = .next (s.answer t c .fadePending (.note 0))) ∧
      ((∃ w ∈ s.mix.switches, w.mask &&& m ≠ 0) → (∀ w ∈ s.mix.switches, w.mask &&& m ≠ 0 → runs w) →
        exec (.coefSwitch t g) s = .next ((begun .queued).executing t g)) ∧
      ((∀ w ∈ s.mix.switches, w.mask &&& m = 0) → m ≠ 0 → exec (.coefSwitch t g) s = .next
        (({ begun .landing with pendB := s.pendB ++ [.coefSwitch m t g] } : State).executing t g)) ∧
      (m = 0 → exec (.coefSwitch t g) s = .next (s.answer t c .ok (.note 0)))) ∧
    ((s.bus n.val).fade ≠ some 256 → exec (.coefFadeEnd n) s = .next s) ∧
    ((s.bus n.val).fade = some 256 → (∀ k, k < 32 → k ≠ n.val → (s.bus k).fade ≠ some 256) →
      s.mix.switches = [{ ref := some (t, g), mask := BitVec.twoPow 32 n.val, phase := .fading }] → s.mix.coefWaits = [] →
      (s.ten t).find g = some c → c.quiet = false → s.fw.restarting = false → (s.ten t).noAbortWaits →
      ∃ u : State, exec (.coefFadeEnd n) s = .next u ∧
        u.tenants = (s.answer t c .ok (.note 0)).tenants ∧ (u.bus n.val).active = (s.bus n.val).inactive ∧
        (u.bus n.val).inactive = (s.bus n.val).active ∧ (u.bus n.val).fade = none ∧ u.mix.switches = [] ∧
        (u.bus n.val).hist = (s.bus n.val).hist ∧ (∀ k, k ≠ n.val → u.bus k = s.bus k) ∧
        u = { s with tenants := u.tenants, mix := u.mix })

/-- A TDM slave port (R190). A frame shorter than its words makes the port BAD_SLOT; the second good frame in a row makes it
RUNNING with two frames in its FIFO; while it runs an input takes the frame in and an output gives the oldest one, and a
full or an empty FIFO counts a slip; without a clock it reads NO_CLOCK. A port that is off or a master ignores both. -/
def Obligations.SlavePortsFollowTheirClock : Prop :=
  ∀ (s : State) (i : Fin 6) (bclks : Nat) (words : List Int),
    let p := s.port i.val
    let w := (List.range p.frameSlots).map fun k => inWord p.wordBits (words.getD k 0)
    let becomes := fun q => { s with ports := bankPut s.ports i.val q }
    let run := fun u => exec (.tdmSlaveFrame i bclks words) s = .next u
    (p.enable = false ∨ p.slave = false → run s ∧ exec (.tdmNoClock i) s = .next s) ∧
    (p.enable = true → p.slave = true →
      exec (.tdmNoClock i) s =
        .next (becomes { p with st := .noClock, good := 0, words := if p.isIn then p.words else [] }) ∧
      (bclks / p.frameSlots < p.wordBits →
        run (becomes { p with st := .badSlot, good := 0, words := if p.isIn then p.words else [] })) ∧
      (p.wordBits ≤ bclks / p.frameSlots →
        (p.st ≠ .running → p.good = 0 → run (becomes { p with good := 1 })) ∧
        (p.st ≠ .running → p.good ≠ 0 → run (becomes { p with
          good := 2, st := .running, fifo := if p.isIn then [p.words, w] else [[], []] })) ∧
        (p.st = .running → p.isIn = true → p.fifo.length < 4 → run (becomes { p with fifo := p.fifo ++ [w] })) ∧
        (p.st = .running → p.isIn = true → 4 ≤ p.fifo.length → run (becomes { p with slips := p.slips + 1 })) ∧
        (∀ f r, p.st = .running → p.isIn = false → p.fifo = f :: r → run (becomes { p with fifo := r, words := f })) ∧
        (p.st = .running → p.isIn = false → p.fifo = [] → run (becomes { p with slips := p.slips + 1 }))))

/-! ## Field outputs -/

/-- The field-output commands (R13, R26, R106, R195, R202, R208, R336, Table 04-8). While the field die is down all complete
FIELD_DOWN. CV_CONFIG and LINE_CONFIG wait for their landing, but for a CV mode, which changes at once and only in high
impedance; CV_SET and GATE_SET wait for their update; CV_QUEUE takes the codes that fit and reports their number, and is
BAD_FIELD on an output in TIMER mode. No command changes an output at its execution otherwise. -/
def Obligations.FieldOutputCommandsWaitForTheirUpdate : Prop :=
  ∀ (s : State) (t : Tenant) (g : Tag) (c : InFlight) (a : CvArgs) (l : List CvEntry) (n : Fin 16)
    (codes : List (BitVec 16)) (m v : BitVec 8) (la : LineArgs),
    let fails := fun (row : Instr) (st : Status) (off : Nat) => exec row s = .next (s.answer t c st (.note (BitVec.ofNat 16 off)))
    let o := s.cv n.val
    let k := Nat.min codes.length (64 - o.queue.length)
    (Starts s t g c (.cvConfig a) →
      (s.field.ready = false → fails (.cvConfig t g) .fieldDown 0) ∧
      (s.field.ready = true → a.queue = (s.cv a.out.val).queueMode → exec (.cvConfig t g) s =
        .next (({ s with pendL := s.pendL ++ [.cvConfig a] } : State).answer t c .ok (.note 0))) ∧
      (s.field.ready = true → a.queue ≠ (s.cv a.out.val).queueMode → (s.cv a.out.val).st.highZ = false →
        fails (.cvConfig t g) .busyClassX 0) ∧
      (s.field.ready = true → a.queue ≠ (s.cv a.out.val).queueMode → (s.cv a.out.val).st.highZ = true →
        exec (.cvConfig t g) s = .next (((s.updCv a.out.val fun x => { x with
          queueMode := a.queue, queue := [], startAt := none, dry := false }).writeL (.cvConfig a)).answer t c .ok
            (.note 0)))) ∧
    (Starts s t g c (.cvSet l) →
      (∀ off, queueEntry s l 0 = some off → fails (.cvSet t g) .badField off) ∧
      (queueEntry s l 0 = none → s.field.ready = false → fails (.cvSet t g) .fieldDown 0) ∧
      (queueEntry s l 0 = none → s.field.ready = true → exec (.cvSet t g) s =
        .next (({ s with field := { s.field with pendCv := s.field.pendCv ++
          [{ timer := if c.timed then none else l.head?.map (·.out), entries := l }] } } : State).answer t c .ok (.note 0)))) ∧
    (Starts s t g c (.cvQueue n codes) →
      (o.queueMode = false → fails (.cvQueue t g) .badField 0) ∧
      (o.queueMode = true → s.field.ready = false → fails (.cvQueue t g) .fieldDown 0) ∧
      (o.queueMode = true → s.field.ready = true → exec (.cvQueue t g) s = .next ((s.updCv n.val fun x => { x with
        queue := x.queue ++ codes.take k
        startAt := if o.queue = [] then some (if c.timed then c.due else s.smp + 1) else o.startAt }).answer t c .ok
          (.bytes (leBytes 2 k))))) ∧
    (Starts s t g c (.gateSet m v) →
      (s.field.ready = false → fails (.gateSet t g) .fieldDown 0) ∧
      (s.field.ready = true → exec (.gateSet t g) s = .next (({ s with field := { s.field with pendGate :=
        s.field.pendGate ++ [{ timer := !c.timed, mask := m, levels := v, t := t }] } } : State).answer t c .ok (.note 0)))) ∧
    (Starts s t g c (.lineConfig la) →
      (s.field.ready = false → fails (.lineConfig t g) .fieldDown 0) ∧
      (s.field.ready = true → exec (.lineConfig t g) s = .next (({ s with
        pendL := s.pendL ++ [.lineSpanEnable la], pendB := s.pendB ++ [.lineSource la.out.val la.source] } :
          State).answer t c .ok (.note 0))))

/-- PAD_RELEASE (R3, R26, R215, R336): SHORT bit 0 says that the engine-die pads were held, bit 1 the field-die pads; the
release itself is of class L and lands at the next tick. As it lands, the engine-die pads are released; a held CV output or
gate that was latched off stays latched off, an enabled one drives its target, any other goes to high impedance, its queue
empty when it is disabled; without a hold no output changes. -/
def Obligations.PadReleaseFreesTheHeldPads : Prop :=
  (∀ (s : State) (t : Tenant) (g : Tag) (c : InFlight), Starts s t g c .padRelease →
    exec (.padRelease t g) s = .next (({ s with pendL := s.pendL ++ [.padRelease] } : State).answer t c .ok (.bytes (leBytes 2
      (bit s.power.pads.isSome 0 + bit (s.hasField && s.field.hold.isSome) 1))))) ∧
  ∀ s : State,
    (s.field.hold = none → landWrite s .padRelease = { s with power := { s.power with pads := none } }) ∧
    ∀ h, s.field.hold = some h → s.field.holdCleared = false → ∃ u : State,
      landWrite s .padRelease = u ∧ u.power.pads = none ∧ u.field.hold = none ∧
      (∀ n, n < 16 → (u.cv n).st = (if (s.cv n).st = .hizLatched ∨ n ∈ h.limited ∨ h.cvs.getD n .hiz = .hizLatched
        then .hizLatched else if (s.cv n).enable then .driven else .hiz) ∧
        (u.cv n).code = (s.cv n).target ∧ (u.cv n).target = (s.cv n).target ∧
        (u.cv n).queue = (if (u.cv n).st = .hiz then [] else (s.cv n).queue)) ∧
      (∀ n, n < 8 → (u.gt n).pin = (s.gt n).high ∧
        ((s.gt n).st ≠ .hizLatched → 16 + n ∉ h.limited → h.gates.getD n .hiz ≠ .hizLatched →
          (u.gt n).st = if (s.gt n).enable then .driven else .hiz)) ∧
      (∀ n, n < 4 → (u.lo n).st = if (s.lo n).enable then .safe else .hiz) ∧
      u = { s with field := u.field, power := { s.power with pads := none } }

/-- The course of a limit on a CV output or a gate (R199, R210, Table 08-4): it begins on a driven output, or at the 0 V of a CV
output in SAFE, with SC set, and CV_FAULT once an episode; it may end by itself; after 5 ms the output is latched off or waits
to retry, by its policy; a retry that limits again is counted, one that does not drives the output and reports CLEARED; 100 ms
without limiting end the episode. -/
def Obligations.LimitsLatchOrRetry : Prop :=
  ∀ (s : State) (o : OutRef) (pos : Bool), s.field.hold = none →
    (∀ n, o = .cv n → s.outSt o = .driven ∨ (s.outSt o = .safe ∧ (s.cv n.val).limiting = false) →
      exec (.cvLimitBegin o pos) s = .next (
        let u := s.updCv n.val fun c => { c with
          st := if (s.cv n.val).st = .driven then .limit else .safe, limiting := true, flags := c.flags ||| 1,
          episode := true, positive := pos }
        if (s.cv n.val).episode then u else steward u .cvFault (arg2 1 n.val) [])) ∧
    (∀ n, o = .gt n → s.outSt o = .driven → exec (.cvLimitBegin o pos) s = .next (
      let u := s.updGt n.val fun c => { c with st := .limit, flags := c.flags ||| 1, episode := true, positive := pos }
      if (s.gt n.val).episode then u else steward u .cvFault (arg2 1 (16 + n.val)) [])) ∧
    (s.outSt o ≠ .driven → s.outSt o ≠ .safe ∨ s.limits o = true → exec (.cvLimitBegin o pos) s = .next s) ∧
    (s.limits o = true →
      exec (.limitExit (.out o)) s = .next (s.setOut o (if s.outSt o = .limit then .driven else .safe)) ∧
      (s.latches o = true →
        exec (.cvLimitTimeout o) s = .next (steward (s.setOut o .hizLatched) .cvFault (arg2 4 (outNum o)) [])) ∧
      (s.latches o = false →
        exec (.cvLimitTimeout o) s = .next (steward (s.setOut o .hizRetrying) .cvFault (arg2 3 (outNum o)) []))) ∧
    (s.limits o = false → exec (.limitExit (.out o)) s = .next s ∧ exec (.cvLimitTimeout o) s = .next s) ∧
    (∀ n, o = .cv n → s.outSt o = .hizRetrying →
      exec (.cvRetryTimer o) s = .next (s.updCv n.val fun c => { c with retrying := true }) ∧
      ((s.cv n.val).retrying = true →
        exec (.cvRetryEnd o true) s =
          .next (s.updCv n.val fun c => { c with retrying := false, retries := c.retries + 1 }) ∧
        exec (.cvRetryEnd o false) s = .next (clearPairs (steward (s.setOut o .driven) .cvFault (arg2 5 n.val) []) n.val))) ∧
    (∀ n, o = .gt n → s.outSt o = .hizRetrying →
      exec (.cvRetryTimer o) s = .next (s.updGt n.val fun c => { c with retrying := true }) ∧
      ((s.gt n.val).retrying = true → exec (.cvRetryEnd o true) s =
        .next (s.updGt n.val fun c => { c with retrying := false, retries := c.retries + 1 }))) ∧
    (∀ n, o = .cv n → s.limits o = false →
      exec (.cvEpisodeEnd o) s = .next (s.updCv n.val fun c => { c with episode := false })) ∧
    (∀ n, o = .gt n → s.limits o = false →
      exec (.cvEpisodeEnd o) s = .next (s.updGt n.val fun c => { c with episode := false }))

/-- PAIR_SUSPECT and remote sense (R206, R207, R212): two outputs that limit with opposite signs, not named as a pair before, get
their PAIR flag and are reported, lower number first; with a difference above 50 mV on a REMOTE output it falls back to its
force ball with SENSE_OPEN set and reported; below 25 mV at an injection it regulates its sense ball again and reports CLEARED. -/
def Obligations.PairsAndSenseAreReported : Prop :=
  ∀ (s : State) (n m : Fin 16) (mv : Nat),
    (n < m → s.limits (.cv n) = true → s.limits (.cv m) = true → (s.cv n.val).positive ≠ (s.cv m.val).positive →
      (∀ p ∈ s.field.pairs, ¬ (p.1 = n.val ∧ p.2.1 = m.val)) →
      let flagged := (s.updCv n.val fun c => { c with flags := c.flags ||| 4 }).updCv m.val fun c =>
        { c with flags := c.flags ||| 4 }
      exec (.pairSuspect (.cv n) (.cv m)) s = .next (steward { flagged with field := { flagged.field with
        pairs := s.field.pairs ++ [(n.val, m.val, [n.val, m.val])] } } .pairSuspect (arg2 m.val n.val) [])) ∧
    (s.limits (.cv n) = false → exec (.pairSuspect (.cv n) (.cv m)) s = .next s) ∧
    ((s.cv n.val).remote = true → s.field.ready = true → s.field.hold = none →
      ((s.cv n.val).fallback = false → 50 < mv → exec (.senseOpenDetect n mv) s =
        .next (steward (s.updCv n.val fun c => { c with fallback := true, flags := c.flags ||| 2 }) .cvFault
          (arg2 2 n.val) [])) ∧
      ((s.cv n.val).fallback = true → mv < 25 → exec (.senseInjection n mv) s =
        .next (clearPairs (steward (s.updCv n.val fun c => { c with fallback := false }) .cvFault (arg2 5 n.val) [])
          n.val))) ∧
    ((s.cv n.val).remote = false → exec (.senseOpenDetect n mv) s = .next s ∧ exec (.senseInjection n mv) s = .next s)

/-- SAFE, the disable of a line output, and its limits (R198 to R200): at the first tick of the sample after SAFE has run, a CV
output drives its target without glide and a line output drives, in LIMIT when it limits; 1 ms after a disable a line output
is in high impedance; a limiting line output goes on as it is, SHORT is raised each time limiting begins and CLEARED at the end
of the episode. -/
def Obligations.SafeEndsInADrivenOutput : Prop :=
  ∀ (s : State) (n : Fin 16) (k : Fin 4),
    (s.core.tide.et = 0 → (s.cv n.val).st = .safe → (s.cv n.val).safeLeft = 0 → exec (.cvSafeEnd n) s =
      .next (s.updCv n.val fun c => { c with
        st := if c.limiting then .limit else .driven, code := c.target, gliding := false })) ∧
    ((s.cv n.val).st ≠ .safe ∨ (s.cv n.val).safeLeft ≠ 0 → exec (.cvSafeEnd n) s = .next s) ∧
    (s.core.tide.et = 0 → (s.lo k.val).st = .safe → (s.lo k.val).safeLeft = 0 → (s.lo k.val).disabling = false →
      exec (.lineSafeEnd k) s = .next (s.updLo k.val fun o => { o with
        st := if o.limiting then .limit else .driven, carries := true })) ∧
    ((s.lo k.val).disabling = true → exec (.lineDisableEnd k) s =
      .next (s.updLo k.val fun o => { o with st := .hiz, disabling := false, limiting := false })) ∧
    ((s.lo k.val).disabling = false → exec (.lineDisableEnd k) s = .next s) ∧
    ((s.lo k.val).limiting = false → (s.lo k.val).st = .driven ∨ (s.lo k.val).st = .safe →
      exec (.lineLimitBegin k) s = .next (steward (s.updLo k.val fun o => { o with
        st := if (s.lo k.val).st = .driven then .limit else .safe, limiting := true, flags := o.flags ||| 1,
        episode := true }) .lineFault (arg2 1 k.val) [])) ∧
    ((s.lo k.val).limiting = true → exec (.lineLimitBegin k) s = .next s) ∧
    ((s.lo k.val).st = .limit → exec (.limitExit (.line k)) s =
      .next (s.updLo k.val fun o => { o with st := .driven, limiting := false })) ∧
    ((s.lo k.val).st ≠ .limit → exec (.limitExit (.line k)) s =
      .next (s.updLo k.val fun o => { o with limiting := false })) ∧
    ((s.lo k.val).episode = true → (s.lo k.val).limiting = false → exec (.lineLimitClear k) s =
      .next (steward (s.updLo k.val fun o => { o with episode := false }) .lineFault (arg2 2 k.val) []))

/-! ## Field inputs -/

/-- CI_CONFIG, KEYSCAN_CONFIG and KEYSCAN_STATUS (R13, R28, R222, R225, Table 04-9). While the field die is down each completes
FIELD_DOWN. CI_CONFIG waits for the next tick, for the named input or all eight. The scanner takes a mode other than OFF only
while it is off; it starts at scan 0 with no key on and no fault. The status is 20 bytes: mode, open lines, faulty cells. -/
def Obligations.InputCommandsSetTheInputs : Prop :=
  ∀ (s : State) (t : Tenant) (g : Tag) (c : InFlight) (n : Option Nat) (rank bank mode part : Nat) (w : Tenant),
    let named := match n with
      | some k => [k]
      | none => List.range 8
    let down := fun row => s.field.ready = false → exec row s = .next (s.answer t c .fieldDown (.note 0))
    (Starts s t g c (.ciConfig n rank bank) → down (.ciConfig t g) ∧ (s.field.ready = true → exec (.ciConfig t g) s =
      .next (({ s with pendL := s.pendL ++ named.map fun k => .ciConfig k rank bank } : State).answer t c .ok (.note 0)))) ∧
    (Starts s t g c (.keyscanConfig mode w part) → down (.keyscanConfig t g) ∧ (s.field.ready = true →
      (s.scan.mode ≠ 0 → mode ≠ 0 → exec (.keyscanConfig t g) s = .next (s.answer t c .busyClassX (.note 0))) ∧
      (s.scan.mode = 0 → mode ≠ 0 → exec (.keyscanConfig t g) s = .next (({ s with scan := { s.scan with
        mode := mode, tenant := w, part := part, scan := 0, captured := false, reseed := false, cells := [], keys := [],
        senseOpen := 0, driveOpen := 0 } } : State).answer t c .ok (.note 0))) ∧
      (mode = 0 → (∀ k, (s.scan.key k).on = false) → exec (.keyscanConfig t g) s = .next (({ s with scan := { s.scan with
        mode := 0, tenant := w, part := part, keys := [] } } : State).answer t c .ok (.note 0))))) ∧
    (Starts s t g c .keyscanStatus → down (.keyscanStatus t g) ∧ (s.field.ready = true → ∃ cells : List Byte,
      cells.length = 16 ∧ exec (.keyscanStatus t g) s = .next (s.answer t c .ok (.bytes
        ([BitVec.ofNat 8 s.scan.mode, s.scan.senseOpen] ++ leBytes 2 s.scan.driveOpen.toNat ++ cells)))))

/-- A CV-input sample (R220 to R224): while the field die runs, the trimmed value of the channel becomes its 24-bit word,
which saturates; a saturated sample sets OVERLOAD, counts, and at the first of an episode raises CI_OVERLOAD with the input
number. 100 ms without saturation end the episode. Without the field die nothing changes. -/
def Obligations.InputSamplesSaturateAndReport : Prop :=
  ∀ (s : State) (n : Fin 8) (bits : BitVec 128),
    let c := [0, 32, 64, 96].foldl (fun c k => CvIn.cic c bits k) (s.ci n.val)
    let code := roundHalfUp ((bankAt s.cal.trims (16 + n.val) {}).apply c.volts * 8388608 / 10)
    (s.fieldRuns = false → exec (.ciSample n bits) s = .next s) ∧
    (s.fieldRuns = true → s.cal.trim = none →
      (-8388608 ≤ code → code ≤ 8388607 →
        exec (.ciSample n bits) s = .next { s with cis := bankPut s.cis n.val (c.word24 code) }) ∧
      (∀ sat, (code < -8388608 ∧ sat = -8388608 ∨ 8388607 < code ∧ sat = 8388607) →
        let d := c.word24 sat
        let u := { s with cis := bankPut s.cis n.val { d with
          flags := d.flags ||| 1, overloads := d.overloads + 1, episode := true } }
        exec (.ciSample n bits) s = .next (if d.episode then u else steward u .ciOverload (arg2 0 n.val) []))) ∧
    exec (.ciOverloadEnd n) s = .next { s with cis := bankPut s.cis n.val { s.ci n.val with episode := false } }

/-- The key scanner (R228 to R231, R235). A contact key goes on when its second contact closes while its first is closed, with
velocity 65,535 for a time up to `key.vel_fast_us` and 1 from `key.vel_slow_us` on, and off when its first contact opens. A
scan counts and changes nothing but the scanner and what the tenants hear. Rest codes are captured after scan 63; a cell
fault clears, and is reported, after 64 scans in range. -/
def Obligations.KeysGoOnAndOff : Prop :=
  ∀ (s : State) (r : ScanReadings) (cell : Fin 128) (k : Key) (fast slow e no : Nat),
    (k.on = false → k.waitRelease = false → Key.contact k fast slow false true false true true e no =
      ({ k with on := true }, [⟨1, no, .known (keyVelocity fast slow (e - k.t1))⟩], false)) ∧
    (k.on = true → Key.contact k fast slow false true false false false e no =
      ({ k with on := false, waitRelease := false }, [⟨0, no, .known (keyVelocity fast slow (e - k.t2))⟩], false)) ∧
    (∀ dt, (dt ≤ fast → keyVelocity fast slow dt = 65535) ∧ (fast < slow → slow ≤ dt → keyVelocity fast slow dt = 1)) ∧
    (s.scans = false → exec (.keyScan r) s = .next s) ∧
    (s.scans = true → ∃ u : State, exec (.keyScan r) s = .next u ∧ u.scan.scan = s.scan.scan + 1 ∧
      u.scan.mode = s.scan.mode ∧ u = { s with
        scan := u.scan, tenants := u.tenants, fw := u.fw, power := u.power, freeCtr := u.freeCtr }) ∧
    (s.scan.mode = 2 → s.scan.captured = false → s.scan.scan = 64 → ∃ u : State, exec .keyRestCaptureDone s = .next u ∧
      u.scan.captured = true ∧ (∀ c, c < 128 → (u.scan.cell c).rest = mkRat (s.scan.cell c).sum 63) ∧
      u = { s with scan := u.scan }) ∧
    (s.scan.mode ≠ 2 ∨ s.scan.captured = true ∨ s.scan.scan ≠ 64 → exec .keyRestCaptureDone s = .next s) ∧
    ((s.scan.cell cell.val).faulty = true → 64 ≤ (s.scan.cell cell.val).inScans → ∃ u : State,
      exec (.keyCellFaultClear cell) s = .next (steward u .keyFault (arg2 0x83 cell.val) []) ∧
      (u.scan.cell cell.val).faulty = false ∧ u = { s with scan := u.scan }) ∧
    ((s.scan.cell cell.val).faulty = false → exec (.keyCellFaultClear cell) s = .next s)

/-! ## Serial channels and the card session -/

/-- SC_CONFIG, SC_SEND and SC_BREAK (R28, R97, R107, R238, R243, R244, R252, Table 04-10). Settings are taken by a
channel that is OFF, and CARD by one channel at a time; otherwise BUSY_CLASS_X. OFF on a running channel acts at once and writes
no setting: queues and breaks are discarded, their SC_BREAKs complete OK, auto-baud is armed again, and a card is deactivated. Bytes and breaks enter the TX queue
of a channel the tenant owns; SHORT is the number of bytes taken. A channel that is OFF, in CARD mode, echoes or measures
refuses them with BAD_FIELD. -/
def Obligations.SerialCommandsSetAndFeedTheChannel : Prop :=
  ∀ (s : State) (t : Tenant) (g : Tag) (c : InFlight) (a : ScArgs) (ch : Fin 4) (l : List Byte) (bits : Nat),
    let d := s.sc a.ch.val
    let e := s.sc ch.val
    let off := { d with
      mode := .off, rx := [], tx := [], txBreak := none, rtsHigh := true, txLast := none, txWave := none, brk := .none,
      locked := false, baudN := 0, baudF := 0, overrunArmed := true, errAt := none }
    (Starts s t g c (.scConfig a) →
      (d.mode = .off → (a.mode = .card → s.cardCh = none) → exec (.scConfig t g) s =
        .next (({ s with serials := bankPut s.serials a.ch.val (d.set a).rts } : State).answer t c .ok (.note 0))) ∧
      (a.mode ≠ .off → (d.mode ≠ .off ∨ a.mode = .card ∧ s.cardCh ≠ none) →
        exec (.scConfig t g) s = .next (s.answer t c .busyClassX (.note 0))) ∧
      (a.mode = .off → d.mode ≠ .off → d.mode ≠ .card → d.breakRefs = [] → exec (.scConfig t g) s =
        .next (({ s with serials := bankPut s.serials a.ch.val off } : State).answer t c .ok (.note 0))) ∧
      (a.mode = .off → d.mode ≠ .off → d.mode ≠ .card → ∃ u : State, exec (.scConfig t g) s = .next u ∧
        u = { s with serials := bankPut s.serials a.ch.val off, tenants := u.tenants }) ∧
      (a.mode = .off → d.mode = .card → ∃ u : State, exec (.scConfig t g) s = .next u ∧ (u.sc a.ch.val).mode = .off ∧
        (u.sc a.ch.val).tx = [] ∧ u.card.ref = none ∧ u.card.phase = .idle ∧ u = { s with
          serials := u.serials, card := u.card, tenants := u.tenants, fw := u.fw, power := u.power })) ∧
    (Starts s t g c (.scSend ch l) →
      (e.owner ≠ t → exec (.scSend t g) s = .next (s.answer t c .noRights (.note 0))) ∧
      (e.owner = t → e.noSend = true → exec (.scSend t g) s = .next (s.answer t c .badField (.note 0))) ∧
      (e.owner = t → e.noSend = false →
        let k := min l.length (2048 - e.txFill)
        exec (.scSend t g) s = .next (({ s with serials := bankPut s.serials ch.val { e with
          tx := e.tx ++ (l.take k).map TxItem.byte } } : State).answer t c .ok (.bytes (leBytes 2 k))))) ∧
    (Starts s t g c (.scBreak ch bits) →
      (e.owner ≠ t → exec (.scBreak t g) s = .next (s.answer t c .noRights (.note 0))) ∧
      (e.owner = t → e.noSend = true → exec (.scBreak t g) s = .next (s.answer t c .badField (.note 0))) ∧
      (e.owner = t → e.noSend = false → exec (.scBreak t g) s = .next (({ s with serials := bankPut s.serials ch.val { e with
          tx := e.tx ++ [.brk bits (some (t, g))] } } : State).executing t g)))

/-- What happens on the lines (R239 to R260). A character of a decoding channel is sampled bit by bit: a good byte is queued, or
overruns a full queue and counts; a wrong stop bit or parity discards and counts it; an all-zero one begins a break, which
the rise of the line reports with its length in bit times, and after saturation with LINE_HIGH. SC_RX takes up to 64 bytes
when 64 wait or the oldest is 1 ms old and the owner has room. The transmitter takes the queue in order unless CTS_N holds it;
SC_BREAK completes when its break ends; what it drives is the wave of the character or break in the channel's line coding. An
echo drives what it receives, and counts a character that starts with CTS_N high. A start edge of a wake channel requests a
wake while the unit sleeps. -/
def Obligations.SerialLinesFollowTheFrames : Prop :=
  ∀ (s : State) (ch : Fin 4) (edges : List Nat) (low ms : Nat) (cts : Bool),
    let c := s.sc ch.val
    let put := fun d => ({ s with serials := bankPut s.serials ch.val d } : State)
    let tell := fun (u : State) kind cont => raiseTo u c.owner .scLine (arg2 ch.val kind) cont
    let sampled := sampleChar c.frame (lineLevel edges)
    let dead := c.mode = .off ∨ c.mode = .card ∨ c.brk ≠ .none ∨ (s.asleep = true ∧ s.scWakes ch.val = false)
    let plain := c.mode = .general ∧ c.autobaud = false ∧ c.loopback = false ∧ c.echo = false ∧ c.brk = .none ∧
      s.asleep = false
    (∀ b, sampleChar ⟨8, 0, 1536, 0⟩ (lineLevel (sentEdges ⟨8, 0, 1536, 0⟩ b)) = .char b false false) ∧
    (dead → exec (.scCharReceived ch edges cts) s = .next s) ∧
    (plain → sampled = .glitch → exec (.scCharReceived ch edges cts) s = .next (put { c with waking := false })) ∧
    (plain → sampled = .brk → c.waking = false → exec (.scCharReceived ch edges cts) s = .next (put { c with
      brk := .counting, brkL16 := c.l16 })) ∧
    (plain → ∀ b, sampled = .char b false false → s.scDiscards ch.val = false →
      (c.rx.length < 256 → exec (.scCharReceived ch edges cts) s = .next (put { ({ c with
        rx := c.rx ++ [b], overrunArmed := true } : Serial).rts with waking := false })) ∧
      (256 ≤ c.rx.length → c.overrunArmed = false → exec (.scCharReceived ch edges cts) s = .next (put { c with
        overruns := c.overruns + 1, waking := false }))) ∧
    (plain → ∀ b p, sampled = .char b false p → p = true → ∃ u : State, exec (.scCharReceived ch edges cts) s = .next u ∧
      u = { put { c with parityErr := c.parityErr + 1, errAt := some s.core.ticks, waking := false } with
        tenants := u.tenants, fw := u.fw, power := u.power }) ∧
    (c.brk = .none → exec (.scLineRise ch low) s = .next s) ∧
    (c.brk = .counting → exec (.scLineRise ch low) s = .next (tell (put { c with brk := .none }) 1
      (leBytes 4 (min 0xFFFFFF (low * 16 / max 1 c.brkL16))))) ∧
    (c.brk = .saturated → exec (.scLineRise ch low) s = .next (tell (put { c with brk := .none }) 6 [])) ∧
    (c.brk = .counting → exec (.scBreakSaturate ch) s = .next (tell (put { c with brk := .saturated }) 2 [])) ∧
    (c.brk ≠ .counting → exec (.scBreakSaturate ch) s = .next s) ∧
    (s.fwRuns = true → (s.ten c.owner).st = .opened → (s.ten c.owner).events.getLsbD 16 = true → c.rx ≠ [] →
      (64 ≤ c.rx.length ∨ 1 ≤ ms) → evSlots (c.rx.take 64) ≤ (s.ten c.owner).cqFree → exec (.scRxDeliver ch ms) s =
        .next (raiseTo (put ({ c with rx := c.rx.drop 64, overrunArmed := true } : Serial).rts) c.owner .scRx
          (arg2 ch.val (c.rx.take 64).length) (c.rx.take 64))) ∧
    (c.rx.length < 64 → ms = 0 → exec (.scRxDeliver ch ms) s = .next s) ∧
    (s.txReady ch.val = true → c.echo = false → c.held cts = false →
      (∀ b r, c.tx = .byte b :: r → exec (.scTxCharacter ch cts) s = .next (put { c with
        tx := r, txLast := some b, txWave := if c.loopback then c.txWave else some (c.charWave b) })) ∧
      (∀ n r l, c.tx = .brk n r :: l → exec (.scTxBreakStart ch cts) s = .next (put { c with
        tx := l, txBreak := some (n, r), txWave := if c.loopback then c.txWave else some (c.breakWave n) }))) ∧
    (c.mode ≠ .card → c.echo = false → c.held cts = true →
      exec (.scTxCharacter ch cts) s = .next s ∧ exec (.scTxBreakStart ch cts) s = .next s) ∧
    (c.mode = .general → c.echo = true → exec (.scTxCharacter ch cts) s = .next s ∧
      (c.loopback = false → c.brk = .none → s.asleep = false → s.power.pads = none → ∃ u : State,
        exec (.scCharReceived ch edges cts) s = .next u ∧
        (u.sc ch.val).txWave = some (c.echoWave edges (lineLevel edges)) ∧
        (u.sc ch.val).ctsIgnored = (if cts then c.ctsIgnored + 1 else c.ctsIgnored) ∧
        u = { s with serials := u.serials, tenants := u.tenants, fw := u.fw, power := u.power })) ∧
    (∀ n r, c.txBreak = some (n, r) → exec (.scTxBreakEnd ch) s =
      .next (finishRef (put { c with txBreak := none }) r .ok (.note 0))) ∧
    (c.txBreak = none → exec (.scTxBreakEnd ch) s = .next s) ∧
    (s.scWakes ch.val = true → c.disarmed = false → s.asleep = true → exec (.scWakeEdge ch) s =
      .next { put { c with waking := true } with power := { s.power with wake := some (s.power.wake.getD (.sc ch)) } }) ∧
    (s.scWakes ch.val = false ∨ c.disarmed = true → exec (.scWakeEdge ch) s = .next s) ∧
    exec (.scWakeRearm ch) s = .next (put { c with disarmed := false })

/-- The card session (R92, R93, R261 to R266, Table 10-5). A CARD_SESSION needs a channel in CARD mode that the tenant owns, and
waits while another one runs. START powers a card that is present, and the timers and TS take it to its ATR; EXCHANGE sends
the header and awaits a procedure byte; STOP deactivates; each but START needs an active card. Characters are read in the
convention that TS showed. A failure ends the command and deactivates: CARD_RST, CARD_CLK, I/O and CARD_EN low, CARD_STATE 2. A
removal ends the command CARD_ABSENT. -/
def Obligations.CardSessionsRunTheirSteps : Prop :=
  ∀ (s : State) (t : Tenant) (g : Tag) (c : InFlight) (d : CardDir) (h l : List Byte) (n : Nat) (m : List Bool) (t3 : Nat)
    (w : BitVec 9),
    let k := s.card
    let free := s.cardCh = some n ∧ (s.sc n).owner = t ∧ k.ref = none
    let turned := fun row => (s.cardCh = none → exec row s = .next (s.answer t c .badField (.note 0))) ∧
      (s.cardCh = some n → (s.sc n).owner ≠ t → exec row s = .next (s.answer t c .noRights (.note 0))) ∧
      (s.cardCh = some n → (s.sc n).owner = t → k.ref ≠ none → exec row s = .next s)
    let failed := fun st : Status => (Host.Outcome.next
      (deactivate (finishRef { s with card := { k with ref := none } } k.ref st (.note 0))) : Host.Outcome State Fault Refusal)
    (Starts s t g c .cardStart → turned (.cardSessionStart t g) ∧
      (free → k.present = true → exec (.cardSessionStart t g) s = .next (({ s with card := { k with
        en := true, clk := false, rst := false, phase := .powered, ref := some (t, g), inverse := false, atr := [],
        guardTime := 0, wi := 10, repeats := 0, errSignal := false } } : State).executing t g)) ∧
      (free → k.present = false → exec (.cardSessionStart t g) s = .next (s.answer t c .cardAbsent (.note 0)))) ∧
    (Starts s t g c (.cardExchange d h l) → turned (.cardSessionExchange t g) ∧
      (free → k.phase ≠ .idle → exec (.cardSessionExchange t g) s = .next (({ s with
        serials := bankPut s.serials n { s.sc n with tx := h.map TxItem.byte, txLast := none }
        card := { k with
          phase := .procedure, ref := some (t, g), dir := d, header := h, toSend := l, got := [], repeats := 0,
          expect := if d = .inward then (if byteAt h 4 = 0 then 256 else byteAt h 4) else 0 } } : State).executing t g)) ∧
      (free → k.phase = .idle → exec (.cardSessionExchange t g) s = .next (s.answer t c .cardAbsent (.note 0)))) ∧
    (Starts s t g c .cardStop → turned (.cardSessionStop t g) ∧
      (free → k.phase ≠ .idle → exec (.cardSessionStop t g) s = .next (ok (deactivate s) t g)) ∧
      (free → k.phase = .idle → exec (.cardSessionStop t g) s = .next (s.answer t c .cardAbsent (.note 0)))) ∧
    (∃ u : State, deactivate s = u ∧ u.card.phase = .idle ∧ (k.phase ≠ .idle → u.card.en = false ∧ u.card.clk = false ∧
      u.card.rst = false ∧ u.card.ioLow = true) ∧ (k.phase = .idle → u = s) ∧
      u = { s with card := u.card, serials := u.serials, tenants := u.tenants, fw := u.fw, power := u.power }) ∧
    (s.cardCh = none → exec (.cardDetectChange true) s = .next s ∧ exec (.cardDetectChange false) s = .next s) ∧
    (s.cardCh = some n → k.present = false → exec (.cardDetectChange true) s =
      .next (raiseTo { s with card := { k with present := true } } (s.sc n).owner .cardState (arg2 0 1) [])) ∧
    (s.cardCh = some n → k.present = true → ∃ u : State, exec (.cardDetectChange false) s = .next (deactivate u) ∧
      u.card = { k with present := false, ref := none } ∧
      u = { s with card := u.card, tenants := u.tenants, fw := u.fw, power := u.power }) ∧
    (k.phase = .powered → exec .cardActivationTimer s = .next { s with card := { k with
      clk := true, ioLow := false, phase := .clocked } }) ∧
    (k.phase = .clocked → exec .cardActivationTimer s = .next { s with card := { k with rst := true, phase := .waitTs } }) ∧
    (k.phase ≠ .powered → k.phase ≠ .clocked → exec .cardActivationTimer s = .next s) ∧
    (k.phase = .waitTs → k.ref ≠ none → s.cardCh = some n → (s.sc n).autobaud = false →
      exec (.cardTsReceived tsDirect t3) s = .next { s with card := { k with
        phase := .atr, inverse := false, etuN := 372 * k.clkDiv, etuF := 0, atr := [0x3B] } } ∧
      exec (.cardTsReceived tsInverse t3) s = .next { s with card := { k with
        phase := .atr, inverse := true, etuN := 372 * k.clkDiv, etuF := 0, atr := [0x3F] } } ∧
      (m ≠ tsDirect → m ≠ tsInverse → exec (.cardTsReceived m t3) s = failed .cardProtocol)) ∧
    (k.phase ≠ .waitTs → exec (.cardTsReceived m t3) s = .next s ∧ exec .cardTsTimeout s = .next s) ∧
    (k.phase = .waitTs → exec .cardTsTimeout s = failed .cardTimeout) ∧
    (∀ inverse b, (∀ i, i < 9 → w.getLsbD i = (cardMoments inverse b).getD i false) → cardByte inverse w = (b, true)) ∧
    (∀ b, k.ref ≠ none → s.cardCh = some n → (s.sc n).tx = [] → cardByte k.inverse w = (b, true) →
      (k.phase = .data true → exec (.cardCharReceived w) s = .next { s with card := { k with
        errSignal := false, repeats := 0, got := k.got ++ [b], expect := k.expect - 1, phase := .procedure } }) ∧
      (∀ sw1, k.phase = .sw2 sw1 → exec (.cardCharReceived w) s = .next (finishRef { s with card := { k with
        errSignal := false, repeats := 0, ref := none, phase := .ready } } k.ref .ok (.bytes (k.got ++ [sw1, b]))))) ∧
    (k.ref ≠ none → s.cardCh = some n → (s.sc n).tx = [] → (cardByte k.inverse w).2 = false → k.phase = .procedure →
      (k.repeats < 3 → exec (.cardCharReceived w) s = .next { s with card := { k with
        errSignal := true, repeats := k.repeats + 1 } }) ∧
      (3 ≤ k.repeats → exec (.cardCharReceived w) s = failed .cardProtocol)) ∧
    (k.ref = none → exec (.cardCharReceived w) s = .next s ∧ exec .cardWaitTimeout s = .next s) ∧
    (k.ref ≠ none → k.phase = .procedure → exec .cardWaitTimeout s = failed .cardTimeout)

/-! ## Vault, life cycle, firmware slots, calibration, lanes -/

/-- The stored records (R92, R109, R111, R307, R313, R342). The vault takes keys only in MAKER and FIELD without a tamper record, and
waits for a sealed load that uses the slot; a key that does not unwrap is SIGNATURE_BAD. LIFECYCLE_ADVANCE takes the unit one
state on: target and die ID must match, T1 to T7 must be CLOSED. FW_STAGE writes the inactive slot, which loses its
verified mark and regains it only by a FINAL that passes; FW_ACTIVATE needs the mark and sets the warm reset under way.
A store that does not verify is STORE_FAILED. -/
def Obligations.StoredRecordsFollowTheirCommands : Prop :=
  ∀ (s : State) (t : Tenant) (g : Tag) (c : InFlight) (n : Nat) (w key : List Byte) (target off win len : Nat)
    (die : BitVec 32) (final : Bool) (hw : HwAnswer),
    let answers := fun row st => exec row s = .next (s.answer t c st (.note 0))
    let locked := s.nvm.life = .blank ∨ s.nvm.life = .ret ∨ s.nvm.tampered ≠ none
    let stored := fun keys => ({ s with
      vault := { s.vault with keys := keys }
      nvm := { s.nvm with vault := s.nvm.vault.put { under := s.vault.storage, keys := keys } true } } : State)
    let m := memWriteN (s.nvm.slotMem (!s.nvm.activeB)) off ((s.ten t).windowRead win len)
    let staged := ({ s with nvm := (s.nvm.setInactive m).unmark } : State)
    let active := ({ activeB := !s.nvm.activeB, trial := true } : SlotRec)
    (Starts s t g c (.vaultLoad n w) →
      (locked → answers (.vaultKeyLoad t g hw) .vaultLocked) ∧
      (¬ locked → s.keyInUse n = true → exec (.vaultKeyLoad t g hw) s = .next s) ∧
      (¬ locked → s.keyInUse n = false →
        (s.vault.kek = none ∨ (∀ k, s.vault.kek = some k → Config.unwrap k w = none) →
          answers (.vaultKeyLoad t g hw) .signatureBad) ∧
        (∀ k x, s.vault.kek = some k → Config.unwrap k w = some x → hw.verify = true → exec (.vaultKeyLoad t g hw) s =
          .next ((stored (bankPut s.vault.keys n x)).answer t c .ok (.note 0))))) ∧
    (Starts s t g c (.vaultErase n) →
      (locked → answers (.vaultKeyErase t g hw) .vaultLocked) ∧
      (¬ locked → s.keyInUse n = true → exec (.vaultKeyErase t g hw) s = .next s) ∧
      (¬ locked → s.keyInUse n = false → hw.verify = true → exec (.vaultKeyErase t g hw) s =
        .next ((stored (bankDel s.vault.keys n)).answer t c .ok (.note 0)))) ∧
    (Starts s t g c (.lifecycle target die key) →
      ((∃ u : Tenant, u ≠ 0 ∧ (s.ten u).st ≠ .closed) → answers (.lifecycleAdvance t g hw) .busyClassX) ∧
      ((∀ u : Tenant, u ≠ 0 → (s.ten u).st = .closed) →
        (s.nvm.life = .ret → answers (.lifecycleAdvance t g hw) .lifecycleDenied) ∧
        (∀ l, s.nvm.life.next = some l →
          (l.code ≠ target ∨ s.fuse.dieId.setWidth 32 ≠ die → answers (.lifecycleAdvance t g hw) .lifecycleDenied) ∧
          (l.code = target → s.fuse.dieId.setWidth 32 = die → s.mem.loads ≠ [] ∨ (s.ten t).loadsInFlight g ≠ [] →
            exec (.lifecycleAdvance t g hw) s = .next s) ∧
          (l.code = target → s.fuse.dieId.setWidth 32 = die → s.mem.loads = [] → (s.ten t).loadsInFlight g = [] →
            hw.verify = true → ∃ u : State,
            exec (.lifecycleAdvance t g hw) s = .next u ∧ u.nvm.life = l ∧ u.nvm.advance = none ∧ u.vault.keys = [] ∧
            (l = .maker → u.nvm.makerKey = some key) ∧ (l = .ret → u.nvm.makerKey = none) ∧ u.mem.seals = [] ∧
            u = { s with tenants := u.tenants, nvm := u.nvm, vault := u.vault, mem := u.mem })))) ∧
    (Starts s t g c (.fwStage off win len final) →
      (hw.verify = true → final = false → exec (.fwStage t g hw) s = .next (staged.answer t c .ok (.note 0))) ∧
      (hw.verify = true → final = true → staged.nvm.imagePasses m = true → exec (.fwStage t g hw) s =
        .next (({ staged with nvm := staged.nvm.putSlot { staged.nvm.slot with verified := true } true } : State).answer t c .ok (.note 0))) ∧
      (hw.verify = true → final = true → staged.nvm.imagePasses m = false →
        exec (.fwStage t g hw) s = .next (staged.answer t c .signatureBad (.note 0))) ∧
      (hw.verify = false → ∃ u : State, exec (.fwStage t g hw) s = .next (u.answer t c .storeFailed (.note 0)) ∧
        u.nvm.verified = false ∧ u.nvm.slotMem u.nvm.activeB = s.nvm.slotMem s.nvm.activeB ∧
        u = { s with nvm := u.nvm, freeCtr := u.freeCtr })) ∧
    (Starts s t g c .fwActivate →
      (s.nvm.verified = false → answers (.fwActivate t g hw) .notFound) ∧
      (s.nvm.verified = true → hw.verify = false → (s.nvm.putSlot active false).slot = s.nvm.slot ∧
        exec (.fwActivate t g hw) s =
          .next (({ s with nvm := s.nvm.putSlot active false } : State).answer t c .storeFailed (.note 0))) ∧
      (s.nvm.verified = true → hw.verify = true → exec (.fwActivate t g hw) s = .next { s.answer t c .ok (.note 0) with
        nvm := s.nvm.putSlot active true
        fw := { s.fw with resetDue := true } })) ∧
    (Starts s t g c .deviceReset → exec (.deviceReset t g) s =
      .next { s.answer t c .ok (.note 0) with fw := { s.fw with resetDue := true } })

/-- Calibration and self-tests (R13, R339, R345 to R350, Tables 14-2, 14-4 to 14-6). CAL_RUN skips active targets unless
`cal.trim_active` allows them, and CAL_RUN_DONE reports the masks trimmed and skipped. A trim lands clamped. CAL_STORE runs
alone and reports the sequence number written, or STORE_FAILED. The periodic trim is due every `cal.trim_period_s`, owed in
NAP. SELFTEST needs its blocks stopped and reports those that failed. -/
def Obligations.CalibrationRunsAndReports : Prop :=
  ∀ (s : State) (t : Tenant) (g : Tag) (c : InFlight) (target mask index : Nat) (b : BitVec 32) (m : Measured)
    (l : List Measured) (elapsed : Nat),
    let answers := fun row st => exec row s = .next (s.answer t c st (.note 0))
    let named := trimTargets target mask
    let skip := if s.cal.trimActive then [] else named.filter s.trimActive
    let run := fun ref => ({
      ref := ref, targets := named.filter fun n => !skip.contains n, skipped := skip, limited := skip != [] } : TrimRun)
    let bound : Int := if m.target < 24 then 20000 else 2000
    let begun := ({ s with cal := { s.cal with storing := some (some (t, g)) }
                           nvm := { s.nvm with cal := s.nvm.cal.start } } : State)
    (Starts s t g c (.calRun target mask) →
      (s.field.ready = false → answers (.calRun t g) .fieldDown) ∧
      (s.field.ready = true → s.cal.trim ≠ none → exec (.calRun t g) s = .next s) ∧
      (s.field.ready = true → s.cal.trim = none → exec (.calRun t g) s =
        .next (({ s with cal := { s.cal with trim := some (run (some (t, g))) } } : State).executing t g))) ∧
    (s.fwRuns = true →
      (∀ r, s.cal.trim = some r → r.ref = some (t, g) → r.targets = [] → exec (.calRunDone l) s =
        .next (finish { s with cal := { s.cal with trim := none } } t g (if r.limited then .okLimited else .ok)
          (.bytes (leBytes 4 0 ++ leBytes 4 (targetMask r.skipped))))) ∧
      (∀ r, s.cal.trim = some r → r.ref = some (t, g) → r.targets = [m.target] → ∃ u : State, exec (.calRunDone [m]) s =
        .next (finish u t g (if r.limited then .okLimited else .ok)
          (.bytes (leBytes 4 (2 ^ m.target) ++ leBytes 4 (targetMask r.skipped)))) ∧ u.cal.trim = none ∧
        (u.trim m.target).offset = min bound (max (-bound) m.offset) ∧
        (u.trim m.target).count = (s.trim m.target).count + 1 ∧
        u = { s with cal := u.cal, tenants := u.tenants, fw := u.fw, power := u.power }) ∧
      (∀ r, s.cal.trim = some r → r.ref = none → r.targets = [m.target] → ∃ u : State,
        exec (.periodicTrimDone [m]) s = .next u ∧ u.cal.trim = none ∧
        (u.trim m.target).offset = min bound (max (-bound) m.offset) ∧
        u = { s with cal := u.cal, nvm := u.nvm, tenants := u.tenants, fw := u.fw, power := u.power }) ∧
      (s.cal.trim = none → exec (.calRunDone l) s = .next s ∧ exec (.periodicTrimDone l) s = .next s) ∧
      (s.cal.storing = some (some (t, g)) → s.cal.storeOwed = false → exec (.calStoreDone true) s =
        .next (finish { s with
            cal := { s.cal with storing := none }
            nvm := { s.nvm with cal := s.nvm.cal.commit (if s.hasField then s.cal.trims else []) } } t g .ok
          (.bytes (leBytes 4 (if s.nvm.cal.target then s.nvm.cal.b else s.nvm.cal.a).seq))) ∧
        exec (.calStoreDone false) s =
        .next (finish (eccEvent { s with cal := { s.cal with storing := none } } true 64) t g .storeFailed (.note 0))) ∧
      (s.cal.storing = none → exec (.calStoreDone true) s = .next s) ∧
      (∀ r, s.cal.test = some r → r.target ≠ 0 → r.target ≠ 3 → exec (.selftestDone b) s =
        .next (finish { s with cal := { s.cal with test := none } } r.t r.g
          (if b &&& r.mask = 0 then .ok else .selftestFailed) (.bytes (leBytes 4 (b &&& r.mask).toNat)))) ∧
      (∀ r, s.cal.test = some r → r.target = 0 → b &&& r.mask = 0 → exec (.selftestDone b) s =
        .next (finish { s with cal := { s.cal with test := none } } r.t r.g .ok (.bytes (leBytes 4 0)))) ∧
      (s.cal.test = none → exec (.selftestDone b) s = .next s)) ∧
    (Starts s t g c .calStore →
      (s.cal.trim ≠ none ∨ s.cal.storing ≠ none → exec (.calStore t g) s = .next s) ∧
      (s.cal.trim = none → s.cal.storing = none → exec (.calStore t g) s = .next (begun.executing t g))) ∧
    (Starts s t g c (.calRead target index) →
      (s.field.ready = false → answers (.calRead t g) .fieldDown) ∧
      (s.field.ready = true →
        let x := s.trim (index + (if target = 0 then 0 else if target = 1 then 16 else 24))
        exec (.calRead t g) s = .next (s.answer t c .ok (.bytes
          (leInt 4 x.offset ++ leInt 4 x.gain ++ leInt 4 (x.offset - x.factoryOffset) ++ leBytes 4 x.hours))))) ∧
    (s.cal.trimPeriodS = 0 ∨ elapsed < s.cal.trimPeriodS → exec (.periodicTrim elapsed) s = .next s) ∧
    (s.cal.trimPeriodS ≠ 0 → s.cal.trimPeriodS ≤ elapsed →
      (s.power.st = .nap → exec (.periodicTrim elapsed) s = .next { s with cal := { s.cal with periodicOwed := true } }) ∧
      (s.power.st ≠ .nap → s.fwRuns = true → s.hasField = true → s.field.ready = true → s.cal.trim = none → target = 3 →
        exec (.periodicTrim elapsed) s = .next { s with cal := { s.cal with trim := some (run none) } })) ∧
    (Starts s t g c (.selftest target b) →
      (target = 2 → s.field.ready = false → answers (.selftest t g) .fieldDown) ∧
      ((target = 2 → s.field.ready = true) → s.testStopped target b = false → answers (.selftest t g) .busyClassX) ∧
      ((target = 2 → s.field.ready = true) → s.testStopped target b = true →
        (s.cal.test ≠ none → exec (.selftest t g) s = .next s) ∧
        (s.cal.test = none → (target = 0 ∨ target = 2) → exec (.selftest t g) s =
          .next (({ s with cal := { s.cal with test := some { t := t, g := g, target := target, mask := b } } } :
            State).executing t g)) ∧
        (s.cal.test = none → ∃ u : State, exec (.selftest t g) s = .next (u.executing t g) ∧
          u.cal = { s.cal with test := some { t := t, g := g, target := target, mask := b } } ∧
          u = { s with cal := u.cal, mem := u.mem })))

/-- Lane service (R166, R167, Table 06-3). OUT on a parked lane completes with 0 voices released and IN on a lane in service
completes, both without effect; a lane on which a service runs makes the command wait; otherwise the change waits for the
next boundary. A passed self-test lets the lane join; a failed one parks it, raises LANE_FAULT and fails the command. Voices
still on a draining lane at `alloc.drain_ms` fade. -/
def Obligations.LaneServiceFollowsItsSteps : Prop :=
  ∀ (s : State) (t : Tenant) (g : Tag) (c : InFlight) (n : Fin 8) (ms : Nat),
    let l := s.alloc.lane n.val
    let idle := l.ref = none ∧ l.joining = false ∧ l.st ≠ .draining ∧ l.st ≠ .testing
    let put := fun d => ({ s with alloc := { s.alloc with lanes := bankPut s.alloc.lanes n.val d } } : State)
    let onWay := fun w => ({ put { l with ref := some (t, g) } with pendB := s.pendB ++ [w] } : State).executing t g
    (Starts s t g c (.laneService n false) →
      (¬ idle → exec (.laneServiceOut t g) s = .next s) ∧
      (idle → l.st = .parked → exec (.laneServiceOut t g) s = .next (s.answer t c .ok (.bytes [0, 0]))) ∧
      (idle → l.st = .inService → exec (.laneServiceOut t g) s = .next (onWay (.laneOut n.val t g)))) ∧
    (Starts s t g c (.laneService n true) →
      (¬ idle → exec (.laneServiceIn t g) s = .next s) ∧
      (idle → l.st = .inService → exec (.laneServiceIn t g) s = .next (s.answer t c .ok (.note 0))) ∧
      (idle → l.st = .parked → exec (.laneServiceIn t g) s = .next (onWay (.laneIn n.val t g)))) ∧
    (s.fwRuns = true → l.st = .testing → l.joining = false →
      exec (.laneSelftestDone n true) s = .next (put { l with joining := true }) ∧
      exec (.laneSelftestDone n false) s = .next (finishRef
        (steward (put { l with st := .parked, ref := none }) .laneFault (BitVec.ofNat 16 n.val) [])
        l.ref .selftestFailed (.note 0))) ∧
    (s.fwRuns = false ∨ l.st ≠ .testing ∨ l.joining = true → exec (.laneSelftestDone n true) s = .next s) ∧
    (s.fwRuns = true → l.st = .draining → s.alloc.drainMs ≤ ms → ∃ u : State,
      exec (.laneDrainLimit n ms) s = .next u ∧ u.voices.length = s.voices.length ∧
      (∀ v ∈ u.voices, v.lane = n.val → v.fading = true) ∧
      (∀ v ∈ s.voices, v.lane ≠ n.val → v ∈ u.voices)) ∧
    (s.fwRuns = false ∨ l.st ≠ .draining ∨ ms < s.alloc.drainMs → exec (.laneDrainLimit n ms) s = .next s)

/-! ## Power states, resets, the field die's link -/

/-- POWER_POLICY, POWER_ENTER and WAKE_CONFIG (R110, R292, R293, R328, Table 04-13). Each executes at once and waits for the
next tick to take effect. POWER_ENTER answers the number of the state that will be entered: a keeper asked for HIBERNATE gets
RING_BUSY, a member without the keeper's grant OK_LIMITED, and both enter NAP. A row for another state changes nothing. -/
def Obligations.PowerCommandsAskForTheirStates : Prop :=
  ∀ (s : State) (t : Tenant) (g : Tag) (c : InFlight) (a : PolicyArgs) (p : PState) (m : BitVec 7) (timer : Nat),
    let later := fun l => ({ s with pendL := s.pendL ++ l } : State)
    let w := fun k n => Write.prop 0 { kind := k } n
    let row := fun q : PState => match q with
      | .nap => Instr.powerEnterNap t g
      | .hibernate => .powerEnterHibernate t g
      | _ => .powerEnterDoze t g
    (Starts s t g c (.powerPolicy a) → exec (.powerPolicy t g) s = .next ((later
      [w .powerDozeIdleMs a.dozeMs, w .powerNapIdleMs a.napMs, w .powerHibernateIdleS a.hibernateS,
       w .powerEntryPolicy (if a.abandon then 1 else 0)]).answer t c .ok (.note 0))) ∧
    (Starts s t g c (.powerEnter .doze) →
      exec (.powerEnterDoze t g) s = .next ((later [.powerEnter .doze]).answer t c .ok (.bytes [1, 0]))) ∧
    (Starts s t g c (.powerEnter .nap) →
      exec (.powerEnterNap t g) s = .next ((later [.powerEnter .nap]).answer t c .ok (.bytes [2, 0]))) ∧
    (Starts s t g c (.powerEnter .hibernate) →
      (s.ring.role = .keeper → exec (.powerEnterHibernate t g) s =
        .next ((later [.powerEnter .nap]).answer t c .ringBusy (.bytes [2, 0]))) ∧
      (s.ring.role = .member → s.ring.keeperGrant = false → exec (.powerEnterHibernate t g) s =
        .next ((later [.powerEnter .nap]).answer t c .okLimited (.bytes [2, 0]))) ∧
      (s.ring.role = .standalone ∨ (s.ring.role = .member ∧ s.ring.keeperGrant = true) →
        exec (.powerEnterHibernate t g) s = .next ((later [.powerEnter .hibernate]).answer t c .ok (.bytes [3, 0])))) ∧
    (Starts s t g c (.powerEnter p) → ∀ q, q ≠ .run → q ≠ p → exec (row q) s = .next s) ∧
    (Starts s t g c (.wakeConfig m timer) → exec (.wakeConfig t g) s =
      .next ((later [.wakeConfig m timer]).answer t c .ok (.note 0)))

/-- Sleep and wake (R326 to R336, Tables 13-6 to 13-10). Idleness of the set length asks for the deepest state whose timer has run
out; work ends it, and ends DOZE. An asked-for state is entered at a block boundary, HIBERNATE by steps whose abort points a
wake stops under ABANDON. While the unit sleeps, the first enabled wake source counts; a wake returns it to RUN with that
source in `power.last_wake`. After HIBERNATE the tide is the saved one, no tenant is open, MRAM and vault are as they were. -/
def Obligations.SleepAndWakeFollowTheTables : Prop :=
  ∀ (s : State) (ms : Nat) (src : WakeSrc) (rd : BootRead),
    let p := s.power
    let pow := fun q => ({ s with power := q } : State)
    let noted := fun x => Host.Outcome.next (pow { p with wake := some (p.wake.getD x) })
    let awake := p.entry = none ∧ p.st ≠ .nap ∧ p.st ≠ .hibernate
    let naps := p.entry = none ∧ p.st = .nap
    let may := s.idle = true ∧ p.entry = none ∧ s.fw.up = true ∧ s.fw.restarting = false
    let hib := p.hibS ≠ 0 ∧ p.hibS * 1000 * s.engineRate + p.schedTicks * 1000 ≤ ms * s.engineRate ∧ s.anySchedule = false
    let nap := p.napMs ≠ 0 ∧ p.napMs ≤ ms
    let doze := p.dozeMs ≠ 0 ∧ p.dozeMs ≤ ms
    let ask := fun st => exec (.idleTimerExpiry ms) s = .next (pow { p with timerEntry := some st })
    (may → p.st = .run → (hib → ask .hibernate) ∧ (¬ hib → nap → ask .nap) ∧ (¬ hib → ¬ nap → doze → ask .doze)) ∧
    (s.idle = false ∨ (¬ hib ∧ ¬ nap ∧ ¬ doze) ∨ (p.st = .nap ∧ ¬ hib) → exec (.idleTimerExpiry ms) s = .next s) ∧
    (p.st = .doze → s.idle = false → exec .idlenessEnd s =
      .next (pow { p with st := .run, wake := none, timerEntry := none, schedTicks := 0 })) ∧
    (s.idle = true → p.st ≠ .doze → exec .idlenessEnd s = .next s) ∧
    (s.core.tide.isBoundary = false → exec .powerEntryBegin s = .next s ∧ (p.entry = none → exec .hibernateEntry s = .next s)) ∧
    (s.core.tide.isBoundary = true → p.entry = none → s.fwRuns = true → p.request = none →
      (s.idle = false → exec .powerEntryBegin s = .next (pow { p with timerEntry := none })) ∧
      (s.idle = true → p.abandon = false → p.timerEntry = some .doze →
        exec .powerEntryBegin s = .next (pow { p with st := .doze, request := none, timerEntry := none })) ∧
      (s.idle = true → p.abandon = false → p.timerEntry = some .nap → ∃ u : State, exec .powerEntryBegin s = .next u ∧
        u.power = { p with
          st := .nap, request := none, timerEntry := none, napIrq := u.power.napIrq, comparator := s.anySchedule
          wake := if s.scheduleNear then some (p.wake.getD .schedule) else p.wake } ∧
        u = { s with power := u.power, tenants := u.tenants, fw := u.fw })) ∧
    (s.core.tide.isBoundary = true → p.entry = none → s.fwRuns = true → p.request = some .hibernate → ∃ u : State,
      exec .hibernateEntry s = .next u ∧ u.power.entry = some .quiesce ∧ u.fw.up = false ∧ u.nvm = s.nvm) ∧
    (p.abandon = false →
      (p.entry = some .gated → exec .hibernateEntry s = .next (pow { p with save := s.saveList, entry := some .saved })) ∧
      (p.entry = some .saved → ∃ u : State, exec .hibernateEntry s = .next u ∧ u.power.entry = some .latched ∧
        u.power.pads.isSome = true ∧ u = { s with power := u.power, field := u.field }) ∧
      (p.entry = some .latched → exec .hibernateEntry s = .next { s with
        link := { s.link with up := false, driven := none }
        power := { p with
          save := { p.save with tide := s.core.tide }, enCore := false, st := .hibernate, entry := none } })) ∧
    (p.st = .run → p.abandon = true → p.wake ≠ none → p.entry = some .gated → ∃ u : State, exec .hibernateEntry s = .next u ∧
      u.power.entry = none ∧ u.fw.up = true ∧ u.power.wake = none ∧
      u = { s with power := u.power, fw := u.fw, tenants := u.tenants }) ∧
    (p.entry ≠ some .quiesce ∨ s.ring.leaving = true → exec .hibernateQuiesceDone s = .next s) ∧
    (p.entry = some .quiesce → s.ring.leaving = false → p.quiesceFade = false → s.voices = [] → s.core.run ≠ .stopping →
      p.abandon = false → exec .hibernateQuiesceDone s = .next (pow { p with entry := some .gated })) ∧
    (p.entry ≠ none → exec (.wakeDuringEntry src) s = if s.wakeOn .hibernate src then noted src else .next s) ∧
    (p.entry = none → s.core.tide.isBoundary = false → exec (.wakeDuringEntry src) s = .next s) ∧
    (p.st = .nap → p.comparator = true → ∀ due, s.earliest = some due →
      exec .napTideComparator s = if due ≤ s.smp.toNat + 32 + s.wakeSamples then noted .schedule else .next s) ∧
    (p.st ≠ .nap ∨ p.comparator = false → exec .napTideComparator s = .next s) ∧
    (p.st = .nap → p.wake = some src → ∃ u : State, exec (.napWake src) s = .next u ∧ u.power = { p with
      st := .run, lastWake := src, wake := none, timerEntry := none, napIrq := none, comparator := false
      schedTicks := 0 } ∧
      u = { s with power := u.power, fw := u.fw, tenants := u.tenants, serials := u.serials }) ∧
    (p.st ≠ .nap ∨ p.wake ≠ some src → exec (.napWake src) s = .next s) ∧
    (ms ≤ 990 → exec (.wakeNEdge ms) s = .next s) ∧ (ms < p.wakeTimer → exec (.aonTimerWake ms) s = .next s) ∧
    (awake → (1010 ≤ ms → exec (.wakeNEdge ms) s = .next s) ∧ exec (.aonTimerWake ms) s = .next s ∧ exec .keyPressWake s = .next s) ∧
    (naps → 1010 ≤ ms → p.wakeMask.getLsbD 0 = true → exec (.wakeNEdge ms) s = noted .wakeN) ∧
    (naps → p.wakeTimer ≤ ms → p.wakeMask.getLsbD 5 = true → p.wakeTimer ≠ 0 → exec (.aonTimerWake ms) s = noted .timer) ∧
    (naps → p.wakeMask.getLsbD 6 = true → s.hasField = true → s.scan.mode ≠ 0 → exec .keyPressWake s = noted .key) ∧
    (p.st = .hibernate → p.wake = some src → ∃ u : State, exec (.hibernateWake src false false rd) s = .next u ∧
      u.fw.up = true ∧ u.link.fwReady = true ∧ u.link.unitAddr = s.link.unitAddr ∧ u.power.st = .run ∧
      u.power.lastWake = src ∧ u.core.tide = p.save.tide ∧ u.core.fs = p.save.fs ∧ (∀ t, (u.ten t).st = .closed) ∧
      u.voices = [] ∧ u.nvm = s.nvm ∧ u.vault = s.vault ∧ u.cal.trims = s.cal.trims) ∧
    (p.st ≠ .hibernate ∨ p.wake ≠ some src → exec (.hibernateWake src false false rd) s = .next s)

/-- Resets, boots and restarts (R85, R316 to R325, R343, R344, Tables 13-3 to 13-5, 12-10). A reset from outside leaves the link
at address 30, no tenant, no voice, FW_UP at 0, and keeps the fuses and the life counts; tamper empties the vault and, with MRAM in
range, is recorded. The warm reset comes only after a command asked for it, and keeps UNIT_ADDR and the tenants' numbers. The
boot ends with FW_UP at 1, every tenant CLOSED and failed lanes parked. A watchdog restart stops the firmware; at its return
every tenant that was not CLOSED is FAULTED. -/
def Obligations.ResetsAndBootsFollowTheTables : Prop :=
  ∀ (s : State) (ms mv ns us : Nat) (up eng : Bool) (fall : Option Nat) (cel : Int) (seen : TamperSeen) (src : TamperSrc)
    (fails : BitVec 8) (rd : BootRead) (bad : Option (Fin 8)),
    let reset := fun row kind => ∃ u : State, exec row s = .next u ∧ u.link = {} ∧ u.tenants = [] ∧ u.voices = [] ∧
      u.core = { ticks := s.core.ticks } ∧ u.power = { lastReset := kind } ∧ u.fw.up = false ∧ u.fw.boot = .powering ∧ u.fuse = s.fuse ∧
      u.cal.lifeSec = s.cal.lifeSec ∧ u.cal.equivSec = s.cal.equivSec ∧ u.pending = s.pending
    (ms ≤ 990 → exec (.resetNAssert ms) s = .next s) ∧ (1010 ≤ ms → reset (.resetNAssert ms) .resetN) ∧
    reset (.powerOnReset up) .powerOn ∧
    (s.power.enCore = true → reset .vddEngOutOfRange .resetN) ∧
    (s.power.enCore = false → exec .vddEngOutOfRange s = .next s) ∧
    (s.tamperSrc seen = some src → reset (.tamperDetect seen) .tamper ∧
      ∃ u : State, exec (.tamperDetect seen) s = .next u ∧ u.vault.keys = [] ∧
        (s.supply.nvm = true → s.power.enCore = true → u.nvm.tampered = some src ∧ u.nvm.vault.newest = none) ∧
        (s.supply.nvm = false ∨ s.power.enCore = false → u.vault.latched = some src ∧ u.nvm = s.nvm)) ∧
    (200 ≤ ns → s.tamperSrc (.pin ns) = some .pin) ∧ (cel < -40 ∨ 125 < cel → s.tamperSrc (.temperature cel) = some .temperature) ∧
    (20 ≤ ns → 100 ≤ us → (∀ n, fall = some n → n < 10000) → (eng = true → s.power.enCore = true) →
      (if eng then mv < 650 ∨ 850 < mv else mv < 700 ∨ 900 < mv) →
        s.tamperSrc (.glitch eng mv ns us fall) = some .glitch) ∧
    (ns ≤ 100 → exec (.tamperDetect (.pin ns)) s = .next s) ∧
    (-40 ≤ cel → cel ≤ 125 → exec (.tamperDetect (.temperature cel)) s = .next s) ∧
    (us < 100 ∨ (∃ n, fall = some n ∧ 10000 ≤ n) ∨ (eng = true ∧ s.power.enCore = false) →
      exec (.tamperDetect (.glitch eng mv ns us fall)) s = .next s) ∧
    (s.fw.boot = .powering ∨ s.fw.boot = .laneTest false → ∃ u : State, exec .vddEngTimeout s = .next u ∧
      u.power = { lastReset := s.power.lastReset, enCore := false } ∧ u.link = { up := false } ∧ u.tenants = [] ∧
      u.voices = [] ∧ u.fw.boot = .powering ∧ u.nvm = s.nvm ∧ u.fuse = s.fuse ∧ u.pending = s.pending) ∧
    (s.fw.boot = .done ∨ s.fw.boot = .stopped up → exec .vddEngTimeout s = .next s ∧
      exec (.bootComplete fails rd) s = .next s ∧
      exec (.vddNvmInRange rd) s = .next { s with supply := { s.supply with nvm := true } }) ∧
    (∀ w, s.fw.up = false → s.fw.boot = .waitNvm w → ∃ u : State, exec (.vddNvmInRange rd) s = .next u ∧
      u.supply.nvm = true ∧ (u.fw.boot = .laneTest w ∨ u.fw.boot = .stopped w) ∧ u.tenants = s.tenants ∧
      u.voices = s.voices) ∧
    (s.fw.resetDue = false → exec (.warmReset rd) s = .next s) ∧
    (s.fw.resetDue = true → ∃ u : State, exec (.warmReset rd) s = .next u ∧ u.link.unitAddr = s.link.unitAddr ∧
      u.power.lastReset = .warm ∧ u.fw.up = false ∧ u.fw.resetDue = false ∧ u.voices = [] ∧ u.fuse = s.fuse ∧
      u.cal.lifeSec = s.cal.lifeSec) ∧
    ((∃ w, s.fw.boot = .laneTest w) ∨ (s.fw.boot = .powering ∧ s.supply.nvm = true ∧ s.vault.latched = none ∧ rd.bad = [] ∧
        (slotBoot s.nvm rd).2.2 = true) → ∃ u : State, exec (.bootComplete fails rd) s = .next u ∧ u.fw.up = true ∧
      u.fw.boot = .done ∧ u.link.fwReady = true ∧ (∀ t, (u.ten t).st = .closed) ∧
      (∀ n : Fin 8, fails.getLsbD n.val = true → (u.alloc.lane n.val).st = .parked)) ∧
    (s.fw.boot = .powering → ∃ u : State, exec (.bootComplete fails rd) s = .next u ∧
      (s.supply.nvm = false → u.fw.boot = .waitNvm false ∧ u.fw.up = s.fw.up) ∧
      (s.supply.nvm = true → s.vault.latched = none → rd.bad = [] → (slotBoot s.nvm rd).2.2 = false →
        u.fw.boot = .stopped false ∧ u.fw.up = s.fw.up)) ∧
    (s.fwRuns = false → exec (.ctlWatchdogRestart bad) s = .next s) ∧
    (s.fwRuns = true → ∃ u : State, exec (.ctlWatchdogRestart bad) s = .next u ∧ u.fw.restarting = true ∧ u.fwRuns = false ∧
      u.mem.eccUncorrected = s.mem.eccUncorrected + (if bad.isSome then 1 else 0) ∧
      (∀ t, (u.ten t).st = (s.ten t).st ∧ ((s.ten t).st ≠ .closed → ∀ e ∈ (u.ten t).sq, e.lost = true))) ∧
    (s.fw.restarting = false → exec .ctlFirmwareReturn s = .next s) ∧
    (s.fw.restarting = true → ∃ u : State, exec .ctlFirmwareReturn s = .next u ∧ u.fw.restarting = false ∧
      u.link.fwReady = true ∧ ∀ t, (u.ten t).st = if (s.ten t).st = .closed then .closed else .faulted)

/-- The field die's link, supplies, the master clock, FRAME_IN and heat (R12, R13, R24, R33, R149, R168, R352, R366, Table 06-4). The
die is ready after its self-test with VDD_FA up, and FIELD_READY says so. Silence mutes the lines, longer silence darkens the
outputs, recovery raises FIELD_LINK_LOST. A fault ends readiness. A lost MCLK_IN raises MCLK_LOST, its return MCLK_RESTORED. A
selected FRAME_IN edge captures the tide once in a tick. From 100 degrees the unit is SOFT with 7 lanes, from 110 HARD with 2. -/
def Obligations.OutsideConditionsAreTaken : Prop :=
  ∀ (s : State) (cause : Fin 4) (rising vfUp : Bool) (tj : Int),
    let f := s.field
    let a := s.alloc
    let told := fun (u : State) e arg => ∃ x y z, u = { z with tenants := x, power := y } ∧ z = { s with
      field := u.field, supply := u.supply, core := u.core, scan := u.scan, cis := u.cis, fw := u.fw } ∧ (s.fwRuns = true → (s.ten 0).st = .closed → ⟨e, arg, [], s.smp⟩ ∈ u.fw.kept)
    let hot := fun n st => ∃ u : State, exec (.thermalSample tj) s = .next u ∧ u.supply.tj = tj ∧ u.alloc.thermal = st ∧
      u.alloc.allowed = n
    exec .vddFaRise s = .next { s with supply := { s.supply with fa := true } } ∧
    (s.hasField = false ∨ s.supply.fa = false ∨ vfUp = false ∨ f.link ≠ .ok ∨ s.power.st = .hibernate ∨ f.ready = true →
      exec (.fieldSelftestPass vfUp) s = .next { s with supply := { s.supply with vf := vfUp } }) ∧
    (s.hasField = true → s.supply.fa = true → f.link = .ok → s.power.st ≠ .hibernate → f.ready = false → ∃ u : State,
      exec (.fieldSelftestPass true) s = .next u ∧ u.supply.vf = true ∧
      u.field.ready = true ∧ u.field.fault = none ∧ u.scan.reseed = true ∧ told u .fieldReady 0) ∧
    (f.link ≠ .ok ∨ s.hasField = false → exec .fieldLinkSilence s = .next s) ∧
    (s.hasField = true → f.link = .ok → s.power.st ≠ .hibernate → ∃ u : State, exec .fieldLinkSilence s = .next u ∧
      u.field.link = .silent ∧ u = { s with field := u.field }) ∧
    (f.link ≠ .silent → exec .fieldLinkDark s = .next s) ∧
    (f.link = .silent → ∃ u : State, exec .fieldLinkDark s = .next u ∧ u.field.link = .dark ∧ u = { s with field := u.field }) ∧
    (f.link = .ok → exec .fieldLinkRecover s = .next s) ∧
    (f.link ≠ .ok → ∃ u : State, exec .fieldLinkRecover s = .next u ∧ u.field.link = .ok ∧ u.scan.reseed = true ∧
      told u .fieldLinkLost (if f.link = .silent then 1 else 0)) ∧
    (s.hasField = false ∨ cause = 0 → exec (.fieldDieFault cause) s = .next s) ∧
    (s.hasField = true → cause ≠ 0 → (cause = 1 → s.supply.fa = true) → s.power.st ≠ .hibernate → ∃ u : State,
      exec (.fieldDieFault cause) s = .next u ∧ u.field.ready = false ∧ u.field.fault = some cause.val ∧
      u.supply.fa = (s.supply.fa && cause != 1) ∧ told u .fieldFault (BitVec.ofNat 16 cause.val)) ∧
    (exec .fieldSupplyLow s = exec (.fieldDieFault 2) { s with supply := { s.supply with vf := false } }) ∧
    (s.core.mclkIn = false ∨ s.core.mclkLost = true → exec .mclkLoss s = .next s) ∧
    (s.core.mclkIn = true → s.core.mclkLost = false → ∃ u : State, exec .mclkLoss s = .next u ∧
      u.core = { s.core with mclkLost := true } ∧ told u .mclkLost 0) ∧
    (s.core.mclkLost = false → exec .mclkRestore s = .next s) ∧
    (s.core.mclkLost = true → ∃ u : State, exec .mclkRestore s = .next u ∧ u.core = { s.core with mclkLost := false } ∧
      told u .mclkRestored 0) ∧
    (s.core.selects rising = false → exec (.frameEdgeCapture rising) s = .next s) ∧
    (s.core.selects rising = true → s.power.st ≠ .hibernate →
      (s.core.captured = some s.core.ticks → exec (.frameEdgeCapture rising) s =
        .next { s with core := { s.core with frameOverruns := s.core.frameOverruns + 1 } }) ∧
      (s.core.captured ≠ some s.core.ticks → (∀ t, (s.ten t).st ≠ .opened) → exec (.frameEdgeCapture rising) s =
        .next { s with core := { s.core with captured := some s.core.ticks } }) ∧
      (s.core.captured ≠ some s.core.ticks → ∃ u : State, exec (.frameEdgeCapture rising) s = .next u ∧
        u = { s with
          core := { s.core with captured := some s.core.ticks }, tenants := u.tenants, fw := u.fw, power := u.power })) ∧
    (s.fw.up = false → exec (.thermalSample tj) s = .next s) ∧
    (s.fw.up = true → s.power.st ≠ .hibernate →
      (a.thermal = .normal → tj < 100 → exec (.thermalSample tj) s = .next { s with supply := { s.supply with tj := tj } }) ∧
      (a.thermal = .normal → 100 ≤ tj → tj < 110 → hot 7 .soft) ∧ (a.thermal ≠ .hard → 110 ≤ tj → hot 2 .hard) ∧
      (a.thermal = .hard → tj < 105 → hot 4 .soft) ∧
      (a.thermal = .hard → 105 ≤ tj → exec (.thermalSample tj) s = .next { s with supply := { s.supply with tj := tj } })) ∧
    (a.thermal ≠ .soft ∨ (95 ≤ s.supply.tj ∧ s.supply.tj < 100) → exec .thermalSoftStep s = .next s) ∧
    (a.thermal = .soft → s.power.st ≠ .hibernate → ∀ n st,
      (100 ≤ s.supply.tj ∧ 4 < a.allowed ∧ n = a.allowed - 1 ∧ st = .soft) ∨
      (s.supply.tj < 95 ∧ 7 ≤ a.allowed ∧ n = 8 ∧ st = .normal) ∨
      (s.supply.tj < 95 ∧ a.allowed < 7 ∧ n = a.allowed + 1 ∧ st = .soft) → ∃ u : State, exec .thermalSoftStep s = .next u ∧
        u.alloc.thermal = st ∧ u.alloc.allowed = n)

/-! ## Chain and mix ring -/

/-- CHAIN_INFO, RING_STATUS, RING_START and RING_LEAVE (R108, R274, R278, R290, Table 04-11). The two reports answer 48 and 32
bytes. RING_START on a unit that is on a ring, elects or joins is RING_BUSY; otherwise it turns the transmitters on, every ring
contribution off, and opens the election. RING_LEAVE off a ring is NOT_IN_RING, waits while a leave runs, and otherwise
announces the leave. -/
def Obligations.RingCommandsStartAndLeave : Prop :=
  ∀ (s : State) (t : Tenant) (g : Tag) (c : InFlight),
    let r := s.ring
    let put := fun q => ({ s with ring := q } : State)
    (Starts s t g c .chainInfo → exec (.chainInfo t g) s = .next (s.answer t c .ok (.bytes s.chainInfo))) ∧
    (s.chainInfo.length = 48 ∧ s.chainInfo.take 12 = [BitVec.ofNat 8 r.role.code, BitVec.ofNat 8 r.st.code,
      BitVec.ofNat 8 r.units, BitVec.ofNat 8 r.position] ++ leBytes 8 r.keeperId.toNat) ∧
    (Starts s t g c .ringStatus → exec (.ringStatus t g) s = .next (s.answer t c .ok (.bytes s.ringStatus))) ∧
    (s.ringStatus.length = 32 ∧ s.ringStatus.take 4 = [BitVec.ofNat 8 r.laneA.code, BitVec.ofNat 8 r.laneB.code] ++
      leBytes 2 r.heals.toNat) ∧
    (Starts s t g c .ringStart →
      (r.role ≠ .standalone ∨ r.electing ≠ none ∨ r.joining ≠ none →
        exec (.ringStart t g) s = .next (s.answer t c .ringBusy (.note 0))) ∧
      (r.role = .standalone → r.electing = none → r.joining = none → ∃ u : State, exec (.ringStart t g) s = .next u ∧
        u.ring = { r with
          txOn := true, electing := some (t, g), higher := none, starts := 0, heals := 0, keeperId := 0, unhealed := false
          out := [], acks := [], acksOut := [], seen := [] } ∧
        (∀ n, n < 32 → (u.bus n).contrib = false) ∧ u = { s.executing t g with ring := u.ring, mix := u.mix })) ∧
    (Starts s t g c .ringLeave →
      (r.role = .standalone → exec (.ringLeave t g) s = .next (s.answer t c .notInRing (.note 0))) ∧
      (r.role ≠ .standalone → r.leaving = true → exec (.ringLeave t g) s = .next s) ∧
      (r.role ≠ .standalone → r.leaving = false → exec (.ringLeave t g) s = .next ((put { r with
        leaving := true, leaveRef := some (t, g), leaveAt := s.core.ticks, seq := r.seq + 1,
        out := r.out ++ [{ seq := r.seq, item := .leave s.fuse.dieId }] }).executing t g)))

/-- Election, joining and leaving (R10, R270, R274, R275, R279, R288 to R290, R292). In the window the highest die ID above the
unit's own is kept; at its end the unit is keeper, alone at position 0, or joins. A keeper record makes an electing unit join. At
the join boundary the joining unit is a member at its position, with the keeper's tide when the rates agree; the others are
numbered around it, and the keeper keeps position 0. A leave takes effect at a block boundary, 250 us or more after it was announced.
A notice acts once, and wakes a keeper in NAP. Without firmware membership stands still. -/
def Obligations.RingMembershipFollowsItsRecords : Prop :=
  ∀ (s : State) (d : BitVec 64) (fs : Nat) (h : RingHead) (k : KeeperRecord) (m : Membership) (ref : Tenant × Tag),
    let r := s.ring
    let put := fun q => Host.Outcome.next ({ s with ring := q } : State)
    let run := s.fwRuns = true
    let p := (h.unit, h.seq)
    let taken := fun q : Ring => { q with acks := q.acks ++ [p], seen := (p :: q.seen).take 1024 }
    (s.fwRuns = false → exec (.startRecordReceived d fs) s = .next s ∧ exec .startRecordTimer s = .next s ∧
      exec .electionWindowEnd s = .next s ∧ exec (.keeperRecordReceived k) s = .next s ∧ exec (.joinBoundary m) s = .next s) ∧
    (run → r.role = .keeper → exec (.startRecordReceived d fs) s = put { r with answers := r.answers + 1 }) ∧
    (run → r.role ≠ .keeper → r.electing = some ref → s.fuse.dieId < d → (∀ h, r.higher = some h → h.1 < d) →
      exec (.startRecordReceived d fs) s = put { r with higher := some (d, fs) }) ∧
    (r.role ≠ .keeper → (r.electing = none ∨ d ≤ s.fuse.dieId ∨ ∃ h, r.higher = some h ∧ d ≤ h.1) →
      exec (.startRecordReceived d fs) s = .next s) ∧
    (run → r.electing = some ref → exec .startRecordTimer s = put { r with starts := r.starts + 1 }) ∧
    (r.electing = none → exec .startRecordTimer s = .next s ∧ exec .electionWindowEnd s = .next s) ∧
    (r.electing = none → r.joining = none → exec (.keeperRecordReceived k) s = .next s) ∧
    (run → r.electing = some ref → ∃ u : State, exec (.keeperRecordReceived k) s = .next u ∧ u.ring.joining = some ref ∧
      u.ring.electing = none ∧ u.ring.keeperId = k.dieId ∧ u.ring.keeperFs = k.fsIndex ∧ u.ring.keeperDMax = k.dMax ∧
      (u.ring.out.any fun o => o.item == .join s.fuse.dieId) = true ∧ u = { s with ring := u.ring }) ∧
    (run → r.electing = some ref → ∀ e, r.higher = some (d, e) → ∃ u : State, exec .electionWindowEnd s = .next u ∧
      u.ring.joining = some ref ∧ u.ring.electing = none ∧ u.ring.keeperId = d ∧ u = { s with ring := u.ring }) ∧
    (run → r.electing = some ref → r.higher = none → ∃ u : State, exec .electionWindowEnd s = .next u ∧ u.ring.role = .keeper ∧
      u.ring.st = .folded ∧ u.ring.position = 0 ∧ u.ring.units = 1 ∧ u.ring.keeperId = s.fuse.dieId ∧ u.ring.electing = none ∧
      u.ring.dMax = s.ownDelay ∧ u = { s with ring := u.ring, tenants := u.tenants, fw := u.fw, power := u.power }) ∧
    (∀ row ∈ [Instr.joinNoticeReceived h d, .leaveNoticeReceived h d, .foldNoticeReceived h d],
      (r.role = .standalone → exec row s = .next s) ∧
      (r.role = .keeper → s.power.st = .nap → exec row s =
        .next { s with power := { s.power with wake := some (s.power.wake.getD .event) } }) ∧
      (r.role ≠ .keeper → s.power.st = .nap → exec row s = .next s) ∧
      (s.fwRuns = false → s.power.st ≠ .nap → exec row s = .next s) ∧
      (run → r.role ≠ .standalone → p ∈ r.seen → exec row s = put { r with acks := r.acks ++ [p] })) ∧
    (run → r.role ≠ .standalone → p ∉ r.seen →
      exec (.foldNoticeReceived h d) s = put (taken r) ∧
      (r.role = .member → exec (.joinNoticeReceived h d) s = put (taken r)) ∧
      (r.role = .keeper → ∃ l, d ∈ l ∧ exec (.joinNoticeReceived h d) s = put { taken r with joins := l }) ∧
      (d = s.fuse.dieId → exec (.leaveNoticeReceived h d) s = put (taken r)) ∧
      (d ≠ s.fuse.dieId → ∃ l, d ∈ l ∧ exec (.leaveNoticeReceived h d) s = put { taken r with leavers := l })) ∧
    (run → m.newId = s.fuse.dieId → r.joining = none → exec (.joinBoundary m) s = .next s) ∧
    (run → m.newId = s.fuse.dieId → r.joining = some ref → m.keeperId ≠ s.fuse.dieId → ∃ u : State,
      exec (.joinBoundary m) s = .next u ∧ u.ring.role = .member ∧ u.ring.joining = none ∧ u.ring.position = m.position ∧
      u.ring.units = m.units ∧ u.ring.keeperId = m.keeperId ∧ u.ring.dMax = m.dMax ∧
      (s.core.fs = r.keeperFs → u.core.tide = { smp := m.smp, et := 0 }) ∧
      (s.core.fs ≠ r.keeperFs → u.core.tide = s.core.tide ∧ u.ring.st = .rateMismatch)) ∧
    (run → m.newId ≠ s.fuse.dieId → (r.role = .standalone ∨ s.core.tide.isBoundary = false) →
      exec (.joinBoundary m) s = .next s) ∧
    (run → m.newId ≠ s.fuse.dieId → r.role ≠ .standalone → s.core.tide.isBoundary = true → ∃ u : State,
      exec (.joinBoundary m) s = .next u ∧ u.ring.units = r.units + 1 ∧ u.core = s.core ∧
      (m.keeperId = s.fuse.dieId → u.ring.position = 0 ∧ u.ring.dMax = s.largestDelay [] m.newDelay) ∧
      (m.keeperId ≠ s.fuse.dieId → u.ring.dMax = m.dMax ∧
        u.ring.position = if m.newPosition ≤ r.position then r.position + 1 else r.position)) ∧
    (r.leaving = false ∨ s.core.tide.isBoundary = false ∨ s.fw.restarting = true ∨
        1000000 * (s.core.ticks - r.leaveAt) < 250 * s.engineRate → exec .ringLeaveBoundary s = .next s) ∧
    (r.leaving = true → s.core.tide.isBoundary = true → s.fw.restarting = false →
      250 * s.engineRate ≤ 1000000 * (s.core.ticks - r.leaveAt) → ∃ u : State, exec .ringLeaveBoundary s = .next u ∧
      u.ring.role = .standalone ∧ u.ring.st = .down ∧ u.ring.txOn = false ∧ u.ring.leaving = false ∧ u.ring.units = 0 ∧
      u.core = s.core)

/-- The ring's frames, folds and items (R268 to R273, R276, R277, R285 to R288). A section with a wrong CRC is discarded and
counted at its lane. The marker gives a member the keeper's rate, epoch, grant and D_max, disciplines its tide, or asks for one slip.
SUM gains the member's contribution, saturating nowhere within 32 bits, and becomes TOTAL on the keeper. A lost lane folds the
unit; a heal or an unfold at a block boundary renumbers and counts. An acknowledged item is forgotten; any other is resent, a note
only while the frame has a spill slot, at most 4 times and then given up. -/
def Obligations.RingFramesAndFoldsFollowTheRules : Prop :=
  ∀ (s : State) (m : Marker) (l : List (List Int)) (gs : List GossipEntry) (laneA ok : Bool) (d : BitVec 64) (b : Membership)
    (q : BitVec 16) (o : Fin 16),
    let r := s.ring
    let put := fun x => Host.Outcome.next ({ s with ring := x } : State)
    let count := fun x : Ring => { x with
      codeA := if r.laneA = .folded then r.codeA else r.codeA + 1
      codeB := if r.laneA = .folded then r.codeB + 1 else r.codeB }
    let still := r.role = .standalone ∨ s.fwRuns = false ∨ s.core.tide.isBoundary = false
    let slips := s.core.mclkIn = true ∧ r.st ≠ .rateMismatch ∧ 500 < m.drift.natAbs
    let marked := ({ s with ring := { r with
      keeperFs := m.fsIndex, epoch := m.epoch, keeperGrant := m.grant, keeperDMax := m.dMax, hopNs := m.ownHopNs % 65536
      accNs := m.hopNs + m.ownHopNs, sentMarker := some { m with hopNs := m.hopNs + m.ownHopNs }, markerSeen := true
      slipDue := if slips then some (decide (0 < m.drift)) else r.slipDue } } : State)
    let lane := fun (x : RingLane) (lock : Bool) => if b.whole = true ∨ lock = true then RingLane.locked
      else if x = .noLight then .folded else x
    (r.role = .standalone → exec (.markerArrival m) s = .next s ∧ exec (.gossipSection gs ok) s = .next s ∧
      exec (.sumSection l ok) s = .next s ∧ exec (.totalSection l ok) s = .next s) ∧
    (r.role ≠ .standalone → exec (.sumSection l false) s = put (count r) ∧ exec (.totalSection l false) s = put (count r) ∧
      (m.crcOk = false → exec (.markerArrival m) s = put (count r)) ∧
      (m.crcOk = true → r.role = .keeper ∨ r.markerSeen = true → exec (.markerArrival m) s = .next s)) ∧
    (r.role = .member → m.crcOk = true → r.markerSeen = false →
      (r.st = .rateMismatch ∨ s.core.mclkIn = true → exec (.markerArrival m) s = .next marked) ∧
      (r.st ≠ .rateMismatch → s.core.mclkIn = false → exec (.markerArrival m) s = .next { marked with
        core := { s.core with tide := { s.core.tide with smp := Smp.plus m.smp (s.smp.toNat % 32) } } })) ∧
    (r.role ≠ .standalone → ∃ u w : State, exec (.gossipSection gs true) s = .next u ∧ u.ring.gossip = gs ∧
      u.ring.lastGossip = gs ∧ u.ring.codeA = r.codeA ∧ u.ring.codeB = r.codeB ∧ u = { s with ring := u.ring } ∧
      exec (.gossipSection gs false) s = .next w ∧ w.ring.gossip = [] ∧ w.ring.codeA = (count r).codeA ∧
      w.ring.codeB = (count r).codeB ∧ w = { s with ring := w.ring }) ∧
    (r.st = .rateMismatch → exec (.sumSection l true) s = .next s ∧ exec (.totalSection l true) s = .next s) ∧
    (r.role ≠ .standalone → r.st ≠ .rateMismatch →
      (r.role = .keeper → exec (.sumSection l true) s = put { r with totalNext := l, totalSeen := true } ∧
        exec (.totalSection l true) s = .next s) ∧
      (r.role = .member → exec (.totalSection l true) s = put { r with totalNext := l, totalSeen := true } ∧
        ∃ x, exec (.sumSection l true) s = put { r with sumOut := x } ∧
        ∀ n i, n < 32 → i < 32 →
          let y := (l.getD n []).getD i 0 + (r.block.getD n []).getD i 0
          y ≤ 2147483647 → -2147483648 ≤ y → (x.getD n []).getD i 0 = y)) ∧
    (r.role = .standalone → r.electing = none → r.joining = none → exec (.ringLaneLoss laneA d) s = .next s ∧
      exec (.ringAckReceived q) s = .next s ∧ exec .ringItemResend s = .next s) ∧
    (r.role = .standalone → (r.electing ≠ none ∨ r.joining ≠ none) → exec (.ringLaneLoss laneA d) s = put { r with
      laneA := if laneA then .folded else r.laneA, laneB := if laneA then r.laneB else .folded }) ∧
    (r.role ≠ .standalone → ∃ u : State, exec (.ringLaneLoss laneA d) s = .next u ∧
      u.ring.laneA = (if laneA then .folded else r.laneA) ∧ u.ring.laneB = (if laneA then r.laneB else .folded) ∧
      u.ring.st = (if r.st = .rateMismatch then .rateMismatch else .folded) ∧ u.ring.unhealed = true ∧
      (u.ring.out.any fun e => e.item == .foldNotice s.fuse.dieId) = true ∧
      u = { s with ring := u.ring, tenants := u.tenants, fw := u.fw, power := u.power }) ∧
    (still → exec (.ringHeal b) s = .next s ∧ exec (.ringUnfold b) s = .next s) ∧
    (¬ still → ∃ u w : State, exec (.ringHeal b) s = .next u ∧ u.ring.position = s.healedPosition b ∧
      u.ring.units = r.units - b.lost.length ∧ u.ring.keeperId = b.keeperId ∧ u.ring.heals = r.heals + 1 ∧
      u.ring.unhealed = false ∧ u.ring.role = (if b.keeperId = s.fuse.dieId then .keeper else .member) ∧
      u.ring.dMax = (if b.keeperId = s.fuse.dieId then s.largestDelay (b.lost.map (·.1)) b.newDelay else b.dMax) ∧
      u.core = s.core ∧ exec (.ringUnfold b) s = .next w ∧
      w.ring.position = r.position ∧ w.ring.units = r.units ∧ w.ring.heals = r.heals + 1 ∧ w.ring.unhealed = false ∧
      w.ring.laneA = lane r.laneA b.lockA ∧ w.ring.laneB = lane r.laneB b.lockB ∧
      w = { s with ring := w.ring, tenants := w.tenants, fw := w.fw, power := w.power }) ∧
    (r.role ≠ .standalone ∨ r.electing ≠ none ∨ r.joining ≠ none →
      exec (.ringAckReceived q) s = put { r with out := r.out.filter fun e => e.seq != q } ∧
      (s.fwRuns = false → exec .ringItemResend s = .next s) ∧
      (s.fwRuns = true → ∃ x n, exec .ringItemResend s = put { r with out := x, frameNotes := n } ∧
        x.map (·.seq) = r.out.map (·.seq) ∧ n ≤ max r.frameNotes (spillSlots s.core.fs) ∧
        ((∀ e ∈ r.out, e.isNote = false) → n = r.frameNotes ∧
          x = r.out.map fun e => if 4 ≤ e.resends then e else { e with resends := e.resends + 1 }))) ∧
    (s.fwRuns = false ∨ (∀ e ∈ r.out, e.seq = q → e.resends < 4) → exec (.ringItemGiveUp q) s = .next s) ∧
    (s.fwRuns = true → (∃ e ∈ r.out, e.seq = q ∧ 4 ≤ e.resends) → ∃ u : State, exec (.ringItemGiveUp q) s = .next u ∧
      (∀ e ∈ u.ring.out, e.seq = q → ∃ i t j, e.item = .endOrder i t j) ∧ u.voices = s.voices ∧ u.core = s.core) ∧
    (bankAt r.silent o.val 0 < 4 → exec (.originSilent o) s = .next s) ∧
    (4 ≤ bankAt r.silent o.val 0 → ∃ u : State, exec (.originSilent o) s = .next u ∧
      (∀ v ∈ u.voices, v.fromUnit o.val = true → v.sounds = true → v.released = true) ∧
      (∀ v ∈ s.voices, v.fromUnit o.val = false → v ∈ u.voices) ∧ u = { s with voices := u.voices })

/-- Notes on other units (R88, R100, R163, R164, R271, R273, R282 to R285). What comes with a wrong CRC is counted; a repeated item is
only acknowledged. A spilled note that arrives takes a free slot until its tick, or is refused. At its tick it starts and
reports. At the origin the start report completes NOTE_ON with SPILLED and 32 x OSR, executed at t + 32 smp, a refusal leads to
the steal part at t + 64 smp, an end record frees the note, and a command's report completes it. An end order is a NOTE_OFF at
once. A command without report for 6 frames is LOST, a NOTE_ON without start report too (that 6: log entry 24). -/
def Obligations.SpilledNotesFollowTheRing : Prop :=
  ∀ (s : State) (n : RingNote) (o : Fin 16) (h : RingHead) (t : Tenant) (g : Tag) (id : BitVec 32) (c : SpillCommand)
    (x : SpilledOut) (w : RingWait) (stolen found late : Bool) (at_ : Smp) (bank : Nat),
    let r := s.ring
    let on := r.role ≠ .standalone ∧ s.fwRuns = true
    let known := fun p => (p ∈ r.seen)
    let acked := fun p => Host.Outcome.next ({ s with ring := { r with acks := r.acks ++ [p] } } : State)
    let p := (h.unit, h.seq)
    let taken := ({ s with ring := { r with acks := r.acks ++ [p], seen := (p :: r.seen).take 1024 } } : State)
    let due := plus32 n.start n.et s.core.osr
    let mine := (s.ten t).out? id = some x
    let told := fun row => exec (.spillCommandRecord row) s
    let report := SpillRecord.report h t g id found late at_
    let counted := Host.Outcome.next ({ s with ring := { r with
      codeA := if r.laneA = .folded then r.codeA else r.codeA + 1
      codeB := if r.laneA = .folded then r.codeB + 1 else r.codeB } } : State)
    let reported := taken.updTen t fun y => y.updOut id fun e => { e with reported := true, ref := none }
    let executed := match x.ref with
      | some (v, k) => reported.updTen v fun y => y.updCmd k fun e => { e with execAt := some (Smp.plus x.start 32) }
      | none => reported
    (r.role ≠ .standalone → told .crcBad = counted ∧ (n.crcOk = false → exec (.spilledNoteArrival n) s = counted)) ∧
    (r.role = .standalone → told .crcBad = .next s ∧ exec (.spilledNoteArrival n) s = .next s) ∧
    (¬ on → (n.crcOk = true → exec (.spilledNoteArrival n) s = .next s) ∧ told (.command c) = .next s) ∧
    (∀ row ∈ [Instr.spillStartReport h t id, .spillRefusal h t id, .spillEndRecord h t id stolen, .spillCommandRecord report,
        .spillCommandRecord (.bankOff h t id bank), .spillCommandRecord (.endOrder h t id)],
      (¬ on → exec row s = .next s) ∧ (on → known p → exec row s = acked p)) ∧
    (on → n.crcOk = true → known (n.origin, n.seq) → exec (.spilledNoteArrival n) s = acked (n.origin, n.seq)) ∧
    (on → n.crcOk = true → ¬ known (n.origin, n.seq) →
      (s.core.tide.num ≤ due.num → s.takesSpill = true → ∃ u : State,
        exec (.spilledNoteArrival n) s = .next u ∧ u.ring.spillsIn = r.spillsIn + 1 ∧ u.ring.out = r.out ∧
        u.voices.length = s.voices.length + 1 ∧ (∀ v ∈ s.voices, v ∈ u.voices) ∧
        (∃ v ∈ u.voices, v.owner = .spilled n.origin n.tenant ∧
          v.noteId = n.noteId ∧ v.life = .starting (some (due.smp, due.et))) ∧ u = { s with voices := u.voices, ring := u.ring }) ∧
      ((due.num < s.core.tide.num ∨ s.takesSpill = false) → ∃ u : State, exec (.spilledNoteArrival n) s = .next u ∧
        u.ring.out = r.out ++ [{ seq := r.seq, item := .refusal n.origin n.tenant n.noteId }] ∧
        u = { s with ring := u.ring })) ∧
    (s.arrived? o.val t id = none → exec (.spilledNoteStart o t id) s = .next s) ∧
    (∀ v a e, s.arrived? o.val t id = some v → v.life = .starting (some (a, e)) → v.owner = .spilled o.val t → v.noteId = id →
      exec (.spilledNoteStart o t id) s = if ({ smp := a, et := e } : Tide).num ≤ s.core.tide.num then
        .next (ringSend (s.setVoice { v with life := .starting none }) (.startReport o.val t id)) else .next s) ∧
    (s.fwRuns = false ∨ (s.ten t).out? id = none → exec (.spillFallbackSteal t id) s = .next s) ∧
    (s.fwRuns = true → mine → (s.fallbackDue x = false → exec (.spillFallbackSteal t id) s = .next s) ∧
      (s.fallbackDue x = true → ∃ u : State, exec (.spillFallbackSteal t id) s = .next u ∧ (u.ten t).out? id = none ∧
        u.core = s.core ∧ ((s.ten t).policy = .never → u.voices = s.voices))) ∧
    (on → ¬ known p →
      exec (.spillRefusal h t id) s =
        .next (taken.updTen t fun y => y.updOut id fun e => if e.reported then e else { e with refused := true }) ∧
      ((s.ten t).out? id = none → exec (.spillStartReport h t id) s = .next taken ∧
        exec (.spillEndRecord h t id stolen) s = .next taken ∧ told (.bankOff h t id bank) = .next taken) ∧
      (mine → (x.reported = true ∨ x.refused = true → exec (.spillStartReport h t id) s = .next taken) ∧
        (x.reported = false → x.refused = false → exec (.spillStartReport h t id) s =
          .next (finishRef executed x.ref .ok (.bytes (leBytes 2 (32768 + 32 * s.core.osr))))) ∧
        (∃ u : State, exec (.spillEndRecord h t id stolen) s = .next u ∧ (u.ten t).out? id = none ∧
          u = { taken with tenants := u.tenants, fw := u.fw, power := u.power }) ∧
        told (.bankOff h t id bank) = .next (raiseTo taken t .bankOff (BitVec.ofNat 16 bank) (leBytes 4 id.toNat))) ∧
      ((∀ v ∈ r.waits, v.t = t → v.g = g → v.noteId ≠ id) → told report = .next taken) ∧
      (r.waits.find? (fun v => v.t == t && v.g == g && v.noteId == id) = some w → w.affected = none → ∃ u : State,
        told report = .next (finish u t g (if found then .ok else .notFound) (.note 0)) ∧
        u.ring.waits = r.waits.erase w ∧ u.ring.acks = r.acks ++ [p] ∧ u = { s with ring := u.ring, tenants := u.tenants }) ∧
      (s.spilled? h.unit t id = none → ∃ u : State, told (.endOrder h t id) = .next u ∧ u = { s with ring := u.ring } ∧
        u.ring.due = r.due) ∧
      (s.spilled? h.unit t id ≠ none → ∃ e, told (.endOrder h t id) =
          .next { taken with ring := { taken.ring with due := r.due ++ [e] } } ∧
        e.c.cmd = .off 0 ∧ e.c.noteId = id ∧ e.c.tag = none ∧ e.land = s.smp ∧ e.c.et = s.core.tide.et)) ∧
    (on → known (c.origin, c.seq) → told (.command c) = acked (c.origin, c.seq)) ∧
    (on → ¬ known (c.origin, c.seq) → s.spilled? c.origin c.tenant c.noteId ≠ none → ∃ u : State,
      told (.command c) = .next u ∧ u.ring.due.length = r.due.length + 1 ∧ u = { s with ring := u.ring }) ∧
    (on → ¬ known (c.origin, c.seq) → s.spilled? c.origin c.tenant c.noteId = none → c.tag = some g → ∃ u : State,
      told (.command c) = .next u ∧ u = { s with ring := u.ring } ∧
      u.ring.out = r.out ++ [{ seq := r.seq, item := .report c.origin c.tenant g c.noteId false false s.smp }]) ∧
    (s.fwRuns = false ∨ ((∀ v ∈ r.waits, v.t = t → v.g = g → v.frames < 6) ∧
        ∀ y ∈ (s.ten t).spilledOut, y.ref = some (t, g) → y.reported = false → y.refused = false → y.frames < 6) →
      exec (.spillReportTimeout t g) s = .next s) ∧
    (s.fwRuns = true → w ∈ r.waits → w.t = t → w.g = g → 6 ≤ w.frames → ∃ u : State, exec (.spillReportTimeout t g) s = .next u ∧
      (∀ v ∈ u.ring.waits, ¬ (v.t = t ∧ v.g = g)) ∧ (u.ten t).find g = none ∧
      u = { s with ring := u.ring, tenants := u.tenants }) ∧
    (s.fwRuns = true → x ∈ (s.ten t).spilledOut → x.ref = some (t, g) → x.reported = false → x.refused = false → 6 ≤ x.frames →
      ∃ u : State, exec (.spillReportTimeout t g) s = .next u ∧ u.ring.spillsLost = r.spillsLost + 1 ∧
        (u.ten t).find g = none ∧ u = { s with ring := u.ring, tenants := u.tenants })

/-! ## Time -/

/-- What time brings (R16, R18, R20, R26, R31, R32, R81, R84, R118, R159, R303, R304). A strobe advances the tick count, and the tide
by one while the engine runs; what executed before lands at its tick or boundary. A steal fade that is over clears its victim and
the note behind it takes the slot. Host loss aborts what waits and faults the tenant. The notice tells the number of dropped
events. The scrub counts and keeps what it found. -/
def Obligations.TimeAdvancesTheBlock : Prop :=
  ∀ (s : State) (t : Tenant) (ms n k : Nat) (lane : Fin 8) (slot : Fin 48) (v : Voice) (on : Bool) (m : BitVec 7) (a : Nat) (b : Nat),
    let x := s.ten t
    let slipless := s.ring.slipNow = none ∧ s.ring.slipDue = none
    let here := s.voices.find? (fun v => v.lane == lane.val && v.slot == slot.val) = some v
    let boundary := s.strobes = true ∧ s.core.tide.isBoundary = true ∧ s.core.boundaryDone = false
    let watched := s.fwRuns = true ∧ x.st = .opened ∧ x.hostLossMs ≠ 0
    let lost := x.hostLossMs ≤ x.lossMs + ms
    let wave := a / 0x40000 < 16 ∧ s.mem.bankSt .wave (a / 0x40000) = .on
    (s.strobes = false → exec .engineTick s = .next s ∧ exec .blockBoundary s = .next s ∧
      exec (.stealFadeEnd lane slot) s = .next s) ∧
    (s.strobes = true → ∃ u : State, exec .engineTick s = .next u ∧ u.core.ticks = s.core.ticks + 1 ∧
      u.fuse = s.fuse ∧ u.pending = s.pending ∧ (slipless ∨ s.core.run = .stopped → u.core.boundaryDone = false) ∧
      (s.readyL = [] → s.readyB = [] → u.nvm = { s.nvm with tamperOwed := u.nvm.tamperOwed } ∧
        (s.core.run = .running → slipless → u.core.tide = s.core.tide.succ s.core.osr) ∧
        (s.core.run = .stopped → u.core.tide = s.core.tide ∧ u.core.run = .stopped)) ∧
      (s.readyL = [.wakeConfig m k] → u.power.wakeMask = m ∧ u.power.wakeTimer = k)) ∧
    (s.core.tide.isBoundary = false ∨ s.core.boundaryDone = true → exec .blockBoundary s = .next s) ∧
    (boundary → s.readyB = [] ∨ s.readyB = [.busEnable n on] → ∃ u : State, exec .blockBoundary s = .next u ∧
      u.core.boundaryDone = true ∧ u.core.tide = s.core.tide ∧ (s.readyB = [.busEnable n on] → (u.bus n).on = on)) ∧
    (s.voices.find? (fun v => v.lane == lane.val && v.slot == slot.val) = none → exec (.stealFadeEnd lane slot) s = .next s) ∧
    (here → v.fadeOver = false → exec (.stealFadeEnd lane slot) s = .next s) ∧
    (here → v.fadeOver = true → s.strobes = true →
      (v.succ = none → v.retrig = none → (v.fade ≠ .release ∨ ∃ k, v.owner = .tenant k) →
        exec (.stealFadeEnd lane slot) s = .next (s.clearVoice v)) ∧
      (v.succ = none → v.retrig = none → v.fade = .release → ∀ o k, v.owner = .spilled o k →
        exec (.stealFadeEnd lane slot) s = .next (ringEnded (s.clearVoice v) o k v.noteId false)) ∧
      (∀ e, v.succ = some e → ∃ u : State, exec (.stealFadeEnd lane slot) s = .next u ∧ u.core = s.core ∧
        (u.voices.any fun w => w.lane == lane.val && w.slot == slot.val && w.noteId == e.noteId && w.owner == e.owner) = true)) ∧
    (¬ watched → exec (.hostLossTimeout t ms) s = .next s) ∧
    (watched → ¬ lost → exec (.hostLossTimeout t ms) s = .next (s.updTen t fun y => { y with lossMs := y.lossMs + ms })) ∧
    (watched → lost → ∃ u : State, exec (.hostLossTimeout t ms) s = .next u ∧ (u.ten t).st = .faulted ∧ (u.ten t).fault = .hostLoss ∧
      (∀ d ∈ (u.ten t).inflight, d.phase = .executing) ∧ (x.hostLossAction = .mute → (u.ten t).muted = true) ∧
      u.core = s.core ∧ u.nvm = s.nvm) ∧
    (s.fwRuns = false ∨ x.st = .closed ∨ x.droppedSince = 0 ∨ x.events.getLsbD 1 = false → exec (.eventsDroppedNotice t) s = .next s) ∧
    (s.fwRuns = true → x.st ≠ .closed → x.droppedSince ≠ 0 → 2 ≤ x.cqFree → x.events.getLsbD 1 = true →
      exec (.eventsDroppedNotice t) s = .next (s.setTen t { x.writeGroup (evRec .eventsDropped x.evSeq
        (BitVec.ofNat 16 (min x.droppedSince 65535)) [] s.smp) [] with evSeq := x.evSeq + 1, droppedSince := 0 })) ∧
    (s.fwRuns = false → exec (.waveScrub [(a, on)] []) s = .next s) ∧
    (s.fwRuns = true → ¬ wave → exec (.waveScrub [(a, on)] []) s = .next s) ∧
    (s.fwRuns = true → wave → ∃ u : State, exec (.waveScrub [(a, on)] []) s = .next u ∧ u.mem.wave = s.mem.wave ∧
      (on = true → u.mem.badWords.contains a = true ∧ u.mem.eccUncorrected = s.mem.eccUncorrected + 1) ∧
      (on = false → u.mem.badWords = s.mem.badWords ∧ u.mem.eccCorrected = s.mem.eccCorrected + 1) ∧
      u = { s with mem := u.mem, tenants := u.tenants, fw := u.fw }) ∧
    (s.fwRuns = true → eccBank b = false → exec (.waveScrub [] [b]) s = .next s) ∧
    (s.fwRuns = true → eccBank b = true → ∃ u : State, exec (.waveScrub [] [b]) s = .next u ∧
      u.mem = { s.mem with eccCorrected := s.mem.eccCorrected + 1 } ∧ u = { s with mem := u.mem, tenants := u.tenants, fw := u.fw })

/-- The service life (R354): each second adds AF = 2^((Tj - 85) / 10) seconds to the equivalent hours, and 1 second to the hours
while VDD_ENG is powered; both counts are stored hourly; every reset and every wake keeps both. -/
def Obligations.LifeCountsRunAndSurvive : Prop :=
  ∀ (s : State) (hw : HwAnswer) (row : Instr) (ms : Nat) (up bad worse : Bool) (seen : TamperSeen) (w : WakeSrc)
    (rd : BootRead),
    exec .lifeSecond s = .next { s with
      cal := { s.cal with
        lifeSec := if s.power.enCore then s.cal.lifeSec + 1 else s.cal.lifeSec
        equivSec := s.cal.equivSec + Config.exp2 (mkRat (s.supply.tj - 85) 10) }
      fw := { s.fw with eccRaised := [] } } ∧
    (s.fwRuns = false → exec (.lifeHourlyStore hw) s = .next s) ∧
    (s.fwRuns = true → hw.verify = true → exec (.lifeHourlyStore hw) s =
      .next { s with nvm := { s.nvm with countRec := s.nvm.countRec.put (s.cal.lifeSec, s.cal.equivSec) true } }) ∧
    (s.fwRuns = true → hw.verify = false → ∃ u : State, exec (.lifeHourlyStore hw) s = .next u ∧
      u.mem.eccUncorrected = s.mem.eccUncorrected + 1 ∧ u.nvm.countRec.newest = s.nvm.countRec.newest ∧
      u.nvm = { s.nvm with countRec := u.nvm.countRec } ∧ u = { s with mem := u.mem, nvm := u.nvm, tenants := u.tenants, fw := u.fw }) ∧
    (row ∈ [.powerOnReset up, .resetNAssert ms, .vddEngOutOfRange, .vddEngTimeout, .tamperDetect seen, .warmReset rd,
        .hibernateWake w bad worse rd] → ∃ u : State, exec row s = .next u ∧ u.cal.lifeSec = s.cal.lifeSec ∧
      u.cal.equivSec = s.cal.equivSec)
end

