-- ==== Sys2Proof/Laws/Bank.lean ====
section
/-! SUPPORT. Laws of banks and memories: reading after writing, and the canonical form that every memory operation
keeps. -/

namespace Sys2Proof.Machine

variable {α : Type}

theorem bankGet_bankPut_same (b : Bank α) (n : Nat) (x : α) : bankGet (bankPut b n x) n = some x := by
  induction b with
  | nil => simp [bankPut, bankGet]
  | cons e r ih =>
    obtain ⟨k, v⟩ := e
    by_cases h : n < k
    · simp [bankPut, bankGet, h]
    · by_cases hk : n = k
      · simp [bankPut, bankGet, hk]
      · have : ¬ k = n := fun e => hk e.symm
        simp [bankPut, bankGet, h, hk, this, ih]

theorem bankGet_bankPut_other (b : Bank α) {n m : Nat} (x : α) (hne : m ≠ n) :
    bankGet (bankPut b n x) m = bankGet b m := by
  have hne' : ¬ n = m := fun e => hne e.symm
  induction b with
  | nil => simp [bankPut, bankGet, hne']
  | cons e r ih =>
    obtain ⟨k, v⟩ := e
    by_cases h : n < k
    · simp [bankPut, bankGet, h, hne']
    · by_cases hk : n = k
      · subst hk; simp [bankPut, bankGet, hne']
      · simp [bankPut, bankGet, h, hk, ih]

@[simp] theorem bankAt_bankPut_same (b : Bank α) (n : Nat) (x d : α) : bankAt (bankPut b n x) n d = x := by
  simp [bankAt, bankGet_bankPut_same]

theorem bankAt_bankPut_other (b : Bank α) {n m : Nat} (x d : α) (h : m ≠ n) :
    bankAt (bankPut b n x) m d = bankAt b m d := by
  simp [bankAt, bankGet_bankPut_other b x h]

theorem bankRising_weaken (b : Bank α) {lo lo' : Nat} (h : bankRising lo b = true) (hl : lo' ≤ lo) :
    bankRising lo' b = true := by
  cases b with
  | nil => rfl
  | cons e r =>
    obtain ⟨k, v⟩ := e
    simp [bankRising] at h ⊢
    exact ⟨by omega, h.2⟩

theorem bankPut_rising (b : Bank α) {lo n : Nat} (x : α) (h : bankRising lo b = true) (hn : lo ≤ n) :
    bankRising lo (bankPut b n x) = true := by
  induction b generalizing lo with
  | nil => simp [bankPut, bankRising, hn]
  | cons e r ih =>
    obtain ⟨k, v⟩ := e
    simp [bankRising] at h
    by_cases h1 : n < k
    · simp [bankPut, h1, bankRising, hn, h.2]
    · by_cases h2 : n = k
      · subst h2; simp [bankPut, bankRising, h]
      · simp [bankPut, h1, h2, bankRising, h.1]
        exact ih h.2 (by omega)

theorem bankDel_rising (b : Bank α) {lo : Nat} (n : Nat) (h : bankRising lo b = true) :
    bankRising lo (bankDel b n) = true := by
  induction b generalizing lo with
  | nil => rfl
  | cons e r ih =>
    obtain ⟨k, v⟩ := e
    simp [bankRising] at h
    by_cases h2 : k = n
    · simp [bankDel, h2]; exact bankRising_weaken r h.2 (by omega)
    · simp [bankDel, h2, bankRising, h.1, ih h.2]

theorem bankRising_filter (b : Bank α) {lo : Nat} (p : Nat × α → Bool) (h : bankRising lo b = true) :
    bankRising lo (b.filter p) = true := by
  induction b generalizing lo with
  | nil => rfl
  | cons e r ih =>
    obtain ⟨k, v⟩ := e
    simp [bankRising] at h
    by_cases hp : p (k, v) = true
    · simp [List.filter, hp, bankRising, h.1, ih h.2]
    · simp [List.filter, hp]; exact bankRising_weaken _ (ih h.2) (by omega)

/-- Writing an entry keeps a bank canonical. -/
theorem bankPut_wf (b : Bank α) (n : Nat) (x : α) (h : bankWf b = true) : bankWf (bankPut b n x) = true :=
  bankPut_rising b x h (Nat.zero_le n)

theorem mem_bankPut {b : Bank α} {n : Nat} {x : α} {e : Nat × α} (h : e ∈ bankPut b n x) : e = (n, x) ∨ e ∈ b := by
  induction b with
  | nil => simp [bankPut] at h; exact .inl h
  | cons d r ih =>
    obtain ⟨k, v⟩ := d
    by_cases h1 : n < k
    · simpa [bankPut, h1] using h
    · by_cases h2 : n = k
      · simp [bankPut, h2] at h ⊢; rcases h with h | h
        · exact .inl h
        · exact .inr (.inr h)
      · simp [bankPut, h1, h2] at h
        rcases h with h | h
        · simp [h]
        · rcases ih h with h | h
          · exact .inl h
          · exact .inr (by simp [h])

theorem mem_bankDel {b : Bank α} {n : Nat} {e : Nat × α} (h : e ∈ bankDel b n) : e ∈ b := by
  induction b with
  | nil => simp [bankDel] at h
  | cons d r ih =>
    obtain ⟨k, v⟩ := d
    by_cases h1 : k = n
    · simp [bankDel, h1] at h; simp [h]
    · simp [bankDel, h1] at h; rcases h with h | h
      · simp [h]
      · simp [ih h]

theorem memory_wf_iff (m : Memory) : Memory.wf m = true ↔ bankRising 0 m = true ∧ ∀ e ∈ m, e.2 ≠ 0 := by
  simp [Memory.wf, bankWf, memNonzero]

/-- Writing a byte keeps a memory canonical. -/
theorem memWrite_wf (m : Memory) (a : Nat) (b : Byte) (h : Memory.wf m = true) : Memory.wf (memWrite m a b) = true := by
  rw [memory_wf_iff] at *
  by_cases hb : b = 0
  · simp only [memWrite, hb, if_true]
    exact ⟨bankDel_rising m a h.1, fun e he => h.2 e (mem_bankDel he)⟩
  · simp only [memWrite, hb, if_false]
    refine ⟨bankPut_rising m b h.1 (Nat.zero_le a), fun e he => ?_⟩
    rcases mem_bankPut he with rfl | he
    · exact hb
    · exact h.2 e he

/-- Writing bytes keeps a memory canonical. -/
theorem memWriteN_wf (m : Memory) (a : Nat) (l : List Byte) (h : Memory.wf m = true) :
    Memory.wf (memWriteN m a l) = true := by
  induction l generalizing m a with
  | nil => exact h
  | cons b r ih => exact ih _ _ (memWrite_wf m a b h)

/-- Leaving bytes out keeps a memory canonical. -/
theorem memFilter_wf (m : Memory) (p : Nat × BitVec 8 → Bool) (h : Memory.wf m = true) : Memory.wf (m.filter p) = true := by
  rw [memory_wf_iff] at *
  exact ⟨bankRising_filter m p h.1, fun e he => h.2 e (List.mem_of_mem_filter he)⟩

/-- Clearing a range keeps a memory canonical. -/
theorem memClear_wf (m : Memory) (a n : Nat) (h : Memory.wf m = true) : Memory.wf (memClear m a n) = true :=
  memFilter_wf m _ h

theorem bankGet_of_rising {b : Bank α} {lo n : Nat} (h : bankRising lo b = true) (hn : n < lo) : bankGet b n = none := by
  induction b generalizing lo with
  | nil => rfl
  | cons e r ih =>
    obtain ⟨k, v⟩ := e
    simp [bankRising] at h
    have : ¬ k = n := by omega
    simp [bankGet, this]; exact ih h.2 (by omega)

theorem bankGet_bankDel_same {b : Bank α} {lo n : Nat} (h : bankRising lo b = true) : bankGet (bankDel b n) n = none := by
  induction b generalizing lo with
  | nil => rfl
  | cons e r ih =>
    obtain ⟨k, v⟩ := e
    simp [bankRising] at h
    by_cases h2 : k = n
    · subst h2; simp [bankDel]; exact bankGet_of_rising h.2 (by omega)
    · simp [bankDel, h2, bankGet, ih h.2]

theorem bankGet_bankDel_other (b : Bank α) {n m : Nat} (hne : m ≠ n) : bankGet (bankDel b n) m = bankGet b m := by
  induction b with
  | nil => rfl
  | cons e r ih =>
    obtain ⟨k, v⟩ := e
    by_cases h2 : k = n
    · subst h2; have : ¬ k = m := fun e => hne e.symm
      simp [bankDel, bankGet, this]
    · simp [bankDel, h2, bankGet, ih]

/-- A byte just written reads back. -/
theorem memRead_memWrite_same (m : Memory) (a : Nat) (b : Byte) (h : Memory.wf m = true) :
    memRead (memWrite m a b) a = b := by
  by_cases hb : b = 0
  · rw [memory_wf_iff] at h
    simp [memRead, memWrite, hb, bankGet_bankDel_same h.1]
  · rw [memRead, memWrite, if_neg hb, bankGet_bankPut_same]; rfl

/-- A write leaves every other address alone. -/
theorem memRead_memWrite_other (m : Memory) {a c : Nat} (b : Byte) (h : c ≠ a) :
    memRead (memWrite m a b) c = memRead m c := by
  by_cases hb : b = 0
  · simp [memRead, memWrite, hb, bankGet_bankDel_other m h]
  · rw [memRead, memWrite, if_neg hb, bankGet_bankPut_other m b h]; rfl

/-- Writing bytes leaves every address outside them alone. -/
theorem memRead_memWriteN_other (m : Memory) {a c : Nat} (l : List Byte) (h : c < a ∨ a + l.length ≤ c) :
    memRead (memWriteN m a l) c = memRead m c := by
  induction l generalizing m a with
  | nil => rfl
  | cons b r ih =>
    simp only [List.length_cons] at h
    rw [memWriteN, ih _ (by omega), memRead_memWrite_other m b (by omega)]

/-- The bytes just written read back. -/
theorem memReadN_memWriteN (m : Memory) (a : Nat) (l : List Byte) (h : Memory.wf m = true) :
    memReadN (memWriteN m a l) a l.length = l := by
  induction l generalizing m a with
  | nil => rfl
  | cons b r ih =>
    simp only [List.length_cons, memReadN, memWriteN]
    rw [ih _ _ (memWrite_wf m a b h), memRead_memWriteN_other _ r (by omega), memRead_memWrite_same m a b h]

end Sys2Proof.Machine
end

