-- ==== Sys2Proof/Laws/State.lean ====
section
/-! SUPPORT. What each update of the state leaves alone and what it changes: one lemma per field per update, so that no
later proof unfolds a record update; reading a block after writing one. -/

namespace Sys2Proof.Machine

variable (s : State)

/-! ## State.setTen -/

@[simp] theorem setTen_pending (t : Tenant) (x : TenantSt) : (s.setTen t x).pending = s.pending := rfl
@[simp] theorem setTen_freeCtr (t : Tenant) (x : TenantSt) : (s.setTen t x).freeCtr = s.freeCtr := rfl
@[simp] theorem setTen_fuse (t : Tenant) (x : TenantSt) : (s.setTen t x).fuse = s.fuse := rfl
@[simp] theorem setTen_supply (t : Tenant) (x : TenantSt) : (s.setTen t x).supply = s.supply := rfl
@[simp] theorem setTen_link (t : Tenant) (x : TenantSt) : (s.setTen t x).link = s.link := rfl
@[simp] theorem setTen_fw (t : Tenant) (x : TenantSt) : (s.setTen t x).fw = s.fw := rfl
@[simp] theorem setTen_core (t : Tenant) (x : TenantSt) : (s.setTen t x).core = s.core := rfl
@[simp] theorem setTen_pendL (t : Tenant) (x : TenantSt) : (s.setTen t x).pendL = s.pendL := rfl
@[simp] theorem setTen_readyL (t : Tenant) (x : TenantSt) : (s.setTen t x).readyL = s.readyL := rfl
@[simp] theorem setTen_pendB (t : Tenant) (x : TenantSt) : (s.setTen t x).pendB = s.pendB := rfl
@[simp] theorem setTen_readyB (t : Tenant) (x : TenantSt) : (s.setTen t x).readyB = s.readyB := rfl
@[simp] theorem setTen_voices (t : Tenant) (x : TenantSt) : (s.setTen t x).voices = s.voices := rfl
@[simp] theorem setTen_slots (t : Tenant) (x : TenantSt) : (s.setTen t x).slots = s.slots := rfl
@[simp] theorem setTen_alloc (t : Tenant) (x : TenantSt) : (s.setTen t x).alloc = s.alloc := rfl
@[simp] theorem setTen_mix (t : Tenant) (x : TenantSt) : (s.setTen t x).mix = s.mix := rfl
@[simp] theorem setTen_ports (t : Tenant) (x : TenantSt) : (s.setTen t x).ports = s.ports := rfl
@[simp] theorem setTen_field (t : Tenant) (x : TenantSt) : (s.setTen t x).field = s.field := rfl
@[simp] theorem setTen_cis (t : Tenant) (x : TenantSt) : (s.setTen t x).cis = s.cis := rfl
@[simp] theorem setTen_scan (t : Tenant) (x : TenantSt) : (s.setTen t x).scan = s.scan := rfl
@[simp] theorem setTen_serials (t : Tenant) (x : TenantSt) : (s.setTen t x).serials = s.serials := rfl
@[simp] theorem setTen_card (t : Tenant) (x : TenantSt) : (s.setTen t x).card = s.card := rfl
@[simp] theorem setTen_ring (t : Tenant) (x : TenantSt) : (s.setTen t x).ring = s.ring := rfl
@[simp] theorem setTen_mem (t : Tenant) (x : TenantSt) : (s.setTen t x).mem = s.mem := rfl
@[simp] theorem setTen_vault (t : Tenant) (x : TenantSt) : (s.setTen t x).vault = s.vault := rfl
@[simp] theorem setTen_nvm (t : Tenant) (x : TenantSt) : (s.setTen t x).nvm = s.nvm := rfl
@[simp] theorem setTen_power (t : Tenant) (x : TenantSt) : (s.setTen t x).power = s.power := rfl
@[simp] theorem setTen_cal (t : Tenant) (x : TenantSt) : (s.setTen t x).cal = s.cal := rfl

/-! ## State.updTen -/

@[simp] theorem updTen_pending (t : Tenant) (f : TenantSt → TenantSt) : (s.updTen t f).pending = s.pending := rfl
@[simp] theorem updTen_freeCtr (t : Tenant) (f : TenantSt → TenantSt) : (s.updTen t f).freeCtr = s.freeCtr := rfl
@[simp] theorem updTen_fuse (t : Tenant) (f : TenantSt → TenantSt) : (s.updTen t f).fuse = s.fuse := rfl
@[simp] theorem updTen_supply (t : Tenant) (f : TenantSt → TenantSt) : (s.updTen t f).supply = s.supply := rfl
@[simp] theorem updTen_link (t : Tenant) (f : TenantSt → TenantSt) : (s.updTen t f).link = s.link := rfl
@[simp] theorem updTen_fw (t : Tenant) (f : TenantSt → TenantSt) : (s.updTen t f).fw = s.fw := rfl
@[simp] theorem updTen_core (t : Tenant) (f : TenantSt → TenantSt) : (s.updTen t f).core = s.core := rfl
@[simp] theorem updTen_pendL (t : Tenant) (f : TenantSt → TenantSt) : (s.updTen t f).pendL = s.pendL := rfl
@[simp] theorem updTen_readyL (t : Tenant) (f : TenantSt → TenantSt) : (s.updTen t f).readyL = s.readyL := rfl
@[simp] theorem updTen_pendB (t : Tenant) (f : TenantSt → TenantSt) : (s.updTen t f).pendB = s.pendB := rfl
@[simp] theorem updTen_readyB (t : Tenant) (f : TenantSt → TenantSt) : (s.updTen t f).readyB = s.readyB := rfl
@[simp] theorem updTen_voices (t : Tenant) (f : TenantSt → TenantSt) : (s.updTen t f).voices = s.voices := rfl
@[simp] theorem updTen_slots (t : Tenant) (f : TenantSt → TenantSt) : (s.updTen t f).slots = s.slots := rfl
@[simp] theorem updTen_alloc (t : Tenant) (f : TenantSt → TenantSt) : (s.updTen t f).alloc = s.alloc := rfl
@[simp] theorem updTen_mix (t : Tenant) (f : TenantSt → TenantSt) : (s.updTen t f).mix = s.mix := rfl
@[simp] theorem updTen_ports (t : Tenant) (f : TenantSt → TenantSt) : (s.updTen t f).ports = s.ports := rfl
@[simp] theorem updTen_field (t : Tenant) (f : TenantSt → TenantSt) : (s.updTen t f).field = s.field := rfl
@[simp] theorem updTen_cis (t : Tenant) (f : TenantSt → TenantSt) : (s.updTen t f).cis = s.cis := rfl
@[simp] theorem updTen_scan (t : Tenant) (f : TenantSt → TenantSt) : (s.updTen t f).scan = s.scan := rfl
@[simp] theorem updTen_serials (t : Tenant) (f : TenantSt → TenantSt) : (s.updTen t f).serials = s.serials := rfl
@[simp] theorem updTen_card (t : Tenant) (f : TenantSt → TenantSt) : (s.updTen t f).card = s.card := rfl
@[simp] theorem updTen_ring (t : Tenant) (f : TenantSt → TenantSt) : (s.updTen t f).ring = s.ring := rfl
@[simp] theorem updTen_mem (t : Tenant) (f : TenantSt → TenantSt) : (s.updTen t f).mem = s.mem := rfl
@[simp] theorem updTen_vault (t : Tenant) (f : TenantSt → TenantSt) : (s.updTen t f).vault = s.vault := rfl
@[simp] theorem updTen_nvm (t : Tenant) (f : TenantSt → TenantSt) : (s.updTen t f).nvm = s.nvm := rfl
@[simp] theorem updTen_power (t : Tenant) (f : TenantSt → TenantSt) : (s.updTen t f).power = s.power := rfl
@[simp] theorem updTen_cal (t : Tenant) (f : TenantSt → TenantSt) : (s.updTen t f).cal = s.cal := rfl

/-! ## State.updLane -/

@[simp] theorem updLane_pending (n : Nat) (f : Lane → Lane) : (s.updLane n f).pending = s.pending := rfl
@[simp] theorem updLane_freeCtr (n : Nat) (f : Lane → Lane) : (s.updLane n f).freeCtr = s.freeCtr := rfl
@[simp] theorem updLane_fuse (n : Nat) (f : Lane → Lane) : (s.updLane n f).fuse = s.fuse := rfl
@[simp] theorem updLane_supply (n : Nat) (f : Lane → Lane) : (s.updLane n f).supply = s.supply := rfl
@[simp] theorem updLane_link (n : Nat) (f : Lane → Lane) : (s.updLane n f).link = s.link := rfl
@[simp] theorem updLane_tenants (n : Nat) (f : Lane → Lane) : (s.updLane n f).tenants = s.tenants := rfl
@[simp] theorem updLane_fw (n : Nat) (f : Lane → Lane) : (s.updLane n f).fw = s.fw := rfl
@[simp] theorem updLane_core (n : Nat) (f : Lane → Lane) : (s.updLane n f).core = s.core := rfl
@[simp] theorem updLane_pendL (n : Nat) (f : Lane → Lane) : (s.updLane n f).pendL = s.pendL := rfl
@[simp] theorem updLane_readyL (n : Nat) (f : Lane → Lane) : (s.updLane n f).readyL = s.readyL := rfl
@[simp] theorem updLane_pendB (n : Nat) (f : Lane → Lane) : (s.updLane n f).pendB = s.pendB := rfl
@[simp] theorem updLane_readyB (n : Nat) (f : Lane → Lane) : (s.updLane n f).readyB = s.readyB := rfl
@[simp] theorem updLane_voices (n : Nat) (f : Lane → Lane) : (s.updLane n f).voices = s.voices := rfl
@[simp] theorem updLane_slots (n : Nat) (f : Lane → Lane) : (s.updLane n f).slots = s.slots := rfl
@[simp] theorem updLane_mix (n : Nat) (f : Lane → Lane) : (s.updLane n f).mix = s.mix := rfl
@[simp] theorem updLane_ports (n : Nat) (f : Lane → Lane) : (s.updLane n f).ports = s.ports := rfl
@[simp] theorem updLane_field (n : Nat) (f : Lane → Lane) : (s.updLane n f).field = s.field := rfl
@[simp] theorem updLane_cis (n : Nat) (f : Lane → Lane) : (s.updLane n f).cis = s.cis := rfl
@[simp] theorem updLane_scan (n : Nat) (f : Lane → Lane) : (s.updLane n f).scan = s.scan := rfl
@[simp] theorem updLane_serials (n : Nat) (f : Lane → Lane) : (s.updLane n f).serials = s.serials := rfl
@[simp] theorem updLane_card (n : Nat) (f : Lane → Lane) : (s.updLane n f).card = s.card := rfl
@[simp] theorem updLane_ring (n : Nat) (f : Lane → Lane) : (s.updLane n f).ring = s.ring := rfl
@[simp] theorem updLane_mem (n : Nat) (f : Lane → Lane) : (s.updLane n f).mem = s.mem := rfl
@[simp] theorem updLane_vault (n : Nat) (f : Lane → Lane) : (s.updLane n f).vault = s.vault := rfl
@[simp] theorem updLane_nvm (n : Nat) (f : Lane → Lane) : (s.updLane n f).nvm = s.nvm := rfl
@[simp] theorem updLane_power (n : Nat) (f : Lane → Lane) : (s.updLane n f).power = s.power := rfl
@[simp] theorem updLane_cal (n : Nat) (f : Lane → Lane) : (s.updLane n f).cal = s.cal := rfl

/-! ## State.updBus -/

@[simp] theorem updBus_pending (n : Nat) (f : Bus → Bus) : (s.updBus n f).pending = s.pending := rfl
@[simp] theorem updBus_freeCtr (n : Nat) (f : Bus → Bus) : (s.updBus n f).freeCtr = s.freeCtr := rfl
@[simp] theorem updBus_fuse (n : Nat) (f : Bus → Bus) : (s.updBus n f).fuse = s.fuse := rfl
@[simp] theorem updBus_supply (n : Nat) (f : Bus → Bus) : (s.updBus n f).supply = s.supply := rfl
@[simp] theorem updBus_link (n : Nat) (f : Bus → Bus) : (s.updBus n f).link = s.link := rfl
@[simp] theorem updBus_tenants (n : Nat) (f : Bus → Bus) : (s.updBus n f).tenants = s.tenants := rfl
@[simp] theorem updBus_fw (n : Nat) (f : Bus → Bus) : (s.updBus n f).fw = s.fw := rfl
@[simp] theorem updBus_core (n : Nat) (f : Bus → Bus) : (s.updBus n f).core = s.core := rfl
@[simp] theorem updBus_pendL (n : Nat) (f : Bus → Bus) : (s.updBus n f).pendL = s.pendL := rfl
@[simp] theorem updBus_readyL (n : Nat) (f : Bus → Bus) : (s.updBus n f).readyL = s.readyL := rfl
@[simp] theorem updBus_pendB (n : Nat) (f : Bus → Bus) : (s.updBus n f).pendB = s.pendB := rfl
@[simp] theorem updBus_readyB (n : Nat) (f : Bus → Bus) : (s.updBus n f).readyB = s.readyB := rfl
@[simp] theorem updBus_voices (n : Nat) (f : Bus → Bus) : (s.updBus n f).voices = s.voices := rfl
@[simp] theorem updBus_slots (n : Nat) (f : Bus → Bus) : (s.updBus n f).slots = s.slots := rfl
@[simp] theorem updBus_alloc (n : Nat) (f : Bus → Bus) : (s.updBus n f).alloc = s.alloc := rfl
@[simp] theorem updBus_ports (n : Nat) (f : Bus → Bus) : (s.updBus n f).ports = s.ports := rfl
@[simp] theorem updBus_field (n : Nat) (f : Bus → Bus) : (s.updBus n f).field = s.field := rfl
@[simp] theorem updBus_cis (n : Nat) (f : Bus → Bus) : (s.updBus n f).cis = s.cis := rfl
@[simp] theorem updBus_scan (n : Nat) (f : Bus → Bus) : (s.updBus n f).scan = s.scan := rfl
@[simp] theorem updBus_serials (n : Nat) (f : Bus → Bus) : (s.updBus n f).serials = s.serials := rfl
@[simp] theorem updBus_card (n : Nat) (f : Bus → Bus) : (s.updBus n f).card = s.card := rfl
@[simp] theorem updBus_ring (n : Nat) (f : Bus → Bus) : (s.updBus n f).ring = s.ring := rfl
@[simp] theorem updBus_mem (n : Nat) (f : Bus → Bus) : (s.updBus n f).mem = s.mem := rfl
@[simp] theorem updBus_vault (n : Nat) (f : Bus → Bus) : (s.updBus n f).vault = s.vault := rfl
@[simp] theorem updBus_nvm (n : Nat) (f : Bus → Bus) : (s.updBus n f).nvm = s.nvm := rfl
@[simp] theorem updBus_power (n : Nat) (f : Bus → Bus) : (s.updBus n f).power = s.power := rfl
@[simp] theorem updBus_cal (n : Nat) (f : Bus → Bus) : (s.updBus n f).cal = s.cal := rfl

/-! ## State.updPort -/

@[simp] theorem updPort_pending (n : Nat) (f : Port → Port) : (s.updPort n f).pending = s.pending := rfl
@[simp] theorem updPort_freeCtr (n : Nat) (f : Port → Port) : (s.updPort n f).freeCtr = s.freeCtr := rfl
@[simp] theorem updPort_fuse (n : Nat) (f : Port → Port) : (s.updPort n f).fuse = s.fuse := rfl
@[simp] theorem updPort_supply (n : Nat) (f : Port → Port) : (s.updPort n f).supply = s.supply := rfl
@[simp] theorem updPort_link (n : Nat) (f : Port → Port) : (s.updPort n f).link = s.link := rfl
@[simp] theorem updPort_tenants (n : Nat) (f : Port → Port) : (s.updPort n f).tenants = s.tenants := rfl
@[simp] theorem updPort_fw (n : Nat) (f : Port → Port) : (s.updPort n f).fw = s.fw := rfl
@[simp] theorem updPort_core (n : Nat) (f : Port → Port) : (s.updPort n f).core = s.core := rfl
@[simp] theorem updPort_pendL (n : Nat) (f : Port → Port) : (s.updPort n f).pendL = s.pendL := rfl
@[simp] theorem updPort_readyL (n : Nat) (f : Port → Port) : (s.updPort n f).readyL = s.readyL := rfl
@[simp] theorem updPort_pendB (n : Nat) (f : Port → Port) : (s.updPort n f).pendB = s.pendB := rfl
@[simp] theorem updPort_readyB (n : Nat) (f : Port → Port) : (s.updPort n f).readyB = s.readyB := rfl
@[simp] theorem updPort_voices (n : Nat) (f : Port → Port) : (s.updPort n f).voices = s.voices := rfl
@[simp] theorem updPort_slots (n : Nat) (f : Port → Port) : (s.updPort n f).slots = s.slots := rfl
@[simp] theorem updPort_alloc (n : Nat) (f : Port → Port) : (s.updPort n f).alloc = s.alloc := rfl
@[simp] theorem updPort_mix (n : Nat) (f : Port → Port) : (s.updPort n f).mix = s.mix := rfl
@[simp] theorem updPort_field (n : Nat) (f : Port → Port) : (s.updPort n f).field = s.field := rfl
@[simp] theorem updPort_cis (n : Nat) (f : Port → Port) : (s.updPort n f).cis = s.cis := rfl
@[simp] theorem updPort_scan (n : Nat) (f : Port → Port) : (s.updPort n f).scan = s.scan := rfl
@[simp] theorem updPort_serials (n : Nat) (f : Port → Port) : (s.updPort n f).serials = s.serials := rfl
@[simp] theorem updPort_card (n : Nat) (f : Port → Port) : (s.updPort n f).card = s.card := rfl
@[simp] theorem updPort_ring (n : Nat) (f : Port → Port) : (s.updPort n f).ring = s.ring := rfl
@[simp] theorem updPort_mem (n : Nat) (f : Port → Port) : (s.updPort n f).mem = s.mem := rfl
@[simp] theorem updPort_vault (n : Nat) (f : Port → Port) : (s.updPort n f).vault = s.vault := rfl
@[simp] theorem updPort_nvm (n : Nat) (f : Port → Port) : (s.updPort n f).nvm = s.nvm := rfl
@[simp] theorem updPort_power (n : Nat) (f : Port → Port) : (s.updPort n f).power = s.power := rfl
@[simp] theorem updPort_cal (n : Nat) (f : Port → Port) : (s.updPort n f).cal = s.cal := rfl

/-! ## State.updLo -/

@[simp] theorem updLo_pending (n : Nat) (f : LineOut → LineOut) : (s.updLo n f).pending = s.pending := rfl
@[simp] theorem updLo_freeCtr (n : Nat) (f : LineOut → LineOut) : (s.updLo n f).freeCtr = s.freeCtr := rfl
@[simp] theorem updLo_fuse (n : Nat) (f : LineOut → LineOut) : (s.updLo n f).fuse = s.fuse := rfl
@[simp] theorem updLo_supply (n : Nat) (f : LineOut → LineOut) : (s.updLo n f).supply = s.supply := rfl
@[simp] theorem updLo_link (n : Nat) (f : LineOut → LineOut) : (s.updLo n f).link = s.link := rfl
@[simp] theorem updLo_tenants (n : Nat) (f : LineOut → LineOut) : (s.updLo n f).tenants = s.tenants := rfl
@[simp] theorem updLo_fw (n : Nat) (f : LineOut → LineOut) : (s.updLo n f).fw = s.fw := rfl
@[simp] theorem updLo_core (n : Nat) (f : LineOut → LineOut) : (s.updLo n f).core = s.core := rfl
@[simp] theorem updLo_pendL (n : Nat) (f : LineOut → LineOut) : (s.updLo n f).pendL = s.pendL := rfl
@[simp] theorem updLo_readyL (n : Nat) (f : LineOut → LineOut) : (s.updLo n f).readyL = s.readyL := rfl
@[simp] theorem updLo_pendB (n : Nat) (f : LineOut → LineOut) : (s.updLo n f).pendB = s.pendB := rfl
@[simp] theorem updLo_readyB (n : Nat) (f : LineOut → LineOut) : (s.updLo n f).readyB = s.readyB := rfl
@[simp] theorem updLo_voices (n : Nat) (f : LineOut → LineOut) : (s.updLo n f).voices = s.voices := rfl
@[simp] theorem updLo_slots (n : Nat) (f : LineOut → LineOut) : (s.updLo n f).slots = s.slots := rfl
@[simp] theorem updLo_alloc (n : Nat) (f : LineOut → LineOut) : (s.updLo n f).alloc = s.alloc := rfl
@[simp] theorem updLo_mix (n : Nat) (f : LineOut → LineOut) : (s.updLo n f).mix = s.mix := rfl
@[simp] theorem updLo_ports (n : Nat) (f : LineOut → LineOut) : (s.updLo n f).ports = s.ports := rfl
@[simp] theorem updLo_cis (n : Nat) (f : LineOut → LineOut) : (s.updLo n f).cis = s.cis := rfl
@[simp] theorem updLo_scan (n : Nat) (f : LineOut → LineOut) : (s.updLo n f).scan = s.scan := rfl
@[simp] theorem updLo_serials (n : Nat) (f : LineOut → LineOut) : (s.updLo n f).serials = s.serials := rfl
@[simp] theorem updLo_card (n : Nat) (f : LineOut → LineOut) : (s.updLo n f).card = s.card := rfl
@[simp] theorem updLo_ring (n : Nat) (f : LineOut → LineOut) : (s.updLo n f).ring = s.ring := rfl
@[simp] theorem updLo_mem (n : Nat) (f : LineOut → LineOut) : (s.updLo n f).mem = s.mem := rfl
@[simp] theorem updLo_vault (n : Nat) (f : LineOut → LineOut) : (s.updLo n f).vault = s.vault := rfl
@[simp] theorem updLo_nvm (n : Nat) (f : LineOut → LineOut) : (s.updLo n f).nvm = s.nvm := rfl
@[simp] theorem updLo_power (n : Nat) (f : LineOut → LineOut) : (s.updLo n f).power = s.power := rfl
@[simp] theorem updLo_cal (n : Nat) (f : LineOut → LineOut) : (s.updLo n f).cal = s.cal := rfl

/-! ## State.updCv -/

@[simp] theorem updCv_pending (n : Nat) (f : CvOut → CvOut) : (s.updCv n f).pending = s.pending := rfl
@[simp] theorem updCv_freeCtr (n : Nat) (f : CvOut → CvOut) : (s.updCv n f).freeCtr = s.freeCtr := rfl
@[simp] theorem updCv_fuse (n : Nat) (f : CvOut → CvOut) : (s.updCv n f).fuse = s.fuse := rfl
@[simp] theorem updCv_supply (n : Nat) (f : CvOut → CvOut) : (s.updCv n f).supply = s.supply := rfl
@[simp] theorem updCv_link (n : Nat) (f : CvOut → CvOut) : (s.updCv n f).link = s.link := rfl
@[simp] theorem updCv_tenants (n : Nat) (f : CvOut → CvOut) : (s.updCv n f).tenants = s.tenants := rfl
@[simp] theorem updCv_fw (n : Nat) (f : CvOut → CvOut) : (s.updCv n f).fw = s.fw := rfl
@[simp] theorem updCv_core (n : Nat) (f : CvOut → CvOut) : (s.updCv n f).core = s.core := rfl
@[simp] theorem updCv_pendL (n : Nat) (f : CvOut → CvOut) : (s.updCv n f).pendL = s.pendL := rfl
@[simp] theorem updCv_readyL (n : Nat) (f : CvOut → CvOut) : (s.updCv n f).readyL = s.readyL := rfl
@[simp] theorem updCv_pendB (n : Nat) (f : CvOut → CvOut) : (s.updCv n f).pendB = s.pendB := rfl
@[simp] theorem updCv_readyB (n : Nat) (f : CvOut → CvOut) : (s.updCv n f).readyB = s.readyB := rfl
@[simp] theorem updCv_voices (n : Nat) (f : CvOut → CvOut) : (s.updCv n f).voices = s.voices := rfl
@[simp] theorem updCv_slots (n : Nat) (f : CvOut → CvOut) : (s.updCv n f).slots = s.slots := rfl
@[simp] theorem updCv_alloc (n : Nat) (f : CvOut → CvOut) : (s.updCv n f).alloc = s.alloc := rfl
@[simp] theorem updCv_mix (n : Nat) (f : CvOut → CvOut) : (s.updCv n f).mix = s.mix := rfl
@[simp] theorem updCv_ports (n : Nat) (f : CvOut → CvOut) : (s.updCv n f).ports = s.ports := rfl
@[simp] theorem updCv_cis (n : Nat) (f : CvOut → CvOut) : (s.updCv n f).cis = s.cis := rfl
@[simp] theorem updCv_scan (n : Nat) (f : CvOut → CvOut) : (s.updCv n f).scan = s.scan := rfl
@[simp] theorem updCv_serials (n : Nat) (f : CvOut → CvOut) : (s.updCv n f).serials = s.serials := rfl
@[simp] theorem updCv_card (n : Nat) (f : CvOut → CvOut) : (s.updCv n f).card = s.card := rfl
@[simp] theorem updCv_ring (n : Nat) (f : CvOut → CvOut) : (s.updCv n f).ring = s.ring := rfl
@[simp] theorem updCv_mem (n : Nat) (f : CvOut → CvOut) : (s.updCv n f).mem = s.mem := rfl
@[simp] theorem updCv_vault (n : Nat) (f : CvOut → CvOut) : (s.updCv n f).vault = s.vault := rfl
@[simp] theorem updCv_nvm (n : Nat) (f : CvOut → CvOut) : (s.updCv n f).nvm = s.nvm := rfl
@[simp] theorem updCv_power (n : Nat) (f : CvOut → CvOut) : (s.updCv n f).power = s.power := rfl
@[simp] theorem updCv_cal (n : Nat) (f : CvOut → CvOut) : (s.updCv n f).cal = s.cal := rfl

/-! ## State.updGt -/

@[simp] theorem updGt_pending (n : Nat) (f : GateOut → GateOut) : (s.updGt n f).pending = s.pending := rfl
@[simp] theorem updGt_freeCtr (n : Nat) (f : GateOut → GateOut) : (s.updGt n f).freeCtr = s.freeCtr := rfl
@[simp] theorem updGt_fuse (n : Nat) (f : GateOut → GateOut) : (s.updGt n f).fuse = s.fuse := rfl
@[simp] theorem updGt_supply (n : Nat) (f : GateOut → GateOut) : (s.updGt n f).supply = s.supply := rfl
@[simp] theorem updGt_link (n : Nat) (f : GateOut → GateOut) : (s.updGt n f).link = s.link := rfl
@[simp] theorem updGt_tenants (n : Nat) (f : GateOut → GateOut) : (s.updGt n f).tenants = s.tenants := rfl
@[simp] theorem updGt_fw (n : Nat) (f : GateOut → GateOut) : (s.updGt n f).fw = s.fw := rfl
@[simp] theorem updGt_core (n : Nat) (f : GateOut → GateOut) : (s.updGt n f).core = s.core := rfl
@[simp] theorem updGt_pendL (n : Nat) (f : GateOut → GateOut) : (s.updGt n f).pendL = s.pendL := rfl
@[simp] theorem updGt_readyL (n : Nat) (f : GateOut → GateOut) : (s.updGt n f).readyL = s.readyL := rfl
@[simp] theorem updGt_pendB (n : Nat) (f : GateOut → GateOut) : (s.updGt n f).pendB = s.pendB := rfl
@[simp] theorem updGt_readyB (n : Nat) (f : GateOut → GateOut) : (s.updGt n f).readyB = s.readyB := rfl
@[simp] theorem updGt_voices (n : Nat) (f : GateOut → GateOut) : (s.updGt n f).voices = s.voices := rfl
@[simp] theorem updGt_slots (n : Nat) (f : GateOut → GateOut) : (s.updGt n f).slots = s.slots := rfl
@[simp] theorem updGt_alloc (n : Nat) (f : GateOut → GateOut) : (s.updGt n f).alloc = s.alloc := rfl
@[simp] theorem updGt_mix (n : Nat) (f : GateOut → GateOut) : (s.updGt n f).mix = s.mix := rfl
@[simp] theorem updGt_ports (n : Nat) (f : GateOut → GateOut) : (s.updGt n f).ports = s.ports := rfl
@[simp] theorem updGt_cis (n : Nat) (f : GateOut → GateOut) : (s.updGt n f).cis = s.cis := rfl
@[simp] theorem updGt_scan (n : Nat) (f : GateOut → GateOut) : (s.updGt n f).scan = s.scan := rfl
@[simp] theorem updGt_serials (n : Nat) (f : GateOut → GateOut) : (s.updGt n f).serials = s.serials := rfl
@[simp] theorem updGt_card (n : Nat) (f : GateOut → GateOut) : (s.updGt n f).card = s.card := rfl
@[simp] theorem updGt_ring (n : Nat) (f : GateOut → GateOut) : (s.updGt n f).ring = s.ring := rfl
@[simp] theorem updGt_mem (n : Nat) (f : GateOut → GateOut) : (s.updGt n f).mem = s.mem := rfl
@[simp] theorem updGt_vault (n : Nat) (f : GateOut → GateOut) : (s.updGt n f).vault = s.vault := rfl
@[simp] theorem updGt_nvm (n : Nat) (f : GateOut → GateOut) : (s.updGt n f).nvm = s.nvm := rfl
@[simp] theorem updGt_power (n : Nat) (f : GateOut → GateOut) : (s.updGt n f).power = s.power := rfl
@[simp] theorem updGt_cal (n : Nat) (f : GateOut → GateOut) : (s.updGt n f).cal = s.cal := rfl

/-! ## State.updCi -/

@[simp] theorem updCi_pending (n : Nat) (f : CvIn → CvIn) : (s.updCi n f).pending = s.pending := rfl
@[simp] theorem updCi_freeCtr (n : Nat) (f : CvIn → CvIn) : (s.updCi n f).freeCtr = s.freeCtr := rfl
@[simp] theorem updCi_fuse (n : Nat) (f : CvIn → CvIn) : (s.updCi n f).fuse = s.fuse := rfl
@[simp] theorem updCi_supply (n : Nat) (f : CvIn → CvIn) : (s.updCi n f).supply = s.supply := rfl
@[simp] theorem updCi_link (n : Nat) (f : CvIn → CvIn) : (s.updCi n f).link = s.link := rfl
@[simp] theorem updCi_tenants (n : Nat) (f : CvIn → CvIn) : (s.updCi n f).tenants = s.tenants := rfl
@[simp] theorem updCi_fw (n : Nat) (f : CvIn → CvIn) : (s.updCi n f).fw = s.fw := rfl
@[simp] theorem updCi_core (n : Nat) (f : CvIn → CvIn) : (s.updCi n f).core = s.core := rfl
@[simp] theorem updCi_pendL (n : Nat) (f : CvIn → CvIn) : (s.updCi n f).pendL = s.pendL := rfl
@[simp] theorem updCi_readyL (n : Nat) (f : CvIn → CvIn) : (s.updCi n f).readyL = s.readyL := rfl
@[simp] theorem updCi_pendB (n : Nat) (f : CvIn → CvIn) : (s.updCi n f).pendB = s.pendB := rfl
@[simp] theorem updCi_readyB (n : Nat) (f : CvIn → CvIn) : (s.updCi n f).readyB = s.readyB := rfl
@[simp] theorem updCi_voices (n : Nat) (f : CvIn → CvIn) : (s.updCi n f).voices = s.voices := rfl
@[simp] theorem updCi_slots (n : Nat) (f : CvIn → CvIn) : (s.updCi n f).slots = s.slots := rfl
@[simp] theorem updCi_alloc (n : Nat) (f : CvIn → CvIn) : (s.updCi n f).alloc = s.alloc := rfl
@[simp] theorem updCi_mix (n : Nat) (f : CvIn → CvIn) : (s.updCi n f).mix = s.mix := rfl
@[simp] theorem updCi_ports (n : Nat) (f : CvIn → CvIn) : (s.updCi n f).ports = s.ports := rfl
@[simp] theorem updCi_field (n : Nat) (f : CvIn → CvIn) : (s.updCi n f).field = s.field := rfl
@[simp] theorem updCi_scan (n : Nat) (f : CvIn → CvIn) : (s.updCi n f).scan = s.scan := rfl
@[simp] theorem updCi_serials (n : Nat) (f : CvIn → CvIn) : (s.updCi n f).serials = s.serials := rfl
@[simp] theorem updCi_card (n : Nat) (f : CvIn → CvIn) : (s.updCi n f).card = s.card := rfl
@[simp] theorem updCi_ring (n : Nat) (f : CvIn → CvIn) : (s.updCi n f).ring = s.ring := rfl
@[simp] theorem updCi_mem (n : Nat) (f : CvIn → CvIn) : (s.updCi n f).mem = s.mem := rfl
@[simp] theorem updCi_vault (n : Nat) (f : CvIn → CvIn) : (s.updCi n f).vault = s.vault := rfl
@[simp] theorem updCi_nvm (n : Nat) (f : CvIn → CvIn) : (s.updCi n f).nvm = s.nvm := rfl
@[simp] theorem updCi_power (n : Nat) (f : CvIn → CvIn) : (s.updCi n f).power = s.power := rfl
@[simp] theorem updCi_cal (n : Nat) (f : CvIn → CvIn) : (s.updCi n f).cal = s.cal := rfl

/-! ## State.updSc -/

@[simp] theorem updSc_pending (n : Nat) (f : Serial → Serial) : (s.updSc n f).pending = s.pending := rfl
@[simp] theorem updSc_freeCtr (n : Nat) (f : Serial → Serial) : (s.updSc n f).freeCtr = s.freeCtr := rfl
@[simp] theorem updSc_fuse (n : Nat) (f : Serial → Serial) : (s.updSc n f).fuse = s.fuse := rfl
@[simp] theorem updSc_supply (n : Nat) (f : Serial → Serial) : (s.updSc n f).supply = s.supply := rfl
@[simp] theorem updSc_link (n : Nat) (f : Serial → Serial) : (s.updSc n f).link = s.link := rfl
@[simp] theorem updSc_tenants (n : Nat) (f : Serial → Serial) : (s.updSc n f).tenants = s.tenants := rfl
@[simp] theorem updSc_fw (n : Nat) (f : Serial → Serial) : (s.updSc n f).fw = s.fw := rfl
@[simp] theorem updSc_core (n : Nat) (f : Serial → Serial) : (s.updSc n f).core = s.core := rfl
@[simp] theorem updSc_pendL (n : Nat) (f : Serial → Serial) : (s.updSc n f).pendL = s.pendL := rfl
@[simp] theorem updSc_readyL (n : Nat) (f : Serial → Serial) : (s.updSc n f).readyL = s.readyL := rfl
@[simp] theorem updSc_pendB (n : Nat) (f : Serial → Serial) : (s.updSc n f).pendB = s.pendB := rfl
@[simp] theorem updSc_readyB (n : Nat) (f : Serial → Serial) : (s.updSc n f).readyB = s.readyB := rfl
@[simp] theorem updSc_voices (n : Nat) (f : Serial → Serial) : (s.updSc n f).voices = s.voices := rfl
@[simp] theorem updSc_slots (n : Nat) (f : Serial → Serial) : (s.updSc n f).slots = s.slots := rfl
@[simp] theorem updSc_alloc (n : Nat) (f : Serial → Serial) : (s.updSc n f).alloc = s.alloc := rfl
@[simp] theorem updSc_mix (n : Nat) (f : Serial → Serial) : (s.updSc n f).mix = s.mix := rfl
@[simp] theorem updSc_ports (n : Nat) (f : Serial → Serial) : (s.updSc n f).ports = s.ports := rfl
@[simp] theorem updSc_field (n : Nat) (f : Serial → Serial) : (s.updSc n f).field = s.field := rfl
@[simp] theorem updSc_cis (n : Nat) (f : Serial → Serial) : (s.updSc n f).cis = s.cis := rfl
@[simp] theorem updSc_scan (n : Nat) (f : Serial → Serial) : (s.updSc n f).scan = s.scan := rfl
@[simp] theorem updSc_card (n : Nat) (f : Serial → Serial) : (s.updSc n f).card = s.card := rfl
@[simp] theorem updSc_ring (n : Nat) (f : Serial → Serial) : (s.updSc n f).ring = s.ring := rfl
@[simp] theorem updSc_mem (n : Nat) (f : Serial → Serial) : (s.updSc n f).mem = s.mem := rfl
@[simp] theorem updSc_vault (n : Nat) (f : Serial → Serial) : (s.updSc n f).vault = s.vault := rfl
@[simp] theorem updSc_nvm (n : Nat) (f : Serial → Serial) : (s.updSc n f).nvm = s.nvm := rfl
@[simp] theorem updSc_power (n : Nat) (f : Serial → Serial) : (s.updSc n f).power = s.power := rfl
@[simp] theorem updSc_cal (n : Nat) (f : Serial → Serial) : (s.updSc n f).cal = s.cal := rfl

/-! ## State.writeL -/

@[simp] theorem writeL_pending (w : Write) : (s.writeL w).pending = s.pending := rfl
@[simp] theorem writeL_freeCtr (w : Write) : (s.writeL w).freeCtr = s.freeCtr := rfl
@[simp] theorem writeL_fuse (w : Write) : (s.writeL w).fuse = s.fuse := rfl
@[simp] theorem writeL_supply (w : Write) : (s.writeL w).supply = s.supply := rfl
@[simp] theorem writeL_link (w : Write) : (s.writeL w).link = s.link := rfl
@[simp] theorem writeL_tenants (w : Write) : (s.writeL w).tenants = s.tenants := rfl
@[simp] theorem writeL_fw (w : Write) : (s.writeL w).fw = s.fw := rfl
@[simp] theorem writeL_core (w : Write) : (s.writeL w).core = s.core := rfl
@[simp] theorem writeL_readyL (w : Write) : (s.writeL w).readyL = s.readyL := rfl
@[simp] theorem writeL_pendB (w : Write) : (s.writeL w).pendB = s.pendB := rfl
@[simp] theorem writeL_readyB (w : Write) : (s.writeL w).readyB = s.readyB := rfl
@[simp] theorem writeL_voices (w : Write) : (s.writeL w).voices = s.voices := rfl
@[simp] theorem writeL_slots (w : Write) : (s.writeL w).slots = s.slots := rfl
@[simp] theorem writeL_alloc (w : Write) : (s.writeL w).alloc = s.alloc := rfl
@[simp] theorem writeL_mix (w : Write) : (s.writeL w).mix = s.mix := rfl
@[simp] theorem writeL_ports (w : Write) : (s.writeL w).ports = s.ports := rfl
@[simp] theorem writeL_field (w : Write) : (s.writeL w).field = s.field := rfl
@[simp] theorem writeL_cis (w : Write) : (s.writeL w).cis = s.cis := rfl
@[simp] theorem writeL_scan (w : Write) : (s.writeL w).scan = s.scan := rfl
@[simp] theorem writeL_serials (w : Write) : (s.writeL w).serials = s.serials := rfl
@[simp] theorem writeL_card (w : Write) : (s.writeL w).card = s.card := rfl
@[simp] theorem writeL_ring (w : Write) : (s.writeL w).ring = s.ring := rfl
@[simp] theorem writeL_mem (w : Write) : (s.writeL w).mem = s.mem := rfl
@[simp] theorem writeL_vault (w : Write) : (s.writeL w).vault = s.vault := rfl
@[simp] theorem writeL_nvm (w : Write) : (s.writeL w).nvm = s.nvm := rfl
@[simp] theorem writeL_power (w : Write) : (s.writeL w).power = s.power := rfl
@[simp] theorem writeL_cal (w : Write) : (s.writeL w).cal = s.cal := rfl

/-! ## State.writeB -/

@[simp] theorem writeB_pending (w : Write) : (s.writeB w).pending = s.pending := rfl
@[simp] theorem writeB_freeCtr (w : Write) : (s.writeB w).freeCtr = s.freeCtr := rfl
@[simp] theorem writeB_fuse (w : Write) : (s.writeB w).fuse = s.fuse := rfl
@[simp] theorem writeB_supply (w : Write) : (s.writeB w).supply = s.supply := rfl
@[simp] theorem writeB_link (w : Write) : (s.writeB w).link = s.link := rfl
@[simp] theorem writeB_tenants (w : Write) : (s.writeB w).tenants = s.tenants := rfl
@[simp] theorem writeB_fw (w : Write) : (s.writeB w).fw = s.fw := rfl
@[simp] theorem writeB_core (w : Write) : (s.writeB w).core = s.core := rfl
@[simp] theorem writeB_pendL (w : Write) : (s.writeB w).pendL = s.pendL := rfl
@[simp] theorem writeB_readyL (w : Write) : (s.writeB w).readyL = s.readyL := rfl
@[simp] theorem writeB_readyB (w : Write) : (s.writeB w).readyB = s.readyB := rfl
@[simp] theorem writeB_voices (w : Write) : (s.writeB w).voices = s.voices := rfl
@[simp] theorem writeB_slots (w : Write) : (s.writeB w).slots = s.slots := rfl
@[simp] theorem writeB_alloc (w : Write) : (s.writeB w).alloc = s.alloc := rfl
@[simp] theorem writeB_mix (w : Write) : (s.writeB w).mix = s.mix := rfl
@[simp] theorem writeB_ports (w : Write) : (s.writeB w).ports = s.ports := rfl
@[simp] theorem writeB_field (w : Write) : (s.writeB w).field = s.field := rfl
@[simp] theorem writeB_cis (w : Write) : (s.writeB w).cis = s.cis := rfl
@[simp] theorem writeB_scan (w : Write) : (s.writeB w).scan = s.scan := rfl
@[simp] theorem writeB_serials (w : Write) : (s.writeB w).serials = s.serials := rfl
@[simp] theorem writeB_card (w : Write) : (s.writeB w).card = s.card := rfl
@[simp] theorem writeB_ring (w : Write) : (s.writeB w).ring = s.ring := rfl
@[simp] theorem writeB_mem (w : Write) : (s.writeB w).mem = s.mem := rfl
@[simp] theorem writeB_vault (w : Write) : (s.writeB w).vault = s.vault := rfl
@[simp] theorem writeB_nvm (w : Write) : (s.writeB w).nvm = s.nvm := rfl
@[simp] theorem writeB_power (w : Write) : (s.writeB w).power = s.power := rfl
@[simp] theorem writeB_cal (w : Write) : (s.writeB w).cal = s.cal := rfl

/-! ## State.drew -/

@[simp] theorem drew_pending : (s.drew).pending = s.pending := rfl
@[simp] theorem drew_fuse : (s.drew).fuse = s.fuse := rfl
@[simp] theorem drew_supply : (s.drew).supply = s.supply := rfl
@[simp] theorem drew_link : (s.drew).link = s.link := rfl
@[simp] theorem drew_tenants : (s.drew).tenants = s.tenants := rfl
@[simp] theorem drew_fw : (s.drew).fw = s.fw := rfl
@[simp] theorem drew_core : (s.drew).core = s.core := rfl
@[simp] theorem drew_pendL : (s.drew).pendL = s.pendL := rfl
@[simp] theorem drew_readyL : (s.drew).readyL = s.readyL := rfl
@[simp] theorem drew_pendB : (s.drew).pendB = s.pendB := rfl
@[simp] theorem drew_readyB : (s.drew).readyB = s.readyB := rfl
@[simp] theorem drew_voices : (s.drew).voices = s.voices := rfl
@[simp] theorem drew_slots : (s.drew).slots = s.slots := rfl
@[simp] theorem drew_alloc : (s.drew).alloc = s.alloc := rfl
@[simp] theorem drew_mix : (s.drew).mix = s.mix := rfl
@[simp] theorem drew_ports : (s.drew).ports = s.ports := rfl
@[simp] theorem drew_field : (s.drew).field = s.field := rfl
@[simp] theorem drew_cis : (s.drew).cis = s.cis := rfl
@[simp] theorem drew_scan : (s.drew).scan = s.scan := rfl
@[simp] theorem drew_serials : (s.drew).serials = s.serials := rfl
@[simp] theorem drew_card : (s.drew).card = s.card := rfl
@[simp] theorem drew_ring : (s.drew).ring = s.ring := rfl
@[simp] theorem drew_mem : (s.drew).mem = s.mem := rfl
@[simp] theorem drew_vault : (s.drew).vault = s.vault := rfl
@[simp] theorem drew_nvm : (s.drew).nvm = s.nvm := rfl
@[simp] theorem drew_power : (s.drew).power = s.power := rfl
@[simp] theorem drew_cal : (s.drew).cal = s.cal := rfl

/-! ## Reading what was written -/

@[simp] theorem setTen_ten_same (t : Tenant) (x : TenantSt) : (s.setTen t x).ten t = x := by
  simp [State.ten, State.setTen]

theorem setTen_ten_other {t u : Tenant} (x : TenantSt) (h : u ≠ t) : (s.setTen t x).ten u = s.ten u := by
  have : u.val ≠ t.val := fun e => h (Fin.ext e)
  simp [State.ten, State.setTen, bankAt_bankPut_other _ _ _ this]

@[simp] theorem updTen_ten_same (t : Tenant) (f : TenantSt → TenantSt) : (s.updTen t f).ten t = f (s.ten t) := by
  simp [State.updTen]

theorem updTen_ten_other {t u : Tenant} (f : TenantSt → TenantSt) (h : u ≠ t) : (s.updTen t f).ten u = s.ten u := by
  simp [State.updTen, setTen_ten_other _ _ h]

@[simp] theorem updCv_cv_same (n : Nat) (f : CvOut → CvOut) : (s.updCv n f).cv n = f (s.cv n) := by
  simp [State.cv, State.updCv]

theorem updCv_cv_other {n m : Nat} (f : CvOut → CvOut) (h : m ≠ n) : (s.updCv n f).cv m = s.cv m := by
  simp [State.cv, State.updCv, bankAt_bankPut_other _ _ _ h]

@[simp] theorem updGt_gt_same (n : Nat) (f : GateOut → GateOut) : (s.updGt n f).gt n = f (s.gt n) := by
  simp [State.gt, State.updGt]

theorem updGt_gt_other {n m : Nat} (f : GateOut → GateOut) (h : m ≠ n) : (s.updGt n f).gt m = s.gt m := by
  simp [State.gt, State.updGt, bankAt_bankPut_other _ _ _ h]

@[simp] theorem updLo_lo_same (n : Nat) (f : LineOut → LineOut) : (s.updLo n f).lo n = f (s.lo n) := by
  simp [State.lo, State.updLo]

theorem updLo_lo_other {n m : Nat} (f : LineOut → LineOut) (h : m ≠ n) : (s.updLo n f).lo m = s.lo m := by
  simp [State.lo, State.updLo, bankAt_bankPut_other _ _ _ h]

@[simp] theorem updCv_gt (n m : Nat) (f : CvOut → CvOut) : (s.updCv n f).gt m = s.gt m := rfl
@[simp] theorem updCv_lo (n m : Nat) (f : CvOut → CvOut) : (s.updCv n f).lo m = s.lo m := rfl
@[simp] theorem updGt_cv (n m : Nat) (f : GateOut → GateOut) : (s.updGt n f).cv m = s.cv m := rfl
@[simp] theorem updGt_lo (n m : Nat) (f : GateOut → GateOut) : (s.updGt n f).lo m = s.lo m := rfl
@[simp] theorem updLo_cv (n m : Nat) (f : LineOut → LineOut) : (s.updLo n f).cv m = s.cv m := rfl
@[simp] theorem updLo_gt (n m : Nat) (f : LineOut → LineOut) : (s.updLo n f).gt m = s.gt m := rfl

@[simp] theorem updBus_bus_same (n : Nat) (f : Bus → Bus) : (s.updBus n f).bus n = f (s.bus n) := by
  simp [State.bus, State.updBus]

theorem updBus_bus_other {n m : Nat} (f : Bus → Bus) (h : m ≠ n) : (s.updBus n f).bus m = s.bus m := by
  simp [State.bus, State.updBus, bankAt_bankPut_other _ _ _ h]

@[simp] theorem updSc_sc_same (n : Nat) (f : Serial → Serial) : (s.updSc n f).sc n = f (s.sc n) := by
  simp [State.sc, State.updSc]

theorem updSc_sc_other {n m : Nat} (f : Serial → Serial) (h : m ≠ n) : (s.updSc n f).sc m = s.sc m := by
  simp [State.sc, State.updSc, bankAt_bankPut_other _ _ _ h]

@[simp] theorem updCi_ci_same (n : Nat) (f : CvIn → CvIn) : (s.updCi n f).ci n = f (s.ci n) := by
  simp [State.ci, State.updCi]

@[simp] theorem updPort_port_same (n : Nat) (f : Port → Port) : (s.updPort n f).port n = f (s.port n) := by
  simp [State.port, State.updPort]

@[simp] theorem updLane_lane_same (n : Nat) (f : Lane → Lane) :
    (s.updLane n f).alloc.lane n = f (s.alloc.lane n) := by
  simp [Alloc.lane, State.updLane]

/-! ## Folds -/

/-- What every element of a fold keeps, the fold keeps. -/
theorem foldS_keeps {α : Type} (P : State → Prop) (l : List α) (f : State → α → State)
    (h : ∀ s a, P s → P (f s a)) {s : State} (hs : P s) : P (foldS l s f) := by
  induction l generalizing s with
  | nil => exact hs
  | cons a r ih => exact ih (h s a hs)

@[simp] theorem foldS_nil {α : Type} (f : State → α → State) : foldS [] s f = s := rfl

@[simp] theorem foldS_cons {α : Type} (a : α) (l : List α) (f : State → α → State) :
    foldS (a :: l) s f = foldS l (f s a) f := rfl

/-- What a repeated change keeps, the repetition keeps. -/
theorem repeatN_keeps (P : State → Prop) (f : State → State) (h : ∀ s, P s → P (f s)) (n : Nat) {s : State} (hs : P s) :
    P (repeatN f n s) := by
  induction n generalizing s with
  | zero => exact hs
  | succ n ih => exact ih (h s hs)

end Sys2Proof.Machine
end

