-- ==== Sys2Proof/Laws/Ops.lean ====
section
/-! SUPPORT. One law for each shared operation: a step, the start of a command, its completion, the raising of events. -/

namespace Sys2Proof.Machine

/-! ## A step -/

theorem step_cons (s : State) (c : Instr) (rest : List Instr) :
    step { s with pending := c :: rest } = exec c { s with pending := rest } := rfl

theorem step_nil (s : State) (h : s.pending = []) : step s = .next s := by simp [step, h]

/-- What a step can do: idle, or run the command at the front on the state with the rest. -/
theorem step_cases (s : State) :
    (s.pending = [] ∧ step s = .next s) ∨
    ∃ c rest, s.pending = c :: rest ∧ step s = exec c { s with pending := rest } := by
  cases h : s.pending with
  | nil => exact .inl ⟨rfl, step_nil s h⟩
  | cons c rest => exact .inr ⟨c, rest, rfl, by simp [step, h]⟩

/-! ## The start of a command -/

/-- A command that may start stands in flight on its tag and waits, while the firmware runs. -/
theorem startable_some {s : State} {t : Tenant} {g : Tag} {c : InFlight} (h : startable s t g = some c) :
    s.fwRuns = true ∧ (s.ten t).free = true ∧ (s.ten t).find g = some c ∧ c.phase = .waiting ∧
      (s.ten t).fenceOk c = true := by
  unfold startable at h
  split at h
  · rename_i h1
    simp at h1
    split at h
    · rename_i d hd
      split at h
      · rename_i hp; cases h; exact ⟨h1.1, h1.2, hd, hp.1, hp.2⟩
      · cases h
    · cases h
  · cases h

theorem startable_of {s : State} {t : Tenant} {g : Tag} {c : InFlight} (h1 : s.fwRuns = true)
    (h2 : (s.ten t).free = true) (h3 : (s.ten t).find g = some c) (h4 : c.phase = .waiting)
    (h5 : (s.ten t).fenceOk c = true) : startable s t g = some c := by
  simp [startable, h1, h2, h3, h4, h5]

theorem find_tag {x : TenantSt} {g : Tag} {c : InFlight} (h : x.find g = some c) : c.tag = g := by
  have := List.find?_some h; simpa using this

theorem fwRuns_up {s : State} (h : s.fwRuns = true) : s.fw.up = true ∧ s.fw.restarting = false := by
  simp [State.fwRuns] at h; exact ⟨h.1.1, h.1.2⟩

/-- A row runs its effect on the command that may start. -/
theorem onCmd_start {s : State} {t : Tenant} {g : Tag} {c : InFlight} (f : Body → Option State)
    (h : startable s t g = some c) : onCmd s t g f = (f c.body).getD s := by simp [onCmd, h]

/-- A row whose command may not start changes nothing. -/
theorem onCmd_none {s : State} {t : Tenant} {g : Tag} (f : Body → Option State) (h : startable s t g = none) :
    onCmd s t g f = s := by simp [onCmd, h]

/-- What a row of a command can do: nothing, or the effect it has on a command that may start. -/
theorem onCmd_cases (s : State) (t : Tenant) (g : Tag) (f : Body → Option State) :
    onCmd s t g f = s ∨ ∃ c u, startable s t g = some c ∧ f c.body = some u ∧ onCmd s t g f = u := by
  unfold onCmd
  split
  · rename_i c hc
    cases hf : f c.body with
    | none => exact .inl rfl
    | some u => exact .inr ⟨c, u, hc, hf, rfl⟩
  · exact .inl rfl

theorem Starts.onCmd {s : State} {t : Tenant} {g : Tag} {c : InFlight} {b : Body} (h : Starts s t g c b)
    (f : Body → Option State) : Machine.onCmd s t g f = (f b).getD s := by
  rw [onCmd_start f h.start, h.body]

theorem Starts.tag {s : State} {t : Tenant} {g : Tag} {c : InFlight} {b : Body} (h : Starts s t g c b) : c.tag = g :=
  find_tag (startable_some h.start).2.2.1

/-! ## Completion -/

/-- The commit of a command in flight that is not QUIET, or does not succeed. -/
theorem commitOne_eq {s : State} {t : Tenant} {g : Tag} {c : InFlight} (st : Status) (res : Result)
    (hr : s.fw.restarting = false) (hf : (s.ten t).find g = some c) (hq : c.quiet = false) :
    commitOne s t g st res = s.answer t c st res := by
  have hg := find_tag hf
  subst hg
  simp [commitOne, hr, hf, hq, quietRec, State.answer, State.updTen, TenantSt.answered, TenantSt.writeGroup,
    TenantSt.storeEcho, TenantSt.inWindow]

theorem commitOne_none {s : State} {t : Tenant} {g : Tag} (st : Status) (res : Result)
    (hf : (s.ten t).find g = none) : commitOne s t g st res = s := by
  unfold commitOne
  split
  · rfl
  · rename_i h
    split at h
    · cases h
    · rw [hf] at h; cases h

theorem noAbortWaits_settled {x : TenantSt} (h : x.noAbortWaits) : x.settled = [] := by
  unfold TenantSt.settled
  rw [List.filterMap_eq_nil_iff]
  intro d hd
  split
  · rename_i g hp hb; exact absurd hb (h d hd g hp)
  · rfl

theorem settleAborts_calm {s : State} {t : Tenant} (h : (s.ten t).noAbortWaits) : settleAborts t s = s := by
  simp [settleAborts, noAbortWaits_settled h]

theorem repeatN_fix {α : Type} {f : α → α} {x : α} (h : f x = x) (n : Nat) : repeatN f n x = x := by
  induction n with
  | zero => rfl
  | succ n ih => simp [repeatN, h, ih]

@[simp] theorem answered_inflight (x : TenantSt) (c : InFlight) (st : Status) (res : Result) (tide : Smp) :
    (x.answered c st res tide).inflight = x.inflight.filter fun d => d.tag != c.tag := by
  simp only [TenantSt.answered, TenantSt.storeEcho]; split <;> rfl

@[simp] theorem answered_cq (x : TenantSt) (c : InFlight) (st : Status) (res : Result) (tide : Smp) :
    (x.answered c st res tide).cq = x.cq ++ (CqSlot.record (mkRec c.op
      (lateStatus (c.late && st != .aborted && st != .lost) st) c.seq c.tag (c.late && st != .aborted && st != .lost)
        res tide) :: (pieces 16 ((res.cont.length + 15) / 16) res.cont).map CqSlot.cont) := by
  simp only [TenantSt.answered, TenantSt.storeEcho]; split <;> rfl

theorem answered_noAbortWaits {x : TenantSt} (c : InFlight) (st : Status) (res : Result) (tide : Smp)
    (h : x.noAbortWaits) : (x.answered c st res tide).noAbortWaits := by
  intro d hd; simp at hd; exact h d hd.1

/-- The completion of a command in flight that is not QUIET, when no ABORT waits in its tenant. -/
theorem finish_eq {s : State} {t : Tenant} {g : Tag} {c : InFlight} (st : Status) (res : Result)
    (hr : s.fw.restarting = false) (hf : (s.ten t).find g = some c) (hq : c.quiet = false)
    (ha : (s.ten t).noAbortWaits) : finish s t g st res = s.answer t c st res := by
  rw [finish, commitOne_eq st res hr hf hq]
  apply repeatN_fix
  apply settleAborts_calm
  simp [State.answer]; exact answered_noAbortWaits c st res _ ha

/-- The completion of a command that may start, after an effect that leaves its tenant and the firmware alone. -/
theorem Starts.finish {s u : State} {t : Tenant} {g : Tag} {c : InFlight} {b : Body} (h : Starts s t g c b)
    (st : Status) (res : Result) (hfw : u.fw.restarting = s.fw.restarting) (hi : (u.ten t).inflight = (s.ten t).inflight) :
    Machine.finish u t g st res = u.answer t c st res := by
  obtain ⟨h1, _, h3, _, _⟩ := startable_some h.start
  refine finish_eq st res (hfw.trans (fwRuns_up h1).2) ?_ h.loud ?_
  · simpa [TenantSt.find, hi] using h3
  · intro d hd; rw [hi] at hd; exact h.calm d hd

theorem Starts.finish_self {s : State} {t : Tenant} {g : Tag} {c : InFlight} {b : Body} (h : Starts s t g c b)
    (st : Status) (res : Result) : Machine.finish s t g st res = s.answer t c st res := h.finish st res rfl rfl

theorem startLong_eq (s : State) (t : Tenant) (g : Tag) : startLong s t g = s.executing t g := by
  simp [startLong, State.executing, State.updTen, TenantSt.updCmd]

/-- The completion touches one tenant. -/
theorem answer_ten_other {s : State} {t u : Tenant} (c : InFlight) (st : Status) (res : Result) (h : u ≠ t) :
    (s.answer t c st res).ten u = s.ten u := setTen_ten_other _ _ h

@[simp] theorem answer_ten_same (s : State) (t : Tenant) (c : InFlight) (st : Status) (res : Result) :
    (s.answer t c st res).ten t = (s.ten t).answered c st res (c.execAt.getD s.smp) := by simp [State.answer]

/-- Completions change the tenants and nothing else. -/
theorem commitOne_frame (s : State) (t : Tenant) (g : Tag) (st : Status) (res : Result) :
    commitOne s t g st res = { s with tenants := (commitOne s t g st res).tenants } := by
  unfold commitOne; split <;> rfl

theorem settleAborts_frame (t : Tenant) (s : State) :
    settleAborts t s = { s with tenants := (settleAborts t s).tenants } := by
  unfold settleAborts
  refine foldS_keeps (fun u => u = { s with tenants := u.tenants }) _ _ (fun u p hu => ?_) rfl
  have := commitOne_frame u t p.1 .tooLate
    (.bytes (leBytes 2 (bankAt (u.ten t).doneTags p.2.val 0).toNat))
  rw [this, hu]

theorem finish_frame (s : State) (t : Tenant) (g : Tag) (st : Status) (res : Result) :
    finish s t g st res = { s with tenants := (finish s t g st res).tenants } := by
  unfold finish
  refine repeatN_keeps (fun u => u = { s with tenants := u.tenants }) _ (fun u hu => ?_) _ (commitOne_frame s t g st res)
  have := settleAborts_frame t u
  rw [this, hu]

/-! ## Events -/

/-- An event to a tenant that is not CLOSED and has room for its group is written whole (R81, R82). -/
theorem raiseEv_room {x : TenantSt} {e : Event} (arg : BitVec 16) (cont : List Byte) (tide : Smp)
    (h : evSlots cont ≤ x.cqFree) :
    x.raiseEv e arg cont tide = { (x.writeGroup (evRec e x.evSeq arg cont tide) cont) with evSeq := x.evSeq + 1 } := by
  simp [TenantSt.raiseEv, h]

/-- An event without room is dropped and counted, and takes its sequence number (R81, R82). -/
theorem raiseEv_full {x : TenantSt} {e : Event} (arg : BitVec 16) (cont : List Byte) (tide : Smp)
    (h : ¬ evSlots cont ≤ x.cqFree) :
    x.raiseEv e arg cont tide =
      { x with evSeq := x.evSeq + 1, eventsDropped := x.eventsDropped + 1, droppedSince := x.droppedSince + 1 } := by
  simp [TenantSt.raiseEv, h]

/-- The steward's event while the firmware runs and T0 is not CLOSED. -/
theorem steward_open {s : State} (e : Event) (arg : BitVec 16) (cont : List Byte) (h : s.fwRuns = true)
    (ho : (s.ten 0).st ≠ .closed) : steward s e arg cont = s.updTen 0 fun x => x.raiseEv e arg cont s.smp := by
  simp [steward, stewardAt, h, ho]

/-- The steward's event while T0 is CLOSED is kept (R322). -/
theorem steward_closed {s : State} (e : Event) (arg : BitVec 16) (cont : List Byte) (h : s.fwRuns = true)
    (ho : (s.ten 0).st = .closed) :
    steward s e arg cont = { s with fw := { s.fw with kept := keepEv s.fw.kept ⟨e, arg, cont, s.smp⟩ } } := by
  simp [steward, stewardAt, h, ho]

/-- Holding an event changes what the firmware holds, and a wake. -/
theorem holdEv_frame (s : State) (k : Held) : ∃ b p, holdEv s k = { s with fw := b, power := p } := by
  by_cases h : s.power.st = .nap ∧ k.ev.wakes = true
  · exact ⟨{ s.fw with held := s.fw.held ++ [k] },
      { s.power with wake := some (s.power.wake.getD .event) }, by simp [holdEv, noteWake, h]⟩
  · exact ⟨{ s.fw with held := s.fw.held ++ [k] }, s.power, by simp only [holdEv, h, if_false]⟩

/-- An event of the steward changes tenants, what the firmware keeps, and a wake. -/
theorem stewardAt_frame (s : State) (e : Event) (arg : BitVec 16) (cont : List Byte) (tide : Smp) :
    ∃ a b p, stewardAt s e arg cont tide = { s with tenants := a, fw := b, power := p } := by
  unfold stewardAt
  split
  · obtain ⟨b, p, h⟩ := holdEv_frame s ⟨none, e, arg, cont, tide⟩
    exact ⟨s.tenants, b, p, h⟩
  · split
    · exact ⟨s.tenants, _, s.power, rfl⟩
    · exact ⟨_, s.fw, s.power, rfl⟩

/-- An event to a tenant changes tenants, what the firmware holds, and a wake. -/
theorem raiseToAt_frame (s : State) (t : Tenant) (e : Event) (arg : BitVec 16) (cont : List Byte) (tide : Smp) :
    ∃ a b p, raiseToAt s t e arg cont tide = { s with tenants := a, fw := b, power := p } := by
  unfold raiseToAt
  split
  · obtain ⟨b, p, h⟩ := holdEv_frame s ⟨some t, e, arg, cont, tide⟩
    exact ⟨s.tenants, b, p, h⟩
  · split
    · exact ⟨s.tenants, s.fw, s.power, rfl⟩
    · exact ⟨_, s.fw, s.power, rfl⟩

end Sys2Proof.Machine
end

