-- ==== Sys2Proof/Laws/Notes.lean ====
section
/-! SUPPORT. What the commands to notes may change: voices, writes that wait, the ring's items, and the spilled notes of
the tenant they name. -/

namespace Sys2Proof.Machine

/-- Two states that differ at most in voices, writes that wait, the ring, gates, and the spilled notes of a tenant. -/
def NoteFrame (t : Tenant) (s u : State) : Prop :=
  u = { s with tenants := u.tenants, voices := u.voices, pendL := u.pendL, pendB := u.pendB, ring := u.ring,
               field := u.field } ∧
  (∀ w, w ≠ t → u.ten w = s.ten w) ∧ ∃ l, u.ten t = { s.ten t with spilledOut := l }

theorem NoteFrame.refl (t : Tenant) (s : State) : NoteFrame t s s := ⟨rfl, fun _ _ => rfl, _, rfl⟩

theorem NoteFrame.trans {t : Tenant} {a b c : State} (h : NoteFrame t a b) (k : NoteFrame t b c) : NoteFrame t a c := by
  obtain ⟨h1, h2, l, h3⟩ := h
  obtain ⟨k1, k2, m, k3⟩ := k
  refine ⟨?_, fun w hw => (k2 w hw).trans (h2 w hw), m, ?_⟩
  · rw [k1, h1]
  · rw [k3, h3]

theorem NoteFrame.fold {t : Tenant} {α : Type} (l : List α) (f : State → α → State)
    (h : ∀ s a, NoteFrame t s (f s a)) (s : State) : NoteFrame t s (foldS l s f) :=
  foldS_keeps (fun u => NoteFrame t s u) l f (fun u a hu => hu.trans (h u a)) (NoteFrame.refl t s)

theorem queueCmd_frame (s : State) (t : Tenant) (v : Voice) (c : NoteCmd) : NoteFrame t s (queueCmd s t v c) := by
  unfold queueCmd
  split
  · refine NoteFrame.fold _ _ (fun s e => ?_) s
    split
    · split
      · exact ⟨rfl, fun _ _ => rfl, _, rfl⟩
      · exact NoteFrame.refl t s
    · exact ⟨rfl, fun _ _ => rfl, _, rfl⟩
    · exact ⟨rfl, fun _ _ => rfl, _, rfl⟩
  · exact ⟨rfl, fun _ _ => rfl, _, rfl⟩

theorem holdFor_frame (s : State) (t : Tenant) (v : Voice) (c : NoteCmd) : NoteFrame t s (holdFor s v c) :=
  ⟨rfl, fun _ _ => rfl, _, rfl⟩

theorem holdOut_frame (s : State) (t : Tenant) (o : SpilledOut) (c : NoteCmd) : NoteFrame t s (holdOut s t o c) :=
  ⟨rfl, fun w hw => by simp [holdOut, updTen_ten_other _ _ hw], _, by simp [holdOut, TenantSt.updOut]; rfl⟩

/-- A ring that changes alone is within the frame of every note. -/
theorem NoteFrame.ring (t : Tenant) (s : State) (r : Ring) : NoteFrame t s { s with ring := r } :=
  ⟨rfl, fun _ _ => rfl, (s.ten t).spilledOut, rfl⟩

theorem sendCmd_ring (s : State) (t : Tenant) (g : Option Tag) (o : SpilledOut) (c : NoteCmd) (n : Option Nat) :
    sendCmd s t g o c n = { s with ring := (sendCmd s t g o c n).ring } := by
  cases g <;> unfold sendCmd ringSend <;> dsimp only

theorem sendCmd_frame (s : State) (t : Tenant) (g : Option Tag) (o : SpilledOut) (c : NoteCmd) (n : Option Nat) :
    NoteFrame t s (sendCmd s t g o c n) := by
  rw [sendCmd_ring]; exact NoteFrame.ring ..

/-- A command to a note stays within its frame. -/
theorem cmdToNote_frame {s u : State} {t : Tenant} {g : Option Tag} {id : BitVec 32} {c : NoteCmd} {n : Option Nat}
    {w : Bool} (h : cmdToNote s t g id c n = some (u, w)) : NoteFrame t s u := by
  unfold cmdToNote at h
  split at h
  · cases h; exact queueCmd_frame ..
  · split at h
    · cases h; exact holdFor_frame ..
    · split at h
      · split at h
        · cases h; exact holdOut_frame ..
        · cases h; exact sendCmd_frame ..
      · cases h

/-- A command to every note of a tenant stays within its frame. -/
theorem cmdToAll_frame (s : State) (t : Tenant) (part : Option Nat) (c : NoteCmd) :
    NoteFrame t s (cmdToAll s t part c) := by
  refine NoteFrame.fold _ _ (fun s id => ?_) s
  split
  · exact cmdToNote_frame ‹_›
  · exact NoteFrame.refl t s

/-- The release of the gates a tenant set stays within the frame. -/
theorem releaseGates_frame (s : State) (t : Tenant) : NoteFrame t s (releaseGates s t) := by
  refine NoteFrame.fold _ _ (fun s n => ?_) s
  split <;> exact ⟨rfl, fun _ _ => rfl, _, rfl⟩

end Sys2Proof.Machine
end

