-- ==== Sys2Proof/Laws/Nvm.lean ====
section
/-! SUPPORT. The A/B record pairs (R337, R338): what a store leaves, for every pair and every state of its copies. -/

namespace Sys2Proof.Machine

variable {α : Type}

/-- A store that verifies is the newest valid record. -/
@[simp] theorem newest_put_true (p : AB α) (d : α) : (p.put d true).newest = some d := by
  obtain ⟨⟨qa, ma, va, da⟩, ⟨qb, mb, vb, db⟩⟩ := p
  have h1 : ¬ Nat.max qa qb + 1 < qb := Nat.not_lt.mpr (Nat.le_succ_of_le (Nat.le_max_right qa qb))
  have h2 : qa < Nat.max qa qb + 1 := Nat.lt_succ_of_le (Nat.le_max_left qa qb)
  by_cases hq : qa < qb <;> cases ma <;> cases va <;> cases mb <;> cases vb <;>
    simp [AB.put, AB.start, AB.commit, AB.newest, AB.useB, AB.target, AB.nextSeq, Copy.ok, hq, h1, h2]

/-- A store that fails to verify leaves the newest valid record. -/
@[simp] theorem newest_put_false (p : AB α) (d : α) : (p.put d false).newest = p.newest := by
  obtain ⟨⟨qa, ma, va, da⟩, ⟨qb, mb, vb, db⟩⟩ := p
  by_cases hq : qa < qb <;> cases ma <;> cases va <;> cases mb <;> cases vb <;>
    simp [AB.put, AB.start, AB.newest, AB.useB, AB.target, AB.nextSeq, Copy.ok, hq]

/-- A wiped pair has no valid record. -/
@[simp] theorem newest_wipe (p : AB α) : p.wipe.newest = none := by
  simp [AB.wipe, AB.newest, AB.useB, Copy.ok]

@[simp] theorem slot_putSlot_true (m : Nvm) (r : SlotRec) : (m.putSlot r true).slot = r := by
  simp [Nvm.slot, Nvm.putSlot]

@[simp] theorem slot_putSlot_false (m : Nvm) (r : SlotRec) : (m.putSlot r false).slot = m.slot := by
  simp [Nvm.slot, Nvm.putSlot]

/-- The bytes of a memory below a bound keep its form. -/
theorem memTake_wf (m : Memory) (n : Nat) (h : Memory.wf m = true) : Memory.wf (memTake m n) = true := memFilter_wf m _ h

end Sys2Proof.Machine
end

