-- ==== Sys2Proof/WellFormed.lean ====
section
/-! DEFINITION. Which operands of a row can occur: lengths of lists and ranges of numbers that their types do not give.
A row whose operands cannot occur is not well formed; the machine runs it all the same. -/

namespace Sys2Proof

/-- The numbers rise strictly. -/
def rising : List Nat → Bool
  | [] => true
  | [_] => true
  | a :: b :: r => decide (a < b) && rising (b :: r)

/-- A value of 32 bits in two's complement. -/
def int32 (x : Int) : Bool := decide (-2147483648 ≤ x) && decide (x ≤ 2147483647)

/-- A frame that ends inside its header has no payload, and no header is longer than 6 bytes (R35). -/
def RawFrame.wf (f : RawFrame) : Bool := decide (f.hdr.length ≤ 6) && (f.hdr.length == 6 || f.body.isEmpty)

/-- Measured targets are named once each, 0 to 27 (Table 14-2). -/
def measuredOk (m : List Measured) : Bool :=
  m.all (fun e => decide (e.target < 28)) && decide (m.map (·.target)).Nodup

/-- A SUM or TOTAL section: 32 buses of 32 samples of 32 bits (Table 11-2). -/
def sectionOk (l : List (List Int)) : Bool := l.length == 32 && l.all fun b => b.length == 32 && b.all int32

/-- Up to 16 units, positions below 16; only the keeper has position 0; with no fold left, both lanes are locked (R270,
R288). -/
def Membership.wf (m : Membership) : Bool :=
  decide (m.units ≤ 16) && decide (m.position < 16) && decide (m.newPosition < 16) && (m.lost.all fun p => decide (p.1 < 16)) &&
    (m.newId == 0 || m.newPosition != 0) && (!m.whole || (m.lockA && m.lockB))

/-- A sender: a position below 16, or the unit that joins. -/
def RingHead.wf (h : RingHead) : Bool := decide (h.unit ≤ 16)

/-- The ranges of a spilled note (Table 04-4, Table 11-2). -/
def RingNote.wf (n : RingNote) : Bool :=
  decide (n.origin < 16) && decide (n.part < 16) && decide (n.key < 128) && decide (n.velocity < 65536) && decide (n.et < 8)

/-- The ranges of a command record (R284). -/
def SpillRecord.wf : SpillRecord → Bool
  | .command c => decide (c.origin < 16) && decide (c.et < 8)
  | .report h _ _ _ _ _ _ => h.wf
  | .bankOff h _ _ b => h.wf && decide (b < 16)
  | .endOrder h _ _ => h.wf
  | .crcBad => true

/-- One full scan (R228, R233): ten passes or one, 128 codes of 16 bits each. -/
def ScanReadings.wf (r : ScanReadings) : Bool :=
  (r.passes.length == 1 || r.passes.length == 10) && (r.passes.all fun p => p.length == 128 && p.all (· < 65536)) &&
    decide (r.senseMove.length ≤ 8) && decide (r.driveUa.length ≤ 16)

/-- A row with operands that can occur. -/
def Instr.wf : Instr → Bool
  | .submitCommit f => f.wf
  | .reapCommit f bad => f.wf && rising bad && bad.all (· < 255)
  | .lreadCommit f => f.wf
  | .lwriteCommit f => f.wf
  | .enumerateCommit f => f.wf
  | .confirmFrameCommit f => f.wf
  | .bulkWriteCommit f => f.wf
  | .bulkReadCommit f => f.wf
  | .frameDiscard f => f.wf
  | .unitAddrWrite _ => true
  | .irqSumClear _ => true
  | .linkRegisterWrite _ _ => true
  | .takeEntry _ => true
  | .commandDue _ _ _ => true
  | .nop _ _ => true
  | .identify _ _ => true
  | .tenantOpen _ _ => true
  | .tenantClose _ _ => true
  | .tenantReset _ _ => true
  | .tenantResetDone _ => true
  | .heartbeat _ _ => true
  | .abort _ _ => true
  | .propGet _ _ => true
  | .propSet _ _ => true
  | .engRunStop _ _ => true
  | .engRunRun _ _ => true
  | .busStopFadeEnd => true
  | .tenantBeatReset _ _ => true
  | .tenantWindowResize _ _ => true
  | .tpEnableWrite _ _ => true
  | .gtEnableWrite _ _ => true
  | .vaultTamperedClear _ _ => true
  | .noteOn _ _ => true
  | .noteOff _ _ => true
  | .noteChangeBend _ _ => true
  | .noteChangePressure _ _ => true
  | .noteChangeRetarget _ _ => true
  | .allRelease _ _ => true
  | .allReleaseFade _ _ => true
  | .ump _ _ => true
  | .voiceParam _ _ => true
  | .partParam _ _ => true
  | .patchWrite _ _ => true
  | .patchRead _ _ _ => true
  | .patchSelect _ _ _ => true
  | .waveWrite _ _ => true
  | .waveRead _ _ => true
  | .waveMap _ _ => true
  | .waveLoadSealed _ _ _ => true
  | .sealedLoadDone _ _ => true
  | .busConfigGain _ _ => true
  | .busConfigEnable _ _ => true
  | .busConfigResync _ _ => true
  | .busConfigRing _ _ => true
  | .decimConfig _ _ => true
  | .coefLoad _ _ => true
  | .coefSwitch _ _ => true
  | .coefFadeEnd _ => true
  | .detectRead _ _ => true
  | .cvConfig _ _ => true
  | .cvSet _ _ => true
  | .cvQueue _ _ => true
  | .gateSet _ _ => true
  | .lineConfig _ _ => true
  | .padRelease _ _ => true
  | .ciConfig _ _ => true
  | .keyscanConfig _ _ => true
  | .keyscanStatus _ _ => true
  | .scConfig _ _ => true
  | .scSend _ _ => true
  | .scBreak _ _ => true
  | .cardSessionStart _ _ => true
  | .cardSessionExchange _ _ => true
  | .cardSessionStop _ _ => true
  | .chainInfo _ _ => true
  | .ringStart _ _ => true
  | .ringStatus _ _ => true
  | .ringLeave _ _ => true
  | .memBankState _ _ => true
  | .bankTransitionDone _ _ => true
  | .vaultKeyLoad _ _ _ => true
  | .vaultKeyErase _ _ _ => true
  | .lifecycleAdvance _ _ _ => true
  | .powerPolicy _ _ => true
  | .powerEnterDoze _ _ => true
  | .powerEnterNap _ _ => true
  | .powerEnterHibernate _ _ => true
  | .wakeConfig _ _ => true
  | .calRun _ _ => true
  | .calRunDone m => measuredOk m
  | .calStore _ _ => true
  | .calRead _ _ => true
  | .selftest _ _ => true
  | .laneServiceOut _ _ => true
  | .laneServiceIn _ _ => true
  | .laneSelftestDone _ _ => true
  | .laneDrainLimit _ _ => true
  | .fwStage _ _ _ => true
  | .fwActivate _ _ _ => true
  | .deviceReset _ _ => true
  | .warmReset _ => true
  | .engineTick => true
  | .stealFadeEnd _ _ => true
  | .blockBoundary => true
  | .hostLossTimeout _ _ => true
  | .eventsDroppedNotice _ => true
  | .ctlWatchdogRestart _ => true
  | .ctlFirmwareReturn => true
  | .powerOnReset _ => true
  | .resetNAssert _ => true
  | .bootComplete _ _ => true
  | .vddEngTimeout => true
  | .tamperDetect _ => true
  | .fieldSelftestPass _ => true
  | .fieldLinkSilence => true
  | .fieldLinkDark => true
  | .fieldLinkRecover => true
  | .fieldDieFault c => c.val != 0
  | .fieldSupplyLow => true
  | .vddFaRise => true
  | .mclkLoss => true
  | .mclkRestore => true
  | .frameEdgeCapture _ => true
  | .thermalSample _ => true
  | .thermalSoftStep => true
  | .markerArrival m => decide (m.fsIndex < 6)
  | .gossipSection l _ => decide (l.length ≤ 16)
  | .sumSection l _ => sectionOk l
  | .totalSection l _ => sectionOk l
  | .startRecordReceived _ fs => decide (fs < 6)
  | .startRecordTimer => true
  | .keeperRecordReceived r => decide (r.fsIndex < 6)
  | .electionWindowEnd => true
  | .joinNoticeReceived h _ => h.wf
  | .joinBoundary m => m.wf
  | .leaveNoticeReceived h _ => h.wf
  | .ringLeaveBoundary => true
  | .ringLaneLoss _ _ => true
  | .ringHeal m => m.wf
  | .ringUnfold m => m.wf
  | .spilledNoteArrival n => n.wf
  | .spilledNoteStart _ _ _ => true
  | .spillStartReport h _ _ => h.wf
  | .spillRefusal h _ _ => h.wf
  | .spillFallbackSteal _ _ => true
  | .spillCommandRecord r => r.wf
  | .spillEndRecord h _ _ _ => h.wf
  | .ringAckReceived _ => true
  | .ringItemResend => true
  | .ringItemGiveUp _ => true
  | .spillReportTimeout _ _ => true
  | .originSilent _ => true
  | .cvSafeEnd _ => true
  | .lineSafeEnd _ => true
  | .lineDisableEnd _ => true
  | .cvLimitBegin _ _ => true
  | .cvLimitTimeout _ => true
  | .cvRetryTimer _ => true
  | .cvRetryEnd _ _ => true
  | .cvEpisodeEnd _ => true
  | .pairSuspect a b => decide (a ≠ b)
  | .lineLimitBegin _ => true
  | .lineLimitClear _ => true
  | .senseInjection _ _ => true
  | .senseOpenDetect _ _ => true
  | .ciSample _ _ => true
  | .ciOverloadEnd _ => true
  | .keyScan r => r.wf
  | .keyRestCaptureDone => true
  | .keyCellFaultClear _ => true
  | .scCharReceived ch e h => rising e && (!h || decide (2 ≤ ch.val))
  | .scLineRise _ _ => true
  | .scBreakSaturate _ => true
  | .scRxDeliver _ _ => true
  | .scTxCharacter _ _ => true
  | .scTxBreakStart _ _ => true
  | .scTxBreakEnd _ => true
  | .scWakeEdge _ => true
  | .scWakeRearm _ => true
  | .cardDetectChange _ => true
  | .cardActivationTimer => true
  | .cardTsReceived m _ => decide (m.length = 10)
  | .cardTsTimeout => true
  | .cardCharReceived _ => true
  | .cardWaitTimeout => true
  | .tdmSlaveFrame _ _ w => w.all int32
  | .tdmNoClock _ => true
  | .idleTimerExpiry _ => true
  | .idlenessEnd => true
  | .powerEntryBegin => true
  | .hibernateEntry => true
  | .hibernateQuiesceDone => true
  | .wakeDuringEntry w => decide (w ≠ .none)
  | .napTideComparator => true
  | .napWake w => decide (w ≠ .none)
  | .wakeNEdge _ => true
  | .aonTimerWake _ => true
  | .keyPressWake => true
  | .hibernateWake w _ _ _ => decide (w ≠ .none)
  | .waveScrub l c => (l.all fun e => decide (e.1 < 4194304)) && c.all fun b => decide (b ≤ 64)
  | .lifeSecond => true
  | .lifeHourlyStore _ => true
  | .periodicTrim _ => true
  | .limitExit _ => true
  | .vddNvmInRange _ => true
  | .vddEngOutOfRange => true
  | .selftestDone _ => true
  | .periodicTrimDone m => measuredOk m
  | .calStoreDone _ => true
  | .waveWriteDone _ _ => true
  | .foldNoticeReceived h _ => h.wf

end Sys2Proof
end

