-- ==== Sys2Proof/Tests/Slice0.lean ====
section
/-! SUPPORT. The model's own tests: terms that are not well formed, examples of the spec worked through, and for every
statement with hypotheses a concrete state and operands that meet them. -/

set_option Elab.async false

open Sys2Proof Sys2Proof.Machine

/-! ## Ill-formed rows: one term for each check -/

theorem test_wf_frames :
    (Instr.submitCommit { (default : RawFrame) with hdr := List.replicate 7 0 }).wf = false ∧
    (Instr.submitCommit { (default : RawFrame) with hdr := [0xA5], body := [0] }).wf = false ∧
    (Instr.submitCommit default).wf = true ∧
    (Instr.reapCommit default [255]).wf = false ∧ (Instr.reapCommit default [2, 2]).wf = false ∧
    (Instr.reapCommit default [2, 254]).wf = true := by decide +kernel

theorem test_wf_measurements :
    (Instr.calRunDone [⟨28, 0, 0⟩]).wf = false ∧ (Instr.periodicTrimDone [⟨3, 0, 0⟩, ⟨3, 1, 1⟩]).wf = false ∧
    (Instr.calRunDone [⟨27, 0, 0⟩, ⟨3, 1, 1⟩]).wf = true := by decide +kernel

theorem test_wf_ring :
    (Instr.sumSection [] true).wf = false ∧
    (Instr.sumSection (List.replicate 32 (List.replicate 32 2147483648)) true).wf = false ∧
    (Instr.totalSection (List.replicate 32 (List.replicate 32 (-2147483648))) true).wf = true ∧
    (Instr.totalSection (List.replicate 32 (List.replicate 31 0)) true).wf = false ∧
    (Instr.gossipSection (List.replicate 17 default) true).wf = false ∧
    (Instr.markerArrival { (default : Marker) with fsIndex := 6 }).wf = false ∧
    (Instr.startRecordReceived 0 6).wf = false ∧
    (Instr.keeperRecordReceived { (default : KeeperRecord) with fsIndex := 6 }).wf = false ∧
    (Instr.joinBoundary { (default : Membership) with units := 17 }).wf = false ∧
    (Instr.ringHeal { (default : Membership) with position := 16 }).wf = false ∧
    (Instr.ringHeal { (default : Membership) with newPosition := 16 }).wf = false ∧
    (Instr.ringUnfold { (default : Membership) with lost := [(16, 0)] }).wf = false ∧
    (Instr.ringUnfold { (default : Membership) with units := 16, position := 15 }).wf = true ∧
    (Instr.joinNoticeReceived ⟨17, 0⟩ 0).wf = false ∧ (Instr.leaveNoticeReceived ⟨17, 0⟩ 0).wf = false ∧
    (Instr.foldNoticeReceived ⟨17, 0⟩ 0).wf = false ∧ (Instr.leaveNoticeReceived ⟨16, 0⟩ 0).wf = true := by decide +kernel

theorem test_wf_spill :
    (Instr.spilledNoteArrival { (default : RingNote) with origin := 16 }).wf = false ∧
    (Instr.spilledNoteArrival { (default : RingNote) with part := 16 }).wf = false ∧
    (Instr.spilledNoteArrival { (default : RingNote) with key := 128 }).wf = false ∧
    (Instr.spilledNoteArrival { (default : RingNote) with velocity := 65536 }).wf = false ∧
    (Instr.spilledNoteArrival { (default : RingNote) with et := 8 }).wf = false ∧
    (Instr.spillCommandRecord (.command ⟨16, 0, none, 0, .off 0, 0, 0, 0⟩)).wf = false ∧
    (Instr.spillCommandRecord (.command ⟨15, 0, none, 0, .off 0, 0, 8, 0⟩)).wf = false ∧
    (Instr.spillCommandRecord (.command ⟨15, 0, none, 0, .off 0, 0, 7, 0⟩)).wf = true ∧
    (Instr.spillCommandRecord (.report ⟨17, 0⟩ 0 0 0 true false 0)).wf = false ∧
    (Instr.spillCommandRecord (.bankOff ⟨0, 0⟩ 0 0 16)).wf = false ∧
    (Instr.spillCommandRecord (.endOrder ⟨17, 0⟩ 0 0)).wf = false := by decide +kernel

theorem test_wf_pins :
    (Instr.keyScan { (default : ScanReadings) with passes := [] }).wf = false ∧
    (Instr.keyScan { (default : ScanReadings) with passes := [List.replicate 127 0] }).wf = false ∧
    (Instr.keyScan { (default : ScanReadings) with passes := [List.replicate 128 65536] }).wf = false ∧
    (Instr.keyScan ⟨[List.replicate 128 0], List.replicate 9 0, []⟩).wf = false ∧
    (Instr.keyScan ⟨[List.replicate 128 0], [], List.replicate 17 0⟩).wf = false ∧
    (Instr.keyScan ⟨List.replicate 10 (List.replicate 128 65535), [], []⟩).wf = true ∧
    (Instr.scCharReceived 0 [5, 5] false).wf = false ∧ (Instr.scCharReceived 1 [] true).wf = false ∧ (Instr.cardTsReceived [] 0).wf = false ∧
    (Instr.tdmSlaveFrame 0 0 [2147483648]).wf = false ∧ (Instr.pairSuspect (.cv 3) (.cv 3)).wf = false ∧
    (Instr.fieldDieFault 0).wf = false ∧ (Instr.waveScrub [(4194304, true)] []).wf = false ∧ (Instr.waveScrub [] [65]).wf = false ∧
    (Instr.wakeDuringEntry .none).wf = false ∧ (Instr.napWake .none).wf = false ∧
    (Instr.hibernateWake .none false false ⟨[], true⟩).wf = false := by decide +kernel

/-- No row of the opcode table gives bits, so no word spells a command. -/
theorem test_no_word_spells_a_command : decodeTableWord 16 0 = none ∧ decodeTableWord 0 0 = none := by decide +kernel

/-! ## Frames -/

/-- A frame as the host sends it (R35, Tables 02-3 and 02-4): 0xA5, address and kind, length, CRC-16; payload, CRC-32; 16
tail clocks. -/
def Tests.frame (addr kind len : Nat) (p : List Byte) (read : Nat := 8) : RawFrame :=
  let h := [0xA5, BitVec.ofNat 8 (addr * 8 + kind)] ++ leBytes 2 len
  { hdr := h ++ leBytes 2 (crc16 h).toNat, read := read, body := p ++ leBytes 4 (crc32 p).toNat, tail := 16, quad := true, enumIn := false,
    rivals := [] }

/-- Unit 2 in quad mode with T1 open and IRQ_EN.CQ bit 1 set ("On the bench — a NOP submitted and reaped"). -/
def Tests.bench : State :=
  { State.reset with
    link := { State.reset.link with unitAddr := 2, quad := true, irqEn := 2 }
    fw := { State.reset.fw with up := true, boot := .done }
    tenants := [(1, { (default : TenantSt) with st := .opened, seqHigh := 0x40 })] }

/-- The frames of the bench: the NOP's header, and the two REAPs. -/
def Tests.nop : List Byte := [0, 0, 0x41, 0, 5, 1, 0, 0, 0, 0, 0, 0, 0, 0, 0, 0]

/-- The state a command leaves. -/
def Tests.after (i : Instr) (s : State) : State :=
  match exec i s with
  | .next u => u
  | _ => s

theorem test_header_bytes_of_the_bench :
    (Tests.frame 2 0 16 Tests.nop).hdr.take 4 = [0xA5, 0x10, 0x10, 0x00] ∧
    (Tests.frame 2 1 4 [1, 2, 0, 0]).hdr.take 4 = [0xA5, 0x11, 0x04, 0x00] := by decide +kernel

/-- The check values of the two polynomials over the text "123456789" (R37). -/
theorem test_crc_check_values :
    crc16 [0x31, 0x32, 0x33, 0x34, 0x35, 0x36, 0x37, 0x38, 0x39] = 0x29B1 ∧
    crc32 [0x31, 0x32, 0x33, 0x34, 0x35, 0x36, 0x37, 0x38, 0x39] = 0xCBF43926 := by decide +kernel

/-- The bench's first two read phases: the status words 0x4001_1002 and 0x4004_D022, and the SUBMIT response. -/
theorem test_bench_submit_and_reap :
    let s1 := Tests.after (.submitCommit (Tests.frame 2 0 16 Tests.nop)) Tests.bench
    let s2 := Tests.after (.nop 1 5) (Tests.after (.takeEntry .clean) s1)
    let s3 := Tests.after (.reapCommit (Tests.frame 2 1 4 [1, 2, 0, 0] 16) []) s2
    s1.link.status = 0x40011002 ∧ s1.link.staged = some [0x01, 0x05, 0x41, 0x00, 0x00, 0x7F, 0x00, 0x00] ∧
    s3.link.driven.map (·.take 12) = some [0x02, 0x10, 0x01, 0x40, 0x01, 0x05, 0x41, 0x00, 0x00, 0x7F, 0x00, 0x00] ∧
    s3.link.status = 0x4004D022 := by decide +kernel

/-- The bench's third read phase: the record of the NOP, completed at tide 0x0000_0002_3A40. -/
theorem test_bench_record :
    let s0 := { Tests.bench with core := { Tests.bench.core with tide := { smp := 0x23A40, et := 0 } } }
    let s1 := Tests.after (.submitCommit (Tests.frame 2 0 16 Tests.nop)) s0
    let s2 := Tests.after (.nop 1 5) (Tests.after (.takeEntry .clean) s1)
    let s3 := Tests.after (.reapCommit (Tests.frame 2 1 4 [1, 2, 0, 0] 16) []) s2
    let s4 := Tests.after (.reapCommit (Tests.frame 2 1 4 [1, 2, 1, 0] 44) []) s3
    s4.link.driven.map (·.take 24) = some [0x22, 0xD0, 0x04, 0x40, 0x01, 0x01, 0x00, 0x00,
      0x00, 0x00, 0x41, 0x00, 0x05, 0x00, 0x00, 0x00, 0x40, 0x3A, 0x02, 0x00, 0x00, 0x00, 0x00, 0x00] ∧
    (s4.ten 1).cq = [] := by decide +kernel

/-! ## Witnesses: the link port

Each theorem `witness_<Name>` gives states and operands that meet the hypotheses of the statement of that name, clause by
clause. -/

theorem Tests.arrives (kind len : Nat) (p : List Byte) (addr : Nat)
    (h : classify Tests.bench.link (Tests.frame addr kind len p) = .commits addr kind p) (ha : addr = 2 ∨ addr = 31) :
    Arrives Tests.bench (Tests.frame addr kind len p) addr kind p where
  assigned := by decide +kernel
  plain := rfl
  commits := h
  here := ha

theorem witness_UnitAddressStaysLegal : ∃ u, Tests.bench.link.addrOk ∧
    step { Tests.bench with pending := [.unitAddrWrite 15] } = .next u :=
  ⟨_, ⟨.inl (by decide +kernel), by decide +kernel⟩, rfl⟩

theorem witness_MemoriesStayCanonical : ∃ u, Tests.bench.memoriesWf = true ∧
    step { Tests.bench with pending := [.engineTick] } = .next u :=
  ⟨_, by decide +kernel, rfl⟩

theorem witness_FramesCountTheDiscardsBeforeThem :
    Tests.bench.link.assigned = true ∧ ∀ a, Tests.bench.link.isConfirm a = false := ⟨by decide +kernel, fun _ => rfl⟩

/-- A SUBMIT to the unit and one to all units; in the first state there is room, in the others the queues are closed, the
queue is full, or the length does not match. -/
theorem witness_SubmitQueuesTheEntry :
    Arrives Tests.bench (Tests.frame 2 0 16 Tests.nop) 2 0 Tests.nop ∧
    Arrives Tests.bench (Tests.frame 31 0 16 Tests.nop) 31 0 Tests.nop ∧
    (Tests.bench.queuesClosed = false ∧ field Tests.nop 6 2 + 16 = Tests.nop.length ∧ (Tests.bench.ten 1).sq.length < 128 ∧
      (Tests.bench.ten 1).payloadUsed + (Tests.nop.length - 16) ≤ 4096) ∧
    ({ Tests.bench with fw := { Tests.bench.fw with up := false, boot := .stopped false } } : State).queuesClosed = true ∧
    Arrives Tests.bench (Tests.frame 2 0 20 (Tests.nop ++ [0, 0, 0, 0])) 2 0 (Tests.nop ++ [0, 0, 0, 0]) ∧
    ((Tests.bench.updTen 1 fun x => { x with sq := List.replicate 128 default }).ten 1).sq.length = 128 :=
  ⟨Tests.arrives 0 16 _ 2 (by decide +kernel) (.inl rfl), Tests.arrives 0 16 _ 31 (by decide +kernel) (.inr rfl),
   by decide +kernel, by decide +kernel, Tests.arrives 0 20 _ 2 (by decide +kernel) (.inl rfl), by decide +kernel⟩

/-- A REAP whose index frees the one record of T1, and one whose index does not. -/
theorem witness_ReapDeliversTheOldestRecords :
    Arrives Tests.bench (Tests.frame 2 1 4 [1, 64, 1, 0]) Tests.bench.link.unitAddr.toNat 1 [1, 64, 1, 0] ∧
    Arrives Tests.bench (Tests.frame 2 1 4 [1, 2, 0, 0]) Tests.bench.link.unitAddr.toNat 1 [1, 2, 0, 0] :=
  ⟨Tests.arrives 1 4 _ 2 (by decide +kernel) (.inl rfl), Tests.arrives 1 4 _ 2 (by decide +kernel) (.inl rfl)⟩

theorem witness_ReadFramesStageWhatTheyRead :
    Arrives Tests.bench (Tests.frame 2 2 4 [8, 0, 2, 0]) Tests.bench.link.unitAddr.toNat 2 [8, 0, 2, 0] ∧
    Arrives Tests.bench (Tests.frame 2 6 0 [1, 0, 0, 0, 0xFC, 0x0B, 0, 0]) Tests.bench.link.unitAddr.toNat 6
      [1, 0, 0, 0, 0xFC, 0x0B, 0, 0] :=
  ⟨Tests.arrives 2 4 _ 2 (by decide +kernel) (.inl rfl), Tests.arrives 6 0 _ 2 (by decide +kernel) (.inl rfl)⟩

theorem witness_RegisterWritesFollowTheTable :
    State.reset.link.assigned = false ∧ Tests.bench.link.up = true ∧ Tests.bench.link.assigned = true ∧
    Arrives Tests.bench (Tests.frame 2 2 4 [8, 0, 2, 0]) Tests.bench.link.unitAddr.toNat 2 [8, 0, 2, 0] ∧
    Arrives Tests.bench (Tests.frame 2 3 8 [8, 0, 1, 0, 15, 0, 0, 0]) 2 3 [8, 0, 1, 0, 15, 0, 0, 0] ∧
    Arrives Tests.bench (Tests.frame 31 3 8 [0x14, 0, 1, 0, 1, 0, 0, 0]) 31 3 [0x14, 0, 1, 0, 1, 0, 0, 0] ∧
    ((15 : Word).setWidth 5 : BitVec 5).toNat < 16 ∧ ¬ ((16 : Word).setWidth 5 : BitVec 5).toNat < 16 :=
  ⟨by decide +kernel, by decide +kernel, by decide +kernel, Tests.arrives 2 4 _ 2 (by decide +kernel) (.inl rfl),
   Tests.arrives 3 8 _ 2 (by decide +kernel) (.inl rfl), Tests.arrives 3 8 _ 31 (by decide +kernel) (.inr rfl),
   by decide +kernel, by decide +kernel⟩

/-- The last word of T1's window of 3 KiB can be written; the word after it lies beyond it. -/
theorem witness_BulkWriteFillsTheWindow :
    Arrives Tests.bench (Tests.frame 2 5 0 [1, 0, 0, 0, 0xFC, 0x0B, 0, 0, 1, 2, 3, 4]) 2 5
      [1, 0, 0, 0, 0xFC, 0x0B, 0, 0, 1, 2, 3, 4] ∧
    Arrives Tests.bench (Tests.frame 31 5 0 [1, 0, 0, 0, 0, 0x0C, 0, 0, 1, 2, 3, 4]) 31 5
      [1, 0, 0, 0, 0, 0x0C, 0, 0, 1, 2, 3, 4] ∧
    (Tests.bench.queuesClosed = false ∧ 0xBFC + 4 ≤ (Tests.bench.ten 1).windowKib * 1024 ∧
      ¬ 0xC00 + 4 ≤ (Tests.bench.ten 1).windowKib * 1024) ∧ Memory.wf (Tests.bench.ten 1).window = true :=
  ⟨Tests.arrives 5 0 _ 2 (by decide +kernel) (.inl rfl), Tests.arrives 5 0 _ 31 (by decide +kernel) (.inr rfl),
   by decide +kernel, by decide +kernel⟩

/-- The unit at address 30 in single mode after an ENUMERATE that offers the address 15 with its ENUM_IN high. -/
def Tests.offered : State :=
  Tests.after (.enumerateCommit (plainFrame [0xA5, 0xF4, 4, 0] [15, 0, 0, 0] 8 16 true))
    { Tests.bench with link := State.reset.link }

/-- Its confirm frame: an LREAD of the last register word. -/
def Tests.confirm (rivals : List Rival) : RawFrame :=
  { plainFrame [0xA5, 0x7A, 4, 0] [0xFC, 0, 1, 0] 16 16 false with rivals := rivals }

/-- The unit takes the address; a holder of it, and a die ID that comes before, win against the unit. -/
theorem test_enumeration_by_frames :
    (Tests.after (.confirmFrameCommit (Tests.confirm [])) Tests.offered).link.unitAddr = 15 ∧
    (Tests.after (.confirmFrameCommit (Tests.confirm [⟨true, 2⟩])) Tests.offered).link.unitAddr = 30 ∧
    (Tests.after (.confirmFrameCommit (Tests.confirm [⟨false, 0⟩])) Tests.offered).link.unitAddr = 30 := by decide +kernel

/-- A unit at address 30, for an ENUMERATE with the offer 5 and its confirm frame, won and lost against a rival; and the
frames of `Tests.offered` and `Tests.confirm`. -/
theorem witness_EnumerationAssignsAddresses :
    (let l := State.reset.link; l.up = true ∧ l.quadNow = false ∧ l.isConfirm 30 = false) ∧
    (let l := Tests.offered.link;
      l.up = true ∧ l.unitAddr = 30 ∧ l.tentative = some 15 ∧ l.tentHold = false ∧ l.offer = some 15 ∧
        (15 : BitVec 5).toNat < 16 ∧ 0xFC % 4 = 0 ∧ 0xFC + 4 * 1 ≤ 256) ∧
    losesTo false State.reset.fuse.dieId ⟨false, 0⟩ = true ∧
    let s := { Tests.bench with link := { State.reset.link with quad := true } }
    let tent := { s with link := { s.link with tentative := some 5, offer := some 5 } }
    let q := Tests.frame 30 4 4 [5, 0, 0, 0]
    (s.link.unitAddr = 30 ∧ s.link.tentHold = false ∧ s.link.offer ≠ some 30 ∧ s.link.tentative ≠ some 30 ∧
      classify s.link { q with quad := s.link.quadNow } = .commits 30 4 [5, 0, 0, 0]) ∧
    tent.link.unitAddr = 30 ∧ (5 : BitVec 5).toNat < 16 ∧
    classify tent.link { Tests.frame 5 2 4 [0, 0, 1, 0] 16 with quad := tent.link.quadNow } = .commits 5 2 [0, 0, 1, 0] ∧
    ([⟨true, 2⟩] : List Rival).any (losesTo false s.fuse.dieId) = true ∧
    ([] : List Rival).any (losesTo false s.fuse.dieId) = false := by decide +kernel

/-- A header with a wrong CRC; a payload with a wrong CRC to this unit, to all units, and to another. -/
theorem witness_DiscardedFramesAreCounted :
    Tests.bench.link.assigned = true ∧
    classify Tests.bench.link { Tests.frame 2 2 4 [8, 0, 2, 0] with hdr := [0xA5, 0x12, 4, 0, 0, 0] } = .discarded .hdr none ∧
    (∀ a : Fin 3, let addr := [2, 31, 3].getD a.val 0
      classify Tests.bench.link { Tests.frame addr 3 8 [8, 0, 1, 0, 15, 0, 0, 0] with body := List.replicate 12 0 } =
        .discarded .pay (some (addr, 3)) ∧ Tests.bench.link.isConfirm addr = false) ∧
    Tests.bench.link.tentative = none := by decide +kernel

/-! ## Witnesses: queues, sessions, properties -/

/-- The unit after its boot: FW_UP 1, every tenant CLOSED. -/
def Tests.up : State := { State.reset with fw := { State.reset.fw with up := true, boot := .done } }

/-- A command on tag 0 that waits. -/
def Tests.cmd (b : Body) : InFlight :=
  { tag := 0, seq := 7, op := 1, timed := false, fence := false, quiet := false, due := 0, et := 0, late := false,
    phase := .waiting, reserve := 1, body := b, execAt := none }

/-- The state with the tenant OPEN and this command its only one in flight. -/
def Tests.holding (s : State) (t : Tenant) (c : InFlight) : State :=
  s.setTen t { s.ten t with st := .opened, session := .none, inflight := [c] }

/-- The same, for a command of `Tests.cmd`. -/
def Tests.giving (s : State) (t : Tenant) (b : Body) : State := Tests.holding s t (Tests.cmd b)

/-- A waiting command that is alone in flight may start. -/
theorem Tests.starts_alone (s : State) (t : Tenant) (c : InFlight) (h : s.fwRuns = true) (ht : c.tag = 0)
    (hw : c.phase = .waiting) (hf : c.fence = false) (hq : c.quiet = false) : Starts (Tests.holding s t c) t 0 c c.body := by
  have h1 : (Tests.holding s t c).fwRuns = true := h
  obtain ⟨x, hx, h2, h3, h4⟩ : ∃ x, (Tests.holding s t c).ten t = x ∧ x.st = .opened ∧ x.session = .none ∧
      x.inflight = [c] :=
    ⟨_, setTen_ten_same _ t _, rfl, rfl, rfl⟩
  refine ⟨?_, rfl, hq, fun d hd g hp => ?_⟩
  · rw [startable, h1, hx]
    simp [TenantSt.free, h2, h3, TenantSt.find, TenantSt.fenceOk, TenantSt.before, h4, ht, hw, hf]
  · rw [hx, h4, List.mem_singleton] at hd
    exact absurd hp (by simp [hd, hw])

/-- The command of `Tests.giving` may start: every hypothesis `Starts` of a statement is met by such a state. -/
theorem Tests.starts (s : State) (t : Tenant) (b : Body) (h : s.fwRuns = true) :
    Starts (Tests.giving s t b) t 0 (Tests.cmd b) b :=
  Tests.starts_alone s t (Tests.cmd b) h rfl rfl rfl rfl

theorem Tests.starts_up (t : Tenant) (b : Body) : Starts (Tests.giving Tests.up t b) t 0 (Tests.cmd b) b :=
  Tests.starts _ t b (by decide +kernel)

/-- An entry of T1 with a header and no payload. -/
def Tests.entry (op seq tag : Nat) : SqEntry :=
  { header := [BitVec.ofNat 8 op, 0] ++ leBytes 2 seq ++ [BitVec.ofNat 8 tag, 1] ++ List.replicate 10 0, payload := [] }

/-- T1 of the bench, H 0x40, with this entry in its queue. -/
def Tests.queued (e : SqEntry) (f : TenantSt → TenantSt) : State :=
  Tests.bench.updTen 1 fun x => f { x with sq := [e] }

/-- Numbers in flight, completed, 128 and 129 ahead, 32,767 ahead, 128 behind; a NOP that is accepted and an opcode that is
not known; a TENANT_OPEN for the closed T1. -/
theorem witness_TakingAnEntryFollowsTheChecks :
    (∀ n ∈ [0x41, 0x40 + 128, 0x40 + 129, 0x40 + 32767, 0x40 + 65536 - 128], let e := Tests.entry 0 n 5;
      let s := Tests.queued e id;
      s.fwRuns = true ∧ s.candidateEntry = some (1, e) ∧ e.lost = false ∧
        (s.ten 1).inflight.any (fun c => c.seq == e.seq) = false ∧ (s.ten 1).echoOf e.seq = none ∧ e.op ≠ 2) ∧
    ((Tests.entry 0 (0x40 + 128) 5).seq - 0x40).toNat = 128 ∧ ((Tests.entry 0 (0x40 + 129) 5).seq - 0x40).toNat = 129 ∧
    ((Tests.entry 0 (0x40 + 32767) 5).seq - 0x40).toNat = 32767 ∧
    (32768 ≤ ((Tests.entry 0 (0x40 + 65536 - 128) 5).seq - 0x40).toNat ∧
      (0x40 - (Tests.entry 0 (0x40 + 65536 - 128) 5).seq).toNat = 128) ∧
    checkEntry Tests.bench 1 (Tests.entry 0 0x41 5) .clean 0 = .accept .nop 0 ∧
    checkEntry Tests.bench 1 (Tests.entry 0 0x41 127) .clean 0 = .refuse .badTag 0 ∧
    (let s := Tests.queued (Tests.entry 0 7 5) fun x => { x with inflight := [Tests.cmd .nop] };
      s.candidateEntry = some (1, Tests.entry 0 7 5) ∧
        (s.ten 1).inflight.any (fun c => c.seq == (Tests.entry 0 7 5).seq) = true) ∧
    (let s := Tests.queued (Tests.entry 0 7 5) fun x => x.storeEcho (mkRec 0 .ok 7 5 false (.note 0) 0);
      s.candidateEntry = some (1, Tests.entry 0 7 5) ∧ ((s.ten 1).echoOf (Tests.entry 0 7 5).seq).isSome = true) ∧
    (let e : SqEntry := { Tests.entry 2 7 5 with payload := [0, 0, 0, 0] };
      let s := Tests.queued e fun x => { x with st := .closed };
      s.candidateEntry = some (1, e) ∧ (s.ten 1).echoOf e.seq = none ∧ e.op = 2 ∧
        checkEntry s 1 e .clean 0 = .accept (.tenantOpen false) 0) ∧
    (let e : SqEntry := { header := [6, 0, 0x41, 0, 5, 1, 4, 0] ++ List.replicate 8 0, payload := [9, 0, 0, 0] };
      let s := Tests.queued e id;
      s.candidateEntry = some (1, e) ∧ (e.seq - 0x40).toNat = 1 ∧ e.flag 0 = false ∧
        checkEntry s 1 e .clean 0 = .accept (.abort 9) 0) := by decide +kernel

/-- A scheduled NOP before its tick, at its tick and after it, and a NOTE_OFF of a sounding note; what the due ones do. -/
theorem witness_DueCommandsRunAsTheirRows :
    (let v : Voice := {
        lane := 0, slot := 0, owner := .tenant 1, noteId := 7, part := 0, key := 60, vel := 100, detune := 0, life := .sounding };
      let c := { Tests.cmd (.noteOff 7 0) with phase := .scheduled, timed := true };
      let s := ({ Tests.bench with voices := [v] } : State).updTen 1 fun x => { x with inflight := [c] };
      (s.ten 1).find 0 = some c ∧ c.quiet = false ∧ s.note? 1 7 = some v ∧
        (Tests.after (.commandDue 1 0 ⟨true, false⟩) s).pendL = [.note 1 7 (.off 0)]) ∧
    (let c := { Tests.cmd .nop with phase := .scheduled, timed := true };
      let s := Tests.bench.updTen 1 fun x => { x with inflight := [c] };
      ((Tests.after (.commandDue 1 0 ⟨true, false⟩) s).ten 1).cq.length = 1) ∧
    ∀ smp : Fin 3, let c := { Tests.cmd .nop with phase := .scheduled, timed := true, due := 1 };
      let s := ({ Tests.bench with core := { Tests.bench.core with tide := { smp := BitVec.ofNat 48 smp.val, et := 0 } } } :
        State).updTen 1 fun x => { x with inflight := [c] }
      s.fwRuns = true ∧ (s.ten 1).free = true ∧ (s.ten 1).find 0 = some c ∧ c.phase = .scheduled ∧
        (s.ten 1).fenceOk c = true ∧ s.smp.toNat * 8 + s.core.tide.et = smp.val * 8 ∧ c.due.toNat * 8 + c.et = 8 := by
  decide +kernel

theorem witness_ReadingCommandsOnlyAnswer :
    Starts (Tests.giving Tests.up 1 .nop) 1 0 (Tests.cmd .nop) .nop ∧
    Starts (Tests.giving Tests.up 1 .identify) 1 0 (Tests.cmd .identify) .identify ∧
    Starts (Tests.giving Tests.up 1 .heartbeat) 1 0 (Tests.cmd .heartbeat) .heartbeat ∧
    (∀ t own p, Starts (Tests.giving Tests.up t (.propGet own p)) t 0 (Tests.cmd (.propGet own p)) (.propGet own p)) ∧
    propRights Tests.up 1 1 { kind := .tenTempo } = true ∧ propRights Tests.up 1 2 { kind := .tenTempo } = false :=
  ⟨Tests.starts_up _ _, Tests.starts_up _ _, Tests.starts_up _ _, fun _ _ _ => Tests.starts_up _ _, by decide +kernel,
   by decide +kernel⟩

theorem witness_TenantOpenStartsASession :
    Starts (Tests.giving Tests.up 1 (.tenantOpen false)) 1 0 (Tests.cmd (.tenantOpen false)) (.tenantOpen false) ∧
    ((Tests.giving Tests.up 1 (.tenantOpen false)).ten 1).inflight = [Tests.cmd (.tenantOpen false)] ∧
    startable ((Tests.giving Tests.up 1 (.tenantOpen false)).updTen 1 fun x => { x with st := .closed }) 1 0 =
      some (Tests.cmd (.tenantOpen false)) := ⟨Tests.starts_up _ _, by decide +kernel, by decide +kernel⟩

theorem witness_TenantCloseReleasesWhatTheTenantHeld :
    Starts (Tests.giving Tests.up 1 .tenantClose) 1 0 (Tests.cmd .tenantClose) .tenantClose ∧
    ((Tests.giving Tests.up 1 .tenantClose).ten 1).inflight = [Tests.cmd .tenantClose] :=
  ⟨Tests.starts_up _ _, by decide +kernel⟩

theorem witness_TenantResetOpensTheTenantAgain :
    Starts (Tests.giving Tests.up 1 (.tenantReset 1)) 1 0 (Tests.cmd (.tenantReset 1)) (.tenantReset 1) ∧
    Starts (Tests.giving Tests.up 1 (.tenantReset 2)) 1 0 (Tests.cmd (.tenantReset 2)) (.tenantReset 2) ∧
    (let c := Tests.cmd (.tenantReset 1);
      let s := Tests.after (.tenantReset 1 0) (Tests.giving Tests.up 1 c.body);
      s.fwRuns = true ∧ (s.ten 1).st = .resetting ∧ (s.ten 1).resetBy = some (1, 0) ∧
        (s.ten 1).inflight = [{ c with phase := .executing }]) ∧
    ∀ g : Tag, (Tests.cmd (.tenantReset 1)).body ≠ .abort g :=
  ⟨Tests.starts_up _ _, Tests.starts_up _ _, by decide +kernel, fun _ h => by cases h⟩

/-- The target waits, executes, stands in the queue with room and without, has completed, is unknown; an ABORT that was
judged when it was taken. -/
theorem witness_AbortFollowsTheTargetsState :
    (∀ a, let c := { Tests.cmd (.abort 9) with aim := a }; Starts (Tests.holding Tests.up 1 c) 1 0 c (.abort 9)) ∧
    (Tests.cmd (.abort 9)).aim = .unjudged ∧
    (∀ x : Tag, Starts (Tests.giving Tests.up 1 (.abort x)) 1 0 (Tests.cmd (.abort x)) (.abort x)) ∧
    (let s := Tests.giving Tests.up 1 (.abort 9);
      let d := { Tests.cmd .nop with tag := 9 };
      let with_ := fun f => (s.updTen 1 f : State);
      (let u := with_ fun x => { x with inflight := x.inflight ++ [d] };
        startable u 1 0 = some (Tests.cmd (.abort 9)) ∧ (u.ten 1).find 9 = some d ∧ d.phase ≠ .executing ∧ d.quiet = false) ∧
      (let u := with_ fun x => { x with inflight := x.inflight ++ [{ d with phase := .executing }] };
        startable u 1 0 = some (Tests.cmd (.abort 9)) ∧ (u.ten 1).find 9 = some { d with phase := .executing }) ∧
      (let u := with_ fun x => { x with sq := [Tests.entry 0 8 9] };
        (u.ten 1).find 9 = none ∧ (u.ten 1).untaken 9 = some (Tests.entry 0 8 9) ∧ (u.ten 1).cqFree ≠ 0) ∧
      (let u := with_ fun x => { x with doneTags := [(9, 5)] };
        (u.ten 1).find 9 = none ∧ (u.ten 1).untaken 9 = none ∧ bankGet (u.ten 1).doneTags (9 : Tag).val = some 5) ∧
      (s.ten 1).find 9 = none ∧ (s.ten 1).untaken 9 = none ∧ bankGet (s.ten 1).doneTags (9 : Tag).val = none ∧
      (let u := with_ fun x => { x with sq := [Tests.entry 0 8 9], cq := List.replicate 255 default };
        (u.ten 1).find 9 = none ∧ (u.ten 1).untaken 9 = some (Tests.entry 0 8 9) ∧ (u.ten 1).cqFree = 0)) :=
  ⟨fun _ => Tests.starts_alone _ _ _ rfl rfl rfl rfl rfl, rfl, fun _ => Tests.starts_up _ _, by decide +kernel⟩

/-- A property of class L and one of class B, a field property with and without the field die, one whose owner runs, and one
of another tenant; and every row for the property it is for. -/
theorem witness_PropertyWritesWaitForTheirLanding :
    (∀ t own p v, Starts (Tests.giving Tests.up t (.propSet own p v)) t 0 (Tests.cmd (.propSet own p v)) (.propSet own p v)) ∧
    hasOwnRow { kind := .tenTempo } 12000 = false ∧ hasOwnRow { kind := .engRun } 0 = true ∧
    (propRights Tests.up 1 2 { kind := .tenTempo } = false) ∧
    (let p : PropRef := { kind := .tenHostLossMs };
      let s := Tests.giving Tests.up 1 (.propSet 1 p 10000);
      propRights s 1 1 p = true ∧ propFits s 1 p 10000 = true ∧ ownerStopped s 1 p 10000 1 0 = true ∧
        (propRow p.kind).field = false ∧ (propRow p.kind).cls = .l) ∧
    (let p : PropRef := { kind := .tenBeatReset };
      let s := Tests.giving Tests.up 1 (.propSet 1 p 1);
      propRights s 1 1 p = true ∧ propFits s 1 p 1 = true ∧ ownerStopped s 1 p 1 1 0 = true ∧ (propRow p.kind).cls = .b) ∧
    (let p : PropRef := { kind := .gtEnable, i := 7 };
      let s := Tests.giving Tests.up 0 (.propSet 0 p 1);
      propRights s 0 0 p = true ∧ propFits s 0 p 1 = true ∧ ownerStopped s 0 p 1 0 0 = true ∧
        (propRow p.kind).field = true ∧ s.field.ready = false ∧ (propRow p.kind).cls = .l) ∧
    (let p : PropRef := { kind := .engFs };
      let s := Tests.giving Tests.up 0 (.propSet 0 p 1);
      propRights s 0 0 p = true ∧ propFits s 0 p 1 = true ∧ ownerStopped s 0 p 1 0 0 = false) :=
  ⟨fun _ _ _ _ => Tests.starts_up _ _, by decide +kernel⟩

/-- The engine runs, and is stopped; a window of T1 is made larger while T1 and the tenants above it are closed. -/
theorem witness_ClassXWritesActAtOnce :
    (∀ p v, Starts (Tests.giving Tests.up 0 (.propSet 0 p v)) 0 0 (Tests.cmd (.propSet 0 p v)) (.propSet 0 p v)) ∧
    Tests.up.core.run ≠ .stopped ∧
    (let s := { Tests.up with core := { Tests.up.core with run := .stopped } };
      s.fwRuns = true ∧ s.core.run = .stopped) ∧
    (let p : PropRef := { kind := .tenWindowKib };
      let s := (Tests.giving Tests.up 0 (.propSet 1 p 2)).updTen 1 fun x => { x with window := [(2047, 5), (2048, 6)] };
      propFits s 1 p 2 = true ∧ windowStopped s 1 0 0 = true ∧ (2 : Int).toNat ≠ (s.ten 1).windowKib ∧
        memRead (s.ten 1).window 2047 = 5 ∧ propFits s 1 p 4 = false ∧
        windowStopped (s.updTen 2 fun x => { x with st := .opened }) 1 0 0 = false) :=
  ⟨fun _ _ => Tests.starts_up _ _, by decide +kernel⟩

/-- The last tick of the stop fade at 48 kHz, and the one before it. -/
theorem witness_StopFadeEndsInAStoppedEngine :
    let s := fun n => { Tests.up with core := { Tests.up.core with run := .stopping, stopPos := n } };
    (∀ n, (s n).core.run = .stopping ∧ (s n).power.quiesceFade = false ∧ (s n).fw.restarting = false) ∧
    (s 960).fs ≤ (s 960).core.stopPos * 50 ∧ (s 959).core.stopPos * 50 < (s 959).fs :=
  ⟨fun _ => ⟨rfl, rfl, rfl⟩, by decide +kernel, by decide +kernel⟩

/-! ## Witnesses: notes -/

/-- A sounding voice of T1. -/
def Tests.voice (id : BitVec 32) : Voice :=
  { lane := 0, slot := 0, owner := .tenant 1, noteId := id, part := 0, key := 60, vel := 100, detune := 0, life := .sounding }

/-- A note of T1 that waits behind a fade. -/
def Tests.behind (id : BitVec 32) : Voice :=
  { Tests.voice 1 with life := .fading 0 10, succ := some {
      owner := .tenant 1, noteId := id, part := 0, key := 61, vel := 100, detune := 0, copy := [] } }

/-- The unit with these voices. -/
def Tests.with (l : List Voice) : State := { Tests.up with voices := l }

/-- A note of T1 on the unit at position 2. -/
def Tests.out (id : BitVec 32) : SpilledOut := { (default : SpilledOut) with noteId := id }

theorem Tests.starts_with (l : List Voice) (t : Tenant) (b : Body) :
    Starts (Tests.giving (Tests.with l) t b) t 0 (Tests.cmd b) b := Tests.starts _ t b rfl

/-- A voice that bears the ID; no note and room; no room: the policy NEVER, and a victim. -/
theorem witness_NoteOnPlacesTheNote :
    (∀ l a, Starts (Tests.giving (Tests.with l) 1 (.noteOn a)) 1 0 (Tests.cmd (.noteOn a)) (.noteOn a)) ∧
    (let s := Tests.giving (Tests.with [Tests.voice 7]) 1 .nop;
      s.note? 1 7 = some (Tests.voice 7) ∧ (Tests.voice 7).retrig = none) ∧
    (let s := Tests.giving (Tests.with []) 1 .nop;
      s.note? 1 7 = none ∧ s.waiting? 1 7 = none ∧ (s.ten 1).out? 7 = none ∧ s.count 1 < (s.ten 1).ceiling ∧
        1 ≤ s.freeFor (some 1)) ∧
    (let s := (Tests.giving (Tests.with [Tests.voice 7]) 1 .nop).updTen 1 fun x => { x with ceiling := 1 };
      let s := { s with core := { s.core with ticks := 100000 } };
      s.note? 1 8 = none ∧ s.waiting? 1 8 = none ∧ (s.ten 1).ceiling ≤ s.count 1 ∧ (s.ten 1).spill = false ∧
        (s.ten 1).policy ≠ .never ∧ s.victim 1 0 60 = some (Tests.voice 7) ∧
        ((s.updTen 1 fun x => { x with policy := .never }).ten 1).policy = .never) :=
  ⟨fun _ _ => Tests.starts_with _ _ _, by decide +kernel⟩

/-- A voice, a note behind a fade, a note on another unit, no note. -/
theorem witness_NoteChangesReachTheNote :
    (∀ l b, Starts (Tests.giving (Tests.with l) 1 b) 1 0 (Tests.cmd b) b) ∧
    (let s := Tests.giving (Tests.with [Tests.voice 7, Tests.behind 8]) 1 .nop;
      let s := s.updTen 1 fun x => { x with spilledOut := [Tests.out 9] };
      s.note? 1 7 = some (Tests.voice 7) ∧ s.note? 1 8 = none ∧ s.waiting? 1 8 = some (Tests.behind 8) ∧
        s.note? 1 9 = none ∧ s.waiting? 1 9 = none ∧ (s.ten 1).out? 9 = some (Tests.out 9) ∧ (Tests.out 9).refused = false ∧
        s.note? 1 10 = none ∧ s.waiting? 1 10 = none ∧ (s.ten 1).out? 10 = none) :=
  ⟨fun _ _ => Tests.starts_with _ _ _, by decide +kernel⟩

theorem witness_AllReleaseReachesEveryVoice :
    (∀ l b, Starts (Tests.giving (Tests.with l) 1 b) 1 0 (Tests.cmd b) b) ∧
    (let s := Tests.giving (Tests.with [Tests.voice 7, { Tests.voice 8 with life := .fading 0 9 }]) 1 .nop;
      (s.ten 1).outIds none = [] ∧ ∀ v ∈ s.voices, v.named = false → v.succ = none) :=
  ⟨fun _ _ => Tests.starts_with _ _ _, by decide +kernel⟩

theorem witness_UmpPacketsActAsTheTableSays :
    (∀ l b, Starts (Tests.giving (Tests.with l) 1 b) 1 0 (Tests.cmd b) b) ∧
    BitVec.ofNat 32 (0xFF000000 + 2 * 256 + 0x3C) = 0xFF00023C ∧
    (let s := Tests.giving (Tests.with []) 1 .nop;
      s.note? 1 0xFF00023C = none ∧ s.waiting? 1 0xFF00023C = none ∧ (s.ten 1).out? 0xFF00023C = none ∧
        s.count 1 < (s.ten 1).ceiling ∧ 1 ≤ s.freeFor (some 1)) ∧
    (Tests.giving (Tests.with [Tests.voice 0xFF00023C]) 1 .nop).note? 1 0xFF00023C = some (Tests.voice 0xFF00023C) :=
  ⟨fun _ _ => Tests.starts_with _ _ _, by decide +kernel⟩

/-- Entries of class L, of class B and of class V, and a shape that its mode does not have, at its offset 10. -/
theorem witness_ParameterEntriesFollowTheirClass :
    (∀ l b, Starts (Tests.giving (Tests.with l) 1 b) 1 0 (Tests.cmd b) b) ∧
    (let s := Tests.giving (Tests.with [Tests.voice 7]) 1 .nop;
      s.noteCopy 1 8 = none ∧ s.note? 1 7 = some (Tests.voice 7) ∧ (Tests.voice 7).copy = ((s.ten 1).part 0).workset) ∧
    (∃ p v, badEntry [] [(p, v)] 8 = none ∧ pcls p = .l) ∧ (∃ p v, badEntry [] [(p, v)] 8 = none ∧ pcls p = .b) ∧
    (∃ p v, paramFitsIn [] p v = true ∧ pcls p = .v) ∧ badEntry [] [(0x0101, 4)] 8 = some 10 ∧
    (Tests.giving (Tests.with []) 1 .nop).voices = [] :=
  ⟨fun _ _ => Tests.starts_with _ _ _, by decide +kernel, ⟨0x3000, 1200, by decide +kernel⟩, ⟨0x3004, -9600, by decide +kernel⟩,
   ⟨0x3003, 31, by decide +kernel⟩, by decide +kernel, rfl⟩

/-! ## Witnesses: memories -/

/-- A sound TUNING image: header, 128 equal entries, CRC-32 (R146, R147). -/
def Tests.body : List Byte := [0x53, 0x4F, 0x4C, 0x50, 1, 1, 0x14, 2] ++ List.replicate 520 0

def Tests.image : List Byte := Tests.body ++ leBytes 4 (crc32 Tests.body).toNat

theorem Tests.body_length : Tests.body.length = 528 := by decide +kernel

theorem Tests.leNat_leBytes (n v : Nat) : leNat (leBytes n v) = v % 256 ^ n := by
  induction n generalizing v with
  | zero => simp [leBytes, leNat, Nat.mod_one]
  | succ n ih =>
    rw [leBytes, leNat, ih, BitVec.toNat_ofNat, show 2 ^ 8 = 256 from rfl, Nat.pow_succ', Nat.mod_mul]

theorem Tests.sealed_sound (b : List Byte) (hl : b.length = 528) (h : b.take 8 = [0x53, 0x4F, 0x4C, 0x50, 1, 1, 0x14, 2]) :
    imageSound (b ++ leBytes 4 (crc32 b).toNat) = true := by
  have e : ∀ n, field (b ++ leBytes 4 n) 528 4 = n % 256 ^ 4 := by
    intro n
    rw [field, List.drop_left' hl, List.take_of_length_le (by simp [leBytes]), Tests.leNat_leBytes]
  have hc : (crc32 b).toNat % 256 ^ 4 = (crc32 b).toNat := Nat.mod_eq_of_lt (crc32 b).isLt
  have e4 : ∀ n, (b ++ leBytes 4 n).length = 532 := by intro n; simp [leBytes, hl]
  have hb : b = [0x53, 0x4F, 0x4C, 0x50, 1, 1, 0x14, 2] ++ b.drop 8 := by rw [← h, List.take_append_drop]
  have e2 : ∀ r : List Byte, field ([0x53, 0x4F, 0x4C, 0x50, 1, 1, 0x14, 2] ++ r) 6 2 = 532 ∧
      byteAt ([0x53, 0x4F, 0x4C, 0x50, 1, 1, 0x14, 2] ++ r) 5 = 1 ∧
      byteAt ([0x53, 0x4F, 0x4C, 0x50, 1, 1, 0x14, 2] ++ r) 4 = 1 ∧
      ([0x53, 0x4F, 0x4C, 0x50, 1, 1, 0x14, 2] ++ r).take 4 = [0x53, 0x4F, 0x4C, 0x50] := fun r => ⟨rfl, rfl, rfl, rfl⟩
  obtain ⟨f1, f2, f3, f4⟩ := e2 (b.drop 8 ++ leBytes 4 (crc32 b).toNat)
  rw [← List.append_assoc, ← hb] at f1 f2 f3 f4
  have f5 : (b ++ leBytes 4 (crc32 b).toNat).take 528 = b := List.take_left' hl
  simp only [imageSound, f1, f2, f3, f4, e4, show 532 - 4 = 528 from rfl, e, hc, f5]
  simp

theorem Tests.image_sound : imageSound Tests.image = true :=
  Tests.sealed_sound Tests.body Tests.body_length (by decide +kernel)

/-- PATCH_WRITE to slot 64: a slot of another tenant, a bank that is OFF, a selected slot, an unsound image, a sound one;
PATCH_READ and PATCH_SELECT of slots with and without an image. -/
theorem witness_PatchCommandsFollowTheSlot :
    (∀ s t b, s.fwRuns = true → Starts (Tests.giving s t b) t 0 (Tests.cmd b) b) ∧
    (let s := Tests.giving Tests.up 1 .nop;
      let on := fun (q : PatchSlot) => ({ s with mem := { s.mem with patches := [(64, q)] } } : State);
      let own : PatchSlot := { image := [0, 0, 0, 0, 1], owner := some 1 };
      s.mem.bankSt .patch (64 / 64) = .on ∧
      ({ s.mem with patchBanks := [(1, .off)] } : Mem).bankSt .patch (64 / 64) ≠ .on ∧
      ((on { own with owner := some 2 }).patch 64).image ≠ [] ∧ ((on { own with owner := some 2 }).patch 64).owner ≠ some 1 ∧
      (s.patch 64).image = [] ∧ s.selected 64 = false ∧ (s.patch 64).loading = false ∧ (s.patch 64).sealedTo = none ∧
      (on own).patch 64 = own ∧ ((on { own with sealedTo := some 1 }).patch 64).sealedTo ≠ none ∧
      s.voicePatch 64 = none ∧ (on { own with image := [0, 0, 0, 0, 0] }).voicePatch 64 ≠ none) ∧
    (Tests.up.updTen 1 fun x => x.updPart 0 fun p => { p with slot := some 64 }).selected 64 = true ∧
    (let x := (Tests.up.updTen 1 fun x => { x with window := memWriteN [] 2540 Tests.image }).ten 1;
      x.windowRead 2540 532 = Tests.image ∧ 2540 + 532 = x.windowKib * 1024) ∧ imageSound Tests.image = true ∧
    imageBad Tests.image = none ∧ imageSound [] = false :=
  ⟨fun _ _ _ h => Tests.starts _ _ _ h, by decide +kernel, by decide +kernel,
   ⟨by
      have h : ∀ x : TenantSt, x.windowKib = 3 → x.window = memWriteN [] 2540 Tests.image → x.windowRead 2540 532 = Tests.image := by
        intro x h1 h2
        have h3 : Tests.image.length = 532 := by simp [Tests.image, Tests.body_length, leBytes]
        have h4 := memReadN_memWriteN [] 2540 Tests.image rfl
        rw [h3] at h4
        simp only [TenantSt.windowRead, TenantSt.windowBytes, h1, h2]
        simp [padTo, h4, h3]
      exact h _ rfl (by simp), rfl⟩, Tests.image_sound, by decide +kernel, by decide +kernel⟩

/-- The last bytes of bank 15, written, read and mapped; a sealed range; a bank that is OFF; a map of another tenant. -/
theorem witness_WaveCommandsMoveTheBytes :
    (∀ s t b, s.fwRuns = true → Starts (Tests.giving s t b) t 0 (Tests.cmd b) b) ∧
    (let s := Tests.giving Tests.up 1 .nop;
      s.mem.bankSt .wave 15 = .on ∧ ({ s.mem with waveBanks := [(15, .off)] } : Mem).bankSt .wave 15 ≠ .on ∧
      s.sealedHit 15 0x1FFFC0 64 = false ∧ s.loadingHit 15 0x1FFFC0 64 = false ∧ s.badIn (15 * 0x200000 + 0x1FFFC0) 64 = [] ∧
      ({ s with mem := { s.mem with seals := [⟨15, 0x1FFFF0, 16, 2⟩] } } : State).sealedHit 15 0x1FFFC0 64 = true ∧
      ({ s with mem := { s.mem with seals := [⟨15, 0x1FFFC0 - 16, 16, 2⟩] } } : State).sealedHit 15 0x1FFFC0 64 = false ∧
      (let w : WaveCopy := { t := 1, g := 0, bank := 15, offset := 0x1FFFC0, data := List.replicate 64 1 };
        let u : State := { s with mem := { s.mem with copies := [w] } };
        u.mem.copies.find? (fun d => d.t == 1 && d.g == 0) = some w ∧ (u.ten 1).find 0 = some (Tests.cmd .nop) ∧
          (Tests.cmd .nop).quiet = false ∧ u.fw.restarting = false)) ∧
    (∀ m : WaveMap, bankGet (([] : Bank WaveMap)) 4095 = some m → m.owner = 1 ∨ (1 : Tenant) = 0) ∧
    bankGet [(4095, { (default : WaveMap) with owner := 2 })] 4095 = some { (default : WaveMap) with owner := 2 } :=
  ⟨fun _ _ _ h => Tests.starts _ _ _ h, by decide +kernel, fun m h => by simp [bankGet] at h, by decide +kernel⟩

/-- A load into bank 0 with a key and without one, and its end; whether the tag passes is open. -/
theorem witness_SealedLoadsSealWhatTheyDecrypt :
    (∀ s t b, s.fwRuns = true → Starts (Tests.giving s t b) t 0 (Tests.cmd b) b) ∧
    (let a : SealedArgs := ⟨false, 3, 0, 0, 0, 64, List.replicate 16 0⟩;
      let l : SealedLoad := { t := 1, g := 0, args := a, key := List.replicate 32 7, blob := List.replicate 92 0 };
      let s := Tests.giving Tests.up 1 (.waveLoadSealed a);
      a.patch = false ∧ s.mem.bankSt .wave a.target = .on ∧ s.loadingHit a.target a.offset a.length = false ∧
        s.sealRefuses 1 a = false ∧ bankGet s.vault.keys a.keySlot = none ∧
        bankGet [(3, List.replicate 32 (7 : Byte))] a.keySlot = some (List.replicate 32 7) ∧
        ([l].find? (fun d => d.t == 1 && d.g == 0) = some l ∧ l.args = a ∧ l.t = 1 ∧
          (s.ten 1).find 0 = some (Tests.cmd (.waveLoadSealed a)) ∧ s.fw.restarting = false)) :=
  ⟨fun _ _ _ h => Tests.starts _ _ _ h, by decide +kernel⟩

theorem witness_BankTransitionsEndInTheirState :
    (∀ s t b, s.fwRuns = true → Starts (Tests.giving s t b) t 0 (Tests.cmd b) b) ∧
    (let s := Tests.giving Tests.up 0 (.memBankState .wave 15 .off);
      s.fwHeld 3 = true ∧ s.fwHeld 7 = false ∧ s.bankWritten .wave 15 = false ∧ s.mem.moves = [] ∧ s.mem.bankWaits = [] ∧
        (let w : WaveCopy := { t := 1, g := 0, bank := 15, offset := 0, data := [] };
          ({ s with mem := { s.mem with copies := [w] } } : State).bankWritten .wave 15 = true) ∧
        (let w : BankWait := { t := 0, g := 0, kind := .wave, bank := 15, target := .on };
          let u : State := { s with mem := { s.mem with bankWaits := [w] } };
          u.bankBusy .wave 15 = false ∧ u.mem.bankSt .wave 15 = .on) ∧
        s.mem.bankSt .wave 15 = .on ∧ s.mem.bankSt .firmware 7 = .off ∧
        (let m : BankMove := { kind := .wave, bank := 15, target := .off, ref := some (0, 0), prev := .on };
          [m].find? (fun m => m.kind == .wave && m.bank == 15) = some m ∧ m.ref = some (0, 0) ∧
            (s.ten 0).find 0 = some (Tests.cmd (.memBankState .wave 15 .off)) ∧ s.fw.restarting = false)) :=
  ⟨fun _ _ _ h => Tests.starts _ _ _ h, by decide +kernel⟩

/-! ## Witnesses: buses and ports -/

/-- The engine runs and is stopped; a note is found and not found. -/
theorem witness_BusOperationsWaitForTheBoundary :
    (∀ s t b, s.fwRuns = true → Starts (Tests.giving s t b) t 0 (Tests.cmd b) b) ∧ Tests.up.core.run ≠ .stopped ∧
    ({ Tests.up with core := { Tests.up.core with run := .stopped } } : State).fwRuns = true ∧
    (Tests.with [Tests.voice 7]).note? 1 7 = some (Tests.voice 7) ∧ (Tests.with [Tests.voice 7]).note? 1 8 = none :=
  ⟨fun _ _ _ h => Tests.starts _ _ _ h, by decide +kernel⟩

/-- Bus 31 at rest, fading, at the end of its fade; its switch under way and queued. -/
theorem witness_CoefficientsSwitchWithoutAStep :
    (∀ s t b, s.fwRuns = true → Starts (Tests.giving s t b) t 0 (Tests.cmd b) b) ∧
    (let s := Tests.giving Tests.up 0 (.coefSwitch 0x80000000);
      let with_ := fun f l => ({ s.updBus 31 f with mix := { (s.updBus 31 f).mix with switches := l } } : State);
      let sw := fun p => ({ ref := some (0, 0), mask := 0x80000000, phase := p } : CoefSw);
      (∀ k : Fin 32, (s.bus k.val).fade = none) ∧ s.mix.switches = [] ∧ (0x80000000 : BitVec 32) ≠ 0 ∧
      (0x80000000 : BitVec 32).getLsbD 31 = true ∧ BitVec.twoPow 32 31 = 0x80000000 ∧
      ((with_ (fun b => { b with fade := some 255 }) []).bus 31).fade ≠ none ∧
      ((with_ (fun b => { b with fade := some 255 }) []).bus 31).fade ≠ some 256 ∧
      (∀ p ∈ [SwPhase.queued, .fading], (sw p).mask &&& 0x80000000 ≠ 0 ∧
        (p = .queued ↔ ¬ ((sw p).phase = .landing ∨ (sw p).phase = .fading))) ∧
      (let u := with_ (fun b => { b with fade := some 256 }) [sw .fading];
        (u.bus 31).fade = some 256 ∧ (∀ k : Fin 32, k ≠ 31 → (u.bus k.val).fade ≠ some 256) ∧
          u.mix.switches = [sw .fading] ∧ u.mix.coefWaits = [] ∧
          (u.ten 0).find 0 = some (Tests.cmd (.coefSwitch 0x80000000)) ∧ u.fw.restarting = false)) :=
  ⟨fun _ _ _ h => Tests.starts _ _ _ h, by decide +kernel⟩

/-- Port 5 off, and as an enabled slave: before its first good frame, after it, running with 0, 3 and 4 frames in its FIFO,
as an input and as an output; frames of 63 and of 64 clocks for two slots of 24 bits. -/
theorem witness_SlavePortsFollowTheirClock :
    let p := State.reset.port 5
    let q := { p with enable := true, slave := true }
    (p.enable = false) ∧ q.enable = true ∧ q.slave = true ∧ 47 / q.frameSlots < q.wordBits ∧ q.wordBits ≤ 48 / q.frameSlots ∧
      q.st ≠ .running ∧ q.good = 0 ∧ ({ q with good := 1 } : Port).good ≠ 0 ∧
      (∀ n : Fin 5, let r := { q with st := .running, fifo := List.replicate n.val [] }
        r.st = .running ∧ (r.fifo.length < 4 ↔ n.val < 4)) ∧
      p.isIn = true ∧ (State.reset.port 0).isIn = false ∧ (State.reset.port 0).fifo.length = 2 := by decide +kernel

/-! ## Witnesses: the field die -/

/-- The unit with its field die ready. -/
def Tests.fld : State :=
  { Tests.up with field := { Tests.up.field with ready := true }, supply := { Tests.up.supply with fa := true } }

/-- CV output 15 and gate 7 in this state of Table 08-1. -/
def Tests.outs (st : OutState) : State :=
  (Tests.fld.updCv 15 fun c => { c with st := st }).updGt 7 fun c => { c with st := st }

/-- Every command of the family may start with the field die down and up; the mode of an output that is in high impedance
and of one that is driven; an entry that names an output in QUEUE mode; a queue with and without room. -/
theorem witness_FieldOutputCommandsWaitForTheirUpdate :
    (∀ s t b, s.fwRuns = true → Starts (Tests.giving s t b) t 0 (Tests.cmd b) b) ∧ Tests.up.field.ready = false ∧
    Tests.up.fwRuns = true ∧ Tests.fld.field.ready = true ∧ Tests.fld.fwRuns = true ∧
    ((Tests.fld.cv 15).queueMode = false ∧ (Tests.fld.cv 15).st.highZ = true ∧
      ((Tests.outs .driven).cv 15).st.highZ = false ∧ ((Tests.outs .driven).cv 15).queueMode = false) ∧
    (let s := Tests.fld.updCv 15 fun c => { c with queueMode := true, queue := List.replicate 63 0 };
      queueEntry s [⟨0, false, 0⟩, ⟨15, false, 0⟩] 0 = some 4 ∧ queueEntry s [⟨0, false, 0⟩] 0 = none ∧
        (s.cv 15).queueMode = true ∧ Nat.min 2 (64 - (s.cv 15).queue.length) = 1) :=
  ⟨fun _ _ _ h => Tests.starts _ _ _ h, by decide +kernel⟩

/-- No hold, and one in which output 15 limited and gate 7 was latched off. -/
theorem witness_PadReleaseFreesTheHeldPads :
    (∀ s t b, s.fwRuns = true → Starts (Tests.giving s t b) t 0 (Tests.cmd b) b) ∧ Tests.fld.field.hold = none ∧
    (let h : FieldHold := { lines := [], cvs := [.driven], gates := List.replicate 7 .hiz ++ [.hizLatched], limited := [15] };
      let s : State := { Tests.fld with field := { Tests.fld.field with hold := some h } };
      s.fwRuns = true ∧ s.field.hold = some h ∧ s.field.holdCleared = false ∧ 15 ∈ h.limited ∧ 0 ∉ h.limited ∧
        h.gates.getD 7 .hiz = .hizLatched ∧ h.gates.getD 6 .hiz ≠ .hizLatched ∧ 6 + 16 ∉ h.limited) :=
  ⟨fun _ _ _ h => Tests.starts _ _ _ h, by decide +kernel⟩

theorem witness_LimitsLatchOrRetry :
    (∀ st ∈ [OutState.driven, .limit, .hizRetrying, .hiz], (Tests.outs st).field.hold = none ∧
      (Tests.outs st).outSt (.cv 15) = st ∧ (Tests.outs st).outSt (.gt 7) = st) ∧
    (let s := Tests.outs .limit;
      s.latches (.cv 15) = false ∧ (s.updCv 15 fun c => { c with latch := true }).latches (.cv 15) = true ∧
        (s.updCv 15 fun c => { c with episode := true }).outSt (.cv 15) = .limit ∧ s.limits (.cv 15) = true ∧
        s.limits (.gt 7) = true ∧ (Tests.outs .driven).limits (.cv 15) = false) ∧
    (let s := Tests.outs .safe;
      s.outSt (.cv 15) = .safe ∧ (s.cv 15).limiting = false ∧ s.limits (.cv 15) = false ∧
        (s.updCv 15 fun c => { c with limiting := true }).limits (.cv 15) = true) ∧
    (let s := (Tests.outs .hizRetrying).updCv 15 fun c => { c with retrying := true };
      s.outSt (.cv 15) = .hizRetrying ∧ (s.cv 15).retrying = true ∧ s.field.hold = none) ∧
    (let s := (Tests.outs .hizRetrying).updGt 7 fun c => { c with retrying := true };
      s.outSt (.gt 7) = .hizRetrying ∧ (s.gt 7).retrying = true ∧ s.field.hold = none) := by decide +kernel

/-- Differences of 51 mV and of 24 mV on a REMOTE output; a pair of outputs that limit with opposite signs. -/
theorem witness_PairsAndSenseAreReported :
    (let s := (Tests.outs .limit).updCv 14 fun c => { c with st := .limit, positive := true };
      (14 : Fin 16) < 15 ∧ s.limits (.cv 14) = true ∧ s.limits (.cv 15) = true ∧ (s.cv 14).positive ≠ (s.cv 15).positive ∧
        s.field.pairs = []) ∧ Tests.fld.limits (.cv 14) = false ∧ (Tests.fld.cv 14).remote = false ∧
    (let s := Tests.fld.updCv 0 fun c => { c with remote := true };
      (s.cv 0).remote = true ∧ s.field.ready = true ∧ s.field.hold = none ∧ (s.cv 0).fallback = false ∧ 50 < 51 ∧
        ((s.updCv 0 fun c => { c with fallback := true }).cv 0).fallback = true ∧ 24 < 25) := by decide +kernel

theorem witness_SafeEndsInADrivenOutput :
    (let s := Tests.outs .safe;
      s.core.tide.et = 0 ∧ (s.cv 15).st = .safe ∧ (s.cv 15).safeLeft = 0 ∧
        ((s.updCv 15 fun c => { c with safeLeft := 1 }).cv 15).safeLeft ≠ 0 ∧ (s.cv 14).st ≠ .safe) ∧
    (let s := fun (st : OutState) (d e : Bool) => Tests.fld.updLo 3 fun o => { o with st := st, disabling := d, episode := e };
      ((s .safe false false).lo 3).st = .safe ∧ ((s .safe false false).lo 3).safeLeft = 0 ∧
      ((s .safe false false).lo 3).disabling = false ∧ ((s .safe true false).lo 3).disabling = true ∧
      ((s .driven false false).lo 3).st = .driven ∧ ((s .limit false true).lo 3).st = .limit ∧
      ((s .driven false true).lo 3).episode = true ∧ ((s .driven false true).lo 3).limiting = false ∧
      (((s .safe false false).updLo 3 fun o => { o with limiting := true }).lo 3).limiting = true) := by decide +kernel

/-- The field die down and up, the scanner off and on. -/
theorem witness_InputCommandsSetTheInputs :
    (∀ s t b, s.fwRuns = true → Starts (Tests.giving s t b) t 0 (Tests.cmd b) b) ∧ Tests.up.field.ready = false ∧
    Tests.fld.field.ready = true ∧ Tests.fld.fwRuns = true ∧ Tests.fld.scan.mode = 0 ∧ (∀ k, (Tests.fld.scan.key k).on = false) ∧
    ({ Tests.fld with scan := { Tests.fld.scan with mode := 2 } } : State).scan.mode ≠ 0 :=
  ⟨fun _ _ _ h => Tests.starts _ _ _ h, by decide +kernel, by decide +kernel, by decide +kernel, by decide +kernel,
   fun _ => rfl, by decide +kernel⟩

/-- A trim that takes the whole gain away leaves the offset: the words 0, 8,388,607 and, one step above, an overload. -/
theorem witness_InputSamplesSaturateAndReport :
    Tests.up.fieldRuns = false ∧ Tests.fld.fieldRuns = true ∧ Tests.fld.cal.trim = none ∧
    ∀ v : Rat, (∀ o : Fin 3, let t : Trim := { gain := -1000000, offset := [0, 9999999, -10000001].getD o.val 0 }
        roundHalfUp (t.apply v * 8388608 / 10) = [0, 8388607, -8388609].getD o.val 0) := by
  refine ⟨by decide +kernel, by decide +kernel, by decide +kernel, fun v => ?_⟩
  have h : (1 : Rat) + mkRat (-1000000) 1000000 = 0 := by decide +kernel
  intro o
  fin_cases o <;> simp only [Trim.apply, h, Rat.mul_zero, Rat.zero_add] <;> decide +kernel

theorem witness_KeysGoOnAndOff :
    (default : Key).on = false ∧ (default : Key).waitRelease = false ∧ ({ (default : Key) with on := true } : Key).on = true ∧
    Tests.fld.scans = false ∧ ({ Tests.fld with scan := { Tests.fld.scan with mode := 1 } } : State).scans = true ∧
    (let s : State := { Tests.fld with scan := { Tests.fld.scan with mode := 2, scan := 64 } };
      s.scan.mode = 2 ∧ s.scan.captured = false ∧ s.scan.scan = 64 ∧
        ({ s with scan := { s.scan with scan := 63 } } : State).scan.scan ≠ 64) ∧
    (let s : State := { Tests.fld with scan := { Tests.fld.scan with cells := [(127, { faulty := true, inScans := 64 })] } };
      (s.scan.cell 127).faulty = true ∧ 64 ≤ (s.scan.cell 127).inScans ∧ (s.scan.cell 126).faulty = false) := by decide +kernel

/-! ## Witnesses: serial channels and the card -/

/-- Channel 3 with these settings, owned by T1, which is OPEN. -/
def Tests.chan (f : Serial → Serial) : State :=
  { Tests.bench with serials := [(3, f { (default : Serial) with owner := 1 })] }

theorem witness_SerialCommandsSetAndFeedTheChannel :
    (∀ s t b, s.fwRuns = true → Starts (Tests.giving s t b) t 0 (Tests.cmd b) b) ∧
    (let a : ScArgs := { (default : ScArgs) with ch := 3, mode := .midi };
      a.mode ≠ .off ∧ ((Tests.chan id).sc 3).mode = .off ∧ (Tests.chan id).cardCh = none ∧ (Tests.chan id).fwRuns = true ∧
      (let s := Tests.chan fun c => { c with mode := .general };
        (s.sc 3).mode ≠ .off ∧ (s.sc 3).mode ≠ .card ∧ (s.sc 3).breakRefs = [] ∧ s.fwRuns = true ∧
          (s.sc 3).owner = 1 ∧ (s.sc 3).owner ≠ 2 ∧ (s.sc 3).noSend = false) ∧
      (let s := Tests.chan fun c => { c with mode := .card };
        (s.sc 3).mode = .card ∧ s.cardCh = some 3 ∧ (s.sc 3).noSend = true ∧ s.fwRuns = true)) :=
  ⟨fun _ _ _ h => Tests.starts _ _ _ h, by decide +kernel⟩

/-- The characters of each clause at 8N1 and 96 ticks a bit; a queue of 255 and of 256 bytes; 63 and 64 waiting bytes; a
transmitter that is ready and one that CTS_N holds; a wake channel of a sleeping unit. -/
theorem witness_SerialLinesFollowTheFrames :
    (let s := Tests.chan fun c => { c with mode := .general, divN := 96 };
      let c := s.sc 3;
      (c.mode = .general ∧ c.autobaud = false ∧ c.loopback = false ∧ c.brk = .none ∧ s.asleep = false ∧ c.waking = false ∧
        s.scDiscards 3 = false) ∧
      sampleChar c.frame (lineLevel (sentEdges c.frame 0x55)) = .char 0x55 false false ∧
      sampleChar c.frame (lineLevel [5]) = .glitch ∧ sampleChar c.frame (lineLevel []) = .brk ∧
      s.txReady 3 = true ∧ c.echo = false ∧ c.held true = false ∧ c.tx = [] ∧ c.txBreak = none ∧ s.scWakes 3 = false) ∧
    (let s := Tests.chan fun c => { c with mode := .general, divN := 96, parity := 1 };
      sampleChar (s.sc 3).frame (lineLevel (sentEdges { (s.sc 3).frame with parity := 2 } 0x55)) = .char 0x55 false true) ∧
    (let s := fun n => Tests.chan fun c => { c with mode := .general, rx := List.replicate n 0, overrunArmed := false };
      (s 255).fwRuns = true ∧ ((s 255).sc 3).rx.length < 256 ∧ 256 ≤ ((s 256).sc 3).rx.length ∧
      ((s 256).sc 3).overrunArmed = false ∧ ((s 64).ten 1).st = .opened ∧ ((s 64).ten 1).events.getLsbD 16 = true ∧
      ((s 64).sc 3).rx ≠ [] ∧ 64 ≤ ((s 64).sc 3).rx.length ∧
      evSlots (((s 64).sc 3).rx.take 64) ≤ ((s 64).ten 1).cqFree ∧ ((s 63).sc 3).rx.length < 64) ∧
    (∀ b ∈ [BreakSt.counting, .saturated], ((Tests.chan fun c => { c with mode := .general, brk := b }).sc 3).brk = b) ∧
    (let s := Tests.chan fun c => { c with mode := .general, flow := true, echo := true, tx := [.byte 7] };
      (s.sc 3).echo = true ∧ (s.sc 3).flow = true ∧ (s.sc 3).mode = .general ∧ (s.sc 3).loopback = false ∧
        (s.sc 3).brk = .none ∧ s.asleep = false ∧ s.power.pads = none) ∧
    (let c := (Tests.chan id).sc 3; c.mode = .off ∧ c.mode ≠ .card ∧ c.tx = [] ∧ c.txBreak = none) ∧
    (let s := Tests.chan fun c => { c with mode := .general, flow := true, tx := [.byte 7] };
      s.txReady 3 = true ∧ (s.sc 3).echo = false ∧ (s.sc 3).held false = false ∧ (s.sc 3).held true = true ∧
      (s.sc 3).tx = [.byte 7]) ∧
    (let s := Tests.chan fun c => { c with mode := .general, tx := [.brk 20 (some (1, 0))], txBreak := some (5, none) };
      (s.sc 3).tx = [.brk 20 (some (1, 0))] ∧ (s.sc 3).txBreak = some (5, none)) ∧
    (let s := Tests.chan fun c => { c with mode := .general };
      let u : State := { s with power := { s.power with st := .nap, wakeMask := 16 } };
      u.scWakes 3 = true ∧ (u.sc 3).disarmed = false ∧ u.asleep = true) := by decide +kernel

/-- A card on channel 3, owned by T1: absent, present, at each phase of a session. -/
theorem witness_CardSessionsRunTheirSteps :
    (∀ s t b, s.fwRuns = true → Starts (Tests.giving s t b) t 0 (Tests.cmd b) b) ∧ (Tests.chan id).cardCh = none ∧
    (let s := Tests.chan fun c => { c with mode := .card };
      let on := fun (k : Card) => ({ s with card := k } : State);
      s.fwRuns = true ∧ s.cardCh = some 3 ∧ (s.sc 3).owner = 1 ∧ (s.sc 3).owner ≠ 2 ∧ s.card.ref = none ∧
      s.card.present = false ∧ s.card.phase = .idle ∧ (s.sc 3).tx = [] ∧ (s.sc 3).autobaud = false ∧
      (on { s.card with present := true }).card.present = true ∧
      (on { s.card with ref := some (1, 4) }).card.ref ≠ none ∧
      (∀ p ∈ [CardPhase.powered, .clocked, .waitTs, .procedure, .data true, .sw2 0x90],
        (on { s.card with phase := p, ref := some (1, 4), repeats := 3 }).card.phase = p ∧
        (on { s.card with phase := p, ref := some (1, 4) }).card.repeats < 3 ∧ p ≠ .idle) ∧
      cardByte false 0x13B = (0x3B, true) ∧ cardByte true 0x103 = (0x3F, true) ∧ (cardByte false 0x3B).2 = false ∧
      (∀ i : Fin 9, (0x103 : BitVec 9).getLsbD i.val = (cardMoments true 0x3F).getD i.val false) ∧
      tsDirect ≠ tsInverse ∧ List.replicate 10 true ≠ tsDirect ∧ List.replicate 10 true ≠ tsInverse) :=
  ⟨fun _ _ _ h => Tests.starts _ _ _ h, by decide +kernel⟩

/-! ## Witnesses: stored records, calibration, lanes -/

/-- The vault locked and open, the life cycle at each end; whether a key unwraps is open. -/
theorem witness_StoredRecordsFollowTheirCommands :
    (∀ s t b, s.fwRuns = true → Starts (Tests.giving s t b) t 0 (Tests.cmd b) b) ∧
    (let s := Tests.up;
      let lives := fun l => ({ s.nvm with lifeRec := s.nvm.lifeRec.put l true } : Nvm);
      let field : State := { s with nvm := lives .field };
      s.nvm.life = .blank ∧ (lives .ret).life.next = none ∧ field.fwRuns = true ∧
      ¬ (field.nvm.life = .blank ∨ field.nvm.life = .ret ∨ field.nvm.tampered ≠ none) ∧ field.keyInUse 63 = false ∧
      (∀ u : Tenant, u ≠ 0 → (s.ten u).st = .closed) ∧
      (∃ u : Tenant, u ≠ 0 ∧ (Tests.bench.ten u).st ≠ .closed) ∧
      Life.blank.next = some .maker ∧ Life.maker.code = 1 ∧ s.fuse.dieId.setWidth 32 = (1 : BitVec 32) ∧ s.mem.loads = [] ∧
      s.nvm.verified = false ∧ (s.nvm.putSlot { s.nvm.slot with verified := true } true).verified = true ∧
      (let u := Tests.giving s 0 (.lifecycle 1 1 []);
        (u.ten 0).loadsInFlight 0 = [] ∧ ((u.updTen 0 fun x => { x with inflight :=
          { Tests.cmd (.waveLoadSealed default) with tag := 1 } :: x.inflight }).ten 0).loadsInFlight 0 ≠ []) ∧
      ({ field with mem := { field.mem with loads := [{ (default : SealedLoad) with args := { (default : SealedArgs) with
        keySlot := 63 } }] } } : State).keyInUse 63 = true) :=
  ⟨fun _ _ _ h => Tests.starts _ _ _ h, by decide +kernel⟩

/-- A trim of CV output 0, one of nothing, a store, a test of lane 0 and one of a serial channel; the period over and not. -/
theorem witness_CalibrationRunsAndReports :
    (∀ s t b, s.fwRuns = true → Starts (Tests.giving s t b) t 0 (Tests.cmd b) b) ∧
    (let s := Tests.fld;
      let run := fun (r : TrimRun) => ({ s with cal := { s.cal with trim := some r } } : State);
      s.fwRuns = true ∧ s.field.ready = true ∧ Tests.up.field.ready = false ∧ s.cal.trim = none ∧ s.cal.storing = none ∧
      s.cal.test = none ∧ s.cal.storeOwed = false ∧
      (run ⟨some (1, 0), [], [], false⟩).cal.trim = some ⟨some (1, 0), [], [], false⟩ ∧
      (run ⟨some (1, 0), [27], [], true⟩).cal.trim = some ⟨some (1, 0), [27], [], true⟩ ∧
      (run ⟨none, [0], [], false⟩).cal.trim = some ⟨none, [0], [], false⟩ ∧
      ({ s.cal with storing := some (some (1, 0)) } : Cal).storing = some (some (1, 0)) ∧
      (∀ n : Fin 3, ({ s.cal with test := some { (default : TestRun) with target := n.val, mask := 1 } } : Cal).test =
        some { (default : TestRun) with target := n.val, mask := 1 }) ∧
      s.cal.trimPeriodS = 600 ∧ 599 < s.cal.trimPeriodS ∧ s.cal.trimPeriodS ≤ 600 ∧ s.power.st ≠ .nap ∧ s.hasField = true ∧
      s.testStopped 0 1 = false ∧ s.testStopped 2 1 = true ∧ s.testStopped 3 0 = true) :=
  ⟨fun _ _ _ h => Tests.starts _ _ _ h, by decide +kernel⟩

theorem witness_LaneServiceFollowsItsSteps :
    (∀ s t b, s.fwRuns = true → Starts (Tests.giving s t b) t 0 (Tests.cmd b) b) ∧
    (let s := Tests.up;
      let at_ := fun l => ({ s with alloc := { s.alloc with lanes := [(7, l)] } } : State);
      s.fwRuns = true ∧ (s.alloc.lane 7).st = .inService ∧ (s.alloc.lane 7).ref = none ∧ (s.alloc.lane 7).joining = false ∧
      (∀ st ∈ [LaneSt.parked, .testing, .draining], ((at_ { (default : Lane) with st := st }).alloc.lane 7).st = st ∧
        ((at_ { (default : Lane) with st := st }).alloc.lane 7).ref = none) ∧
      ((at_ { (default : Lane) with joining := true }).alloc.lane 7).joining = true ∧
      ((at_ { (default : Lane) with ref := some (0, 1) }).alloc.lane 7).ref ≠ none ∧
      s.alloc.drainMs ≤ s.alloc.drainMs ∧ s.alloc.drainMs - 1 < s.alloc.drainMs) :=
  ⟨fun _ _ _ h => Tests.starts _ _ _ h, by decide +kernel⟩

/-! ## Witnesses: power, resets, outside conditions -/

theorem witness_PowerCommandsAskForTheirStates :
    (∀ s t b, s.fwRuns = true → Starts (Tests.giving s t b) t 0 (Tests.cmd b) b) ∧ Tests.up.ring.role = .standalone ∧
    (let on := fun (r : Ring) => ({ Tests.up with ring := r } : State);
      (on { Tests.up.ring with role := .keeper }).fwRuns = true ∧
      (on { Tests.up.ring with role := .member }).ring.keeperGrant = false ∧
      (on { Tests.up.ring with role := .member, keeperGrant := true }).ring.keeperGrant = true) ∧
    PState.nap ≠ .run ∧ PState.nap ≠ .doze :=
  ⟨fun _ _ _ h => Tests.starts _ _ _ h, by decide +kernel⟩

/-- The unit in this power state, at a block boundary and idle. -/
def Tests.power (f : Power → Power) : State := { Tests.up with power := f Tests.up.power }

/-- The settings of the timers at their limits, each step of an entry, each sleep with its wake. -/
theorem witness_SleepAndWakeFollowTheTables :
    (let s := Tests.up;
      s.idle = true ∧ s.power.entry = none ∧ s.fw.up = true ∧ s.fw.restarting = false ∧ s.power.st = .run ∧
      s.power.dozeMs = 10 ∧ s.power.napMs = 5000 ∧ s.power.hibS * 1000 * s.engineRate + s.power.schedTicks * 1000 ≤ 600000 * s.engineRate ∧
      ¬ s.power.hibS * 1000 * s.engineRate + s.power.schedTicks * 1000 ≤ 599999 * s.engineRate ∧ s.anySchedule = false ∧
      s.core.tide.isBoundary = true ∧ s.fwRuns = true ∧ s.power.request = none ∧ s.power.abandon = false ∧
      s.voices = [] ∧ s.core.run ≠ .stopping ∧ s.ring.leaving = false) ∧
    (let s : State := { Tests.up with voices := [Tests.voice 1], core := { Tests.up.core with tide := { smp := 0, et := 1 } } };
      s.idle = false ∧ s.core.tide.isBoundary = false) ∧
    (∀ st ∈ [PState.doze, .nap, .hibernate], (Tests.power fun p => { p with st := st }).power.st = st) ∧
    ({ Tests.power fun p => { p with st := .doze } with voices := [Tests.voice 1] } : State).idle = false ∧
    (∀ st ∈ [PState.doze, .nap], let s := Tests.power fun p => { p with timerEntry := some st }
      s.power.timerEntry = some st ∧ s.idle = true) ∧
    (Tests.power fun p => { p with request := some .hibernate }).power.request = some .hibernate ∧
    (∀ e ∈ [EntryStep.quiesce, .gated, .saved, .latched], (Tests.power fun p => { p with entry := some e }).power.entry =
      some e) ∧
    (let s := Tests.power fun p => { p with entry := some .gated, abandon := true, wake := some .timer };
      s.power.st = .run ∧ s.power.abandon = true ∧ s.power.wake ≠ none) ∧
    (Tests.power fun p => { p with st := .nap, wakeMask := 1 }).wakeOn .hibernate .wakeN = true ∧
    (Tests.power fun p => { p with st := .nap }).wakeOn .hibernate .wakeN = false ∧
    (let s := (Tests.power fun p => { p with st := .nap, comparator := true }).updTen 1 fun x => { x with
        st := .opened, inflight := [{ Tests.cmd .nop with phase := .scheduled, due := 36 }] };
      s.earliest = some 36 ∧ 36 = s.smp.toNat + 32 + s.wakeSamples ∧ s.scheduleNear = true) ∧ Tests.up.scheduleNear = false ∧
    (let s := Tests.power fun p => { p with st := .nap, wakeMask := 0x61, wakeTimer := 5 };
      s.power.wakeMask.getLsbD 0 = true ∧ s.power.wakeMask.getLsbD 5 = true ∧ s.power.wakeMask.getLsbD 6 = true ∧
        s.hasField = true ∧ ({ s with scan := { s.scan with mode := 1 } } : State).scan.mode ≠ 0) ∧
    (∀ st ∈ [PState.nap, .hibernate], (Tests.power fun p => { p with st := st, wake := some .timer }).power.wake =
      some .timer) := by decide +kernel

/-- The resets need no state; what the tamper monitors see at their limits; the boots with MRAM in range and out of it, with
a slot that passes and without one; a warm reset that is due, a restart. -/
theorem witness_ResetsAndBootsFollowTheTables :
    (State.reset.power.enCore = true ∧ State.reset.fw.boot = .laneTest false ∧ State.reset.fw.up = false ∧
      State.reset.supply.nvm = true ∧ State.reset.fw.resetDue = false ∧ State.reset.fwRuns = false ∧
      State.reset.fw.restarting = false) ∧
    (Tests.power fun p => { p with enCore := false }).power.enCore = false ∧ Tests.up.fw.boot = .done ∧
    (∀ b ∈ [Boot.waitNvm false, .powering, .stopped true], let s : State := { State.reset with fw := { State.reset.fw with boot := b } };
      s.fw.up = false ∧ s.fw.boot = b ∧ s.vault.latched = none) ∧
    (slotBoot State.reset.nvm ⟨[], true⟩).2.2 = true ∧
    (slotBoot { State.reset.nvm with fwA := [], fwB := [] } ⟨[], true⟩).2.2 = false ∧
    (let s := Tests.up;
      s.tamperSrc (.pin 200) = some .pin ∧ s.tamperSrc (.temperature 126) = some .temperature ∧
      s.tamperSrc (.glitch true 851 20 100 none) = some .glitch ∧ s.tamperSrc (.glitch false 699 20 100 (some 9999)) = some .glitch ∧
      s.tamperSrc (.glitch true 649 20 99 none) = none ∧ s.supply.nvm = true) ∧
    (let s : State := { Tests.bench with fw := { Tests.bench.fw with resetDue := true, restarting := true } };
      s.fw.resetDue = true ∧ s.fw.restarting = true ∧ (s.ten 1).st ≠ .closed ∧ (s.ten 2).st = .closed) ∧
    Tests.bench.fwRuns = true := by decide +kernel

/-- A tamper seen on the pin empties the vault, and its source is recorded; a temperature in range does nothing. -/
theorem test_tamper :
    (Tests.after (.tamperDetect (.pin 200)) Tests.up).nvm.tampered = some .pin ∧
    exec (.tamperDetect (.temperature 125)) Tests.up = .next Tests.up := ⟨by decide +kernel, rfl⟩

theorem witness_OutsideConditionsAreTaken :
    (let s : State := { Tests.up with supply := { Tests.up.supply with fa := true } };
      s.hasField = true ∧ s.supply.fa = true ∧ s.field.ready = false ∧ s.field.link = .ok ∧ s.power.st ≠ .hibernate ∧ Tests.fld.field.ready = true ∧
      ({ Tests.up with fuse := { Tests.up.fuse with variant := .d } } : State).hasField = false) ∧
    (∀ l ∈ [DieLink.ok, .silent, .dark], ({ Tests.fld with field := { Tests.fld.field with link := l } } : State).field.link =
      l) ∧ Tests.fld.power.st ≠ .hibernate ∧ Tests.fld.fwRuns = true ∧ (Tests.fld.ten 0).st = .closed ∧
    (let c := { Tests.fld.core with mclkIn := true, frameEdge := 3 };
      c.mclkIn = true ∧ c.mclkLost = false ∧ ({ c with mclkLost := true } : Core).mclkLost = true ∧ c.selects false = true ∧
        Tests.fld.core.selects false = false ∧ c.captured ≠ some c.ticks ∧
        ({ c with captured := some c.ticks } : Core).captured = some c.ticks) ∧ (∀ t, (Tests.fld.ten t).st ≠ .opened) ∧
    Tests.fld.alloc.thermal = .normal ∧
    (let at_ := fun th n tj => ({ Tests.fld with
        alloc := { Tests.fld.alloc with thermal := th, allowed := n }, supply := { Tests.fld.supply with tj := tj } } : State);
      (at_ .hard 2 110).alloc.thermal = .hard ∧ (at_ .soft 7 100).alloc.thermal = .soft ∧ 4 < (at_ .soft 7 100).alloc.allowed ∧
        100 ≤ (at_ .soft 7 100).supply.tj ∧ (at_ .soft 7 94).supply.tj < 95 ∧ 7 ≤ (at_ .soft 7 94).alloc.allowed ∧
        (at_ .soft 6 94).alloc.allowed < 7 ∧ 95 ≤ (at_ .soft 6 99).supply.tj ∧ (at_ .soft 6 99).supply.tj < 100) := by
  decide +kernel

/-! ## Witnesses: the ring -/

/-- The unit with this ring state. -/
def Tests.ring (f : Ring → Ring) : State := { Tests.up with ring := f Tests.up.ring }

theorem witness_RingCommandsStartAndLeave :
    (∀ s t b, s.fwRuns = true → Starts (Tests.giving s t b) t 0 (Tests.cmd b) b) ∧ Tests.up.ring.role = .standalone ∧
    Tests.up.ring.electing = none ∧ Tests.up.ring.joining = none ∧
    (let s := Tests.ring fun r => { r with role := .member };
      s.fwRuns = true ∧ s.ring.role ≠ .standalone ∧ s.ring.leaving = false ∧
        (Tests.ring fun r => { r with role := .member, leaving := true }).ring.leaving = true) :=
  ⟨fun _ _ _ h => Tests.starts _ _ _ h, by decide +kernel⟩

theorem witness_RingMembershipFollowsItsRecords :
    (let s := Tests.ring fun r => { r with electing := some (0, 1) };
      s.fwRuns = true ∧ s.ring.role ≠ .keeper ∧ s.ring.electing = some (0, 1) ∧ s.ring.higher = none ∧
        s.fuse.dieId < 0x0100000000000002 ∧ (0x0100000000000001 : BitVec 64) ≤ s.fuse.dieId ∧
        (Tests.ring fun r => { r with electing := some (0, 1), higher := some (0x0100000000000003, 1) }).ring.higher =
          some (0x0100000000000003, 1)) ∧
    (let s := Tests.ring fun r => { r with role := .keeper };
      s.ring.role = .keeper ∧ s.ring.electing = none ∧ s.ring.joining = none ∧ s.fwRuns = true ∧
        ((15, 3) : Nat × BitVec 16) ∉ s.ring.seen ∧
        ({ s with power := { s.power with st := .nap } } : State).power.st = .nap ∧
        ({ s with fw := { s.fw with restarting := true } } : State).fwRuns = false) ∧
    (let s := Tests.ring fun r => { r with role := .member, seen := [(15, 3)] };
      s.ring.role = .member ∧ s.fwRuns = true ∧ (15, 3) ∈ s.ring.seen ∧ (16, 3) ∉ s.ring.seen ∧
        ({ s with power := { s.power with st := .nap } } : State).power.st = .nap) ∧
    (let s := Tests.ring fun r => { r with joining := some (0, 1) };
      let m : Membership := { (default : Membership) with newId := s.fuse.dieId, units := 2, position := 1, keeperId := 9 };
      s.fwRuns = true ∧ m.newId = s.fuse.dieId ∧ m.keeperId ≠ s.fuse.dieId ∧ s.ring.joining = some (0, 1) ∧
        s.core.fs = s.ring.keeperFs ∧
        (Tests.ring fun r => { r with joining := some (0, 1), keeperFs := 2 }).ring.keeperFs ≠ s.core.fs ∧
        Tests.up.ring.joining = none) ∧
    (let s := Tests.ring fun r => { r with role := .member, leaving := true, position := 1 };
      s.fwRuns = true ∧ (default : Membership).newId ≠ s.fuse.dieId ∧ (default : Membership).keeperId ≠ s.fuse.dieId ∧
        s.ring.role ≠ .standalone ∧ s.core.tide.isBoundary = true ∧ s.ring.leaving = true ∧ (5 : BitVec 64) ≠ s.fuse.dieId ∧
        (∀ n : Fin 2, let u : State := { s with core := { s.core with ticks := 47 + n.val } }
          (250 * u.engineRate ≤ 1000000 * (u.core.ticks - u.ring.leaveAt) ↔ n = 1)) ∧ s.fw.restarting = false) := by
  decide +kernel

theorem witness_RingFramesAndFoldsFollowTheRules :
    (let s := Tests.ring fun r => { r with role := .member, out := [⟨9, .leave 5, 4⟩, ⟨8, .leave 6, 3⟩] };
      s.ring.role = .member ∧ s.ring.role ≠ .standalone ∧ s.ring.st ≠ .rateMismatch ∧ s.core.mclkIn = false ∧ s.fwRuns = true ∧
        s.core.tide.isBoundary = true ∧ s.ring.markerSeen = false ∧ s.ring.laneA ≠ .folded ∧
        (∃ e ∈ s.ring.out, e.seq = 9 ∧ 4 ≤ e.resends) ∧ (∀ e ∈ s.ring.out, e.seq = 8 → e.resends < 4) ∧
        (∀ e ∈ s.ring.out, e.isNote = false)) ∧
    (Tests.ring fun r => { r with role := .keeper }).ring.role = .keeper ∧
    (Tests.ring fun r => { r with role := .member, st := .rateMismatch }).ring.st = .rateMismatch ∧
    (Tests.ring fun r => { r with role := .member, markerSeen := true }).ring.markerSeen = true ∧
    (let s : State := { Tests.ring (fun r => { r with role := .member, st := .ring }) with
        core := { Tests.up.core with mclkIn := true } };
      s.core.mclkIn = true ∧ s.ring.st ≠ .rateMismatch ∧ 500 < (-501 : Int).natAbs ∧ ¬ 500 < (500 : Int).natAbs) ∧
    (let r := Tests.up.ring; r.role = .standalone ∧ r.electing = none ∧ r.joining = none) ∧
    (Tests.ring fun r => { r with electing := some (0, 1) }).ring.electing ≠ none ∧
    ({ (default : Marker) with crcOk := true } : Marker).crcOk = true ∧ (default : Marker).crcOk = false ∧
    (let s := Tests.ring fun r => { r with silent := [(15, 4)] };
      4 ≤ bankAt s.ring.silent 15 0 ∧ bankAt s.ring.silent 14 0 < 4) := by decide +kernel

/-- Note 7 of T1 of unit 15 arrives at its last tick and one tick later, repeated, and with no voice free; it waits and its tick
comes; note 9 of T1 plays on another unit, reported and not, refused and due, and a command waits for its report. -/
theorem witness_SpilledNotesFollowTheRing :
    (let n : RingNote := { (default : RingNote) with origin := 15, tenant := 1, noteId := 7, seq := 3, crcOk := true };
      let at_ := fun smp => ({ Tests.ring (fun r => { r with role := .member }) with
        core := { Tests.up.core with tide := { smp := smp, et := 0 } } } : State);
      n.crcOk = true ∧ ({ n with crcOk := false } : RingNote).crcOk = false ∧ (at_ 32).ring.role ≠ .standalone ∧ (at_ 32).fwRuns = true ∧ ¬ (n.origin, n.seq) ∈ (at_ 32).ring.seen ∧
        (at_ 32).core.tide.num ≤ (plus32 n.start n.et (at_ 32).core.osr).num ∧
        (plus32 n.start n.et (at_ 33).core.osr).num < (at_ 33).core.tide.num ∧ (at_ 32).takesSpill = true ∧
        ({ at_ 32 with alloc := { (at_ 32).alloc with thermal := .hard } } : State).takesSpill = false ∧
        (n.origin, n.seq) ∈ (Tests.ring fun r => { r with role := .member, seen := [(15, 3)] }).ring.seen) ∧
    (let v : Voice := { Tests.voice 7 with owner := .spilled 15 1, life := .starting (some (32, 0)) };
      let s : State := { Tests.ring (fun r => { r with role := .member }) with voices := [v] };
      s.arrived? 15 1 7 = some v ∧ s.arrived? 14 1 7 = none ∧ s.spilled? 15 1 7 ≠ none ∧ s.spilled? 15 1 8 = none) ∧
    (let o := fun rep ref => { Tests.out 9 with reported := rep, refused := ref, start := 0 };
      let s := fun rep ref => (Tests.ring fun r => { r with role := .member }).updTen 1 fun x => { x with
        spilledOut := [o rep ref] };
      let late : State := { s false true with core := { Tests.up.core with tide := { smp := 64, et := 0 } } };
      ((s true false).ten 1).out? 9 = some (o true false) ∧ ((s false false).ten 1).out? 9 = some (o false false) ∧
        (s false true).fallbackDue (o false true) = false ∧ late.fallbackDue (o false true) = true ∧
        (late.ten 1).out? 9 = some (o false true) ∧ ((s true false).ten 1).out? 8 = none ∧ (s true false).fwRuns = true) ∧
    (let w : RingWait := { t := 1, g := 4, noteId := 9, frames := 6 };
      let s := Tests.ring fun r => { r with role := .member, waits := [w] };
      s.ring.waits.find? (fun v => v.t == 1 && v.g == 4 && v.noteId == 9) = some w ∧ w.affected = none ∧ w ∈ s.ring.waits ∧
        6 ≤ w.frames ∧ (∀ v ∈ s.ring.waits, v.t = 1 → v.g = 5 → v.frames < 6) ∧
        (∀ v ∈ s.ring.waits, v.t = 1 → v.g = 4 → v.noteId ≠ 8)) ∧
    (let o := fun n => { Tests.out 9 with ref := some (1, 4), reported := false, refused := false, frames := n };
      let s := fun n => (Tests.ring fun r => { r with role := .member }).updTen 1 fun x => { x with spilledOut := [o n] };
      o 6 ∈ ((s 6).ten 1).spilledOut ∧ (o 6).ref = some (1, 4) ∧ 6 ≤ (o 6).frames ∧
        (∀ y ∈ ((s 5).ten 1).spilledOut, y.frames < 6) ∧ (s 5).ring.waits = []) ∧
    (let h : RingHead := ⟨15, 3⟩;
      ¬ (h.unit, h.seq) ∈ Tests.up.ring.seen ∧
        (h.unit, h.seq) ∈ (Tests.ring fun r => { r with role := .member, seen := [(15, 3)] }).ring.seen) ∧
    (let c : SpillCommand := ⟨15, 1, some 4, 8, .off 0, 0, 0, 3⟩;
      c.tag = some 4 ∧ ¬ (c.origin, c.seq) ∈ Tests.up.ring.seen) := by
  refine ⟨?_, ?_, ?_, ?_, ?_, ?_, ?_⟩ <;> decide +kernel

/-! ## Witnesses: time -/

theorem witness_TimeAdvancesTheBlock :
    State.reset.strobes = false ∧ Tests.up.strobes = true ∧ Tests.up.readyL = [] ∧ Tests.up.readyB = [] ∧
    Tests.up.core.run = .running ∧ ({ Tests.up.core with run := .stopped } : Core).run = .stopped ∧
    ({ Tests.up with readyL := [.wakeConfig 3 7] } : State).readyL = [.wakeConfig 3 7] ∧
    (Tests.up.core.tide.isBoundary = true ∧ Tests.up.core.boundaryDone = false) ∧
    ({ Tests.up with readyB := [.busEnable 31 true] } : State).readyB = [.busEnable 31 true] ∧
    Tests.up.ring.slipNow = none ∧ Tests.up.ring.slipDue = none ∧
    (let v := { Tests.voice 7 with fade := .release, owner := .spilled 3 1 };
      v.retrig = none ∧ v.fade = .release ∧ v.owner = .spilled 3 1 ∧ (Tests.voice 7).fade ≠ .release ∧
        (Tests.voice 7).retrig = none ∧ (Tests.voice 7).owner = .tenant 1) ∧
    (∀ e : Option Succ, let v := { Tests.voice 7 with lane := 7, slot := 47, life := .fading 10 10, succ := e }
      (Tests.with [v]).voices.find? (fun v => v.lane == 7 && v.slot == 47) = some v ∧ v.fadeOver = true ∧ v.succ = e ∧
        (Tests.with [v]).voices.find? (fun v => v.lane == 0 && v.slot == 0) = none ∧
        ({ v with life := .fading 9 10 } : Voice).fadeOver = false) ∧
    (let s := Tests.bench.updTen 1 fun x => { x with hostLossMs := 9, lossMs := 8, hostLossAction := .mute, droppedSince := 5 };
      s.fwRuns = true ∧ (s.ten 1).st = .opened ∧ (s.ten 1).hostLossMs ≠ 0 ∧ (s.ten 1).hostLossMs ≤ (s.ten 1).lossMs + 1 ∧
        ¬ (s.ten 1).hostLossMs ≤ (s.ten 1).lossMs + 0 ∧ (s.ten 1).hostLossAction = .mute ∧ (s.ten 1).st ≠ .closed ∧ (s.ten 1).droppedSince ≠ 0 ∧
        2 ≤ (s.ten 1).cqFree ∧ (s.ten 1).events.getLsbD 1 = true ∧ (s.ten 2).droppedSince = 0 ∧
        ((s.updTen 1 fun x => { x with events := 0 }).ten 1).events.getLsbD 1 = false) ∧
    (0x3FFFFF / 0x40000 < 16 ∧ Tests.up.mem.bankSt .wave (0x3FFFFF / 0x40000) = .on ∧ ¬ 0x400000 / 0x40000 < 16 ∧
      eccBank 64 = true ∧ eccBank 63 = false ∧ Tests.up.fwRuns = true ∧ State.reset.fwRuns = false) :=
  ⟨by decide +kernel, by decide +kernel, rfl, rfl, rfl, rfl, rfl, by decide +kernel, rfl, rfl, rfl, by decide +kernel,
   fun _ => ⟨rfl, rfl, rfl, rfl, rfl⟩, by decide +kernel, by decide +kernel⟩

theorem witness_LifeCountsRunAndSurvive :
    Tests.up.fwRuns = true ∧ State.reset.fwRuns = false ∧
    Instr.powerOnReset true ∈ [Instr.powerOnReset true, .resetNAssert 0, .warmReset ⟨[], true⟩] ∧
    (⟨true, false⟩ : HwAnswer).verify = true ∧ (⟨false, false⟩ : HwAnswer).verify = false := by decide +kernel


/-! ## Worked examples: commands and outputs -/

/-- "A UMP note and a rejected batch" (Command reference): the note on is read as key 60 of part 2 at 0xC000, and the packet
after it is rejected at offset 8. -/
theorem test_ump_bench :
    parse default 0x14 [0x00, 0x3C, 0x92, 0x40, 0, 0, 0, 0xC0] = .good (.ump [.noteOn 2 60 0xC000]) 0 ∧
    parse default 0x14 [0x00, 0x3C, 0x92, 0x40, 0, 0, 0, 0xC0, 0, 0, 0xF8, 0x10] = .bad 8 := by decide +kernel

/-- "A span change during a glide" (Field outputs): the payload of the CV_CONFIG. -/
theorem test_cv_config_bench :
    parse default 0x38 [3, 1, 0, 1, 0x10, 0x27, 0, 0, 1, 0, 0, 1] = .good (.cvConfig
      { out := 3, span := 1, queue := false, glide := 1, glideVal := 10000, period := 1, latch := false,
        enable := true }) 0 := by decide +kernel

/-- "A span change during a glide": the first step of the glide and the 240th. -/
theorem test_cv_glide_bench :
    let c : CvOut := { glide := 1, glideVal := 10000, target := 0xC000, gliding := true }
    (c.glideStep 48000).code = 0x8022 ∧ (repeatN (fun c => c.glideStep 48000) 240 c).code = 0xA000 := by decide +kernel
end

section
/-! SUPPORT. PAD_RELEASE: what each output of the field die is after the release of a hold, and the proof of its statement.
A release walks over the outputs of each kind, so one law of such a walk gives every output's state. -/

namespace Sys2Proof.Machine

/-! ## A walk over numbered blocks -/

/-- A walk over numbers that changes at each number one block only leaves a block outside its range as it was. -/
theorem foldS_range_outside {α : Type} (get : State → Nat → α) (upd : State → Nat → State)
    (hother : ∀ s n m, m ≠ n → get (upd s n) m = get s m) (s : State) {k n : Nat} (hn : k ≤ n) :
    get (foldS (List.range k) s upd) n = get s n := by
  induction k with
  | zero => rfl
  | succ k ih =>
    have hne : n ≠ k := by omega
    simpa [foldS, List.range_succ, hother _ _ _ hne] using ih (by omega)

/-- A block in the range of such a walk is changed once, by the change at its number. -/
theorem foldS_range_inside {α : Type} (get : State → Nat → α) (upd : State → Nat → State) (R : Nat → α → α → Prop)
    (hsame : ∀ s n, R n (get s n) (get (upd s n) n))
    (hother : ∀ s n m, m ≠ n → get (upd s n) m = get s m) (s : State) {k n : Nat} (hn : n < k) :
    R n (get s n) (get (foldS (List.range k) s upd) n) := by
  induction k with
  | zero => omega
  | succ k ih =>
    have hstep : foldS (List.range (k + 1)) s upd = upd (foldS (List.range k) s upd) k := by
      simp [foldS, List.range_succ]
    rw [hstep]
    rcases Nat.lt_succ_iff_lt_or_eq.mp hn with hlt | rfl
    · rw [hother _ _ _ (Nat.ne_of_lt hlt)]
      exact ih hlt
    · have hbefore := foldS_range_outside get upd hother s (Nat.le_refl n)
      rw [← hbefore]
      exact hsame _ n

/-! ## The release of one output -/

/-- What a CV output or a gate was latched as: one that limited during the hold is latched off (R214). -/
def FieldHold.latchedAs (h : FieldHold) (st : OutState) (num : Nat) (latch : OutState) : OutState :=
  if st = .hizLatched ∨ h.limited.contains num then .hizLatched else latch

/-- CV output `n` after PAD_RELEASE (R215, R325). -/
def CvOut.padReleased (h : FieldHold) (cleared : Bool) (n : Nat) (c : CvOut) : CvOut :=
  let c : CvOut := { c with
    st := releasedSt (h.latchedAs c.st n (h.cvs.getD n .hiz)) c.enable cleared, code := c.target, dac := c.target,
    gliding := false }
  if c.st = .hiz ∧ c.enable = false then { c with queue := [], startAt := none, dry := false } else c

/-- Gate `n` after PAD_RELEASE. -/
def GateOut.padReleased (h : FieldHold) (cleared : Bool) (n : Nat) (o : GateOut) : GateOut :=
  { o with st := releasedSt (h.latchedAs o.st (16 + n) (h.gates.getD n .hiz)) o.enable cleared, pin := o.high }

/-- A line output after PAD_RELEASE: an enabled one goes through SAFE. -/
def LineOut.padReleased (fs : Nat) (cleared : Bool) (o : LineOut) : LineOut :=
  if o.enable && !cleared then o.mute fs
  else { o with st := .hiz, safeLeft := 0, disabling := false, limiting := false, carries := false, level := 0 }

/-- A hold that was not cleared: an output that was latched off stays so, any other follows its configuration (R215). -/
theorem releasedSt_kept (lt : OutState) (enable : Bool) : releasedSt lt enable false =
    if lt = .hizLatched then .hizLatched else if enable then .driven else .hiz := by simp [releasedSt]

theorem latchedAs_eq_hizLatched (h : FieldHold) (st : OutState) (num : Nat) (latch : OutState) :
    h.latchedAs st num latch = .hizLatched ↔ st = .hizLatched ∨ num ∈ h.limited ∨ latch = .hizLatched := by
  by_cases hl : st = .hizLatched ∨ num ∈ h.limited <;> simp [FieldHold.latchedAs, hl, ← or_assoc]

theorem cv_padReleased_st (h : FieldHold) (n : Nat) (c : CvOut) : (c.padReleased h false n).st =
    if c.st = .hizLatched ∨ n ∈ h.limited ∨ h.cvs.getD n .hiz = .hizLatched then .hizLatched
    else if c.enable then .driven else .hiz := by
  simp only [← latchedAs_eq_hizLatched, ← releasedSt_kept, CvOut.padReleased]
  split <;> rfl

theorem cv_padReleased_code (h : FieldHold) (cleared : Bool) (n : Nat) (c : CvOut) :
    (c.padReleased h cleared n).code = c.target := by
  simp only [CvOut.padReleased]; split <;> rfl

theorem cv_padReleased_target (h : FieldHold) (cleared : Bool) (n : Nat) (c : CvOut) :
    (c.padReleased h cleared n).target = c.target := by
  simp only [CvOut.padReleased]; split <;> rfl

/-- Of the outputs whose hold was not cleared, those in high impedance are disabled, so their queue is empty. -/
theorem cv_padReleased_queue (h : FieldHold) (n : Nat) (c : CvOut) : (c.padReleased h false n).queue =
    if (c.padReleased h false n).st = .hiz then [] else c.queue := by
  have hdis : releasedSt (h.latchedAs c.st n (h.cvs.getD n .hiz)) c.enable false = .hiz → c.enable = false := by
    rw [releasedSt_kept]
    split <;> simp
  simp only [CvOut.padReleased]
  split
  next hz => exact (if_pos hz.1).symm
  next hz => exact (if_neg fun e => hz ⟨e, hdis e⟩).symm

theorem gt_padReleased_st (h : FieldHold) (n : Nat) (o : GateOut) : (o.padReleased h false n).st =
    if o.st = .hizLatched ∨ 16 + n ∈ h.limited ∨ h.gates.getD n .hiz = .hizLatched then .hizLatched
    else if o.enable then .driven else .hiz := by
  simp only [← latchedAs_eq_hizLatched, ← releasedSt_kept, GateOut.padReleased]

theorem lo_padReleased_st (fs : Nat) (o : LineOut) :
    (o.padReleased fs false).st = if o.enable then .safe else .hiz := by
  cases he : o.enable <;> simp [LineOut.padReleased, he, LineOut.mute]

/-! ## The release of the field die -/

/-- The walk over the CV outputs. -/
def releaseCvs (h : FieldHold) (cleared : Bool) (s : State) : State :=
  foldS (List.range 16) s fun s n => s.updCv n (CvOut.padReleased h cleared n)

/-- The walk over the gates. -/
def releaseGts (h : FieldHold) (cleared : Bool) (s : State) : State :=
  foldS (List.range 8) s fun s n => s.updGt n (GateOut.padReleased h cleared n)

/-- The walk over the line outputs. -/
def releaseLos (cleared : Bool) (s : State) : State :=
  foldS (List.range 4) s fun s n => s.updLo n (LineOut.padReleased s.fs cleared)

/-- The field-die pads are held no more. -/
def State.fieldFree (s : State) : State := { s with field := { s.field with hold := none, holdCleared := false } }

@[simp] theorem fieldFree_cv (s : State) (n : Nat) : s.fieldFree.cv n = s.cv n := rfl
@[simp] theorem fieldFree_gt (s : State) (n : Nat) : s.fieldFree.gt n = s.gt n := rfl
@[simp] theorem fieldFree_lo (s : State) (n : Nat) : s.fieldFree.lo n = s.lo n := rfl
@[simp] theorem fieldFree_hold (s : State) : s.fieldFree.field.hold = none := rfl

/-- The release of the field die is the three walks, after which nothing is held. -/
theorem releaseField_eq (s : State) (h : FieldHold) : releaseField s h =
    (releaseLos s.field.holdCleared
      (releaseGts h s.field.holdCleared (releaseCvs h s.field.holdCleared s))).fieldFree := rfl

theorem releaseCvs_cv (h : FieldHold) (cleared : Bool) (s : State) {n : Nat} (hn : n < 16) :
    (releaseCvs h cleared s).cv n = (s.cv n).padReleased h cleared n :=
  foldS_range_inside State.cv _ (fun n c d => d = c.padReleased h cleared n) (fun s n => updCv_cv_same s n _)
    (fun s _ _ hne => updCv_cv_other s _ hne) s hn

theorem releaseGts_gt (h : FieldHold) (cleared : Bool) (s : State) {n : Nat} (hn : n < 8) :
    (releaseGts h cleared s).gt n = (s.gt n).padReleased h cleared n :=
  foldS_range_inside State.gt _ (fun n o p => p = o.padReleased h cleared n) (fun s n => updGt_gt_same s n _)
    (fun s _ _ hne => updGt_gt_other s _ hne) s hn

theorem releaseLos_lo (cleared : Bool) (s : State) {n : Nat} (hn : n < 4) :
    ∃ fs, (releaseLos cleared s).lo n = (s.lo n).padReleased fs cleared :=
  foldS_range_inside State.lo _ (fun _ o p => ∃ fs, p = o.padReleased fs cleared)
    (fun s n => ⟨s.fs, updLo_lo_same s n _⟩) (fun s _ _ hne => updLo_lo_other s _ hne) s hn

@[simp] theorem releaseCvs_gt (h : FieldHold) (cleared : Bool) (s : State) (n : Nat) :
    (releaseCvs h cleared s).gt n = s.gt n :=
  foldS_keeps (fun u => u.gt n = s.gt n) _ _ (fun u _ e => (updCv_gt u _ n _).trans e) rfl

@[simp] theorem releaseCvs_lo (h : FieldHold) (cleared : Bool) (s : State) (n : Nat) :
    (releaseCvs h cleared s).lo n = s.lo n :=
  foldS_keeps (fun u => u.lo n = s.lo n) _ _ (fun u _ e => (updCv_lo u _ n _).trans e) rfl

@[simp] theorem releaseGts_cv (h : FieldHold) (cleared : Bool) (s : State) (n : Nat) :
    (releaseGts h cleared s).cv n = s.cv n :=
  foldS_keeps (fun u => u.cv n = s.cv n) _ _ (fun u _ e => (updGt_cv u _ n _).trans e) rfl

@[simp] theorem releaseGts_lo (h : FieldHold) (cleared : Bool) (s : State) (n : Nat) :
    (releaseGts h cleared s).lo n = s.lo n :=
  foldS_keeps (fun u => u.lo n = s.lo n) _ _ (fun u _ e => (updGt_lo u _ n _).trans e) rfl

@[simp] theorem releaseLos_cv (cleared : Bool) (s : State) (n : Nat) : (releaseLos cleared s).cv n = s.cv n :=
  foldS_keeps (fun u => u.cv n = s.cv n) _ _ (fun u _ e => (updLo_cv u _ n _).trans e) rfl

@[simp] theorem releaseLos_gt (cleared : Bool) (s : State) (n : Nat) : (releaseLos cleared s).gt n = s.gt n :=
  foldS_keeps (fun u => u.gt n = s.gt n) _ _ (fun u _ e => (updLo_gt u _ n _).trans e) rfl

theorem releaseField_cv (s : State) (h : FieldHold) {n : Nat} (hn : n < 16) :
    (releaseField s h).cv n = (s.cv n).padReleased h s.field.holdCleared n := by
  simp [releaseField_eq, releaseCvs_cv _ _ _ hn]

theorem releaseField_gt (s : State) (h : FieldHold) {n : Nat} (hn : n < 8) :
    (releaseField s h).gt n = (s.gt n).padReleased h s.field.holdCleared n := by
  simp [releaseField_eq, releaseGts_gt _ _ _ hn]

theorem releaseField_lo (s : State) (h : FieldHold) {n : Nat} (hn : n < 4) :
    ∃ fs, (releaseField s h).lo n = (s.lo n).padReleased fs s.field.holdCleared := by
  simpa [releaseField_eq] using releaseLos_lo s.field.holdCleared
    (releaseGts h s.field.holdCleared (releaseCvs h s.field.holdCleared s)) hn

theorem releaseField_hold (s : State) (h : FieldHold) : (releaseField s h).field.hold = none := by
  rw [releaseField_eq, fieldFree_hold]

/-- The state with another field die. -/
def State.setField (s : State) (f : Field) : State := { s with field := f }

/-- A fold that changes the field die only leaves the rest of the state as it was. -/
theorem foldS_setField {α : Type} (l : List α) (upd : State → α → State) (h : ∀ u a, ∃ f, upd u a = u.setField f)
    (s : State) : ∃ f, foldS l s upd = s.setField f :=
  foldS_keeps (fun u => ∃ f, u = s.setField f) l upd
    (fun u a ⟨_, hu⟩ => by obtain ⟨f, hf⟩ := h u a; exact ⟨f, by rw [hf, hu]; rfl⟩) ⟨s.field, rfl⟩

/-- The release changes nothing but the field die. -/
theorem releaseField_frame (s : State) (h : FieldHold) :
    releaseField s h = { s with field := (releaseField s h).field } := by
  obtain ⟨f, hcvs⟩ : ∃ f, releaseCvs h s.field.holdCleared s = s.setField f :=
    foldS_setField _ _ (fun _ _ => ⟨_, rfl⟩) s
  obtain ⟨f', hgts⟩ : ∃ f', releaseGts h s.field.holdCleared (s.setField f) = (s.setField f).setField f' :=
    foldS_setField _ _ (fun _ _ => ⟨_, rfl⟩) _
  obtain ⟨f'', hlos⟩ : ∃ f'', releaseLos s.field.holdCleared ((s.setField f).setField f') =
      ((s.setField f).setField f').setField f'' :=
    foldS_setField _ _ (fun _ _ => ⟨_, rfl⟩) _
  rw [releaseField_eq, hcvs, hgts, hlos]
  rfl

/-! ## PAD_RELEASE lands -/

/-- The state with the engine-die pads released. -/
def State.padsFree (s : State) : State := { s with power := { s.power with pads := none } }

theorem landWrite_padRelease_free {s : State} (hh : s.field.hold = none) : landWrite s .padRelease = s.padsFree := by
  simp [landWrite, landPadRelease, State.padsFree, hh]

theorem landWrite_padRelease_held {s : State} {h : FieldHold} (hh : s.field.hold = some h) :
    landWrite s .padRelease = releaseField s.padsFree h := by
  simp [landWrite, landPadRelease, State.padsFree, hh]

/-- The execution answers which pads are held, and leaves the release to the next tick. -/
theorem exec_padRelease {s : State} {t : Tenant} {g : Tag} {c : InFlight} (h : Starts s t g c .padRelease) :
    exec (.padRelease t g) s = .next ((s.writeL .padRelease).answer t c .ok (.bytes (leBytes 2
      (bit s.power.pads.isSome 0 + bit (s.hasField && s.field.hold.isSome) 1)))) := by
  have hrow : exec (.padRelease t g) s = .next (doPadRelease s t g) :=
    congrArg Host.Outcome.next (h.onCmd _)
  rw [hrow, doPadRelease, okShort, h.finish (u := s.writeL .padRelease) _ _ rfl rfl, State.fieldHeld]

/-- Settles O38: the command by the law of completions, the landing by the law of the walk over each kind of output. -/
theorem padReleaseFreesTheHeldPads : Obligations.PadReleaseFreesTheHeldPads := by
  refine ⟨fun s t g c h => exec_padRelease h, fun s => ⟨landWrite_padRelease_free, fun h hh hkept => ?_⟩⟩
  have hcl : s.padsFree.field.holdCleared = false := hkept
  have hframe := releaseField_frame s.padsFree h
  refine ⟨_, landWrite_padRelease_held hh, ?pads, releaseField_hold _ h, fun n hn => ?cv, fun n hn => ?gate, fun n hn => ?line, hframe⟩
  case pads => rw [hframe]; rfl
  case cv =>
    rw [releaseField_cv _ _ hn, hcl]
    exact ⟨cv_padReleased_st h n _, cv_padReleased_code h _ n _, cv_padReleased_target h _ n _,
      cv_padReleased_queue h n _⟩
  case gate =>
    rw [releaseField_gt _ _ hn, hcl]
    refine ⟨rfl, fun hst hlim hheld => ?_⟩
    rw [gt_padReleased_st, if_neg]
    · rfl
    · rintro (h1 | h2 | h3)
      exacts [hst h1, hlim h2, hheld h3]
  case line =>
    obtain ⟨fs, hlo⟩ := releaseField_lo s.padsFree h hn
    rw [hlo, hcl]
    exact lo_padReleased_st fs _

end Sys2Proof.Machine
end

section
/-! SUPPORT. Block boundaries, commands that fall due, and the commands that only answer. -/

namespace Sys2Proof.Machine

/-- Settles O2: the boundary of R20 is a divisibility by 32. -/
theorem boundariesAreTheFirstTicksOfBlocks : Obligations.BoundariesAreTheFirstTicksOfBlocks := by
  intro s
  simp only [Tide.isBoundary, Bool.and_eq_true, beq_iff_eq, Nat.dvd_iff_mod_eq_zero]

/-! ## A command in flight that is marked before it completes -/

theorem bankPut_bankPut_same {α : Type} (b : Bank α) (n : Nat) (x y : α) :
    bankPut (bankPut b n x) n y = bankPut b n y := by
  induction b with
  | nil => simp [bankPut]
  | cons e r ih =>
    obtain ⟨k, v⟩ := e
    by_cases h1 : n < k
    · simp [bankPut, h1]
    · by_cases h2 : n = k
      · simp [bankPut, h2]
      · simp [bankPut, h1, h2, ih]

/-- Of two replacements of one tenant the second stays. -/
@[simp] theorem setTen_setTen (s : State) (t : Tenant) (x y : TenantSt) : (s.setTen t x).setTen t y = s.setTen t y := by
  simp only [State.setTen, bankPut_bankPut_same]

/-- A change of the command on a tag that keeps its tag is what the tag finds. -/
theorem find_updCmd {x : TenantSt} {g : Tag} {c : InFlight} (f : InFlight → InFlight) (htag : ∀ d, (f d).tag = d.tag)
    (hf : x.find g = some c) : (x.updCmd g f).find g = some (f c) := by
  have hg := find_tag hf
  have hp : ((fun d : InFlight => d.tag == g) ∘ fun d => if d.tag = g then f d else d) = fun d => d.tag == g := by
    funext d; by_cases h : d.tag = g <;> simp [h, htag]
  have hf' : x.inflight.find? (fun d => d.tag == g) = some c := hf
  rw [TenantSt.find, TenantSt.updCmd, List.find?_map, hp, hf', Option.map_some, if_pos hg]

theorem updCmd_noAbortWaits {x : TenantSt} (g : Tag) (f : InFlight → InFlight)
    (hkeep : ∀ d, (f d).phase = d.phase ∧ (f d).body = d.body) (h : x.noAbortWaits) : (x.updCmd g f).noAbortWaits := by
  intro d hd tgt
  obtain ⟨e, he, rfl⟩ := List.mem_map.mp hd
  have := h e he tgt
  split <;> simpa [hkeep] using this

/-- The completion of a command forgets how the command on its tag was marked. -/
theorem answered_updCmd (x : TenantSt) (g : Tag) (f : InFlight → InFlight) (htag : ∀ d, (f d).tag = d.tag)
    {c : InFlight} (hc : c.tag = g) (st : Status) (res : Result) (tide : Smp) :
    (x.updCmd g f).answered c st res tide = x.answered c st res tide := by
  have hi : ((x.updCmd g f).inflight.filter fun d => d.tag != c.tag) = x.inflight.filter fun d => d.tag != c.tag := by
    subst hc
    simp only [TenantSt.updCmd]
    induction x.inflight with
    | nil => rfl
    | cons d l ih => by_cases h : d.tag = c.tag <;> simp [h, htag, ih]
  simp only [TenantSt.answered, hi]
  rfl

/-- A command whose entry is marked and that then completes answers as the marked command. -/
theorem finish_updCmd {s : State} {t : Tenant} {g : Tag} {c : InFlight} (f : InFlight → InFlight)
    (hkeep : ∀ d, (f d).tag = d.tag ∧ (f d).phase = d.phase ∧ (f d).body = d.body) (hr : s.fw.restarting = false)
    (hf : (s.ten t).find g = some c) (hq : (f c).quiet = false) (ha : (s.ten t).noAbortWaits) (st : Status)
    (res : Result) : finish (s.updTen t fun x => x.updCmd g f) t g st res = s.answer t (f c) st res := by
  have hg : (f c).tag = g := (hkeep c).1.trans (find_tag hf)
  rw [finish_eq (s := s.updTen t fun x => x.updCmd g f) (c := f c) st res hr]
  · simp only [State.answer, updTen_ten_same, answered_updCmd _ _ _ (fun d => (hkeep d).1) hg]
    exact setTen_setTen ..
  · rw [updTen_ten_same]; exact find_updCmd f (fun d => (hkeep d).1) hf
  · exact hq
  · rw [updTen_ten_same]; exact updCmd_noAbortWaits g f (fun d => (hkeep d).2) ha

/-! ## Commands that fall due (R21 to R23) -/

/-- The command with its LATE flag as it stands once it is found past its tick or not. -/
def InFlight.lateIf (late : Bool) (c : InFlight) : InFlight := { c with late := c.late || late }

/-- The command's tick as a count of engine ticks. -/
def InFlight.dueNum (c : InFlight) : Nat := ({ smp := c.due, et := c.et } : Tide).num

theorem dueCmd_eq {s : State} {t : Tenant} {g : Tag} {c : InFlight} (hup : s.fwRuns = true)
    (hfree : (s.ten t).free = true) (hf : (s.ten t).find g = some c) (hp : c.phase = .scheduled)
    (hfence : (s.ten t).fenceOk c = true) :
    dueCmd s t g = if c.dueNum ≤ s.core.tide.num then some c else none := by
  by_cases h : c.dueNum ≤ s.core.tide.num
  · have hd : isDue s c = true := decide_eq_true h
    simp [dueCmd, hup, hfree, hf, hp, hfence, hd, h]
  · have hd : isDue s c = false := decide_eq_false h
    simp [dueCmd, hup, hfree, hf, hd, h]

/-- Before its tick a scheduled command stays where it is. -/
theorem commandDue_early {s : State} {t : Tenant} {g : Tag} (hw : HwAnswer) (h : dueCmd s t g = none) :
    commandDue s t g hw = s := by simp [commandDue, h]

/-- From its tick on a scheduled command runs, and is LATE when the tick is past. -/
theorem commandDue_due {s : State} {t : Tenant} {g : Tag} {c : InFlight} (hw : HwAnswer) (h : dueCmd s t g = some c) :
    commandDue s t g hw = execBody
      (s.updTen t fun x => x.updCmd g (InFlight.lateIf (decide (c.dueNum < s.core.tide.num)))) t g c hw := by
  simp only [commandDue, h]; rfl

theorem finish_lateIf {s : State} {t : Tenant} {g : Tag} {c : InFlight} (late : Bool) (hr : s.fw.restarting = false)
    (hf : (s.ten t).find g = some c) (hq : c.quiet = false) (ha : (s.ten t).noAbortWaits) (res : Result) :
    finish (s.updTen t fun x => x.updCmd g (InFlight.lateIf late)) t g .ok res = s.answer t (c.lateIf late) .ok res :=
  finish_updCmd (InFlight.lateIf late) (fun _ => ⟨rfl, rfl, rfl⟩) hr hf hq ha .ok res

theorem identity_updCmd (s : State) (t : Tenant) (g : Tag) (f : InFlight → InFlight) :
    (s.updTen t fun x => x.updCmd g f).identity t = s.identity t := by
  simp only [State.identity, updTen_ten_same]; rfl

theorem heartbeat_updCmd (s : State) (t : Tenant) (g : Tag) (f : InFlight → InFlight) :
    (s.updTen t fun x => x.updCmd g f).heartbeat t = s.heartbeat t := by
  simp only [State.heartbeat, updTen_ten_same]; rfl

/-- NOTE_OFF of a sounding note: its release waits for the next tick and the command completes. -/
theorem noteCmd_voice {s : State} {t : Tenant} {g : Tag} {id : BitVec 32} {v : Voice} {c : NoteCmd}
    (hv : s.note? t id = some v) (hc : ∀ l, c ≠ .params l) :
    noteCmd s t g id c = ok (s.writeL (.note t v.noteId c)) t g := by
  have hq : queueCmd s t v c = s.writeL (.note t v.noteId c) := by
    cases c with
    | params l => exact absurd rfl (hc l)
    | _ => rfl
  simp [noteCmd, cmdToNote, hv, hq]

/-- Settles O16: the law of due commands, and the completion of a command marked LATE. -/
theorem dueCommandsRunAsTheirRows : Obligations.DueCommandsRunAsTheirRows := by
  intro s t g hw c hup hfree hf hp hfence due now
  have hcmd := dueCmd_eq hup hfree hf hp hfence
  have hrun : due ≤ now → commandDue s t g hw = execBody
      (s.updTen t fun x => x.updCmd g (InFlight.lateIf (decide (c.dueNum < s.core.tide.num)))) t g c hw :=
    fun h => commandDue_due hw (hcmd.trans (if_pos h))
  refine ⟨fun h => congrArg _ (commandDue_early hw (hcmd.trans (if_neg (Nat.not_le.mpr h)))),
    fun h => congrArg _ (hrun h), fun h hq ha => ?_⟩
  have hr := (fwRuns_up hup).2
  have hans := finish_lateIf (decide (c.dueNum < s.core.tide.num)) hr hf hq ha
  have hrow : exec (.commandDue t g hw) s = .next (commandDue s t g hw) := rfl
  rw [hrow, hrun h]
  refine ⟨fun hb => ?nop, fun hb => ?identify, fun hb => ?heartbeat, fun id r v hb hv => ?noteOff⟩
  all_goals simp only [execBody, hb]
  case nop => exact congrArg _ (hans _)
  case identify => rw [identity_updCmd]; exact congrArg _ (hans _)
  case heartbeat => rw [heartbeat_updCmd]; exact congrArg _ (hans _)
  case noteOff =>
    rw [noteCmd_voice (s := s.updTen t _) (v := v) hv (by simp)]
    exact congrArg _ (finish_lateIf (s := s.writeL (.note t v.noteId (.off r))) _ hr hf hq ha _)

/-! ## Commands that only answer (R30, R87, Table 04-3) -/

theorem leBytes_length (n v : Nat) : (leBytes n v).length = n := by
  induction n generalizing v with
  | zero => rfl
  | succ n ih => simp [leBytes, ih]

/-- A row that runs its command's effect: what is left to say is what the effect does. -/
theorem Starts.row {s : State} {t : Tenant} {g : Tag} {c : InFlight} {b : Body} (h : Starts s t g c b)
    {f : Body → Option State} {u : State} (hf : f b = some u) :
    (.next (Machine.onCmd s t g f) : Host.Outcome State Fault Refusal) = .next u := by
  rw [h.onCmd, hf, Option.getD_some]

theorem doPropGet_cases (s : State) (t : Tenant) (g : Tag) (own : Tenant) (p : PropRef) :
    doPropGet s t g own p = finish s t g (if propRights s t own p then .ok else .noRights)
      (if propRights s t own p then .bytes (propBytes s own p) else .note 0) := by
  cases h : propRights s t own p <;> simp [doPropGet, okBytes, fail, h]

theorem identity_length (s : State) (t : Tenant) : (s.identity t).length = 32 := by
  simp [State.identity, leBytes_length]

theorem identity_take_dieId (s : State) (t : Tenant) : (s.identity t).take 8 = leBytes 8 s.fuse.dieId.toNat := by
  simp only [State.identity, List.append_assoc]
  exact List.take_left' (leBytes_length 8 _)

theorem identity_unitAddr (s : State) (t : Tenant) : (s.identity t).getD 19 0 = s.link.unitAddr.setWidth 8 := rfl

/-- Settles O17: each row is the completion of its command with what it reads. -/
theorem readingCommandsOnlyAnswer : Obligations.ReadingCommandsOnlyAnswer := by
  intro s t g c
  refine ⟨fun h => (h.row rfl).trans (congrArg _ (h.finish_self _ _)), fun h => ⟨?_, identity_length s t,
    identity_take_dieId s t, identity_unitAddr s t⟩, fun h => (h.row rfl).trans (congrArg _ (h.finish_self _ _)),
    fun own p h => ?_⟩
  · exact (h.row rfl).trans (congrArg _ (h.finish_self _ _))
  · have hrow : exec (.propGet t g) s = .next (doPropGet s t g own p) := h.row rfl
    rw [hrow, doPropGet_cases, h.finish_self]
    exact ⟨fun hr => by simp [hr], fun hr => by simp [hr]⟩

end Sys2Proof.Machine
end

section
/-! SUPPORT. Property writes: the checks at their execution, what waits for its landing, what changes at once, and the
windows that a resize moves. -/
namespace Sys2Proof.Machine

/-! ## PROP_SET at its execution (R13, R26, R28) -/

theorem doPropSet_noRights {s : State} {t own : Tenant} (g : Tag) {p : PropRef} (v : Int)
    (hr : propRights s t own p = false) : doPropSet s t g own p v = fail s t g .noRights := by
  simp [doPropSet, hr]

theorem doPropSet_busy {s : State} {t own : Tenant} {g : Tag} {p : PropRef} {v : Int}
    (hr : propRights s t own p = true) (hfit : propFits s own p v.toNat = true)
    (hs : ownerStopped s own p v.toNat t g = false) : doPropSet s t g own p v = fail s t g .busyClassX := by
  simp [doPropSet, hr, hfit, hs]

/-- A write passes the checks of its execution: rights, range, the owner of a class-X item stopped, the field die up where
the property belongs to it. -/
structure Admitted (s : State) (t own : Tenant) (g : Tag) (p : PropRef) (v : Int) : Prop where
  rights : propRights s t own p = true
  fits : propFits s own p v.toNat = true
  stopped : ownerStopped s own p v.toNat t g = true
  up : ((propRow p.kind).field && s.fieldDown) = false

theorem doPropSet_fieldDown {s : State} {t own : Tenant} {g : Tag} {p : PropRef} {v : Int}
    (hr : propRights s t own p = true) (hfit : propFits s own p v.toNat = true)
    (hs : ownerStopped s own p v.toNat t g = true) (hf : (propRow p.kind).field = true) (hd : s.field.ready = false) :
    doPropSet s t g own p v = fail s t g .fieldDown := by
  simp [doPropSet, hr, hfit, hs, hf, State.fieldDown, hd]

theorem doPropSet_classL {s : State} {t own : Tenant} {g : Tag} {p : PropRef} {v : Int} (h : Admitted s t own g p v)
    (hc : (propRow p.kind).cls = .l) : doPropSet s t g own p v = ok (s.writeL (.prop own p v)) t g := by
  simp [doPropSet, h.rights, h.fits, h.stopped, h.up, hc]

theorem doPropSet_classB {s : State} {t own : Tenant} {g : Tag} {p : PropRef} {v : Int} (h : Admitted s t own g p v)
    (hc : (propRow p.kind).cls = .b) : doPropSet s t g own p v = ok (s.writeB (.prop own p v)) t g := by
  simp [doPropSet, h.rights, h.fits, h.stopped, h.up, hc]

/-- Class X and what is cleared by writing 0 change at the execution. -/
theorem doPropSet_atOnce {s : State} {t own : Tenant} {g : Tag} {p : PropRef} {v : Int} (h : Admitted s t own g p v)
    (hc : (propRow p.kind).cls = .x ∨ (propRow p.kind).cls = .clear) : doPropSet s t g own p v =
      ok (if p.kind = .tenWindowKib then resizeWindow s own v.toNat else landProp s own p v) t g := by
  rcases hc with hc | hc <;> simp [doPropSet, h.rights, h.fits, h.stopped, h.up, hc]

theorem propRowOp_runs {s : State} {t own : Tenant} {g : Tag} {c : InFlight} {p : PropRef} {v : Int}
    (h : Starts s t g c (.propSet own p v)) {is : PropRef → Int → Bool} (his : is p v = true) :
    propRowOp s t g is = doPropSet s t g own p v := by
  rw [propRowOp, h.onCmd]; simp [his]

theorem propSet_row {s : State} {t own : Tenant} {g : Tag} {c : InFlight} {p : PropRef} {v : Int} {row : Instr}
    (h : Starts s t g c (.propSet own p v))
    (hrow : row = .propSet t g ∧ hasOwnRow p v = false ∨ row = .engRunStop t g ∧ p.kind = .engRun ∧ v = 0 ∨
      row = .engRunRun t g ∧ p.kind = .engRun ∧ v = 1 ∨ row = .tenantBeatReset t g ∧ p.kind = .tenBeatReset ∧ v = 1 ∨
      row = .tpEnableWrite t g ∧ p.kind = .tpEnable ∨ row = .gtEnableWrite t g ∧ p.kind = .gtEnable ∨
      row = .vaultTamperedClear t g ∧ p.kind = .vaultTampered) :
    exec row s = .next (doPropSet s t g own p v) := by
  rcases hrow with ⟨rfl, hk⟩ | ⟨rfl, hk, rfl⟩ | ⟨rfl, hk, rfl⟩ | ⟨rfl, hk, rfl⟩ | ⟨rfl, hk⟩ | ⟨rfl, hk⟩ | ⟨rfl, hk⟩ <;>
    exact congrArg _ (propRowOp_runs h (by simp [hk]))

/-- Settles O22: the row runs PROP_SET, whose checks come in the order of R92. -/
theorem propertyWritesWaitForTheirLanding : Obligations.PropertyWritesWaitForTheirLanding := by
  intro s t own g c p v row h hrow r
  rw [propSet_row h hrow]
  refine ⟨fun hr => ?rights, fun hr hfit hs => ?busy, fun hr hfit hs => ⟨fun hf hd => ?down, fun hf => ?_⟩⟩
  case rights => rw [doPropSet_noRights g v hr, fail, h.finish_self]
  case busy => rw [doPropSet_busy hr hfit hs, fail, h.finish_self]
  case down => rw [doPropSet_fieldDown hr hfit hs hf hd, fail, h.finish_self]
  have hup : ((propRow p.kind).field && s.fieldDown) = false := by
    cases hk : (propRow p.kind).field
    · rfl
    · simp [State.fieldDown, hf hk]
  have hadm : Admitted s t own g p v := ⟨hr, hfit, hs, hup⟩
  refine ⟨fun hc => ?classL, fun hc => ?classB⟩
  case classL => rw [doPropSet_classL hadm hc]; exact congrArg _ (h.finish (u := s.writeL (.prop own p v)) _ _ rfl rfl)
  case classB => rw [doPropSet_classB hadm hc]; exact congrArg _ (h.finish (u := s.writeB (.prop own p v)) _ _ rfl rfl)

/-! ## Class X, clearing, and the windows (R26, R28, R70, Table 03-9) -/

/-- Device properties that change at execution and that every state admits: they belong to neither a tenant nor the field
die, and have no row of their own. -/
def freeAtOnce : List PropKind := [.tideFrameOverruns, .memEccCorrected, .busClipMask]

/-- Device properties of class X whose owner is the stopped engine (R28). -/
def engineAtOnce : List PropKind := [.engFs, .engOsr, .clkSource]

theorem ofTenant_atOnce : ∀ k ∈ freeAtOnce ++ engineAtOnce, k.ofTenant = false := by decide

/-- What the table says of these properties: they change at execution, for the steward alone, on the engine die. -/
theorem propRow_atOnce : ∀ k ∈ freeAtOnce ++ engineAtOnce, ((propRow k).cls = .x ∨ (propRow k).cls = .clear) ∧
    (propRow k).rights = .steward ∧ (propRow k).field = false := by decide

theorem atOnce_fits (s : State) (own : Tenant) {k : PropKind} (i n : Nat) (hk : k ∈ freeAtOnce ++ engineAtOnce) :
    propFits s own { kind := k, i := i } n = true := by
  fin_cases hk <;> rfl

theorem atOnce_noOwnRow {k : PropKind} (i : Nat) (v : Int) (hk : k ∈ freeAtOnce ++ engineAtOnce) :
    hasOwnRow { kind := k, i := i } v = false := by
  fin_cases hk <;> rfl

theorem atOnce_landProp (s : State) (own : Tenant) {k : PropKind} (i : Nat) (v : Int)
    (hk : k ∈ freeAtOnce ++ engineAtOnce) :
    landProp s own { kind := k, i := i } v = landDevProp s { kind := k, i := i } v.toNat := by
  have ht := ofTenant_atOnce k hk
  fin_cases hk <;> simp only [landProp, ht] <;> rfl

theorem ownerStopped_engine (s : State) (own t : Tenant) (g : Tag) {k : PropKind} (i n : Nat) (hk : k ∈ engineAtOnce) :
    ownerStopped s own { kind := k, i := i } n t g = s.engStopped := by
  fin_cases hk <;> rfl

theorem ownerStopped_free (s : State) (own t : Tenant) (g : Tag) {k : PropKind} (i n : Nat) (hk : k ∈ freeAtOnce) :
    ownerStopped s own { kind := k, i := i } n t g = true := by
  fin_cases hk <;> rfl

theorem atOnce_rights (s : State) (own : Tenant) {k : PropKind} (i : Nat) (hk : k ∈ freeAtOnce ++ engineAtOnce) :
    propRights s 0 own { kind := k, i := i } = true := by
  simp [propRights, (propRow_atOnce k hk).2.1]

/-- Such a write with its owner stopped changes the property and completes. -/
theorem exec_propSet_atOnce {s u : State} {g : Tag} {c : InFlight} {k : PropKind} {i : Nat} {v : Int}
    (h : Starts s 0 g c (.propSet 0 { kind := k, i := i } v)) (hk : k ∈ freeAtOnce ++ engineAtOnce)
    (hs : ownerStopped s 0 { kind := k, i := i } v.toNat 0 g = true)
    (hland : landDevProp s { kind := k, i := i } v.toNat = u)
    (hfw : u.fw.restarting = s.fw.restarting) (hi : (u.ten 0).inflight = (s.ten 0).inflight) :
    exec (.propSet 0 g) s = .next (u.answer 0 c .ok (.note 0)) := by
  obtain ⟨hc, _, hf⟩ := propRow_atOnce k hk
  have hw : k ≠ .tenWindowKib := by rintro rfl; revert hk; decide
  rw [propSet_row h (.inl ⟨rfl, atOnce_noOwnRow i v hk⟩),
    doPropSet_atOnce ⟨atOnce_rights s 0 i hk, atOnce_fits s 0 i _ hk, hs, by rw [hf, Bool.false_and]⟩ hc, if_neg hw,
    atOnce_landProp s 0 i v hk, hland, ok, h.finish _ _ hfw hi]

/-- While the engine runs, its class-X properties are BUSY_CLASS_X. -/
theorem exec_propSet_busy {s : State} {g : Tag} {c : InFlight} {k : PropKind} {i : Nat} {v : Int}
    (h : Starts s 0 g c (.propSet 0 { kind := k, i := i } v)) (hk : k ∈ engineAtOnce) (hrun : s.core.run ≠ .stopped) :
    exec (.propSet 0 g) s = .next (s.answer 0 c .busyClassX (.note 0)) := by
  have hk' : k ∈ freeAtOnce ++ engineAtOnce := List.mem_append_right _ hk
  have hs : ownerStopped s 0 { kind := k, i := i } v.toNat 0 g = false := by
    rw [ownerStopped_engine _ _ _ _ _ _ hk]; simpa [State.engStopped] using hrun
  rw [propSet_row h (.inl ⟨rfl, atOnce_noOwnRow i v hk'⟩),
    doPropSet_busy (atOnce_rights s 0 i hk') (atOnce_fits s 0 i _ hk') hs, fail, h.finish_self]

/-! ### The windows -/

/-- Bytes left out by their address are read as absent; all others are read as before. -/
theorem bankGet_filter {α : Type} (b : Bank α) (p : Nat → Bool) (a : Nat) :
    bankGet (b.filter fun e => p e.1) a = if p a then bankGet b a else none := by
  induction b with
  | nil => simp [bankGet]
  | cons e r ih =>
    obtain ⟨k, v⟩ := e
    by_cases hka : k = a
    · subst hka
      cases hp : p k <;> simp_all [bankGet]
    · cases hp : p k <;> simp [bankGet, hp, hka, ih]

theorem memRead_below (m : Memory) (n a : Nat) :
    memRead (m.filter fun e => decide (e.1 < n)) a = if a < n then memRead m a else 0 := by
  rw [memRead, bankGet_filter m (fun k => decide (k < n)) a]
  by_cases h : a < n <;> simp [h, memRead]

/-- A change of several tenants that does no more when it is done twice. -/
theorem foldS_updTen_ten (l : List Tenant) (f : TenantSt → TenantSt) (hf : ∀ x, f (f x) = f x) (s : State) (w : Tenant) :
    (foldS l s fun s u => s.updTen u f).ten w = if w ∈ l then f (s.ten w) else s.ten w := by
  induction l generalizing s with
  | nil => simp
  | cons u l ih =>
    rw [foldS_cons, ih]
    by_cases hw : w = u
    · subst hw; by_cases hl : w ∈ l <;> simp [hl, hf]
    · simp [hw, updTen_ten_other _ _ hw]

theorem mem_allTenants : ∀ w : Tenant, w ∈ allTenants := by decide

/-- The tenant with the bytes of its window that fit into `kib` KiB. -/
def TenantSt.windowFitted (kib : Nat) (x : TenantSt) : TenantSt :=
  { x with windowKib := kib, window := x.window.filter fun e => decide (e.1 < kib * 1024) }

/-- The tenant with a window of zeros. -/
def TenantSt.windowZeroed (x : TenantSt) : TenantSt := { x with window := [] }

theorem resizeWindow_eq (s : State) (own : Tenant) (kib : Nat) : resizeWindow s own kib =
    foldS (allTenants.filter fun u => kib != (s.ten own).windowKib && decide (own.val < u.val))
      (s.updTen own (TenantSt.windowFitted kib)) fun s u => s.updTen u TenantSt.windowZeroed := rfl

/-- The tenant whose window is resized keeps the bytes that fit; the windows above it hold zeros when it moves. -/
theorem resizeWindow_ten (s : State) (own : Tenant) {kib : Nat} (hk : kib ≠ (s.ten own).windowKib) (w : Tenant) :
    (resizeWindow s own kib).ten w =
      if w = own then (s.ten own).windowFitted kib else if own < w then (s.ten w).windowZeroed else s.ten w := by
  have hm : (w ∈ allTenants.filter fun u => kib != (s.ten own).windowKib && decide (own.val < u.val)) ↔ own < w := by
    simp [mem_allTenants, hk]
  rw [resizeWindow_eq, foldS_updTen_ten _ TenantSt.windowZeroed fun _ => rfl]
  simp only [hm]
  by_cases hw : w = own
  · subst hw; simp
  · simp [hw, updTen_ten_other _ _ hw]

theorem resizeWindow_frame (s : State) (own : Tenant) (kib : Nat) :
    resizeWindow s own kib = { s with tenants := (resizeWindow s own kib).tenants } :=
  foldS_keeps (fun u => u = { s with tenants := u.tenants }) _ _ (fun u w hu => by rw [hu]; rfl) rfl

theorem exec_windowResize {s : State} {t own : Tenant} {g : Tag} {c : InFlight} {p : PropRef} {v : Int}
    (h : Starts s t g c (.propSet own p v)) (hk : p.kind = .tenWindowKib) :
    exec (.tenantWindowResize t g) s = .next (doPropSet s t g own p v) :=
  congrArg _ (propRowOp_runs h (by simp [hk]))

theorem ownerStopped_window (s : State) (own t : Tenant) (g : Tag) {p : PropRef} (n : Nat) (hk : p.kind = .tenWindowKib) :
    ownerStopped s own p n t g = windowStopped s own t g := by
  simp [ownerStopped, hk]

theorem windowKib_rights (s : State) (own : Tenant) {p : PropRef} (hk : p.kind = .tenWindowKib) :
    propRights s 0 own p = true := by
  simp [propRights, hk, propRow, mkP]

/-- Settles O23: the writes that act at once share one law, and a resize is two passes over the tenants' windows. -/
theorem classXWritesActAtOnce : Obligations.ClassXWritesActAtOnce := by
  refine ⟨fun s g c i v => ⟨fun k hk h hrun => ?busy, fun h hs => ?osr, fun h hs => ?source, fun h => ?overruns,
    fun h => ?ecc, fun h => ?clip⟩, fun s t own g c p v h hk ht hfit => ?window⟩
  case busy => exact exec_propSet_busy h (by simpa [engineAtOnce] using hk) hrun
  case osr =>
    refine exec_propSet_atOnce h (by decide) ?_ rfl rfl rfl
    rw [ownerStopped_engine _ _ _ _ _ _ (by decide)]; simp [State.engStopped, hs]
  case source =>
    refine exec_propSet_atOnce h (by decide) ?_ rfl rfl rfl
    rw [ownerStopped_engine _ _ _ _ _ _ (by decide)]; simp [State.engStopped, hs]
  case overruns => exact exec_propSet_atOnce h (by decide) (ownerStopped_free _ _ _ _ _ _ (by decide)) rfl rfl rfl
  case ecc => exact exec_propSet_atOnce h (by decide) (ownerStopped_free _ _ _ _ _ _ (by decide)) rfl rfl rfl
  case clip => exact exec_propSet_atOnce h (by decide) (ownerStopped_free _ _ _ _ _ _ (by decide)) rfl rfl rfl
  case window =>
    subst ht
    have hr := windowKib_rights s own hk
    rw [exec_windowResize h hk]
    refine ⟨fun hs => ?_, fun hs hown hkib => ?_⟩
    · rw [doPropSet_busy hr hfit ((ownerStopped_window s own 0 g _ hk).trans hs), fail, h.finish_self]
    · have hadm : Admitted s 0 own g p v :=
        ⟨hr, hfit, (ownerStopped_window s own 0 g _ hk).trans hs, by simp [hk, propRow, mkP]⟩
      have hten := resizeWindow_ten s own hkib
      have h0 : (resizeWindow s own v.toNat).ten 0 = s.ten 0 := by simp [hten, hown.symm]
      have hframe := resizeWindow_frame s own v.toNat
      rw [doPropSet_atOnce hadm (.inl (by simp [hk, propRow, mkP])), if_pos hk, ok,
        h.finish _ _ (by rw [hframe]) (by rw [h0])]
      refine ⟨_, rfl, ?kib, fun a => ?bytes, fun w hw => ?above, fun w hw h0w => ?below, ?zero, ?frame⟩
      case kib => rw [answer_ten_other _ _ _ hown, hten, if_pos rfl]; rfl
      case bytes => rw [answer_ten_other _ _ _ hown, hten, if_pos rfl]; exact memRead_below ..
      case above =>
        have hw0 : w ≠ 0 := Fin.ne_of_gt (Nat.lt_of_le_of_lt (Nat.zero_le _) hw)
        rw [answer_ten_other _ _ _ hw0, hten, if_neg (Fin.ne_of_gt hw), if_pos hw]; rfl
      case below => rw [answer_ten_other _ _ _ h0w, hten, if_neg (Fin.ne_of_lt hw), if_neg (not_lt.mpr (le_of_lt hw))]
      case zero => rw [answer_ten_same, h0, hframe]; rfl
      case frame => rw [hframe]; rfl

end Sys2Proof.Machine
end

section
/-! SUPPORT. The end of the stop fade: what it leaves of the block, and that no command stands in a schedule after it; and
the commands to one note. -/

namespace Sys2Proof.Machine

/-! ## Completions only take commands out of flight -/

/-- Every command in flight in `u` was in flight in `s`. -/
def Shrinks (s u : State) : Prop := ∀ w, ∀ d ∈ (u.ten w).inflight, d ∈ (s.ten w).inflight

theorem Shrinks.refl (s : State) : Shrinks s s := fun _ _ h => h

theorem Shrinks.trans {a b c : State} (h : Shrinks a b) (k : Shrinks b c) : Shrinks a c := fun w d hd => h w d (k w d hd)

theorem Shrinks.fold {α : Type} (l : List α) (f : State → α → State) (h : ∀ s a, Shrinks s (f s a)) (s : State) :
    Shrinks s (foldS l s f) :=
  foldS_keeps (Shrinks s) l f (fun u a hu => hu.trans (h u a)) (Shrinks.refl s)

@[simp] theorem storeEcho_inflight (x : TenantSt) (r : Rec) : (x.storeEcho r).inflight = x.inflight := by
  unfold TenantSt.storeEcho; split <;> rfl

theorem commitOne_inflight {s : State} (t : Tenant) (g : Tag) (st : Status) (res : Result)
    (hr : s.fw.restarting = false) :
    ((commitOne s t g st res).ten t).inflight = (s.ten t).inflight.filter fun d => d.tag != g := by
  cases hf : (s.ten t).find g with
  | none =>
    have hnone : ∀ d ∈ (s.ten t).inflight, (d.tag != g) = true := by simpa [TenantSt.find] using hf
    rw [commitOne_none st res hf, List.filter_eq_self.mpr hnone]
  | some c =>
    simp only [commitOne, hr, hf, Bool.false_eq_true, if_false, updTen_ten_same, storeEcho_inflight]
    split <;> rfl

theorem commitOne_ten_other {s : State} {t w : Tenant} (g : Tag) (st : Status) (res : Result) (h : w ≠ t) :
    (commitOne s t g st res).ten w = s.ten w := by
  unfold commitOne
  split
  · rfl
  · exact updTen_ten_other _ _ h

theorem commitOne_restarting {s : State} (t : Tenant) (g : Tag) (st : Status) (res : Result)
    (hr : s.fw.restarting = true) : commitOne s t g st res = s := by simp [commitOne, hr]

theorem commitOne_shrinks (s : State) (t : Tenant) (g : Tag) (st : Status) (res : Result) :
    Shrinks s (commitOne s t g st res) := by
  intro w d hd
  cases hr : s.fw.restarting with
  | true => rwa [commitOne_restarting t g st res hr] at hd
  | false =>
    by_cases hw : w = t
    · subst hw
      rw [commitOne_inflight w g st res hr] at hd
      exact List.mem_of_mem_filter hd
    · rwa [commitOne_ten_other g st res hw] at hd

theorem settleAborts_shrinks (t : Tenant) (s : State) : Shrinks s (settleAborts t s) :=
  Shrinks.fold _ _ (fun _ _ => commitOne_shrinks _ _ _ _ _) s

/-- What ran after the commit only takes further commands out of flight. -/
theorem finish_after_commit (s : State) (t : Tenant) (g : Tag) (st : Status) (res : Result) :
    Shrinks (commitOne s t g st res) (finish s t g st res) :=
  repeatN_keeps (Shrinks (commitOne s t g st res)) _ (fun u hu => hu.trans (settleAborts_shrinks t u)) _ (Shrinks.refl _)

theorem finish_shrinks (s : State) (t : Tenant) (g : Tag) (st : Status) (res : Result) :
    Shrinks s (finish s t g st res) := (commitOne_shrinks s t g st res).trans (finish_after_commit s t g st res)

/-- A completed command is in flight no more. -/
theorem finish_frees_tag {s : State} {t : Tenant} {g : Tag} (st : Status) (res : Result) (hr : s.fw.restarting = false) :
    ∀ d ∈ ((finish s t g st res).ten t).inflight, d.tag ≠ g := by
  intro d hd
  have hd' := finish_after_commit s t g st res t d hd
  rw [commitOne_inflight t g st res hr] at hd'
  simpa using List.of_mem_filter hd'

/-- Completions leave all but the tenants alone. -/
theorem finish_restarting (s : State) (t : Tenant) (g : Tag) (st : Status) (res : Result) :
    (finish s t g st res).fw = s.fw := by rw [finish_frame]

/-- The tags of a list that complete are in flight no more. -/
theorem finishAll_frees {t : Tenant} (st : Status) (res : Result) (l : List Tag) {s : State} (hr : s.fw.restarting = false) :
    ∀ d ∈ ((foldS l s fun s g => finish s t g st res).ten t).inflight, d.tag ∉ l := by
  induction l generalizing s with
  | nil => simp
  | cons g l ih =>
    intro d hd
    rw [foldS_cons] at hd
    have hlater := ih (by rw [finish_restarting]; exact hr) d hd
    have hfirst := finish_frees_tag st res hr d
      (Shrinks.fold l _ (fun _ _ => finish_shrinks _ _ _ _ _) (finish s t g st res) t d hd)
    simp [hlater, hfirst]

/-! ## Schedules that are aborted (R32) -/

/-- The scheduled commands of one tenant complete ABORTED. -/
def abortSchedule (s : State) (t : Tenant) : State :=
  foldS (s.ten t).scheduled s fun s g => finish s t g .aborted (.note 0)

theorem abortSchedules_eq (s : State) : abortSchedules s = foldS allTenants s abortSchedule := rfl

theorem abortSchedule_shrinks (s : State) (t : Tenant) : Shrinks s (abortSchedule s t) :=
  Shrinks.fold _ _ (fun _ _ => finish_shrinks _ _ _ _ _) s

theorem abortSchedule_fw (s : State) (t : Tenant) : (abortSchedule s t).fw = s.fw :=
  foldS_keeps (fun u => u.fw = s.fw) _ _ (fun u g hu => (finish_restarting u t g _ _).trans hu) rfl

theorem abortSchedule_none {s : State} (t : Tenant) (hr : s.fw.restarting = false) :
    ∀ d ∈ ((abortSchedule s t).ten t).inflight, d.phase ≠ .scheduled := by
  intro d hd hp
  refine finishAll_frees .aborted (.note 0) _ hr d hd ?_
  exact List.mem_map.mpr ⟨d, List.mem_filter.mpr ⟨abortSchedule_shrinks s t t d hd, by simp [hp]⟩, rfl⟩

theorem abortSchedules_none {s : State} (hr : s.fw.restarting = false) (t : Tenant) :
    ∀ d ∈ ((abortSchedules s).ten t).inflight, d.phase ≠ .scheduled := by
  rw [abortSchedules_eq]
  suffices h : ∀ l : List Tenant, t ∈ l → ∀ s : State, s.fw.restarting = false →
      ∀ d ∈ ((foldS l s abortSchedule).ten t).inflight, d.phase ≠ .scheduled from h _ (mem_allTenants t) s hr
  intro l
  induction l with
  | nil => simp
  | cons w l ih =>
    intro hmem s hr d hd
    have hr' : (abortSchedule s w).fw.restarting = false := by rw [abortSchedule_fw]; exact hr
    by_cases ht : t ∈ l
    · exact ih ht _ hr' d hd
    · obtain rfl : t = w := (List.mem_cons.mp hmem).resolve_right ht
      exact abortSchedule_none t hr d (Shrinks.fold l _ abortSchedule_shrinks _ t d hd)

/-! ## What the end of the fade leaves alone -/

/-- Link, MRAM, the engine's settings and tide, and the firmware's run are as they were. -/
structure KeepsCore (s u : State) : Prop where
  link : u.link = s.link
  nvm : u.nvm = s.nvm
  core : u.core = s.core
  fw : u.fw.restarting = s.fw.restarting

theorem KeepsCore.refl (s : State) : KeepsCore s s := ⟨rfl, rfl, rfl, rfl⟩

theorem KeepsCore.trans {a b c : State} (h : KeepsCore a b) (k : KeepsCore b c) : KeepsCore a c :=
  ⟨k.link.trans h.link, k.nvm.trans h.nvm, k.core.trans h.core, k.fw.trans h.fw⟩

/-- A last step after what went before it. -/
theorem KeepsCore.after {a b c : State} (k : KeepsCore b c) (h : KeepsCore a b) : KeepsCore a c := h.trans k

theorem KeepsCore.fold {α : Type} (l : List α) (f : State → α → State) (h : ∀ s a, KeepsCore s (f s a)) (s : State) :
    KeepsCore s (foldS l s f) :=
  foldS_keeps (KeepsCore s) l f (fun u a hu => hu.trans (h u a)) (KeepsCore.refl s)

theorem finish_keepsCore (s : State) (t : Tenant) (g : Tag) (st : Status) (res : Result) :
    KeepsCore s (finish s t g st res) := by rw [finish_frame]; exact ⟨rfl, rfl, rfl, rfl⟩

theorem finishRef_keepsCore (s : State) (r : Option (Tenant × Tag)) (st : Status) (res : Result) :
    KeepsCore s (finishRef s r st res) := by
  cases r with
  | none => exact KeepsCore.refl s
  | some p => exact finish_keepsCore ..

theorem holdEv_keepsCore (s : State) (k : Held) : KeepsCore s (holdEv s k) := by
  unfold holdEv; dsimp only; split <;> exact ⟨rfl, rfl, rfl, rfl⟩

theorem steward_keepsCore (s : State) (e : Event) (arg : BitVec 16) (cont : List Byte) :
    KeepsCore s (steward s e arg cont) := by
  unfold steward stewardAt
  split
  · exact holdEv_keepsCore ..
  · split <;> exact ⟨rfl, rfl, rfl, rfl⟩

theorem clearOne_keepsCore (s : State) (v : Voice) : KeepsCore s (clearOne s v) := by
  have hclear : ∀ u : State, KeepsCore u (u.clearVoice v) := fun u => ⟨rfl, rfl, rfl, rfl⟩
  unfold clearOne
  refine (hclear _).after ((finishRef_keepsCore ..).after ?_)
  split <;> exact finishRef_keepsCore ..

theorem parkLane_keepsCore (s : State) (n : Nat) : KeepsCore s (parkLane s n) := by
  unfold parkLane
  dsimp only
  split
  · exact (finishRef_keepsCore ..).after ((steward_keepsCore ..).after ⟨rfl, rfl, rfl, rfl⟩)
  · exact KeepsCore.refl s

/-- The mixer and tenants' records alone change. -/
def MixFrame (s u : State) : Prop := u = { s with mix := u.mix, tenants := u.tenants }

theorem MixFrame.refl (s : State) : MixFrame s s := rfl

theorem MixFrame.trans {a b c : State} (h : MixFrame a b) (k : MixFrame b c) : MixFrame a c := by
  unfold MixFrame at *
  rw [k, h]

/-- A last step after what went before it. -/
theorem MixFrame.after {a b c : State} (k : MixFrame b c) (h : MixFrame a b) : MixFrame a c := h.trans k

theorem MixFrame.fold {α : Type} (l : List α) (f : State → α → State) (h : ∀ s a, MixFrame s (f s a)) (s : State) :
    MixFrame s (foldS l s f) :=
  foldS_keeps (MixFrame s) l f (fun u a hu => hu.trans (h u a)) (MixFrame.refl s)

theorem MixFrame.keepsCore {s u : State} (h : MixFrame s u) : KeepsCore s u := by
  unfold MixFrame at h
  rw [h]; exact ⟨rfl, rfl, rfl, rfl⟩

theorem updBus_mixFrame (s : State) (n : Nat) (f : Bus → Bus) : MixFrame s (s.updBus n f) := rfl

theorem finish_mixFrame (s : State) (t : Tenant) (g : Tag) (st : Status) (res : Result) :
    MixFrame s (finish s t g st res) := by
  unfold MixFrame
  rw [finish_frame]

theorem finishRef_mixFrame (s : State) (r : Option (Tenant × Tag)) (st : Status) (res : Result) :
    MixFrame s (finishRef s r st res) := by
  cases r with
  | none => exact MixFrame.refl s
  | some p => exact finish_mixFrame ..

theorem startFade_mixFrame (s : State) (m : BitVec 32) : MixFrame s (startFade s m) :=
  MixFrame.fold _ _ (fun _ _ => updBus_mixFrame ..) s

theorem switchesDone_mixFrame (s : State) : MixFrame s (switchesDone s) := by
  unfold switchesDone
  exact (MixFrame.fold _ _ (fun _ _ => finishRef_mixFrame ..) _).after rfl

theorem applyWaits_mixFrame (s : State) : MixFrame s (applyWaits s) := by
  unfold applyWaits
  refine (MixFrame.fold _ _ (fun v w => ?_) _).after rfl
  split
  · rfl
  · exact (MixFrame.fold _ _ (fun _ _ => updBus_mixFrame ..) v).trans (finish_mixFrame ..)

theorem startQueued_mixFrame (s : State) (byReset : Bool) : MixFrame s (startQueued s byReset) := by
  unfold startQueued
  dsimp only
  split
  · rfl
  · exact (MixFrame.fold _ _ (fun _ _ => startFade_mixFrame ..) _).after rfl

theorem endFades_mixFrame (s : State) (l : List Nat) (byReset : Bool) : MixFrame s (endFades s l byReset) :=
  (MixFrame.fold _ _ (fun _ _ => updBus_mixFrame ..) s).trans
    ((switchesDone_mixFrame _).trans ((applyWaits_mixFrame _).trans (startQueued_mixFrame ..)))

theorem endFades_keepsCore (s : State) (l : List Nat) (byReset : Bool) : KeepsCore s (endFades s l byReset) :=
  (endFades_mixFrame ..).keepsCore

/-- The state in which the schedules are aborted at the end of the stop fade. -/
def State.stopCleared (s : State) : State := parkLanes (clearVoices (endAllFades s))

theorem stopCleared_keepsCore (s : State) : KeepsCore s s.stopCleared :=
  (endFades_keepsCore ..).trans
    ((KeepsCore.fold _ _ clearOne_keepsCore _).trans (KeepsCore.fold _ _ parkLane_keepsCore _))

theorem abortSchedules_keepsCore (s : State) : KeepsCore s (abortSchedules s) :=
  KeepsCore.fold _ _ (fun u t => KeepsCore.fold _ _ (fun v g => finish_keepsCore v t g _ _) u) s

/-- The engine stopped, with the tide at 0. -/
def State.engineStopped (s : State) : State :=
  { s with core := { s.core with run := .stopped, stopPos := 0, tide := {}, boundaryDone := false } }

theorem engineStopped_core (s : State) : s.engineStopped.core =
    { s.core with run := .stopped, stopPos := 0, tide := {}, boundaryDone := false } := rfl

@[simp] theorem engineStopped_ten (s : State) (t : Tenant) : s.engineStopped.ten t = s.ten t := rfl
@[simp] theorem engineStopped_link (s : State) : s.engineStopped.link = s.link := rfl
@[simp] theorem engineStopped_nvm (s : State) : s.engineStopped.nvm = s.nvm := rfl

theorem stopNow_eq (s : State) : stopNow s = (abortSchedules s.stopCleared).engineStopped := by
  unfold stopNow State.engineStopped State.stopCleared
  with_reducible rfl

theorem exec_busStopFadeEnd (s : State) : exec .busStopFadeEnd s =
    .next (if s.stopDue && !s.power.quiesceFade then stopNow s else s) := rfl

/-- Settles O24: what the end of the fade clears keeps the core and the processor, and every schedule is aborted. -/
theorem stopFadeEndsInAStoppedEngine : Obligations.StopFadeEndsInAStoppedEngine := by
  refine fun s => ⟨fun ⟨hrun, hpos, hquiesce, hr⟩ => ?_, fun hearly => ?_⟩
  · have hdue : s.stopDue = true := by simp [State.stopDue, hrun, hpos]
    have hcleared := stopCleared_keepsCore s
    have hkeep := hcleared.trans (abortSchedules_keepsCore s.stopCleared)
    rw [exec_busStopFadeEnd, hdue, hquiesce]
    refine ⟨stopNow s, rfl, ?_⟩
    rw [stopNow_eq, engineStopped_core, hkeep.core]
    simp only [engineStopped_ten, engineStopped_link, engineStopped_nvm, true_and]
    exact ⟨abortSchedules_none (hcleared.fw.trans hr), hkeep.link, hkeep.nvm⟩
  · have hdue : s.stopDue = false := by
      rcases hearly with h | h
      · simp [State.stopDue, h]
      · simp [State.stopDue, Nat.not_le.mpr h]
    rw [exec_busStopFadeEnd, hdue]
    rfl

/-! ## Commands to one note (R161, R284) -/

theorem noteCmd_behindFade {s : State} {t : Tenant} {g : Tag} {id : BitVec 32} {v : Voice} {k : NoteCmd}
    (hn : s.note? t id = none) (hw : s.waiting? t id = some v) : noteCmd s t g id k = ok (holdFor s v k) t g := by
  simp [noteCmd, cmdToNote, hn, hw]

theorem noteCmd_spilled {s : State} {t : Tenant} {g : Tag} {id : BitVec 32} {o : SpilledOut} {k : NoteCmd}
    (hn : s.note? t id = none) (hw : s.waiting? t id = none) (ho : (s.ten t).out? id = some o) (hr : o.refused = false) :
    noteCmd s t g id k = startLong (sendCmd s t (some g) o k none) t g := by
  simp [noteCmd, cmdToNote, hn, hw, ho, hr]

theorem noteCmd_unknown {s : State} {t : Tenant} {g : Tag} {id : BitVec 32} {k : NoteCmd}
    (hn : s.note? t id = none) (hw : s.waiting? t id = none) (ho : (s.ten t).out? id = none) :
    noteCmd s t g id k = fail s t g .notFound := by
  simp [noteCmd, cmdToNote, hn, hw, ho]

/-- The rows of NOTE_OFF and NOTE_CHANGE: each sends its command to the note it names, and none sends parameters. -/
theorem note_row {s : State} {t : Tenant} {g : Tag} {c : InFlight} {row : Instr} {b : Body} {id : BitVec 32} {k : NoteCmd}
    (hrow : (∃ r, row = .noteOff t g ∧ b = .noteOff id r ∧ k = .off r) ∨
      (∃ n, row = .noteChangeBend t g ∧ b = .noteBend id n ∧ k = .bend n) ∨
      (∃ v, row = .noteChangePressure t g ∧ b = .notePressure id v ∧ k = .pressure v) ∨
      (∃ n, row = .noteChangeRetarget t g ∧ b = .noteRetarget id n ∧ k = .retarget n)) (h : Starts s t g c b) :
    exec row s = .next (noteCmd s t g id k) ∧ ∀ l, k ≠ .params l := by
  rcases hrow with ⟨r, rfl, rfl, rfl⟩ | ⟨r, rfl, rfl, rfl⟩ | ⟨r, rfl, rfl, rfl⟩ | ⟨r, rfl, rfl, rfl⟩ <;>
    exact ⟨h.row rfl, by simp⟩

/-- Settles O26: a law of `noteCmd` for each place a note can be in, used by each of the four rows. -/
theorem noteChangesReachTheNote : Obligations.NoteChangesReachTheNote := by
  intro s t g c row b id k hrow h
  obtain ⟨hexec, hk⟩ := note_row hrow h
  rw [hexec]
  refine ⟨fun v hv => ?voice, fun v hn hw => ?fade, fun o hn hw ho hr => ?spilled, fun hn hw ho => ?unknown⟩
  case voice => rw [noteCmd_voice hv hk]; exact congrArg _ (h.finish (u := s.writeL _) _ _ rfl rfl)
  case fade => rw [noteCmd_behindFade hn hw]; exact congrArg _ (h.finish (u := holdFor s v k) _ _ rfl rfl)
  case spilled => rw [noteCmd_spilled hn hw ho hr, startLong_eq]
  case unknown => rw [noteCmd_unknown hn hw ho, fail, h.finish_self]

end Sys2Proof.Machine
end

section
/-! SUPPORT. The commands of the field outputs, the field inputs and the serial channels (Tables 04-8 to 04-10). -/

namespace Sys2Proof.Machine

/-! ## Field outputs (R106, R195, R201, R202, R208) -/

theorem Starts.fails {s : State} {t : Tenant} {g : Tag} {c : InFlight} {b : Body} (h : Starts s t g c b) (st : Status) :
    fail s t g st = s.answer t c st (.note 0) := h.finish_self st _

theorem Starts.onCmdC {s : State} {t : Tenant} {g : Tag} {c : InFlight} {b : Body} (h : Starts s t g c b)
    (f : InFlight → Option State) : Machine.onCmdC s t g f = (f c).getD s := by
  simp [Machine.onCmdC, h.start]

theorem exec_cvSet {s : State} {t : Tenant} {g : Tag} {c : InFlight} {l : List CvEntry} (h : Starts s t g c (.cvSet l)) :
    exec (.cvSet t g) s = .next (doCvSet s t g c.timed l) := by
  refine congrArg Host.Outcome.next ((h.onCmdC _).trans ?_)
  simp [h.body]

theorem exec_cvQueue {s : State} {t : Tenant} {g : Tag} {c : InFlight} {n : Fin 16} {codes : List (BitVec 16)}
    (h : Starts s t g c (.cvQueue n codes)) :
    exec (.cvQueue t g) s = .next (doCvQueue s t g (if c.timed then some c.due else none) n.val codes) := by
  refine congrArg Host.Outcome.next ((h.onCmdC _).trans ?_)
  simp [h.body]

theorem exec_gateSet {s : State} {t : Tenant} {g : Tag} {c : InFlight} {m v : BitVec 8}
    (h : Starts s t g c (.gateSet m v)) : exec (.gateSet t g) s = .next (doGateSet s t g c.timed m v) := by
  refine congrArg Host.Outcome.next ((h.onCmdC _).trans ?_)
  simp [h.body]

/-- With the field die down a command completes FIELD_DOWN. -/
theorem fieldDown_of_not_ready {s : State} (h : s.field.ready = false) : s.fieldDown = true := by
  simp [State.fieldDown, h]

theorem fieldUp_of_ready {s : State} (h : s.field.ready = true) : s.fieldDown = false := by simp [State.fieldDown, h]

theorem doCvConfig_sameMode {s : State} {t : Tenant} {g : Tag} {a : CvArgs} (hup : s.field.ready = true)
    (hq : a.queue = (s.cv a.out.val).queueMode) : doCvConfig s t g a = ok (s.writeL (.cvConfig a)) t g := by
  simp [doCvConfig, fieldUp_of_ready hup, hq]

theorem doCvConfig_otherMode {s : State} {t : Tenant} {g : Tag} {a : CvArgs} (hup : s.field.ready = true)
    (hq : a.queue ≠ (s.cv a.out.val).queueMode) : doCvConfig s t g a = if (s.cv a.out.val).st.highZ then
      ok ((s.updCv a.out.val fun x => { x with queueMode := a.queue, queue := [], startAt := none, dry := false }).writeL
        (.cvConfig a)) t g
      else fail s t g .busyClassX := by
  simp [doCvConfig, fieldUp_of_ready hup, hq]

theorem doCvSet_queued {s : State} {t : Tenant} {g : Tag} (timed : Bool) {l : List CvEntry} {off : Nat}
    (hq : queueEntry s l 0 = some off) : doCvSet s t g timed l = badField s t g off := by simp [doCvSet, hq]

theorem doCvSet_timer {s : State} {t : Tenant} {g : Tag} (timed : Bool) {l : List CvEntry} (hq : queueEntry s l 0 = none) :
    doCvSet s t g timed l = if s.fieldDown then fail s t g .fieldDown
      else ok { s with field := { s.field with pendCv := s.field.pendCv ++
        [{ timer := if timed then none else l.head?.map (·.out), entries := l }] } } t g := by
  simp [doCvSet, hq]

/-- Settles O37: each row runs its command's effect, which answers at once or leaves a write that waits. -/
theorem fieldOutputCommandsWaitForTheirUpdate : Obligations.FieldOutputCommandsWaitForTheirUpdate := by
  intro s t g c a l n codes m v la fails o k
  refine ⟨fun h => ?cvConfig, fun h => ?cvSet, fun h => ?cvQueue, fun h => ?gateSet, fun h => ?lineConfig⟩
  case cvConfig =>
    have hrow : exec (.cvConfig t g) s = .next (doCvConfig s t g a) := h.row rfl
    simp only [fails, hrow]
    refine ⟨fun hd => ?_, fun hup hq => ?_, fun hup hq hz => ?_, fun hup hq hz => ?_⟩
    · rw [doCvConfig, if_pos (fieldDown_of_not_ready hd), h.fails]; rfl
    · rw [doCvConfig_sameMode hup hq]; exact congrArg _ (h.finish (u := s.writeL _) _ _ rfl rfl)
    · rw [doCvConfig_otherMode hup hq, hz, h.fails]; rfl
    · rw [doCvConfig_otherMode hup hq, if_pos hz]
      exact congrArg _ (h.finish (u := (s.updCv _ _).writeL _) _ _ rfl rfl)
  case cvSet =>
    simp only [fails, exec_cvSet h]
    refine ⟨fun off hq => ?_, fun hq hd => ?_, fun hq hup => ?_⟩
    · rw [doCvSet_queued _ hq, badField, h.finish_self]
    · rw [doCvSet_timer _ hq, if_pos (fieldDown_of_not_ready hd), h.fails]; rfl
    · rw [doCvSet_timer _ hq, fieldUp_of_ready hup]; exact congrArg _ (h.finish _ _ rfl rfl)
  case cvQueue =>
    simp only [fails, exec_cvQueue h, doCvQueue]
    refine ⟨fun hq => ?_, fun hq hd => ?_, fun hq hup => ?_⟩
    · rw [if_pos hq, badField, h.finish_self]
    · rw [if_neg (by simpa [o] using hq), if_pos (fieldDown_of_not_ready hd), h.fails]; rfl
    · have hstart : (if c.timed then some c.due else none).getD (s.smp + 1) = if c.timed then c.due else s.smp + 1 := by
        cases c.timed <;> rfl
      rw [if_neg (by simpa [o] using hq), if_neg (by simp [fieldUp_of_ready hup]), hstart]
      exact congrArg _ (h.finish (u := s.updCv n.val _) _ _ rfl rfl)
  case gateSet =>
    simp only [fails, exec_gateSet h, doGateSet]
    refine ⟨fun hd => ?_, fun hup => ?_⟩
    · rw [if_pos (fieldDown_of_not_ready hd), h.fails]; rfl
    · rw [if_neg (by simp [fieldUp_of_ready hup])]; exact congrArg _ (h.finish _ _ rfl rfl)
  case lineConfig =>
    have hrow : exec (.lineConfig t g) s = .next (doLineConfig s t g la) := h.row rfl
    simp only [fails, hrow, doLineConfig]
    refine ⟨fun hd => ?_, fun hup => ?_⟩
    · rw [if_pos (fieldDown_of_not_ready hd), h.fails]; rfl
    · rw [if_neg (by simp [fieldUp_of_ready hup])]
      exact congrArg _ (h.finish (u := (s.writeL _).writeB _) _ _ rfl rfl)

/-! ## Field inputs (R222, R225, Table 04-9) -/

theorem foldS_writeL {α : Type} (l : List α) (f : α → Write) (s : State) :
    (foldS l s fun s a => s.writeL (f a)) = { s with pendL := s.pendL ++ l.map f } := by
  induction l generalizing s with
  | nil => simp
  | cons a l ih => rw [foldS_cons, ih]; simp [State.writeL]

theorem doKeyscanConfig_busy {s : State} {t : Tenant} {g : Tag} {mode part : Nat} {w : Tenant}
    (hup : s.field.ready = true) (hrun : s.scan.mode ≠ 0) (hm : mode ≠ 0) :
    doKeyscanConfig s t g mode w part = fail s t g .busyClassX := by
  simp [doKeyscanConfig, fieldUp_of_ready hup, hrun, hm]

theorem doKeyscanConfig_on {s : State} {t : Tenant} {g : Tag} {mode part : Nat} {w : Tenant}
    (hup : s.field.ready = true) (hoff : s.scan.mode = 0) (hm : mode ≠ 0) :
    doKeyscanConfig s t g mode w part = ok { s with scan := { s.scan with
      mode := mode, tenant := w, part := part, scan := 0, captured := false, reseed := false,
      cells := [], keys := [], senseOpen := 0, driveOpen := 0 } } t g := by
  simp [doKeyscanConfig, fieldUp_of_ready hup, hoff, hm]

/-- With no key on, OFF has no key to send a note off for. -/
theorem doKeyscanConfig_off {s : State} {t : Tenant} {g : Tag} {part : Nat} {w : Tenant}
    (hup : s.field.ready = true) (hkeys : ∀ k, (s.scan.key k).on = false) :
    doKeyscanConfig s t g 0 w part =
      ok { s with scan := { s.scan with mode := 0, tenant := w, part := part, keys := [] } } t g := by
  have hon : ((List.range s.scan.keyCount).filter fun k => (s.scan.key k).on) = [] := by simp [hkeys]
  simp [doKeyscanConfig, fieldUp_of_ready hup, hon]

/-- Settles O42: each row runs its command's effect, whose one condition beside the field die is the scanner's mode. -/
theorem inputCommandsSetTheInputs : Obligations.InputCommandsSetTheInputs := by
  intro s t g c n rank bank mode part w named down
  refine ⟨fun h => ?ci, fun h => ?scan, fun h => ?status⟩
  case ci =>
    have hrow : exec (.ciConfig t g) s = .next (doCiConfig s t g n rank bank) := h.row rfl
    simp only [down, hrow, doCiConfig]
    refine ⟨fun hd => ?_, fun hup => ?_⟩
    · rw [if_pos (fieldDown_of_not_ready hd), h.fails]
    · rw [if_neg (by simp [fieldUp_of_ready hup]), foldS_writeL]
      exact congrArg _ (h.finish _ _ rfl rfl)
  case scan =>
    have hrow : exec (.keyscanConfig t g) s = .next (doKeyscanConfig s t g mode w part) := h.row rfl
    simp only [down, hrow]
    refine ⟨fun hd => ?_, fun hup => ⟨fun hrun hm => ?_, fun hoff hm => ?_, fun hm hkeys => ?_⟩⟩
    · rw [doKeyscanConfig, if_pos (fieldDown_of_not_ready hd), h.fails]
    · rw [doKeyscanConfig_busy hup hrun hm, h.fails]
    · rw [doKeyscanConfig_on hup hoff hm]; exact congrArg _ (h.finish _ _ rfl rfl)
    · subst hm
      rw [doKeyscanConfig_off hup hkeys]; exact congrArg _ (h.finish _ _ rfl rfl)
  case status =>
    have hrow : exec (.keyscanStatus t g) s = .next (doKeyscanStatus s t g) := h.row rfl
    simp only [down, hrow, doKeyscanStatus]
    refine ⟨fun hd => ?_, fun hup => ⟨s.scan.faultBytes, leBytes_length 16 _, ?_⟩⟩
    · rw [if_pos (fieldDown_of_not_ready hd), h.fails]
    · rw [if_neg (by simp [fieldUp_of_ready hup]), okBytes, h.finish_self]

/-! ## Serial channels (R97, R107, R238, R243, R252) -/

theorem doScConfig_set {s : State} {t : Tenant} {g : Tag} {a : ScArgs} (hoff : (s.sc a.ch.val).mode = .off)
    (hcard : a.mode = .card → s.cardCh = none) :
    doScConfig s t g a = ok (s.updSc a.ch.val fun c => (c.set a).rts) t g := by
  have hfree : ¬(a.mode = .card ∧ s.cardCh.isSome = true) := fun ⟨hm, hs⟩ => by simp [hcard hm] at hs
  simp [doScConfig, hoff, hfree]

theorem doScConfig_busy {s : State} {t : Tenant} {g : Tag} {a : ScArgs} (hm : a.mode ≠ .off)
    (hbusy : (s.sc a.ch.val).mode ≠ .off ∨ a.mode = .card ∧ s.cardCh ≠ none) :
    doScConfig s t g a = fail s t g .busyClassX := by
  by_cases hrun : (s.sc a.ch.val).mode = .off
  · obtain ⟨hc, hs⟩ := hbusy.resolve_left (not_not.mpr hrun)
    have hs' : s.cardCh.isSome = true := Option.isSome_iff_ne_none.mpr hs
    simp [doScConfig, hrun, hc, hs']
  · simp [doScConfig, hm, hrun]

/-- A channel that goes OFF, before the SC_BREAKs it held complete (R238). -/
def Serial.stopped (c : Serial) : Serial :=
  { c with
    mode := .off, rx := [], tx := [], txBreak := none, rtsHigh := true, txLast := none, txWave := none, brk := .none,
    locked := false, baudN := 0, baudF := 0, overrunArmed := true, errAt := none }

theorem scOff_eq (s : State) (ch : Nat) : scOff s ch =
    foldS (s.sc ch).breakRefs (s.updSc ch Serial.stopped) fun s r => finishRef s r .ok (.note 0) := rfl

theorem doScConfig_off {s : State} {t : Tenant} {g : Tag} {a : ScArgs} (hm : a.mode = .off)
    (hrun : (s.sc a.ch.val).mode ≠ .off) (hcard : (s.sc a.ch.val).mode ≠ .card) :
    doScConfig s t g a = ok (scOff s a.ch.val) t g := by
  simp [doScConfig, hm, hrun, hcard]

/-- The state in which the channel of a card goes OFF: the session has ended and the I/O line is free. -/
def State.cardEnded (s : State) : State :=
  { cardFail s .cardAbsent with card := { (cardFail s .cardAbsent).card with ioLow := false } }

theorem doScConfig_cardOff {s : State} {t : Tenant} {g : Tag} {a : ScArgs} (hm : a.mode = .off)
    (hcard : (s.sc a.ch.val).mode = .card) : doScConfig s t g a = ok (scOff s.cardEnded a.ch.val) t g := by
  simp [doScConfig, hm, hcard, State.cardEnded]

/-- Two states that differ at most in the tenants. -/
def TenantsOnly (s u : State) : Prop := u = { s with tenants := u.tenants }

theorem TenantsOnly.refl (s : State) : TenantsOnly s s := rfl

theorem TenantsOnly.trans {a b c : State} (h : TenantsOnly a b) (k : TenantsOnly b c) : TenantsOnly a c := by
  unfold TenantsOnly at *
  rw [k, h]

theorem TenantsOnly.fold {α : Type} (l : List α) (f : State → α → State) (h : ∀ s a, TenantsOnly s (f s a)) (s : State) :
    TenantsOnly s (foldS l s f) :=
  foldS_keeps (TenantsOnly s) l f (fun u a hu => hu.trans (h u a)) (TenantsOnly.refl s)

theorem finish_tenantsOnly (s : State) (t : Tenant) (g : Tag) (st : Status) (res : Result) :
    TenantsOnly s (finish s t g st res) := finish_frame s t g st res

theorem finishRef_tenantsOnly (s : State) (r : Option (Tenant × Tag)) (st : Status) (res : Result) :
    TenantsOnly s (finishRef s r st res) := by
  cases r with
  | none => exact TenantsOnly.refl s
  | some p => exact finish_tenantsOnly s p.1 p.2 st res

theorem scOff_tenantsOnly (s : State) (ch : Nat) : TenantsOnly (s.updSc ch Serial.stopped) (scOff s ch) := by
  rw [scOff_eq]
  exact TenantsOnly.fold _ _ (fun u r => finishRef_tenantsOnly u r _ _) _

/-- Two states that differ at most in the serial channels, the card, the tenants, and what an event may touch: the
firmware's store of events and a wake. -/
def CardFrame (s u : State) : Prop :=
  u = { s with serials := u.serials, card := u.card, tenants := u.tenants, fw := u.fw, power := u.power }

theorem CardFrame.refl (s : State) : CardFrame s s := rfl

theorem CardFrame.trans {a b c : State} (h : CardFrame a b) (k : CardFrame b c) : CardFrame a c := by
  unfold CardFrame at *
  rw [k, h]

theorem TenantsOnly.cardFrame {s u : State} (h : TenantsOnly s u) : CardFrame s u := by
  unfold TenantsOnly at h
  rw [h]; rfl

theorem cardEvent_cardFrame (s : State) (v : Nat) : CardFrame s (cardEvent s v) ∧ (cardEvent s v).card = s.card := by
  obtain ⟨a, b, p, h⟩ := raiseToAt_frame s s.cardOwner .cardState (arg2 0 v) [] s.smp
  rw [cardEvent, raiseTo, h]
  exact ⟨rfl, rfl⟩

/-- What an active card becomes before the owner hears of it. -/
theorem deactivate_active {s : State} (ha : s.card.active = true) : ∃ u, deactivate s = cardEvent u 2 ∧ CardFrame s u ∧
    u.card.phase = .idle ∧ u.card.ref = s.card.ref := by
  rw [deactivate, if_pos ha]
  dsimp only
  split <;> exact ⟨_, rfl, rfl, rfl, rfl⟩

/-- A deactivated card is idle, and keeps the command it serves. -/
theorem deactivate_card (s : State) : CardFrame s (deactivate s) ∧ (deactivate s).card.phase = .idle ∧
    (deactivate s).card.ref = s.card.ref := by
  by_cases ha : s.card.active = true
  · obtain ⟨u, hu, hframe, hphase, href⟩ := deactivate_active ha
    obtain ⟨hev, hcard⟩ := cardEvent_cardFrame u 2
    rw [hu, hcard]
    exact ⟨hframe.trans hev, hphase, href⟩
  · rw [deactivate, if_neg ha]
    exact ⟨CardFrame.refl s, by simpa [Card.active] using ha, rfl⟩

/-- The card's session has ended: no command, an idle card. -/
theorem cardEnded_card (s : State) :
    CardFrame s s.cardEnded ∧ s.cardEnded.card.ref = none ∧ s.cardEnded.card.phase = .idle := by
  have hfin : TenantsOnly { s with card := { s.card with ref := none } }
      (finishRef { s with card := { s.card with ref := none } } s.card.ref .cardAbsent (.note 0)) :=
    finishRef_tenantsOnly _ _ _ _
  obtain ⟨hframe, hphase, href⟩ := deactivate_card
    (finishRef { s with card := { s.card with ref := none } } s.card.ref .cardAbsent (.note 0))
  have hfail : CardFrame s (cardFail s .cardAbsent) :=
    (show CardFrame s { s with card := { s.card with ref := none } } from rfl).trans (hfin.cardFrame.trans hframe)
  refine ⟨hfail.trans rfl, href.trans ?_, hphase⟩
  rw [hfin]

/-- Settles O45: the settings by the law of each case, OFF by the frame of a channel that stops. -/
theorem serialCommandsSetAndFeedTheChannel : Obligations.SerialCommandsSetAndFeedTheChannel := by
  intro s t g c a ch l bits d e off
  refine ⟨fun h => ?config, fun h => ?send, fun h => ?brk⟩
  case config =>
    have hrow : exec (.scConfig t g) s = .next (doScConfig s t g a) := h.row rfl
    rw [hrow]
    refine ⟨fun hoff hcard => ?set, fun hm hbusy => ?busy, fun hm hrun hcard hrefs => ?stop, fun hm hrun hcard => ?breaks,
      fun hm hcard => ?card⟩
    case set =>
      rw [doScConfig_set hoff hcard]
      exact congrArg _ (h.finish (u := s.updSc a.ch.val _) _ _ rfl rfl)
    case busy => rw [doScConfig_busy hm hbusy, h.fails]
    case stop =>
      have hstop : scOff s a.ch.val = s.updSc a.ch.val Serial.stopped := by
        rw [scOff_eq, show (s.sc a.ch.val).breakRefs = [] from hrefs]; rfl
      rw [doScConfig_off hm hrun hcard, hstop]
      exact congrArg _ (h.finish (u := s.updSc a.ch.val Serial.stopped) _ _ rfl rfl)
    case breaks =>
      rw [doScConfig_off hm hrun hcard]
      exact ⟨_, rfl, (show TenantsOnly (s.updSc a.ch.val Serial.stopped) _ from
        (scOff_tenantsOnly s a.ch.val).trans (finish_tenantsOnly ..))⟩
    case card =>
      have hstop : TenantsOnly (s.cardEnded.updSc a.ch.val Serial.stopped) (ok (scOff s.cardEnded a.ch.val) t g) :=
        (scOff_tenantsOnly s.cardEnded a.ch.val).trans (finish_tenantsOnly ..)
      have hsc : (ok (scOff s.cardEnded a.ch.val) t g).sc a.ch.val = (s.cardEnded.sc a.ch.val).stopped := by
        rw [hstop]; exact updSc_sc_same ..
      have hend : (ok (scOff s.cardEnded a.ch.val) t g).card = s.cardEnded.card := by rw [hstop]; rfl
      obtain ⟨hframe, href, hphase⟩ := cardEnded_card s
      rw [doScConfig_cardOff hm hcard]
      refine ⟨_, rfl, by rw [hsc]; rfl, by rw [hsc]; rfl, by rw [hend, href], by rw [hend, hphase], ?_⟩
      exact hframe.trans ((show CardFrame s.cardEnded (s.cardEnded.updSc a.ch.val Serial.stopped) from rfl).trans
        hstop.cardFrame)
  case send =>
    have hrow : exec (.scSend t g) s = .next (doScSend s t g ch.val l) := h.row rfl
    simp only [hrow, doScSend]
    refine ⟨fun ho => ?_, fun ho hn => ?_, fun ho hn => ?_⟩
    · rw [if_pos ho, h.fails]
    · rw [if_neg (not_not.mpr ho), if_pos hn, badField, h.finish_self]; rfl
    · rw [if_neg (not_not.mpr ho), if_neg (by simp [show (s.sc ch.val).noSend = false from hn])]
      exact congrArg _ (h.finish (u := s.updSc ch.val _) _ _ rfl rfl)
  case brk =>
    have hrow : exec (.scBreak t g) s = .next (doScBreak s t g ch.val bits) := h.row rfl
    simp only [hrow, doScBreak]
    refine ⟨fun ho => ?_, fun ho hn => ?_, fun ho hn => ?_⟩
    · rw [if_pos ho, h.fails]
    · rw [if_neg (not_not.mpr ho), if_pos hn, badField, h.finish_self]; rfl
    · rw [if_neg (not_not.mpr ho), if_neg (by simp [show (s.sc ch.val).noSend = false from hn]), startLong_eq]
      rfl

end Sys2Proof.Machine
end

section
/-! SUPPORT. Calibration and self-tests (R345 to R350): what each row leaves. -/

namespace Sys2Proof.Machine

/-! ## Trims (R345 to R349) -/

/-- The run that a trim of these targets begins: active targets are skipped unless `cal.trim_active` allows them. -/
def State.trimRun (s : State) (ref : Option (Tenant × Tag)) (l : List Nat) : TrimRun :=
  let skip := if s.cal.trimActive then [] else l.filter s.trimActive
  { ref := ref, targets := l.filter fun n => !skip.contains n, skipped := skip, limited := skip != [] }

theorem clampI_eq {lo hi : Int} (h : lo ≤ hi) (x : Int) : clampI lo hi x = min hi (max lo x) := by
  unfold clampI; split_ifs <;> omega

/-- The offset bound of a target (Table 14-5). -/
def offsetBound (n : Nat) : Int := if n < 24 then 20000 else 2000

/-- A trim that lands changes one entry: its offset is clamped and its count rises; an event may follow it. -/
theorem landTrim_lands (s : State) (m : Measured) : ∃ n a b p, landTrim s m =
      { s with cal := { s.cal with trims := bankPut s.cal.trims m.target n }, tenants := a, fw := b, power := p } ∧
    n.offset = min (offsetBound m.target) (max (-offsetBound m.target) m.offset) ∧
    n.count = (s.trim m.target).count + 1 := by
  have hbound : (trimBounds m.target).1 = offsetBound m.target := by
    unfold trimBounds offsetBound; split <;> rfl
  have hclamp : ∀ x, clampI (-(trimBounds m.target).1) (trimBounds m.target).1 x =
      min (offsetBound m.target) (max (-offsetBound m.target) x) := by
    intro x
    rw [hbound]
    exact clampI_eq (by unfold offsetBound; split <;> decide) x
  rw [← hclamp]
  unfold landTrim
  dsimp only
  split
  · obtain ⟨a, b, p, h⟩ := stewardAt_frame _ .calDrift (BitVec.ofNat 16 m.target) [] _
    exact ⟨_, a, b, p, h, rfl, rfl⟩
  · exact ⟨_, _, _, _, rfl, rfl, rfl⟩

theorem trimFound_one (r : TrimRun) (m : Measured) (h : r.targets = [m.target]) : trimFound r [m] = some [m] := by
  simp [trimFound, h]

theorem targetMask_one (n : Nat) : targetMask [n] = 2 ^ n := by simp [targetMask]

/-- The run of trims is over. -/
def State.trimOver (s : State) : State := { s with cal := { s.cal with trim := none } }

/-- A store is owed to the one that runs. -/
def State.owesStore (s : State) : State := { s with cal := { s.cal with storeOwed := true } }

theorem calRunDone_found {s : State} {t : Tenant} {g : Tag} {r : TrimRun} {m l : List Measured}
    (hr : s.cal.trim = some r) (href : r.ref = some (t, g)) (hf : trimFound r m = some l) :
    calRunDone s m = finish (foldS l s.trimOver landTrim) t g
      (if r.limited then .okLimited else .ok)
      (.bytes (leBytes 4 (targetMask r.targets) ++ leBytes 4 (targetMask r.skipped))) := by
  simp only [calRunDone, hr, href, hf]; rfl

theorem exec_calRunDone {s : State} (hup : s.fwRuns = true) (m : List Measured) :
    exec (.calRunDone m) s = .next (calRunDone s m) := congrArg _ (if_pos hup)

theorem exec_periodicTrimDone {s : State} (hup : s.fwRuns = true) (m : List Measured) :
    exec (.periodicTrimDone m) s = .next (periodicDone s m) := congrArg _ (if_pos hup)

theorem exec_calStoreDone {s : State} (hup : s.fwRuns = true) (v : Bool) :
    exec (.calStoreDone v) s = .next (calStoreDone s v) := congrArg _ (if_pos hup)

theorem exec_selftestDone {s : State} (hup : s.fwRuns = true) (b : BitVec 32) :
    exec (.selftestDone b) s = .next (selftestDone s b) := congrArg _ (if_pos hup)

/-- A trim of the run's targets has changed between two states. -/
def TrimRun.changed (r : TrimRun) (s u : State) : Bool :=
  r.targets.any fun n => (s.trim n).offset != (u.trim n).offset || (s.trim n).gain != (u.trim n).gain

/-- A periodic trim of one target: the trim lands, and a change is stored, owed to a running store, or left. -/
theorem periodicDone_one {s : State} {r : TrimRun} {m : Measured} (hr : s.cal.trim = some r) (href : r.ref = none)
    (ht : r.targets = [m.target]) : periodicDone s [m] =
      if (s.cal.autoStore && r.changed s (landTrim s.trimOver m)) = true then
        if (landTrim s.trimOver m).cal.storing.isSome then (landTrim s.trimOver m).owesStore
        else startStore (landTrim s.trimOver m) none
      else landTrim s.trimOver m := by
  simp only [periodicDone, hr, href, trimFound_one r m ht]
  rfl

theorem exec_calRun {s : State} {t : Tenant} {g : Tag} {c : InFlight} {target mask : Nat}
    (h : Starts s t g c (.calRun target mask)) : exec (.calRun t g) s = .next (doCalRun s t g target mask) := h.row rfl

theorem doCalRun_starts {s : State} {t : Tenant} {g : Tag} {target mask : Nat} (hup : s.field.ready = true)
    (hfree : s.cal.trim = none) : doCalRun s t g target mask =
      ({ s with cal := { s.cal with trim := some (s.trimRun (some (t, g)) (trimTargets target mask)) } } : State).executing
        t g := by
  simp only [doCalRun, fieldUp_of_ready hup, hfree, Option.isSome_none, Bool.false_eq_true, if_false, startLong_eq]
  rfl

theorem answers_calRun {s : State} {t : Tenant} {g : Tag} {c : InFlight} {target mask : Nat}
    (h : Starts s t g c (.calRun target mask)) (hd : s.field.ready = false) :
    exec (.calRun t g) s = .next (s.answer t c .fieldDown (.note 0)) := by
  rw [exec_calRun h, doCalRun, if_pos (fieldDown_of_not_ready hd), h.fails]

theorem calRunDone_idle {s : State} (h : s.cal.trim = none) (m : List Measured) : calRunDone s m = s := by
  simp [calRunDone, h]

theorem periodicDone_idle {s : State} (h : s.cal.trim = none) (m : List Measured) : periodicDone s m = s := by
  simp [periodicDone, h]

/-! ## CAL_STORE (R339, R340) -/

/-- The store is over. -/
def State.storeOver (s : State) : State := { s with cal := { s.cal with storing := none } }

theorem calStoreDone_ok {s : State} {t : Tenant} {g : Tag} (hs : s.cal.storing = some (some (t, g)))
    (ho : s.cal.storeOwed = false) : calStoreDone s true =
      finish { s.storeOver with nvm := { s.nvm with cal := s.nvm.cal.commit (if s.hasField then s.cal.trims else []) } }
        t g .ok (.bytes (leBytes 4 (if s.nvm.cal.target then s.nvm.cal.b else s.nvm.cal.a).seq)) := by
  simp only [calStoreDone, hs, if_true, finishRef]
  rw [if_neg]
  · rfl
  · rw [finish_frame]; simp [ho]

/-- The ECC error is counted (R303). -/
def State.eccCounted (s : State) (uncorrected : Bool) : State :=
  { s with mem := if uncorrected then { s.mem with eccUncorrected := s.mem.eccUncorrected + 1 }
                  else { s.mem with eccCorrected := s.mem.eccCorrected + 1 } }

theorem eccEvent_eq (s : State) (uncorrected : Bool) (bank : Nat) : eccEvent s uncorrected bank =
    if s.fw.eccRaised.contains ((if uncorrected then 512 else 256) + bank) then s.eccCounted uncorrected
    else steward { s.eccCounted uncorrected with
        fw := { s.fw with eccRaised := s.fw.eccRaised ++ [(if uncorrected then 512 else 256) + bank] } }
      .eccError (BitVec.ofNat 16 ((if uncorrected then 512 else 256) + bank)) [] := by
  cases uncorrected <;> rfl

/-- An ECC error is counted; its event changes no more than an event does. -/
theorem eccEvent_frame (s : State) (uncorrected : Bool) (bank : Nat) : ∃ a f p,
    eccEvent s uncorrected bank = { s.eccCounted uncorrected with tenants := a, fw := f, power := p } := by
  by_cases hc : s.fw.eccRaised.contains ((if uncorrected then 512 else 256) + bank) = true
  · exact ⟨_, _, _, by rw [eccEvent_eq, if_pos hc]⟩
  · obtain ⟨a, f, p, h⟩ := stewardAt_frame _ .eccError (BitVec.ofNat 16 ((if uncorrected then 512 else 256) + bank)) [] _
    exact ⟨a, f, p, by rw [eccEvent_eq, if_neg hc, steward, h]⟩

theorem eccEvent_cal (s : State) (uncorrected : Bool) (bank : Nat) : (eccEvent s uncorrected bank).cal = s.cal := by
  obtain ⟨a, f, p, h⟩ := eccEvent_frame s uncorrected bank
  rw [h]; rfl

theorem calStoreDone_failed {s : State} {t : Tenant} {g : Tag} (hs : s.cal.storing = some (some (t, g)))
    (ho : s.cal.storeOwed = false) :
    calStoreDone s false = finish (eccEvent s.storeOver true 64) t g .storeFailed (.note 0) := by
  simp only [calStoreDone, hs, finishRef, Bool.false_eq_true, if_false]
  rw [if_neg]
  · rfl
  · rw [finish_frame]; simp [eccEvent_cal, ho]

theorem calStoreDone_idle {s : State} (h : s.cal.storing = none) (v : Bool) : calStoreDone s v = s := by
  simp [calStoreDone, h]

theorem doCalStore_waits {s : State} (t : Tenant) (g : Tag) (h : s.cal.trim ≠ none ∨ s.cal.storing ≠ none) :
    doCalStore s t g = s := by
  have hbusy : (s.cal.trim.isSome || s.cal.storing.isSome) = true := by
    simpa [Option.isSome_iff_ne_none] using h
  simp only [doCalStore, hbusy, if_true]

theorem doCalStore_starts {s : State} (t : Tenant) (g : Tag) (ht : s.cal.trim = none) (hs : s.cal.storing = none) :
    doCalStore s t g = (startStore s (some (t, g))).executing t g := by
  simp only [doCalStore, ht, hs, Option.isSome_none, Bool.or_self, Bool.false_eq_true, if_false, startLong_eq]
  rfl

/-! ## Self-tests (R350) -/

/-- The self-test is over. -/
def State.testOver (s : State) : State := { s with cal := { s.cal with test := none } }

/-- A self-test of banks or converters reports the blocks of its mask that failed. -/
theorem selftestDone_blocks {s : State} {r : TestRun} (b : BitVec 32) (hr : s.cal.test = some r) (h0 : r.target ≠ 0)
    (h3 : r.target ≠ 3) : selftestDone s b = finish s.testOver r.t r.g
      (if b &&& r.mask = 0 then .ok else .selftestFailed) (.bytes (leBytes 4 (b &&& r.mask).toNat)) := by
  simp only [selftestDone, hr, h0, h3, or_self, if_false, foldS_nil]
  rfl

theorem maskBits_zero (n : Nat) : maskBits n 0 = [] := by simp [maskBits]

/-- A self-test of lanes that all passed raises nothing. -/
theorem selftestDone_lanesPass {s : State} {r : TestRun} {b : BitVec 32} (hr : s.cal.test = some r) (h0 : r.target = 0)
    (hpass : b &&& r.mask = 0) : selftestDone s b = finish s.testOver r.t r.g .ok (.bytes (leBytes 4 0)) := by
  have h3 : (0 : Nat) = 3 ↔ False := by decide
  simp only [selftestDone, hr, h0, h3, hpass, true_or, if_true, if_false, maskBits_zero, foldS_nil]
  rfl

theorem selftestDone_idle {s : State} (h : s.cal.test = none) (b : BitVec 32) : selftestDone s b = s := by
  simp [selftestDone, h]

/-- The self-test begins. -/
def State.testing (s : State) (r : TestRun) : State := { s with cal := { s.cal with test := some r } }

/-- The wave banks whose contents a self-test loses (Table 14-6). -/
def State.testBanks (s : State) (target : Nat) (m : BitVec 32) : List Nat :=
  if target = 1 then maskBits 16 m
  else if target = 3 then (List.range 16).filter fun n => s.mem.bankSt .wave n == .off else []

theorem exec_selftest {s : State} {t : Tenant} {g : Tag} {c : InFlight} {target : Nat} {m : BitVec 32}
    (h : Starts s t g c (.selftest target m)) : exec (.selftest t g) s = .next (doSelftest s t g target m) := h.row rfl

theorem doSelftest_down {s : State} (t : Tenant) (g : Tag) {target : Nat} (m : BitVec 32) (h2 : target = 2)
    (hd : s.field.ready = false) : doSelftest s t g target m = fail s t g .fieldDown := by
  rw [doSelftest, if_pos ⟨h2, fieldDown_of_not_ready hd⟩]

/-- The converters' test finds the field die up. -/
theorem testUp {s : State} {target : Nat} (hd : target = 2 → s.field.ready = true) :
    ¬(target = 2 ∧ s.fieldDown = true) := fun ⟨h2, hf⟩ => by simp [fieldUp_of_ready (hd h2)] at hf

theorem doSelftest_busy {s : State} (t : Tenant) (g : Tag) {target : Nat} {m : BitVec 32}
    (hd : target = 2 → s.field.ready = true) (hs : s.testStopped target m = false) :
    doSelftest s t g target m = fail s t g .busyClassX := by
  simp only [doSelftest, if_neg (testUp hd), hs, Bool.not_false, if_true]

theorem doSelftest_waits {s : State} (t : Tenant) (g : Tag) {target : Nat} {m : BitVec 32}
    (hd : target = 2 → s.field.ready = true) (hs : s.testStopped target m = true) (hbusy : s.cal.test ≠ none) :
    doSelftest s t g target m = s := by
  have hsome : s.cal.test.isSome = true := Option.isSome_iff_ne_none.mpr hbusy
  simp only [doSelftest, if_neg (testUp hd), hs, Bool.not_true, Bool.false_eq_true, if_false, hsome, if_true]

theorem doSelftest_starts {s : State} (t : Tenant) (g : Tag) {target : Nat} {m : BitVec 32}
    (hd : target = 2 → s.field.ready = true) (hs : s.testStopped target m = true) (hfree : s.cal.test = none) :
    doSelftest s t g target m = ((foldS (s.testBanks target m) s fun s n => clearBank s .wave n).testing
      { t := t, g := g, target := target, mask := m }).executing t g := by
  simp only [doSelftest, if_neg (testUp hd), hs, hfree, Bool.not_true, Option.isSome_none, Bool.false_eq_true, if_false,
    startLong_eq]
  rfl

theorem clearBanks_frame (l : List Nat) (s : State) :
    (foldS l s fun s n => clearBank s .wave n) =
      { s with mem := (foldS l s fun s n => clearBank s .wave n).mem } :=
  foldS_keeps (fun u => u = { s with mem := u.mem }) _ _ (fun u n hu => by rw [hu]; rfl) rfl

/-- The bytes of CAL_READ: offset, gain, drift, hours (Table 14-2). -/
theorem calRead_bytes (x : Trim) : x.bytes.take 8 ++ leInt 4 (x.offset - x.factoryOffset) ++ (x.bytes.drop 16).take 4 =
    leInt 4 x.offset ++ leInt 4 x.gain ++ leInt 4 (x.offset - x.factoryOffset) ++ leBytes 4 x.hours := rfl

/-- The run of one target lands its trim, and reports the masks. -/
theorem calRunDone_one {s : State} {t : Tenant} {g : Tag} {r : TrimRun} {m : Measured} (hr : s.cal.trim = some r)
    (href : r.ref = some (t, g)) (ht : r.targets = [m.target]) : calRunDone s [m] =
      finish (landTrim s.trimOver m) t g (if r.limited then .okLimited else .ok)
        (.bytes (leBytes 4 (2 ^ m.target) ++ leBytes 4 (targetMask r.skipped))) := by
  rw [calRunDone_found hr href (trimFound_one r m ht), ht, targetMask_one, foldS_cons, foldS_nil]

/-- The trim that landed, as the target's entry reads. -/
theorem landTrim_trim (s : State) (m : Measured) :
    (landTrim s m).cal.trim = s.cal.trim ∧
    ((landTrim s m).trim m.target).offset = min (offsetBound m.target) (max (-offsetBound m.target) m.offset) ∧
    ((landTrim s m).trim m.target).count = (s.trim m.target).count + 1 ∧
    landTrim s m = { s with cal := (landTrim s m).cal, tenants := (landTrim s m).tenants, fw := (landTrim s m).fw,
                            power := (landTrim s m).power } := by
  obtain ⟨n, a, b, p, hland, hoff, hcount⟩ := landTrim_lands s m
  have hn : (landTrim s m).trim m.target = n := by rw [hland]; exact bankAt_bankPut_same ..
  rw [hn]
  exact ⟨by rw [hland], hoff, hcount, by rw [hland]⟩

theorem exec_periodicTrim (s : State) (elapsed : Nat) : exec (.periodicTrim elapsed) s = .next (periodicDue s elapsed) := rfl

/-- Settles O49: one law for each row and each state of the run it finds. -/
theorem calibrationRunsAndReports : Obligations.CalibrationRunsAndReports := by
  intro s t g c target mask index b m l elapsed answers named skip run bound begun
  refine ⟨fun h => ⟨answers_calRun h, fun hup hbusy => ?calRunWaits, fun hup hfree => ?calRun⟩,
    fun hup => ⟨fun r hr href ht => ?none, fun r hr href ht => ?one, fun r hr href ht => ?periodic, fun hidle => ?idle,
      fun hs ho => ?stored, fun hs => ?noStore, fun r hr h0 h3 => ?blocks, fun r hr h0 hpass => ?lanes,
      fun hidle => ?noTest⟩,
    fun h => ?calStore, fun h => ⟨fun hd => ?calReadDown, fun hup => ?calRead⟩, fun hnot => ?early,
    fun hper hdue => ⟨fun hnap => ?nap, fun hawake hup hfield hready hfree ht => ?due⟩,
    fun h => ⟨fun h2 hd => ?testDown, fun hd hs => ?testBusy, fun hd hs => ⟨fun hbusy => ?testWaits,
      fun hfree ht => ?test, fun hfree => ?testBanks⟩⟩⟩
  case calRunWaits =>
    have hsome : s.cal.trim.isSome = true := Option.isSome_iff_ne_none.mpr hbusy
    rw [exec_calRun h, doCalRun, if_neg (by simp [fieldUp_of_ready hup]), if_pos hsome]
  case calRun => rw [exec_calRun h, doCalRun_starts hup hfree]; rfl
  case none =>
    rw [exec_calRunDone hup, calRunDone_found (l := []) hr href]
    · rw [ht]; rfl
    · simp [trimFound, ht]
  case one =>
    obtain ⟨htrim, hoff, hcount, hframe⟩ := landTrim_trim s.trimOver m
    rw [exec_calRunDone hup, calRunDone_one hr href ht]
    exact ⟨_, rfl, htrim, hoff, hcount, hframe⟩
  case periodic =>
    obtain ⟨htrim, hoff, -, hframe⟩ := landTrim_trim s.trimOver m
    rw [exec_periodicTrimDone hup, periodicDone_one hr href ht]
    refine ⟨_, rfl, ?_⟩
    split
    · split
      · exact ⟨htrim, hoff, by rw [hframe]; rfl⟩
      · exact ⟨htrim, hoff, by rw [hframe]; rfl⟩
    · exact ⟨htrim, hoff, by rw [hframe]; rfl⟩
  case idle =>
    rw [exec_calRunDone hup, exec_periodicTrimDone hup, calRunDone_idle hidle, periodicDone_idle hidle]
    exact ⟨rfl, rfl⟩
  case stored =>
    rw [exec_calStoreDone hup, exec_calStoreDone hup, calStoreDone_ok hs ho, calStoreDone_failed hs ho]
    exact ⟨rfl, rfl⟩
  case noStore => rw [exec_calStoreDone hup, calStoreDone_idle hs]
  case blocks => rw [exec_selftestDone hup, selftestDone_blocks b hr h0 h3]; rfl
  case lanes => rw [exec_selftestDone hup, selftestDone_lanesPass hr h0 hpass]; rfl
  case noTest => rw [exec_selftestDone hup, selftestDone_idle hidle]
  case calStore =>
    have hrow : exec (.calStore t g) s = .next (doCalStore s t g) := h.row rfl
    rw [hrow]
    exact ⟨fun hbusy => congrArg _ (doCalStore_waits t g hbusy), fun ht hs => congrArg _ (doCalStore_starts t g ht hs)⟩
  case calReadDown =>
    have hrow : exec (.calRead t g) s = .next (doCalRead s t g target index) := h.row rfl
    simp only [answers]
    rw [hrow, doCalRead, if_pos (fieldDown_of_not_ready hd), h.fails]
  case calRead =>
    have hrow : exec (.calRead t g) s = .next (doCalRead s t g target index) := h.row rfl
    intro x
    rw [hrow, doCalRead, if_neg (by simp [fieldUp_of_ready hup]), ← calRead_bytes]
    exact congrArg _ (h.finish_self _ _)
  case early => rw [exec_periodicTrim, periodicDue, if_pos hnot]
  case nap => rw [exec_periodicTrim, periodicDue, if_neg (by omega), if_pos hnap]
  case due =>
    subst ht
    rw [exec_periodicTrim, periodicDue, if_neg (by omega), if_neg hawake, if_pos hup]
    simp only [startPeriodic, hfield, hready, hfree, Option.isNone_none, Bool.and_self, if_true]
    rfl
  case testDown => simp only [answers]; rw [exec_selftest h, doSelftest_down t g b h2 hd, h.fails]
  case testBusy => simp only [answers]; rw [exec_selftest h, doSelftest_busy t g hd hs, h.fails]
  case testWaits => rw [exec_selftest h, doSelftest_waits t g hd hs hbusy]
  case test =>
    have hbanks : s.testBanks target b = [] := by rcases ht with rfl | rfl <;> rfl
    rw [exec_selftest h, doSelftest_starts t g hd hs hfree, hbanks, foldS_nil]
    rfl
  case testBanks =>
    rw [exec_selftest h, doSelftest_starts t g hd hs hfree, clearBanks_frame]
    exact ⟨_, rfl, rfl, rfl⟩

end Sys2Proof.Machine
end

section
/-! SUPPORT. The field die's link, supplies, the master clock, FRAME_IN and heat: what each condition changes, and the event
that tells of it. -/

namespace Sys2Proof.Machine

/-! ## What the outputs' own changes keep -/

/-- Outputs of the field die change; its link, its readiness and its fault stay, and so does all else of the block. -/
structure OutputsOnly (s u : State) : Prop where
  frame : u = s.setField u.field
  link : u.field.link = s.field.link
  ready : u.field.ready = s.field.ready
  fault : u.field.fault = s.field.fault

theorem OutputsOnly.refl (s : State) : OutputsOnly s s := ⟨rfl, rfl, rfl, rfl⟩

theorem OutputsOnly.trans {a b c : State} (h : OutputsOnly a b) (k : OutputsOnly b c) : OutputsOnly a c :=
  ⟨by rw [k.frame, h.frame]; rfl, k.link.trans h.link, k.ready.trans h.ready, k.fault.trans h.fault⟩

theorem OutputsOnly.fold {α : Type} (l : List α) (f : State → α → State) (h : ∀ s a, OutputsOnly s (f s a)) (s : State) :
    OutputsOnly s (foldS l s f) :=
  foldS_keeps (OutputsOnly s) l f (fun u a hu => hu.trans (h u a)) (OutputsOnly.refl s)

theorem updLo_outputsOnly (s : State) (n : Nat) (f : LineOut → LineOut) : OutputsOnly s (s.updLo n f) :=
  ⟨rfl, rfl, rfl, rfl⟩

theorem updCv_outputsOnly (s : State) (n : Nat) (f : CvOut → CvOut) : OutputsOnly s (s.updCv n f) :=
  ⟨rfl, rfl, rfl, rfl⟩

theorem updGt_outputsOnly (s : State) (n : Nat) (f : GateOut → GateOut) : OutputsOnly s (s.updGt n f) :=
  ⟨rfl, rfl, rfl, rfl⟩

theorem cvSwitch_outputsOnly (s : State) (a : CvArgs) : OutputsOnly s (cvSwitch s a) := by
  unfold cvSwitch; dsimp only; split <;> exact ⟨rfl, rfl, rfl, rfl⟩

theorem gtSwitch_outputsOnly (s : State) (n : Nat) (on : Bool) : OutputsOnly s (gtSwitch s n on) := by
  unfold gtSwitch
  split
  · exact OutputsOnly.refl s
  · dsimp only; split <;> exact ⟨rfl, rfl, rfl, rfl⟩

theorem landLate_outputsOnly (s : State) : OutputsOnly s (landLate s) := by
  refine OutputsOnly.trans (b := { s with field := { s.field with late := [] } }) ⟨rfl, rfl, rfl, rfl⟩
    (OutputsOnly.fold _ _ (fun u l => ?_) _)
  cases l with
  | cv a => exact cvSwitch_outputsOnly u a
  | gate n on => exact gtSwitch_outputsOnly u n on
  | line a => exact updLo_outputsOnly ..

theorem allHiz_outputsOnly (s : State) : OutputsOnly s (allHiz s) :=
  (landLate_outputsOnly s).trans ((OutputsOnly.fold _ _ (fun _ _ => updCv_outputsOnly ..) _).trans
    ((OutputsOnly.fold _ _ (fun _ _ => updGt_outputsOnly ..) _).trans
      (OutputsOnly.fold _ _ (fun _ _ => updLo_outputsOnly ..) _)))

theorem zeroLines_outputsOnly (s : State) : OutputsOnly s (zeroLines s) :=
  OutputsOnly.fold _ _ (fun _ _ => updLo_outputsOnly ..) s

theorem muteLines_outputsOnly (s : State) : OutputsOnly s (muteLines s) :=
  OutputsOnly.fold _ _ (fun _ _ => updLo_outputsOnly ..) s

theorem topUpLines_outputsOnly (s : State) : OutputsOnly s (topUpLines s) :=
  OutputsOnly.fold _ _ (fun _ _ => updLo_outputsOnly ..) s

theorem fillLines_outputsOnly (s : State) :
    OutputsOnly s (foldS (List.range 4) s fun s n => s.updLo n LineOut.fillQueue) :=
  OutputsOnly.fold _ _ (fun _ _ => updLo_outputsOnly ..) s

theorem gatePins_outputsOnly (s : State) : OutputsOnly s (gatePins s) :=
  OutputsOnly.fold _ _ (fun _ _ => updGt_outputsOnly ..) s

/-- The rank filters are inputs: nothing else changes with them. -/
theorem refillRanks_frame (s : State) : ∃ c, refillRanks s = { s with cis := c } :=
  foldS_keeps (fun u => ∃ c, u = { s with cis := c }) _ _ (fun u n ⟨_, hu⟩ => by subst hu; exact ⟨_, rfl⟩) ⟨_, rfl⟩

/-! ## What an outside condition may change -/

/-- Field die, supplies, clock and tide, scanner and CV inputs differ at most, at the same sample. -/
structure OutsideFrame (s u : State) : Prop where
  frame : u = { s with field := u.field, supply := u.supply, core := u.core, scan := u.scan, cis := u.cis }
  smp : u.smp = s.smp

theorem OutsideFrame.refl (s : State) : OutsideFrame s s := ⟨rfl, rfl⟩

theorem OutsideFrame.trans {a b c : State} (h : OutsideFrame a b) (k : OutsideFrame b c) : OutsideFrame a c :=
  ⟨by rw [k.frame, h.frame], k.smp.trans h.smp⟩

/-- A last step after what went before it. -/
theorem OutsideFrame.after {a b c : State} (k : OutsideFrame b c) (h : OutsideFrame a b) : OutsideFrame a c := h.trans k

theorem OutputsOnly.outside {s u : State} (h : OutputsOnly s u) : OutsideFrame s u := by
  rw [h.frame]; exact ⟨rfl, rfl⟩

theorem refillRanks_outside (s : State) : OutsideFrame s (refillRanks s) := by
  obtain ⟨c, h⟩ := refillRanks_frame s
  rw [h]; exact ⟨rfl, rfl⟩

/-- The steward hears of an event: beyond the condition itself, tenants, a wake and the store of events differ; the event is
kept while T0 is CLOSED. -/
def Told (s u : State) (e : Event) (arg : BitVec 16) : Prop :=
  ∃ x y z, u = { z with tenants := x, power := y } ∧ z = { s with
    field := u.field, supply := u.supply, core := u.core, scan := u.scan, cis := u.cis, fw := u.fw } ∧
    (s.fwRuns = true → (s.ten 0).st = .closed → ⟨e, arg, [], s.smp⟩ ∈ u.fw.kept)

/-- An event that is kept stands in the store. -/
theorem mem_keepEv (l : List Kept) (k : Kept) : k ∈ keepEv l k := by
  unfold keepEv
  split
  next h =>
    obtain ⟨x, hx, hk⟩ := List.any_eq_true.mp h
    exact List.mem_map.mpr ⟨x, hx, if_pos (by simpa using hk)⟩
  next => simp

/-- The steward's event leaves the condition that it tells of. -/
theorem steward_told {s v : State} (h : OutsideFrame s v) (e : Event) (arg : BitVec 16) :
    Told s (steward v e arg []) e arg ∧ (steward v e arg []).field = v.field ∧
      (steward v e arg []).supply = v.supply ∧ (steward v e arg []).core = v.core ∧
      (steward v e arg []).scan = v.scan := by
  obtain ⟨a, b, p, hs⟩ := stewardAt_frame v e arg [] v.smp
  have hs' : steward v e arg [] = { v with tenants := a, fw := b, power := p } := hs
  refine ⟨⟨a, p, { v with fw := b }, hs', ?_, fun hup hclosed => ?_⟩, ?_⟩
  · rw [hs', h.frame]
  · have hup' : v.fwRuns = true := by rw [h.frame]; exact hup
    have hclosed' : (v.ten 0).st = .closed := by rw [h.frame]; exact hclosed
    rw [steward_closed e arg [] hup' hclosed', ← h.smp]
    exact mem_keepEv _ _
  · rw [hs']; exact ⟨rfl, rfl, rfl, rfl⟩

/-! ## The field die and its link (R12, R13, R366) -/

/-- The field die as its self-test leaves it, before FIELD_READY: every line queue at its fill, the windows and keys new. -/
def State.fieldPassed (s : State) : State :=
  let u := refillRanks (foldS (List.range 4) { s with field := { s.field with ready := true, fault := none } }
    fun s n => s.updLo n LineOut.fillQueue)
  { u with scan := { u.scan with reseed := true } }

theorem fieldPass_waits {s : State} {vfUp : Bool} (h : s.hasField = false ∨ s.supply.fa = false ∨ vfUp = false ∨
    s.field.link ≠ .ok ∨ s.power.st = .hibernate ∨ s.field.ready = true) :
    fieldPass s vfUp = { s with supply := { s.supply with vf := vfUp } } := by
  refine if_neg fun hpass => ?_
  simp only [Bool.and_eq_true, beq_iff_eq, bne_iff_ne, Bool.not_eq_true'] at hpass
  obtain ⟨⟨⟨⟨⟨hf, hfa⟩, hvf⟩, hlink⟩, hst⟩, hready⟩ := hpass
  have hf' : s.hasField = true := hf
  simp_all

theorem fieldPass_ready {s : State} (hf : s.hasField = true) (hfa : s.supply.fa = true) (hlink : s.field.link = .ok)
    (hst : s.power.st ≠ .hibernate) (hready : s.field.ready = false) : fieldPass s true =
      steward { s with supply := { s.supply with vf := true } }.fieldPassed .fieldReady 0 [] := by
  refine if_pos ?_
  change (s.hasField && s.supply.fa && true && s.field.link == .ok && s.power.st != .hibernate && !s.field.ready) = true
  simp [hf, hfa, hlink, hst, hready]

theorem fieldPassed_outside (s : State) : OutsideFrame s s.fieldPassed ∧ s.fieldPassed.supply = s.supply ∧
    s.fieldPassed.field.ready = true ∧ s.fieldPassed.field.fault = none ∧ s.fieldPassed.scan.reseed = true := by
  have hlines := fillLines_outputsOnly { s with field := { s.field with ready := true, fault := none } }
  obtain ⟨c, hc⟩ := refillRanks_frame (foldS (List.range 4) { s with field := { s.field with ready := true, fault := none } }
    fun s n => s.updLo n LineOut.fillQueue)
  have hready := hlines.ready
  have hfault := hlines.fault
  unfold State.fieldPassed
  rw [hc]
  generalize foldS (List.range 4) { s with field := { s.field with ready := true, fault := none } }
    (fun s n => s.updLo n LineOut.fillQueue) = u at hlines hready hfault ⊢
  refine ⟨?_, ?_, hready, hfault, rfl⟩
  · rw [hlines.frame]; exact ⟨rfl, rfl⟩
  · rw [hlines.frame]; rfl

theorem linkSilent_stays {s : State} (h : s.field.link ≠ .ok ∨ s.hasField = false) : linkSilent s = s := by
  refine if_neg fun hs => ?_
  simp only [Bool.and_eq_true, beq_iff_eq] at hs
  rcases h with h | h
  · exact h hs.1.2
  · simp [h] at hs

theorem linkSilent_silent {s : State} (hf : s.hasField = true) (hlink : s.field.link = .ok)
    (hst : s.power.st ≠ .hibernate) : linkSilent s = zeroLines { s with field := { s.field with link := .silent } } :=
  if_pos (by simp [hf, hlink, hst])

/-- The link is up again, and what it carries follows. -/
def State.linkUp (s : State) : State :=
  { s with field := { s.field with link := .ok }, scan := { s.scan with reseed := true } }

/-- What the outputs and inputs do after the link came back. -/
def resumeField (s : State) : State := refillRanks (gatePins (landLate (muteLines s)))

theorem resumeField_outside (s : State) : OutsideFrame s (resumeField s) ∧
    (resumeField s).field.link = s.field.link ∧ (resumeField s).scan = s.scan := by
  have hout : OutputsOnly s (gatePins (landLate (muteLines s))) :=
    (muteLines_outputsOnly s).trans ((landLate_outputsOnly _).trans (gatePins_outputsOnly _))
  have houtside := hout.outside.trans (refillRanks_outside _)
  obtain ⟨c, hc⟩ := refillRanks_frame (gatePins (landLate (muteLines s)))
  refine ⟨houtside, ?_, ?_⟩
  · rw [resumeField, hc]; exact hout.link
  · rw [resumeField, hc, hout.frame]; rfl

theorem linkRecover_silent {s : State} (h : s.field.link = .silent) :
    linkRecover s = steward (resumeField (topUpLines s.linkUp)) .fieldLinkLost 1 [] := by
  simp only [linkRecover, h]; rfl

theorem linkRecover_dark {s : State} (h : s.field.link = .dark) :
    linkRecover s = steward (resumeField s.linkUp) .fieldLinkLost 0 [] := by
  simp only [linkRecover, h]; rfl

theorem linkRecover_ok {s : State} (h : s.field.link = .ok) : linkRecover s = s := by simp only [linkRecover, h]

/-- The recovery of a link that was silent or dark: the argument of its event says which. -/
theorem linkRecover_back {s : State} (h : s.field.link ≠ .ok) : ∃ v arg, linkRecover s = steward v .fieldLinkLost arg [] ∧
    (if s.field.link = .silent then 1 else 0) = arg ∧ OutsideFrame s v ∧ v.field.link = .ok ∧ v.scan.reseed = true := by
  have hup : OutsideFrame s s.linkUp := ⟨rfl, rfl⟩
  cases hl : s.field.link with
  | ok => exact absurd hl h
  | silent =>
    have htop := topUpLines_outputsOnly s.linkUp
    obtain ⟨hout, hlink, hscan⟩ := resumeField_outside (topUpLines s.linkUp)
    refine ⟨_, 1, linkRecover_silent hl, rfl, hup.trans (htop.outside.trans hout), hlink.trans htop.link, ?_⟩
    rw [hscan, htop.frame]; rfl
  | dark =>
    obtain ⟨hout, hlink, hscan⟩ := resumeField_outside s.linkUp
    exact ⟨_, 0, linkRecover_dark hl, rfl, hup.trans hout, hlink, by rw [hscan]; rfl⟩

/-- After a fault the field die is not ready, and its outputs are in high impedance. -/
def State.fieldFaulted (s : State) (cause : Nat) : State :=
  { allHiz s with
    supply := { s.supply with fa := s.supply.fa && cause != 1 }
    field := { (allHiz s).field with ready := false, fault := some cause, hold := none } }

theorem fieldFaulted_outside (s : State) (cause : Nat) : OutsideFrame s (s.fieldFaulted cause) := by
  have h := (allHiz_outputsOnly s).frame
  unfold State.fieldFaulted
  rw [h]; exact ⟨rfl, rfl⟩

theorem dieFault_faults {s : State} {cause : Nat} (hf : s.hasField = true) (hc : cause ≠ 0)
    (hfa : cause = 1 → s.supply.fa = true) (hst : s.power.st ≠ .hibernate) :
    dieFault s cause = steward (s.fieldFaulted cause) .fieldFault (BitVec.ofNat 16 cause) [] := by
  have hall := (allHiz_outputsOnly s).frame
  have hgo : ¬(s.hasField = false ∨ cause = 0 ∨ cause = 1 ∧ s.supply.fa = false) := by
    rintro (h | h | ⟨h1, h⟩)
    · simp [hf] at h
    · exact hc h
    · simp [hfa h1] at h
  have hsup : (allHiz s).supply = s.supply := by rw [hall]; rfl
  have hpow : (allHiz s).power = s.power := by rw [hall]; rfl
  rw [dieFault, if_neg hgo, fieldFault, State.fieldFaulted]
  simp only [hsup, hpow]
  rw [if_neg (by simp [hst])]

/-! ## FRAME_IN (R24) -/

/-- FRAME_EDGE tells one tenant of a captured tide. -/
def tellEdge (rising : Bool) (data : List Byte) (s : State) (t : Tenant) : State :=
  if (s.ten t).st = .opened then raiseTo s t .frameEdge (if rising then 0 else 1) data else s

/-- The tide is captured in this engine tick. -/
def State.captured (s : State) : State := { s with core := { s.core with captured := some s.core.ticks } }

theorem frameEdge_captures {s : State} {rising : Bool} (hsel : s.core.selects rising = true)
    (hst : s.power.st ≠ .hibernate) (hnew : s.core.captured ≠ some s.core.ticks) :
    frameEdge s rising =
      foldS allTenants s.captured (tellEdge rising (leBytes 6 s.smp.toNat ++ leBytes 1 s.core.tide.et ++ [0])) := by
  rw [frameEdge, if_neg (by simp [hsel, hst]), if_neg hnew]; rfl

theorem frameEdge_overrun {s : State} {rising : Bool} (hsel : s.core.selects rising = true)
    (hst : s.power.st ≠ .hibernate) (hold : s.core.captured = some s.core.ticks) :
    frameEdge s rising = { s with core := { s.core with frameOverruns := s.core.frameOverruns + 1 } } := by
  rw [frameEdge, if_neg (by simp [hsel, hst]), if_pos hold]

/-- Two states that differ at most in what an event may touch. -/
def EventFrame (s u : State) : Prop := u = { s with tenants := u.tenants, fw := u.fw, power := u.power }

theorem EventFrame.refl (s : State) : EventFrame s s := rfl

theorem EventFrame.trans {a b c : State} (h : EventFrame a b) (k : EventFrame b c) : EventFrame a c := by
  unfold EventFrame at *
  rw [k, h]

theorem EventFrame.fold {α : Type} (l : List α) (f : State → α → State) (h : ∀ s a, EventFrame s (f s a)) (s : State) :
    EventFrame s (foldS l s f) :=
  foldS_keeps (EventFrame s) l f (fun u a hu => hu.trans (h u a)) (EventFrame.refl s)

theorem raiseTo_eventFrame (s : State) (t : Tenant) (e : Event) (arg : BitVec 16) (cont : List Byte) :
    EventFrame s (raiseTo s t e arg cont) := by
  obtain ⟨a, b, p, h⟩ := raiseToAt_frame s t e arg cont s.smp
  rw [raiseTo, h]
  rfl

theorem steward_eventFrame (s : State) (e : Event) (arg : BitVec 16) (cont : List Byte) :
    EventFrame s (steward s e arg cont) := by
  obtain ⟨a, b, p, h⟩ := stewardAt_frame s e arg cont s.smp
  rw [steward, h]
  rfl

theorem TenantsOnly.eventFrame {s u : State} (h : TenantsOnly s u) : EventFrame s u := by
  unfold TenantsOnly at h
  unfold EventFrame
  rw [h]

/-- Tenants, voices, the ring's part and what the firmware is told alone change. -/
def SpillFrame (s u : State) : Prop :=
  u = { s with tenants := u.tenants, voices := u.voices, ring := u.ring, fw := u.fw, power := u.power }

theorem SpillFrame.refl (s : State) : SpillFrame s s := rfl

theorem SpillFrame.trans {a b c : State} (h : SpillFrame a b) (k : SpillFrame b c) : SpillFrame a c := by
  unfold SpillFrame at *
  rw [k, h]

/-- A last step after what went before it. -/
theorem SpillFrame.after {a b c : State} (k : SpillFrame b c) (h : SpillFrame a b) : SpillFrame a c := h.trans k

theorem SpillFrame.fold {α : Type} (l : List α) (f : State → α → State) (h : ∀ s a, SpillFrame s (f s a)) (s : State) :
    SpillFrame s (foldS l s f) :=
  foldS_keeps (SpillFrame s) l f (fun u a hu => hu.trans (h u a)) (SpillFrame.refl s)

theorem EventFrame.spill {s u : State} (h : EventFrame s u) : SpillFrame s u := by
  unfold EventFrame at h
  unfold SpillFrame
  rw [h]

theorem TenantsOnly.spill {s u : State} (h : TenantsOnly s u) : SpillFrame s u := h.eventFrame.spill

theorem ringEnded_spill (s : State) (o : Nat) (t : Tenant) (id : BitVec 32) (stolen : Bool) :
    SpillFrame s (ringEnded s o t id stolen) := by
  unfold ringEnded
  dsimp only
  split
  · rfl
  · split <;> rfl

theorem toldStolen_spill (s : State) (v : Voice) : SpillFrame s (toldStolen s v) := by
  unfold toldStolen
  split
  · exact (raiseTo_eventFrame ..).spill
  · exact ringEnded_spill ..

theorem beginFade_spill (s : State) (v : Voice) (n : Option Succ) (k : FadeKind) : SpillFrame s (beginFade s v n k) :=
  (finishRef_tenantsOnly s (v.retrig.bind (·.ref)) .ok (.note 0)).spill.trans rfl

theorem tellEdge_eventFrame (rising : Bool) (data : List Byte) (s : State) (t : Tenant) :
    EventFrame s (tellEdge rising data s t) := by
  unfold tellEdge
  split
  · exact raiseTo_eventFrame ..
  · exact EventFrame.refl s

/-- With no tenant open, nobody is told. -/
theorem tellEdges_nobody (rising : Bool) (data : List Byte) {s : State} (h : ∀ t, (s.ten t).st ≠ .opened) :
    foldS allTenants s (tellEdge rising data) = s :=
  foldS_keeps (fun u => u = s) _ _ (fun u t hu => by rw [hu]; exact if_neg (h t)) rfl

/-! ## Heat (R149, R168, Table 06-4) -/

/-- Supplies and the lanes' state are as they were. -/
structure KeepsHeat (s u : State) : Prop where
  supply : u.supply = s.supply
  alloc : u.alloc = s.alloc

theorem KeepsHeat.refl (s : State) : KeepsHeat s s := ⟨rfl, rfl⟩

theorem KeepsHeat.trans {a b c : State} (h : KeepsHeat a b) (k : KeepsHeat b c) : KeepsHeat a c :=
  ⟨k.supply.trans h.supply, k.alloc.trans h.alloc⟩

theorem EventFrame.keepsHeat {s u : State} (h : EventFrame s u) : KeepsHeat s u := by
  unfold EventFrame at h
  rw [h]; exact ⟨rfl, rfl⟩

theorem SpillFrame.keepsHeat {s u : State} (h : SpillFrame s u) : KeepsHeat s u := by
  unfold SpillFrame at h
  rw [h]; exact ⟨rfl, rfl⟩

theorem removeOne_keepsHeat (s : State) : KeepsHeat s (removeOne s) := by
  unfold removeOne
  dsimp only
  split
  · exact KeepsHeat.refl s
  · refine KeepsHeat.trans ?_ (((beginFade_spill ..).trans (toldStolen_spill ..)).keepsHeat)
    split
    · exact (finishRef_tenantsOnly ..).spill.keepsHeat
    · exact KeepsHeat.refl s

theorem removeExcess_keepsHeat (was : Nat) (s : State) : KeepsHeat s (removeExcess was s) := by
  unfold removeExcess
  split
  · exact repeatN_keeps (KeepsHeat s) _ (fun u hu => hu.trans (removeOne_keepsHeat u)) _ (KeepsHeat.refl s)
  · exact KeepsHeat.refl s

/-- The thermal state and the lanes allowed are set, whatever excess fades. -/
theorem setThermal_sets (s : State) (st : Thermal) (n : Nat) : (setThermal s st n).supply = s.supply ∧
    (setThermal s st n).alloc = { s.alloc with thermal := st, allowed := n } := by
  have h := removeExcess_keepsHeat s.ceiling { s with alloc := { s.alloc with thermal := st, allowed := n } }
  exact ⟨h.supply, h.alloc⟩

/-- The temperature is taken. -/
def State.atTemp (s : State) (tj : Int) : State := { s with supply := { s.supply with tj := tj } }

theorem thermalSample_normal {s : State} {tj : Int} (hup : s.fw.up = true) (hst : s.power.st ≠ .hibernate)
    (ha : s.alloc.thermal = .normal) : thermalSample s tj =
      if 110 ≤ tj then steward (setThermal (s.atTemp tj) .hard 2) .thermalHard 1 []
      else if 100 ≤ tj then softEvent (setThermal (s.atTemp tj) .soft 7) 7
      else s.atTemp tj := by
  rw [thermalSample, if_neg (by simp [hup, hst])]
  simp only [ha]
  rfl

theorem thermalSample_soft {s : State} {tj : Int} (hup : s.fw.up = true) (hst : s.power.st ≠ .hibernate)
    (ha : s.alloc.thermal = .soft) : thermalSample s tj =
      if 110 ≤ tj then steward (setThermal (s.atTemp tj) .hard 2) .thermalHard 1 [] else s.atTemp tj := by
  rw [thermalSample, if_neg (by simp [hup, hst])]
  simp only [ha]
  rfl

theorem thermalSample_hard {s : State} {tj : Int} (hup : s.fw.up = true) (hst : s.power.st ≠ .hibernate)
    (ha : s.alloc.thermal = .hard) : thermalSample s tj =
      if tj < 105 then softEvent (steward (setThermal (s.atTemp tj) .soft 4) .thermalHard 0 []) 4 else s.atTemp tj := by
  rw [thermalSample, if_neg (by simp [hup, hst])]
  simp only [ha]
  rfl

/-- From 110 degrees on a unit that is not HARD becomes it. -/
theorem thermalSample_hot {s : State} {tj : Int} (hup : s.fw.up = true) (hst : s.power.st ≠ .hibernate)
    (ha : s.alloc.thermal ≠ .hard) (hhot : 110 ≤ tj) :
    thermalSample s tj = steward (setThermal (s.atTemp tj) .hard 2) .thermalHard 1 [] := by
  cases hth : s.alloc.thermal with
  | normal => rw [thermalSample_normal hup hst hth, if_pos hhot]
  | soft => rw [thermalSample_soft hup hst hth, if_pos hhot]
  | hard => exact absurd hth ha

/-- The unit is in a thermal state with some lanes allowed, at a temperature. -/
structure Heated (u : State) (tj : Int) (st : Thermal) (n : Nat) : Prop where
  tj : u.supply.tj = tj
  thermal : u.alloc.thermal = st
  allowed : u.alloc.allowed = n

theorem setThermal_heated (s : State) (st : Thermal) (n : Nat) : Heated (setThermal s st n) s.supply.tj st n := by
  obtain ⟨hsupply, halloc⟩ := setThermal_sets s st n
  exact ⟨by rw [hsupply], by rw [halloc], by rw [halloc]⟩

theorem Heated.keeps {s u : State} {tj : Int} {st : Thermal} {n : Nat} (h : Heated s tj st n) (k : KeepsHeat s u) :
    Heated u tj st n :=
  ⟨by rw [k.supply, h.tj], by rw [k.alloc, h.thermal], by rw [k.alloc, h.allowed]⟩

theorem steward_keepsHeat (s : State) (e : Event) (arg : BitVec 16) (cont : List Byte) :
    KeepsHeat s (steward s e arg cont) := (steward_eventFrame ..).keepsHeat

theorem softEvent_heated (s : State) (st : Thermal) (n m : Nat) :
    Heated (softEvent (setThermal s st n) m) s.supply.tj st n :=
  (setThermal_heated s st n).keeps (steward_keepsHeat ..)

/-- Below 95 degrees a lane returns, from 100 on one goes; between them SOFT stays as it is. -/
theorem softStep_stays {s : State} (h : s.alloc.thermal ≠ .soft ∨ (95 ≤ s.supply.tj ∧ s.supply.tj < 100)) :
    softStep s = s := by
  unfold softStep
  dsimp only
  split
  next hsoft =>
    obtain ⟨hlo, hhi⟩ := h.resolve_left (not_not.mpr hsoft.1)
    rw [if_neg (by omega), if_neg (by omega)]
  next => rfl

theorem softStep_heated {s : State} (hsoft : s.alloc.thermal = .soft) (hst : s.power.st ≠ .hibernate) {n : Nat}
    {st : Thermal} (h : (100 ≤ s.supply.tj ∧ 4 < s.alloc.allowed ∧ n = s.alloc.allowed - 1 ∧ st = .soft) ∨
      (s.supply.tj < 95 ∧ 7 ≤ s.alloc.allowed ∧ n = 8 ∧ st = .normal) ∨
      (s.supply.tj < 95 ∧ s.alloc.allowed < 7 ∧ n = s.alloc.allowed + 1 ∧ st = .soft)) :
    Heated (softStep s) s.supply.tj st n := by
  rw [softStep, if_pos ⟨hsoft, hst⟩]
  rcases h with ⟨htj, ha, rfl, rfl⟩ | ⟨htj, ha, rfl, rfl⟩ | ⟨htj, ha, rfl, rfl⟩
  · rw [if_pos ⟨htj, ha⟩]; exact softEvent_heated ..
  · rw [if_neg (by omega), if_pos htj, if_pos ha]; exact softEvent_heated ..
  · rw [if_neg (by omega), if_pos htj, if_neg (by omega)]; exact softEvent_heated ..

theorem mclkLoss_lost {s : State} (hin : s.core.mclkIn = true) (hok : s.core.mclkLost = false) :
    mclkLoss s = steward (zeroLines { s with core := { s.core with mclkLost := true } }) .mclkLost 0 [] :=
  if_pos (by simp [hin, hok])

theorem mclkRestore_back {s : State} (hlost : s.core.mclkLost = true) :
    mclkRestore s = steward (muteLines { s with core := { s.core with mclkLost := false } }) .mclkRestored 0 [] :=
  if_pos hlost

/-- Settles O54: one law for each condition and each state of the block that meets it. -/
theorem outsideConditionsAreTaken : Obligations.OutsideConditionsAreTaken := by
  intro s cause rising vfUp tj f a told hot
  refine ⟨rfl, fun h => congrArg _ (fieldPass_waits h), fun hf hfa hlink hst hready => ?pass,
    fun h => congrArg _ (linkSilent_stays h), fun hf hlink hst => ?silent, fun h => congrArg _ (if_neg h),
    fun h => ?dark, fun h => ?noRecover, fun h => ?recover, fun h => ?noFault, fun hf hc hfa hst => ?fault, rfl,
    fun h => ?noLoss, fun hin hok => ?loss, fun h => ?noRestore, fun hlost => ?restore, fun h => ?noEdge,
    fun hsel hst => ⟨fun hold => congrArg _ (frameEdge_overrun hsel hst hold), fun hnew hclosed => ?edgeNobody,
      fun hnew => ?edge⟩, fun h => ?fwDown, fun hup hst => ⟨fun ha hcool => ?cool, fun ha hlo hhi => ?soft,
      fun ha hhot => ?hard, fun ha hcool => ?cooled, fun ha hhot => ?stillHard⟩,
    fun h => ?stepStays, fun hsoft hst n st h => ?step⟩
  case pass =>
    obtain ⟨hout, hsup, hrdy, hfault, hseed⟩ := fieldPassed_outside { s with supply := { s.supply with vf := true } }
    obtain ⟨htold, hfield, hsupply, -, hscan⟩ := steward_told (hout.after (a := s) ⟨rfl, rfl⟩) .fieldReady 0
    exact ⟨_, congrArg Host.Outcome.next (fieldPass_ready hf hfa hlink hst hready), by rw [hsupply, hsup],
      by rw [hfield, hrdy], by rw [hfield, hfault], by rw [hscan, hseed], htold⟩
  case silent =>
    have hout := zeroLines_outputsOnly { s with field := { s.field with link := .silent } }
    exact ⟨_, congrArg Host.Outcome.next (linkSilent_silent hf hlink hst), hout.link, hout.frame⟩
  case dark =>
    have hout := allHiz_outputsOnly { s with field := { s.field with link := .dark } }
    exact ⟨_, congrArg Host.Outcome.next (if_pos h), hout.link, hout.frame⟩
  case noRecover => exact congrArg Host.Outcome.next (linkRecover_ok h)
  case recover =>
    obtain ⟨v, arg, hrec, harg, hout, hlink, hseed⟩ := linkRecover_back h
    obtain ⟨htold, hfield, -, -, hscan⟩ := steward_told hout .fieldLinkLost arg
    exact ⟨_, congrArg Host.Outcome.next hrec, by rw [hfield, hlink], by rw [hscan, hseed], harg ▸ htold⟩
  case noFault =>
    refine congrArg Host.Outcome.next (if_pos ?_)
    rcases h with h | rfl
    · exact .inl h
    · exact .inr (.inl rfl)
  case fault =>
    have hval : cause.val ≠ 0 := fun h => hc (Fin.ext h)
    have hone : cause.val = 1 → s.supply.fa = true := fun h => hfa (Fin.ext h)
    obtain ⟨htold, hfield, hsupply, -, -⟩ :=
      steward_told (fieldFaulted_outside s cause.val) .fieldFault (BitVec.ofNat 16 cause.val)
    refine ⟨_, congrArg Host.Outcome.next (dieFault_faults hf hval hone hst), by rw [hfield]; rfl, by rw [hfield]; rfl, ?_,
      htold⟩
    rw [hsupply]
    have hone' : (cause.val != 1) = (cause != 1) := by fin_cases cause <;> rfl
    exact congrArg (s.supply.fa && ·) hone'
  case noLoss =>
    refine congrArg Host.Outcome.next (if_neg ?_)
    rcases h with h | h <;> simp [h]
  case loss =>
    have hout := zeroLines_outputsOnly { s with core := { s.core with mclkLost := true } }
    obtain ⟨htold, -, -, hcore, -⟩ := steward_told (hout.outside.after (a := s) ⟨rfl, rfl⟩) .mclkLost 0
    exact ⟨_, congrArg Host.Outcome.next (mclkLoss_lost hin hok), by rw [hcore, hout.frame]; rfl, htold⟩
  case noRestore => exact congrArg Host.Outcome.next (if_neg (by simp [h]))
  case restore =>
    have hout := muteLines_outputsOnly { s with core := { s.core with mclkLost := false } }
    obtain ⟨htold, -, -, hcore, -⟩ := steward_told (hout.outside.after (a := s) ⟨rfl, rfl⟩) .mclkRestored 0
    exact ⟨_, congrArg Host.Outcome.next (mclkRestore_back hlost), by rw [hcore, hout.frame]; rfl, htold⟩
  case noEdge => exact congrArg Host.Outcome.next (if_pos (.inl h))
  case edgeNobody =>
    refine congrArg Host.Outcome.next ((frameEdge_captures hsel hst hnew).trans ?_)
    exact tellEdges_nobody rising _ (s := s.captured) hclosed
  case edge =>
    refine ⟨_, congrArg Host.Outcome.next (frameEdge_captures hsel hst hnew), ?_⟩
    exact EventFrame.fold _ _ (tellEdge_eventFrame rising _) s.captured
  case fwDown => exact congrArg Host.Outcome.next (if_pos (.inr h))
  case cool =>
    refine congrArg Host.Outcome.next ((thermalSample_normal hup hst ha).trans ?_)
    rw [if_neg (by omega), if_neg (by omega)]
    rfl
  case soft =>
    have hheat := softEvent_heated (s.atTemp tj) .soft 7 7
    refine ⟨_, congrArg Host.Outcome.next (thermalSample_normal hup hst ha), ?_⟩
    rw [if_neg (by omega), if_pos hlo]
    exact ⟨hheat.tj, hheat.thermal, hheat.allowed⟩
  case hard =>
    have hheat := (setThermal_heated (s.atTemp tj) .hard 2).keeps (steward_keepsHeat _ .thermalHard 1 [])
    refine ⟨_, congrArg Host.Outcome.next (thermalSample_hot hup hst ha hhot), ?_⟩
    exact ⟨hheat.tj, hheat.thermal, hheat.allowed⟩
  case cooled =>
    have hheat := ((setThermal_heated (s.atTemp tj) .soft 4).keeps (steward_keepsHeat _ .thermalHard 0 [])).keeps
      (steward_keepsHeat _ .thermalSoft 4 [])
    refine ⟨_, congrArg Host.Outcome.next (thermalSample_hard hup hst ha), ?_⟩
    rw [if_pos hcool]
    exact ⟨hheat.tj, hheat.thermal, hheat.allowed⟩
  case stillHard =>
    refine congrArg Host.Outcome.next ((thermalSample_hard hup hst ha).trans ?_)
    rw [if_neg (by omega)]
    rfl
  case stepStays => exact congrArg Host.Outcome.next (softStep_stays h)
  case step =>
    have hheat := softStep_heated hsoft hst h
    exact ⟨_, rfl, hheat.thermal, hheat.allowed⟩

end Sys2Proof.Machine
end

section
/-! SUPPORT. Election, joining and leaving of the ring: what each record and each boundary does to the ring's part of the
state. -/

namespace Sys2Proof.Machine

/-! ## The firmware (R10) -/

theorem fwRuns_not_nap {s : State} (h : s.fwRuns = true) : s.power.st ≠ .nap := by
  intro hnap
  simp [State.fwRuns, hnap] at h

theorem onRing_of_role {s : State} (h : s.ring.role ≠ .standalone) : s.onRing = true := by simp [State.onRing, h]

theorem not_onRing_of_role {s : State} (h : s.ring.role = .standalone) : s.onRing = false := by simp [State.onRing, h]

/-- The ring's part of the state replaced. -/
def State.setRing (s : State) (r : Ring) : State := { s with ring := r }

theorem exec_startRecordReceived (d : BitVec 64) (fs : Nat) (s : State) : exec (.startRecordReceived d fs) s =
    .next (if s.fwRuns then startRecord s d fs else s) := rfl

theorem exec_startRecordTimer (s : State) : exec .startRecordTimer s = .next
    (if s.fwRuns && s.ring.electing.isSome then s.setRing { s.ring with starts := s.ring.starts + 1 } else s) := rfl

theorem exec_electionWindowEnd (s : State) : exec .electionWindowEnd s = .next (if s.fwRuns then windowEnd s else s) := rfl

theorem exec_keeperRecordReceived (k : KeeperRecord) (s : State) : exec (.keeperRecordReceived k) s =
    .next (if s.fwRuns then keeperRecord s k else s) := rfl

/-! ## Election (R274, R275) -/

theorem startRecord_keeper {s : State} (h : s.ring.role = .keeper) (d : BitVec 64) (fs : Nat) :
    startRecord s d fs = s.setRing { s.ring with answers := s.ring.answers + 1 } := if_pos h

theorem startRecord_higher {s : State} {d : BitVec 64} {ref : Tenant × Tag} (fs : Nat) (hrole : s.ring.role ≠ .keeper)
    (hel : s.ring.electing = some ref) (hd : s.fuse.dieId < d) (hbest : ∀ h, s.ring.higher = some h → h.1 < d) :
    startRecord s d fs = s.setRing { s.ring with higher := some (d, fs) } := by
  have hall : (s.ring.higher.all fun h => decide (h.1 < d)) = true := by
    cases hh : s.ring.higher with
    | none => rfl
    | some h => simpa using hbest h hh
  rw [startRecord, if_neg hrole, if_pos ⟨by rw [hel]; rfl, hd, hall⟩]
  rfl

theorem startRecord_ignored {s : State} {d : BitVec 64} (fs : Nat) (hrole : s.ring.role ≠ .keeper)
    (h : s.ring.electing = none ∨ d ≤ s.fuse.dieId ∨ ∃ h, s.ring.higher = some h ∧ d ≤ h.1) : startRecord s d fs = s := by
  rw [startRecord, if_neg hrole, if_neg]
  rintro ⟨hel, hd, hall⟩
  rcases h with h | h | ⟨p, hp, hle⟩
  · rw [h] at hel; cases hel
  · exact absurd hd (BitVec.not_lt.mpr h)
  · rw [hp] at hall
    exact absurd (of_decide_eq_true hall) (BitVec.not_lt.mpr hle)

/-- The joining unit's notice stands among the items to be sent, and the ring's items and numbers alone change. -/
theorem announceJoin_sends (s : State) : ∃ q l, announceJoin s = s.setRing { s.ring with seq := q, out := l } ∧
    (l.any fun o => o.item == .join s.fuse.dieId) = true := by
  unfold announceJoin
  split
  next h => exact ⟨s.ring.seq, s.ring.out, rfl, h⟩
  next => exact ⟨_, _, rfl, by rw [List.any_append]; simp⟩

theorem keeperRecord_ignored {s : State} (k : KeeperRecord) (hel : s.ring.electing = none) (hj : s.ring.joining = none) :
    keeperRecord s k = s := if_neg (by simp [hel, hj])

theorem keeperRecord_joins {s : State} (k : KeeperRecord) {ref : Tenant × Tag} (hel : s.ring.electing = some ref) :
    keeperRecord s k = announceJoin (s.setRing { s.ring with
      joining := some ref, electing := none, keeperId := k.dieId, keeperFs := k.fsIndex, keeperDMax := k.dMax }) := by
  rw [keeperRecord, if_pos (.inl (by rw [hel]; rfl)), hel]
  rfl

theorem windowEnd_ignored {s : State} (hel : s.ring.electing = none) : windowEnd s = s := by simp only [windowEnd, hel]

theorem windowEnd_joins {s : State} {ref : Tenant × Tag} {d : BitVec 64} {fs : Nat} (hel : s.ring.electing = some ref)
    (hh : s.ring.higher = some (d, fs)) : windowEnd s = announceJoin (s.setRing { s.ring with
      electing := none, joining := some ref, keeperId := d, keeperFs := fs }) := by
  unfold windowEnd
  rw [hel]
  dsimp only
  split
  next e g h => cases hh.symm.trans h; rfl
  next h => cases hh.symm.trans h

/-- The unit is keeper, alone on its ring. -/
def State.elected (s : State) : State :=
  setAlign (s.setRing { s.ring with
    electing := none, role := .keeper, st := .folded, position := 0, units := 1, keeperId := s.fuse.dieId,
    keeperFs := s.core.fs, laneA := .folded, laneB := .folded, gossip := [], joins := [], leavers := [] }) s.ownDelay

theorem windowEnd_keeper {s : State} {ref : Tenant × Tag} (hel : s.ring.electing = some ref) (hh : s.ring.higher = none) :
    windowEnd s = finishRef (ringState s.elected 1 0 s.fuse.dieId) (some ref) .ok
      (.bytes (leBytes 8 s.fuse.dieId.toNat)) := by
  unfold windowEnd
  rw [hel]
  dsimp only
  split
  next h => cases hh.symm.trans h
  next => rfl

theorem ringState_eventFrame (s : State) (kind pos : Nat) (d : BitVec 64) : EventFrame s (ringState s kind pos d) :=
  steward_eventFrame ..

/-! ## Notices (R273, R275, R290, R292) -/

theorem exec_joinNotice (h : RingHead) (d : BitVec 64) (s : State) :
    exec (.joinNoticeReceived h d) s = .next (notice s h fun s => joinNotice s d) := rfl

theorem exec_leaveNotice (h : RingHead) (d : BitVec 64) (s : State) :
    exec (.leaveNoticeReceived h d) s = .next (notice s h fun s => leaveNotice s d) := rfl

theorem exec_foldNotice (h : RingHead) (d : BitVec 64) (s : State) :
    exec (.foldNoticeReceived h d) s = .next (notice s h wakeKeeper) := rfl

/-- Each notice's row is `notice` with what the notice does. -/
theorem exec_notice {h : RingHead} {d : BitVec 64} {row : Instr}
    (hrow : row ∈ [Instr.joinNoticeReceived h d, .leaveNoticeReceived h d, .foldNoticeReceived h d]) (s : State) :
    ∃ f, exec row s = .next (notice s h f) := by
  simp only [List.mem_cons, List.not_mem_nil, or_false] at hrow
  rcases hrow with rfl | rfl | rfl
  · exact ⟨_, exec_joinNotice ..⟩
  · exact ⟨_, exec_leaveNotice ..⟩
  · exact ⟨_, exec_foldNotice ..⟩

section
variable {s : State} (h : RingHead) (f : State → State)

theorem notice_standalone (hr : s.ring.role = .standalone) : notice s h f = s := if_pos (not_onRing_of_role hr)

theorem wakeKeeper_keeper_nap (hr : s.ring.role = .keeper) (hp : s.power.st = .nap) :
    wakeKeeper s = { s with power := { s.power with wake := some (s.power.wake.getD .event) } } := if_pos ⟨hr, hp⟩

theorem wakeKeeper_awake (hp : s.power.st ≠ .nap) : wakeKeeper s = s := if_neg fun h => hp h.2

theorem notice_nap (hr : s.ring.role ≠ .standalone) (hp : s.power.st = .nap) : notice s h f = wakeKeeper s := by
  rw [notice, if_neg (by simp [onRing_of_role hr]), if_pos hp]

theorem notice_down (hup : s.fwRuns = false) (hp : s.power.st ≠ .nap) : notice s h f = s := by
  rw [notice, if_neg hp, hup]
  exact ite_self s

theorem notice_runs (hup : s.fwRuns = true) (hr : s.ring.role ≠ .standalone) : notice s h f = onceOnly s h f := by
  rw [notice, if_neg (by simp [onRing_of_role hr]), if_neg (fwRuns_not_nap hup), if_pos hup]

theorem onceOnly_seen (hseen : (h.unit, h.seq) ∈ s.ring.seen) :
    onceOnly s h f = s.setRing { s.ring with acks := s.ring.acks ++ [(h.unit, h.seq)] } := by
  have hc : s.ring.seen.contains (h.unit, h.seq) = true := List.contains_iff_mem.mpr hseen
  simp only [onceOnly, takeItem, hc]
  rfl

/-- The ring's part once a new item has been taken. -/
def Ring.took (q : Ring) (p : Nat × BitVec 16) : Ring :=
  { q with acks := q.acks ++ [p], seen := (p :: q.seen).take 1024 }

theorem onceOnly_new (hnew : (h.unit, h.seq) ∉ s.ring.seen) :
    onceOnly s h f = f (s.setRing (s.ring.took (h.unit, h.seq))) := by
  have hc : s.ring.seen.contains (h.unit, h.seq) = false := by simpa using hnew
  simp only [onceOnly, takeItem, hc]
  rfl
end

theorem mem_appendNew (l : List (BitVec 64)) (d : BitVec 64) : d ∈ if l.contains d then l else l ++ [d] := by
  split
  next h => exact List.contains_iff_mem.mp h
  next => exact List.mem_append_right _ (List.mem_singleton_self d)

theorem joinNotice_keeper {s : State} (hr : s.ring.role = .keeper) (hp : s.power.st ≠ .nap) (d : BitVec 64) :
    ∃ l, d ∈ l ∧ joinNotice s d = s.setRing { s.ring with joins := l } :=
  ⟨_, mem_appendNew s.ring.joins d, (if_pos hr).trans (wakeKeeper_awake hp)⟩

theorem joinNotice_member {s : State} (hr : s.ring.role ≠ .keeper) (d : BitVec 64) : joinNotice s d = s := if_neg hr

theorem leaveNotice_own {s : State} {d : BitVec 64} (hd : d = s.fuse.dieId) : leaveNotice s d = s :=
  if_neg fun h => h.2 hd

theorem leaveNotice_other {s : State} {d : BitVec 64} (hr : s.ring.role ≠ .standalone) (hp : s.power.st ≠ .nap)
    (hd : d ≠ s.fuse.dieId) : ∃ l, d ∈ l ∧ leaveNotice s d = s.setRing { s.ring with leavers := l } :=
  ⟨_, mem_appendNew s.ring.leavers d, (if_pos ⟨onRing_of_role hr, hd⟩).trans (wakeKeeper_awake hp)⟩

/-! ## The join boundary (R270, R279, R288) -/

theorem joinBoundary_down {s : State} (m : Membership) (hup : s.fwRuns = false) : joinBoundary s m = s := if_pos hup

section
variable {s : State} {m : Membership} (hup : s.fwRuns = true)
include hup

theorem joinBoundary_notJoining (hid : m.newId = s.fuse.dieId) (hj : s.ring.joining = none) : joinBoundary s m = s := by
  rw [joinBoundary, if_neg (by simp [hup]), if_pos hid, hj]

theorem joinBoundary_self {ref : Tenant × Tag} (hid : m.newId = s.fuse.dieId) (hj : s.ring.joining = some ref) :
    joinBoundary s m = joinSelf s ref m := by
  rw [joinBoundary, if_neg (by simp [hup]), if_pos hid, hj]

theorem joinBoundary_waits (hid : m.newId ≠ s.fuse.dieId)
    (h : s.ring.role = .standalone ∨ s.core.tide.isBoundary = false) : joinBoundary s m = s := by
  rw [joinBoundary, if_neg (by simp [hup]), if_neg hid, if_neg]
  rintro ⟨hr, hb⟩
  rcases h with h | h
  · rw [not_onRing_of_role h] at hr; cases hr
  · rw [h] at hb; cases hb

theorem joinBoundary_other (hid : m.newId ≠ s.fuse.dieId) (hr : s.ring.role ≠ .standalone)
    (hb : s.core.tide.isBoundary = true) : joinBoundary s m = joinOther s m := by
  rw [joinBoundary, if_neg (by simp [hup]), if_neg hid, if_pos ⟨onRing_of_role hr, hb⟩]
end

theorem syncReset_mixFrame (s : State) (n : Nat) : MixFrame s (syncReset s n) := by
  have hbus : ∀ u : State, MixFrame u (u.updBus n fun b => { b with
      stages := [[], [], []], hist := [], fifo := [0, 0], out := 0, peak := 0, hold := 0, sq := [], env := 0 }) :=
    fun u => updBus_mixFrame ..
  unfold syncReset
  refine (hbus _).after ?_
  split
  · exact endFades_mixFrame ..
  · exact MixFrame.refl s

/-- Position, units, keeper and D_max are set; the lanes and the ring's state with them. -/
structure MembersSet (s u : State) (keeperId : BitVec 64) (position units dMax : Nat) : Prop where
  core : u.core = s.core
  role : u.ring.role = s.ring.role
  joining : u.ring.joining = s.ring.joining
  keeperFs : u.ring.keeperFs = s.ring.keeperFs
  keeperId : u.ring.keeperId = keeperId
  position : u.ring.position = position
  units : u.ring.units = units
  dMax : u.ring.dMax = dMax

theorem setMembers_keeper {s : State} {m : Membership} (hk : m.keeperId = s.fuse.dieId) (position units : Nat)
    (gone : List Nat) :
    MembersSet s (setMembers s m position units gone) m.keeperId 0 units (s.largestDelay gone m.newDelay) := by
  have hkey : (m.keeperId == s.fuse.dieId) = true := by simpa using hk
  unfold setMembers
  simp only [hkey]
  exact ⟨rfl, rfl, rfl, rfl, rfl, rfl, rfl, rfl⟩

theorem setMembers_member {s : State} {m : Membership} (hk : m.keeperId ≠ s.fuse.dieId) (position units : Nat)
    (gone : List Nat) : MembersSet s (setMembers s m position units gone) m.keeperId position units m.dMax := by
  have hkey : (m.keeperId == s.fuse.dieId) = false := by simpa using hk
  unfold setMembers
  simp only [hkey]
  exact ⟨rfl, rfl, rfl, rfl, rfl, rfl, rfl, rfl⟩

theorem setMembers_st {s : State} (m : Membership) (position units : Nat) (gone : List Nat)
    (hrole : s.ring.role = .member) (hfs : s.core.fs ≠ s.ring.keeperFs) :
    (setMembers s m position units gone).ring.st = .rateMismatch :=
  if_pos ⟨hrole, hfs⟩

theorem remap_keeps (s : State) (f : Nat → Nat) : (remap s f).ring.units = s.ring.units ∧
    (remap s f).ring.position = s.ring.position ∧ (remap s f).ring.dMax = s.ring.dMax ∧ (remap s f).core = s.core := by
  have h := TenantsOnly.fold allTenants (fun s t => s.updTen t fun x =>
    { x with spilledOut := x.spilledOut.map fun o => { o with unit := f o.unit } }) (fun _ _ => rfl) s
  unfold TenantsOnly at h
  unfold remap
  rw [h]
  exact ⟨rfl, rfl, rfl, rfl⟩

/-- The keeper's tide, which a joining unit of the same rate loads. -/
def State.joinTide (s : State) (m : Membership) : State :=
  if s.core.fs == s.ring.keeperFs then
    { s with core := { s.core with tide := { smp := m.smp, et := 0 }, boundaryDone := false } } else s

theorem joinTide_same {s : State} (m : Membership) (h : s.core.fs = s.ring.keeperFs) :
    s.joinTide m = { s with core := { s.core with tide := { smp := m.smp, et := 0 }, boundaryDone := false } } :=
  if_pos (by simpa using h)

theorem joinTide_other {s : State} (m : Membership) (h : s.core.fs ≠ s.ring.keeperFs) : s.joinTide m = s :=
  if_neg (by simpa using h)

/-- Every bus has taken a synchronising reset. -/
def State.busesReset (s : State) : State := foldS allBuses s syncReset

/-- The ring's part of a unit that has just joined. -/
def State.memberRing (s : State) : State :=
  s.setRing { s.ring with role := .member, joining := none, txOn := true, gossip := [], lastGossip := [], leavers := [] }

/-- A joining unit is a member, with every bus reset. -/
def State.asMember (s : State) : State := s.busesReset.memberRing

theorem asMember_sets (s : State) : s.asMember.core = s.core ∧ s.asMember.fuse = s.fuse ∧ s.asMember.ring =
    { s.ring with role := .member, joining := none, txOn := true, gossip := [], lastGossip := [], leavers := [] } := by
  have h : ∃ a b, s.busesReset = { s with mix := a, tenants := b } :=
    ⟨_, _, MixFrame.fold allBuses syncReset syncReset_mixFrame s⟩
  unfold State.asMember
  obtain ⟨a, b, h⟩ := h
  rw [h]
  exact ⟨rfl, rfl, rfl⟩

/-- The members are set on a unit that joins. -/
def State.joined (s : State) (m : Membership) : State :=
  setMembers (s.joinTide m).asMember m m.position m.units []

/-- A unit whose rate differs says so. -/
def tellRate (same : Bool) (s : State) : State :=
  if same then s else steward s .rateMismatch (arg2 0 s.ring.keeperFs) []

theorem tellRate_eventFrame (same : Bool) (s : State) : EventFrame s (tellRate same s) := by
  cases same
  · exact steward_eventFrame ..
  · exact EventFrame.refl s

theorem joinSelf_eq (s : State) (ref : Tenant × Tag) (m : Membership) : joinSelf s ref m =
    finishRef (tellRate (s.core.fs == s.ring.keeperFs) (ringState (s.joined m) 2 m.newPosition m.newId)) (some ref)
      (if s.core.fs == s.ring.keeperFs then .ok else .rateMismatch) (.bytes (leBytes 8 m.keeperId.toNat)) := by
  unfold joinSelf
  extract_lets same c s1 s2 q s3 s4 s5 s6
  have h1 : s1 = s.joinTide m := rfl
  have h2 : s2 = s1.busesReset := rfl
  have h3 : s3 = s2.memberRing := rfl
  have h4 : s4 = s.joined m := by rw [State.joined, State.asMember, ← h1, ← h2, ← h3]
  have h5 : s5 = ringState (s.joined m) 2 m.newPosition m.newId := by rw [← h4]
  rw [← h5]
  rfl

theorem joinSelf_eventFrame (s : State) (ref : Tenant × Tag) (m : Membership) : EventFrame (s.joined m) (joinSelf s ref m) := by
  rw [joinSelf_eq]
  exact (ringState_eventFrame ..).trans ((tellRate_eventFrame ..).trans (finishRef_tenantsOnly ..).eventFrame)

theorem MembersSet.event {s u v : State} {k : BitVec 64} {p n d : Nat} (h : MembersSet s u k p n d)
    (hev : EventFrame u v) : MembersSet s v k p n d := by
  unfold EventFrame at hev
  rw [hev]
  exact ⟨h.core, h.role, h.joining, h.keeperFs, h.keeperId, h.position, h.units, h.dMax⟩

/-- What the joining unit is after its join boundary. -/
theorem joinSelf_member {s : State} (ref : Tenant × Tag) {m : Membership} (hk : m.keeperId ≠ s.fuse.dieId) :
    (joinSelf s ref m).ring.role = .member ∧ (joinSelf s ref m).ring.joining = none ∧
      (joinSelf s ref m).core = (s.joinTide m).core ∧
      MembersSet (s.joinTide m).asMember (joinSelf s ref m) m.keeperId m.position m.units m.dMax := by
  obtain ⟨hcore, hfuse, hring⟩ := asMember_sets (s.joinTide m)
  have hfuse' : (s.joinTide m).fuse = s.fuse := by unfold State.joinTide; split <;> rfl
  have hset := (setMembers_member (s := (s.joinTide m).asMember) (by rw [hfuse, hfuse']; exact hk) m.position m.units
    []).event (joinSelf_eventFrame s ref m)
  exact ⟨by rw [hset.role, hring], by rw [hset.joining, hring], by rw [hset.core, hcore], hset⟩

theorem joinSelf_mismatch {s : State} (ref : Tenant × Tag) (m : Membership) (hfs : s.core.fs ≠ s.ring.keeperFs) :
    (joinSelf s ref m).ring.st = .rateMismatch := by
  obtain ⟨hcore, -, hring⟩ := asMember_sets (s.joinTide m)
  rw [joinTide_other m hfs] at hcore hring
  have hst := setMembers_st (s := s.asMember) m m.position m.units [] (by rw [hring]) (by rw [hcore, hring]; exact hfs)
  have hev := joinSelf_eventFrame s ref m
  rw [State.joined, joinTide_other m hfs] at hev
  unfold EventFrame at hev
  rw [hev]
  exact hst

/-- The notice of a unit that joins is dealt with. -/
def State.joinKnown (s : State) (m : Membership) : State :=
  s.setRing { s.ring with joins := s.ring.joins.filter (· != m.newId) }

/-- The members are set on a unit of the ring. -/
def State.joinedBy (s : State) (m : Membership) : State :=
  setMembers (s.joinKnown m) m (joinMap m.newPosition s.ring.position) (s.ring.units + 1) []

theorem joinOther_sets {s : State} {m : Membership} {k : BitVec 64} {p n d : Nat}
    (h : MembersSet (s.joinKnown m) (s.joinedBy m) k p n d) :
    (joinOther s m).core = s.core ∧ (joinOther s m).ring.position = p ∧ (joinOther s m).ring.units = n ∧
      (joinOther s m).ring.dMax = d := by
  obtain ⟨hunits, hpos, hmax, hcore⟩ := remap_keeps (s.joinedBy m) (joinMap m.newPosition)
  have hev : EventFrame (remap (s.joinedBy m) (joinMap m.newPosition)) (joinOther s m) := ringState_eventFrame ..
  unfold EventFrame at hev
  rw [hev]
  exact ⟨hcore.trans h.core, hpos.trans h.position, hunits.trans h.units, hmax.trans h.dMax⟩

/-! ## The leave boundary (R290) -/

theorem exec_ringLeaveBoundary (s : State) : exec .ringLeaveBoundary s = .next (leaveBoundary s) := rfl

theorem leaveBoundary_waits {s : State} (h : s.ring.leaving = false ∨ s.core.tide.isBoundary = false ∨
    s.fw.restarting = true ∨ 1000000 * (s.core.ticks - s.ring.leaveAt) < 250 * s.engineRate) : leaveBoundary s = s := by
  refine if_neg ?_
  rintro ⟨hl, hb, ho, hr⟩
  have hover := of_decide_eq_true ho
  rcases h with h | h | h | h
  · rw [h] at hl; cases hl
  · rw [h] at hb; cases hb
  · rw [h] at hr; cases hr
  · omega

theorem leaveBoundary_leaves {s : State} (hl : s.ring.leaving = true) (hb : s.core.tide.isBoundary = true)
    (hr : s.fw.restarting = false) (ho : 250 * s.engineRate ≤ 1000000 * (s.core.ticks - s.ring.leaveAt)) :
    leaveBoundary s = finishRef (standalone (dropSpills s)) s.ring.leaveRef .ok (.note 0) :=
  if_pos ⟨hl, hb, decide_eq_true ho, hr⟩

theorem EventFrame.core {s u : State} (h : EventFrame s u) : u.core = s.core := by
  unfold EventFrame at h
  rw [h]

theorem TenantsOnly.core {s u : State} (h : TenantsOnly s u) : u.core = s.core := h.eventFrame.core

theorem loseWaits_spill (s : State) (p : RingWait → Bool) : SpillFrame s (loseWaits s p) := by
  unfold loseWaits
  refine (SpillFrame.fold _ _ (fun u w => ?_) _).after rfl
  exact (finish_tenantsOnly ..).spill.after rfl

theorem loseNotesOn_spill (s : State) (unit : Nat) : SpillFrame s (loseNotesOn s unit) := by
  unfold loseNotesOn
  refine SpillFrame.fold _ _ (fun u t => ?_) s
  dsimp only
  refine (SpillFrame.fold _ _ (fun v o => ?_) _).after ((loseWaits_spill ..).after rfl)
  split
  · rfl
  · exact (finishRef_tenantsOnly ..).spill

theorem dropSpills_spill (s : State) : SpillFrame s (dropSpills s) :=
  (SpillFrame.fold _ _ (fun _ _ => (beginFade_spill ..).trans (toldStolen_spill ..)) s).trans
    (SpillFrame.fold _ _ loseNotesOn_spill _)

theorem dropSpills_core (s : State) : (dropSpills s).core = s.core := by
  have h := dropSpills_spill s
  unfold SpillFrame at h
  rw [h]

theorem standalone_core (s : State) : (standalone s).core = s.core := rfl

/-- Settles O56: the law of each record in its window, of `notice`, and of each boundary on the unit it concerns. -/
theorem ringMembershipFollowsItsRecords : Obligations.RingMembershipFollowsItsRecords := by
  intro s d fs h k m ref
  have hnew : ∀ {f}, s.fwRuns = true → s.ring.role ≠ .standalone → (h.unit, h.seq) ∉ s.ring.seen →
      notice s h f = f (s.setRing (s.ring.took (h.unit, h.seq))) := fun hup hr hseen =>
    (notice_runs h _ hup hr).trans (onceOnly_new h _ hseen)
  refine ⟨fun hup => ?down, fun hup hr => ?answers, fun hup hr hel hd hbest => ?better, fun hr hno => ?ignored,
    fun hup hel => ?timer, fun hel => ?noElection, fun hel hj => ?noWindow, fun hup hel => ?keeperRecord,
    fun hup hel e hh => ?winJoins, fun hup hel hh => ?winKeeper, fun row hrow => ?notices,
    fun hup hr hseen => ⟨?fold, fun hm => ?joinMember, fun hk => ?joinKeeper, fun hd => ?leaveOwn, fun hd => ?leaveOther⟩,
    fun hup hid hj => ?notJoining, fun hup hid hj hk => ?joinsSelf, fun hup hid hw => ?joinWaits,
    fun hup hid hr hb => ?joinsOther, fun hw => ?leaveWaits, fun hl hb hr ho => ?leaves⟩
  case down =>
    exact ⟨by rw [exec_startRecordReceived, hup]; rfl, by rw [exec_startRecordTimer, hup]; rfl,
      by rw [exec_electionWindowEnd, hup]; rfl, by rw [exec_keeperRecordReceived, hup]; rfl,
      congrArg _ (joinBoundary_down m hup)⟩
  case answers => rw [exec_startRecordReceived, if_pos hup, startRecord_keeper hr]; rfl
  case better => rw [exec_startRecordReceived, if_pos hup, startRecord_higher fs hr hel hd hbest]; rfl
  case ignored => rw [exec_startRecordReceived, startRecord_ignored fs hr hno]; exact congrArg _ (ite_self s)
  case timer => rw [exec_startRecordTimer, if_pos (by rw [hup, show s.ring.electing = some ref from hel]; rfl)]; rfl
  case noElection =>
    have hel' : s.ring.electing = none := hel
    refine ⟨by rw [exec_startRecordTimer, if_neg (by simp [hel'])], ?_⟩
    rw [exec_electionWindowEnd, windowEnd_ignored hel']
    exact congrArg _ (ite_self s)
  case noWindow => rw [exec_keeperRecordReceived, keeperRecord_ignored k hel hj]; exact congrArg _ (ite_self s)
  case keeperRecord =>
    obtain ⟨q, l, heq, hsent⟩ := announceJoin_sends (s.setRing { s.ring with
      joining := some ref, electing := none, keeperId := k.dieId, keeperFs := k.fsIndex, keeperDMax := k.dMax })
    rw [exec_keeperRecordReceived, if_pos hup, keeperRecord_joins k hel, heq]
    exact ⟨_, rfl, rfl, rfl, rfl, rfl, rfl, hsent, rfl⟩
  case winJoins =>
    obtain ⟨q, l, heq, -⟩ := announceJoin_sends (s.setRing { s.ring with
      electing := none, joining := some ref, keeperId := d, keeperFs := e })
    rw [exec_electionWindowEnd, if_pos hup, windowEnd_joins hel hh, heq]
    exact ⟨_, rfl, rfl, rfl, rfl, rfl⟩
  case winKeeper =>
    have hev := (ringState_eventFrame s.elected 1 0 s.fuse.dieId).trans
      (finishRef_tenantsOnly _ (some ref) .ok (.bytes (leBytes 8 s.fuse.dieId.toNat))).eventFrame
    rw [exec_electionWindowEnd, if_pos hup, windowEnd_keeper hel hh, hev]
    exact ⟨_, rfl, rfl, rfl, rfl, rfl, rfl, rfl, rfl, rfl⟩
  case notices =>
    obtain ⟨f, hexec⟩ := exec_notice hrow s
    rw [hexec]
    refine ⟨fun hr => congrArg _ (notice_standalone h f hr), fun hr hn => congrArg _ ?_, fun hr hn => congrArg _ ?_,
      fun hup hn => congrArg _ (notice_down h f hup hn), fun hup hr hseen => congrArg _ ?_⟩
    · exact (notice_nap h f (by rw [show s.ring.role = .keeper from hr]; decide) hn).trans (wakeKeeper_keeper_nap hr hn)
    · by_cases hs : s.ring.role = .standalone
      · exact notice_standalone h f hs
      · exact (notice_nap h f hs hn).trans (if_neg fun hk => hr hk.1)
    · exact (notice_runs h f hup hr).trans (onceOnly_seen h f hseen)
  case fold => exact congrArg Host.Outcome.next ((hnew hup hr hseen).trans (wakeKeeper_awake (fwRuns_not_nap hup)))
  case joinMember =>
    have hne : s.ring.role ≠ .keeper := by rw [show s.ring.role = .member from hm]; decide
    exact congrArg Host.Outcome.next ((hnew hup hr hseen).trans
      (joinNotice_member (s := s.setRing (s.ring.took (h.unit, h.seq))) hne d))
  case joinKeeper =>
    obtain ⟨l, hmem, heq⟩ := joinNotice_keeper (s := s.setRing (s.ring.took (h.unit, h.seq))) hk (fwRuns_not_nap hup) d
    exact ⟨l, hmem, congrArg Host.Outcome.next ((hnew hup hr hseen).trans heq)⟩
  case leaveOwn => exact congrArg Host.Outcome.next ((hnew hup hr hseen).trans (leaveNotice_own hd))
  case leaveOther =>
    obtain ⟨l, hmem, heq⟩ := leaveNotice_other (s := s.setRing (s.ring.took (h.unit, h.seq))) hr (fwRuns_not_nap hup) hd
    exact ⟨l, hmem, congrArg Host.Outcome.next ((hnew hup hr hseen).trans heq)⟩
  case notJoining => exact congrArg _ (joinBoundary_notJoining hup hid hj)
  case joinsSelf =>
    obtain ⟨hrole, hjoin, hcore, hset⟩ := joinSelf_member ref hk
    refine ⟨_, congrArg Host.Outcome.next (joinBoundary_self hup hid hj), hrole, hjoin, hset.position, hset.units, hset.keeperId,
      hset.dMax, fun hfs => ?_, fun hfs => ⟨?_, joinSelf_mismatch ref m hfs⟩⟩
    · rw [hcore, joinTide_same m hfs]
    · rw [hcore, joinTide_other m hfs]
  case joinWaits => exact congrArg _ (joinBoundary_waits hup hid hw)
  case joinsOther =>
    have hexec : exec (.joinBoundary m) s = .next (joinOther s m) := congrArg _ (joinBoundary_other hup hid hr hb)
    by_cases hk : m.keeperId = s.fuse.dieId
    · obtain ⟨hcore, hpos, hunits, hmax⟩ := joinOther_sets (setMembers_keeper (s := s.joinKnown m) hk ..)
      exact ⟨_, hexec, hunits, hcore, fun _ => ⟨hpos, hmax⟩, fun hne => absurd hk hne⟩
    · obtain ⟨hcore, hpos, hunits, hmax⟩ := joinOther_sets (setMembers_member (s := s.joinKnown m) hk ..)
      exact ⟨_, hexec, hunits, hcore, fun h => absurd h hk, fun _ => ⟨hmax, hpos⟩⟩
  case leaveWaits => exact congrArg _ (leaveBoundary_waits hw)
  case leaves =>
    have hfin := finishRef_tenantsOnly (standalone (dropSpills s)) s.ring.leaveRef .ok (.note 0)
    have hcore := hfin.core.trans ((standalone_core _).trans (dropSpills_core s))
    unfold TenantsOnly at hfin
    rw [exec_ringLeaveBoundary, leaveBoundary_leaves hl hb hr ho]
    exact ⟨_, rfl, by rw [hfin]; rfl, by rw [hfin]; rfl, by rw [hfin]; rfl, by rw [hfin]; rfl, by rw [hfin]; rfl, hcore⟩

end Sys2Proof.Machine
end

section
/-! SUPPORT. What the work of an engine tick leaves alone: the commands that wait, the fuses, the engine's own state, the
writes that are due, MRAM, the wake sources, and the ring's realignment. One lemma for each part of the tick. -/

namespace Sys2Proof.Machine

/-- The part of the state that the work of a tick leaves alone; an owed tamper record aside. -/
structure Steady where
  pending : List Instr
  fuse : Fuse
  core : Core
  readyL : List Write
  nvm : Nvm
  wake : BitVec 7 × Nat
  quiesceFade : Bool
  slips : Option Bool × Option Bool

/-- That part of a state. -/
def State.steady (s : State) : Steady where
  pending := s.pending
  fuse := s.fuse
  core := s.core
  readyL := s.readyL
  nvm := { s.nvm with tamperOwed := false }
  wake := (s.power.wakeMask, s.power.wakeTimer)
  quiesceFade := s.power.quiesceFade
  slips := (s.ring.slipNow, s.ring.slipDue)

theorem foldS_steady {α : Type} (l : List α) (f : State → α → State) (h : ∀ s a, (f s a).steady = s.steady) (s : State) :
    (foldS l s f).steady = s.steady :=
  foldS_keeps (fun u => u.steady = s.steady) l f (fun u a hu => (h u a).trans hu) rfl

/-! ## Completions and events -/

theorem TenantsOnly.steady {s u : State} (h : TenantsOnly s u) : u.steady = s.steady := by
  unfold TenantsOnly at h
  rw [h]
  rfl

theorem MixFrame.steady {s u : State} (h : MixFrame s u) : u.steady = s.steady := by
  unfold MixFrame at h
  rw [h]
  rfl

theorem OutputsOnly.steady {s u : State} (h : OutputsOnly s u) : u.steady = s.steady := by
  rw [h.frame]
  rfl

theorem updTen_steady (s : State) (t : Tenant) (f : TenantSt → TenantSt) : (s.updTen t f).steady = s.steady := rfl

theorem finish_steady (s : State) (t : Tenant) (g : Tag) (st : Status) (res : Result) :
    (finish s t g st res).steady = s.steady := (finish_tenantsOnly ..).steady

theorem finishRef_steady (s : State) (r : Option (Tenant × Tag)) (st : Status) (res : Result) :
    (finishRef s r st res).steady = s.steady := (finishRef_tenantsOnly ..).steady

theorem holdEv_steady (s : State) (k : Held) : (holdEv s k).steady = s.steady := by
  unfold holdEv
  dsimp only
  split <;> rfl

theorem raiseTo_steady (s : State) (t : Tenant) (e : Event) (arg : BitVec 16) (cont : List Byte) :
    (raiseTo s t e arg cont).steady = s.steady := by
  unfold raiseTo raiseToAt
  split
  · exact holdEv_steady ..
  · split <;> rfl

theorem stewardAt_steady (s : State) (e : Event) (arg : BitVec 16) (cont : List Byte) (tide : Smp) :
    (stewardAt s e arg cont tide).steady = s.steady := by
  unfold stewardAt
  split
  · exact holdEv_steady ..
  · split <;> rfl

theorem steward_steady (s : State) (e : Event) (arg : BitVec 16) (cont : List Byte) :
    (steward s e arg cont).steady = s.steady := stewardAt_steady ..

theorem eccEvent_steady (s : State) (uncorrected : Bool) (bank : Nat) : (eccEvent s uncorrected bank).steady = s.steady := by
  have hcount : (s.eccCounted uncorrected).steady = s.steady := rfl
  by_cases hc : s.fw.eccRaised.contains ((if uncorrected then 512 else 256) + bank) = true
  · rw [eccEvent_eq, if_pos hc, hcount]
  · rw [eccEvent_eq, if_neg hc]
    exact (steward_steady ..).trans hcount

/-! ## Ring items (R273, R284) -/

theorem ringSend_steady (s : State) (i : RingItem) : (ringSend s i).steady = s.steady := rfl

theorem ringEnded_steady (s : State) (o : Nat) (t : Tenant) (id : BitVec 32) (stolen : Bool) :
    (ringEnded s o t id stolen).steady = s.steady := by
  unfold ringEnded
  dsimp only
  split
  · rfl
  · split <;> rfl

theorem loseWaits_steady (s : State) (p : RingWait → Bool) : (loseWaits s p).steady = s.steady := by
  unfold loseWaits
  refine (foldS_steady _ _ (fun u w => ?_) _).trans rfl
  exact finish_steady ..

theorem loseNotesOn_steady (s : State) (unit : Nat) : (loseNotesOn s unit).steady = s.steady := by
  unfold loseNotesOn
  refine foldS_steady _ _ (fun u t => ?_) s
  dsimp only
  refine (foldS_steady _ _ (fun v o => ?_) _).trans (loseWaits_steady ..)
  split
  · rfl
  · exact finishRef_steady ..

/-! ## Voices (R117, R157, R159) -/

theorem setVoice_steady (s : State) (v : Voice) : (s.setVoice v).steady = s.steady := rfl

theorem toldStolen_steady (s : State) (v : Voice) : (toldStolen s v).steady = s.steady := by
  unfold toldStolen
  split
  · exact raiseTo_steady ..
  · exact ringEnded_steady ..

theorem beginFade_steady (s : State) (v : Voice) (n : Option Succ) (k : FadeKind) :
    (beginFade s v n k).steady = s.steady :=
  (setVoice_steady ..).trans (finishRef_steady s (v.retrig.bind (·.ref)) .ok (.note 0))

theorem fadeNote_steady (s : State) (v : Voice) : (fadeNote s v).steady = s.steady := by
  unfold fadeNote
  split
  · rfl
  · exact beginFade_steady ..

theorem notePitch_steady (s : State) (v : Voice) : (notePitch s v).steady = s.steady := by
  unfold notePitch
  split <;> rfl

theorem startOne_steady (s : State) (v : Voice) : (startOne s v).steady = s.steady := by
  have hstart : ∀ (u : State) w, (notePitch (u.setVoice w) w).steady = u.steady := fun u w => notePitch_steady ..
  unfold startOne
  dsimp only
  split
  · exact (finishRef_steady ..).trans ((finishRef_steady ..).trans (hstart ..))
  · rfl
  · split
    · exact (finishRef_steady ..).trans (hstart ..)
    · rfl

theorem cmdOnVoice_steady (s : State) (v : Voice) (c : NoteCmd) : (cmdOnVoice s v c).steady = s.steady := by
  unfold cmdOnVoice
  split
  · exact fadeNote_steady ..
  · exact notePitch_steady ..
  · rfl

theorem applyHeld_steady (lane slot : Nat) (s : State) (c : NoteCmd) : (applyHeld lane slot s c).steady = s.steady := by
  unfold applyHeld
  split
  · split
    · exact cmdOnVoice_steady ..
    · rfl
  · rfl

theorem endFaded_steady (s : State) (v : Voice) : (endFaded s v).steady = s.steady := by
  unfold endFaded
  dsimp only
  split
  · exact (ringEnded_steady ..).trans (finishRef_steady ..)
  · exact finishRef_steady ..

theorem endSteal_steady (s : State) (v : Voice) : (endSteal s v).steady = s.steady := by
  unfold endSteal
  dsimp only
  split
  · exact endFaded_steady ..
  · split
    · exact (foldS_steady _ _ (applyHeld_steady _ _) _).trans (startOne_steady ..)
    · rfl

theorem tenLfoTick_steady (t : Tenant) (s : State) (n : Nat) : (tenLfoTick t s n).steady = s.steady := by
  unfold tenLfoTick
  dsimp only
  split <;> rfl

theorem addSends_steady (s : State) (l : List (Nat × Int)) : (addSends s l).steady = s.steady := by
  refine foldS_steady _ _ (fun u e => ?_) s
  split <;> rfl

theorem bankOffEvent_steady (s : State) (v : Voice) (bank : Nat) : (bankOffEvent s v bank).steady = s.steady := by
  unfold bankOffEvent
  split
  · exact raiseTo_steady ..
  · rfl

theorem clearVoice_steady (s : State) (v : Voice) : (s.clearVoice v).steady = s.steady := rfl

theorem computeVoice_steady (again : List (Nat × Nat)) (s : State) (v : Voice) :
    (computeVoice again s v).steady = s.steady := by
  unfold computeVoice
  split
  · rfl
  · dsimp only
    refine (setVoice_steady ..).trans ((foldS_steady _ _ (fun _ _ => eccEvent_steady ..) _).trans ?_)
    split
    · split
      · exact addSends_steady ..
      · exact (bankOffEvent_steady ..).trans (addSends_steady ..)
    · exact addSends_steady ..

theorem endVoice_steady (s : State) (v : Voice) : (endVoice s v).steady = s.steady := by
  unfold endVoice
  split
  · dsimp only
    split
    · rfl
    · exact ringEnded_steady ..
  · rfl

theorem parkLane_steady (s : State) (n : Nat) : (parkLane s n).steady = s.steady := by
  unfold parkLane
  dsimp only
  split
  · exact (finishRef_steady ..).trans (steward_steady ..)
  · rfl

theorem parkLanes_steady (s : State) : (parkLanes s).steady = s.steady := foldS_steady _ _ parkLane_steady s

theorem voicesTick_steady (s : State) : (voicesTick s).steady = s.steady := by
  have hlfos : ∀ u, (tenLfosTick u).steady = u.steady := fun u => by
    refine foldS_steady _ _ (fun v t => ?_) u
    split
    · rfl
    · exact foldS_steady _ _ (tenLfoTick_steady t) v
  unfold voicesTick
  exact (parkLanes_steady _).trans ((foldS_steady _ _ endVoice_steady _).trans
    ((foldS_steady _ _ (computeVoice_steady _) _).trans ((hlfos _).trans
      ((foldS_steady _ _ startOne_steady _).trans (foldS_steady _ _ endSteal_steady _)))))

theorem clearOne_steady (s : State) (v : Voice) : (clearOne s v).steady = s.steady := by
  unfold clearOne
  refine (clearVoice_steady ..).trans ((finishRef_steady ..).trans ?_)
  split <;> exact finishRef_steady ..

theorem removeOne_steady (s : State) : (removeOne s).steady = s.steady := by
  unfold removeOne
  dsimp only
  split
  · rfl
  · refine (toldStolen_steady ..).trans ((beginFade_steady ..).trans ?_)
    split
    · exact finishRef_steady ..
    · rfl

theorem removeExcess_steady (was : Nat) (s : State) : (removeExcess was s).steady = s.steady := by
  unfold removeExcess
  split
  · exact repeatN_keeps (fun u => u.steady = s.steady) _ (fun u hu => (removeOne_steady u).trans hu) _ rfl
  · rfl

/-! ## Buses, ports and outputs (R169 to R199) -/

theorem updBus_steady (s : State) (n : Nat) (f : Bus → Bus) : (s.updBus n f).steady = s.steady := rfl

theorem syncReset_steady (s : State) (n : Nat) : (syncReset s n).steady = s.steady := (syncReset_mixFrame ..).steady

theorem busTick_steady (s : State) (n : Nat) : (busTick s n).steady = s.steady := by
  have hsample : ∀ (u : State) (y : Int), (busSample u n y).steady = u.steady := fun u y => by
    unfold busSample
    extract_lets b h sum gain x z v
    refine (updBus_steady ..).trans ?_
    change State.steady (ite _ _ _) = _
    split <;> rfl
  unfold busTick
  dsimp only
  split
  · exact hsample ..
  · rfl

theorem masterIn_steady (s : State) (i : Nat) : (masterIn s i).steady = s.steady := by
  unfold masterIn
  dsimp only
  split <;> rfl

theorem portSample_steady (s : State) (i : Nat) : (portSample s i).steady = s.steady := by
  unfold portSample
  dsimp only
  split
  · rfl
  · split
    · split
      · split <;> rfl
      · split <;> rfl
    · split <;> rfl

theorem lineSamples_outputsOnly (s : State) : OutputsOnly s (lineSamples s) := by
  unfold lineSamples
  split
  · exact OutputsOnly.refl s
  · exact OutputsOnly.fold _ _ (fun _ _ => updLo_outputsOnly ..) s

theorem outputSamples_outputsOnly (s : State) : OutputsOnly s (outputSamples s) :=
  (OutputsOnly.fold _ _ (fun _ _ => updCv_outputsOnly ..) s).trans
    (OutputsOnly.fold _ _ (fun _ _ => updLo_outputsOnly ..) _)

theorem sampleIn_steady (s : State) : (sampleIn s).steady = s.steady := by
  unfold sampleIn
  split
  · exact foldS_steady _ _ masterIn_steady s
  · rfl

theorem sampleOut_steady (s : State) : (sampleOut s).steady = s.steady := by
  unfold sampleOut
  refine (lineSamples_outputsOnly _).steady.trans ?_
  split
  · exact foldS_steady _ _ portSample_steady s
  · rfl

theorem landCvSets_steady (s : State) : (landCvSets s).steady = s.steady :=
  foldS_steady _ _ (fun u (p : PendCv) => foldS_steady p.entries landCvEntry (fun _ _ => rfl) u) _

theorem landGates_steady (s : State) : (landGates s).steady = s.steady := by
  refine foldS_steady _ _ (fun u p => foldS_steady _ _ (fun v n => ?_) u) _
  split <;> rfl

/-! ## Memory and calibration (R298, R345 to R349) -/

theorem clearBank_steady (s : State) (k : BankKind) (n : Nat) : (clearBank s k n).steady = s.steady := by
  cases k <;> rfl

theorem changeBank_steady (s : State) (t : Tenant) (g : Tag) (k : BankKind) (n : Nat) (st : BankSt) :
    (changeBank s t g k n st).steady = s.steady := by
  unfold changeBank
  dsimp only
  split
  · exact finish_steady ..
  · rfl

theorem runBankWaits_steady (s : State) : (runBankWaits s).steady = s.steady := by
  unfold runBankWaits
  refine (foldS_steady _ _ (fun u w => ?_) _).trans rfl
  split
  · rfl
  · exact changeBank_steady ..

theorem landMove_steady (s : State) (m : BankMove) : (landMove s m).steady = s.steady := by
  have hset : ∀ u : State, ({ u with mem := u.mem.setBank m.kind m.bank m.target } : State).steady = u.steady := fun _ => rfl
  unfold landMove
  dsimp only
  refine (runBankWaits_steady _).trans ((finishRef_steady ..).trans ((hset _).trans ?_))
  split
  · exact clearBank_steady ..
  · rfl

theorem tickMoves_steady (s : State) : (tickMoves s).steady = s.steady := foldS_steady _ _ landMove_steady s

theorem abandonTrim_steady (s : State) (n : Nat) : (abandonTrim s n).steady = s.steady := by
  unfold abandonTrim
  split
  · split <;> rfl
  · rfl

theorem abandonInputs_steady (s : State) : (abandonInputs s).steady = s.steady := by
  unfold abandonInputs
  split
  · refine foldS_steady _ _ (fun u n => ?_) s
    split
    · exact abandonTrim_steady ..
    · rfl
  · rfl

theorem periodicAfterNap_steady (s : State) : (periodicAfterNap s).steady = s.steady := by
  unfold periodicAfterNap
  split
  · unfold startPeriodic
    split <;> rfl
  · rfl

theorem joinLane_steady (s : State) (n : Nat) : (joinLane s n).steady = s.steady := by
  unfold joinLane
  dsimp only
  split
  · exact (finishRef_steady ..).trans (steward_steady ..)
  · rfl

/-! ## Spilled notes at a tick (R282 to R284) -/

theorem startArrived_steady (s : State) (v : Voice) : (startArrived s v).steady = s.steady := by
  unfold startArrived
  split
  · split <;> rfl
  · rfl

theorem reportTo_steady (s : State) (c : SpillCommand) (found late : Bool) : (reportTo s c found late).steady = s.steady := by
  unfold reportTo
  split <;> rfl

theorem actOn_steady (s : State) (v : Voice) (c : SpillCommand) : (actOn s v c).steady = s.steady := by
  unfold actOn
  split
  · exact fadeNote_steady ..
  · refine foldS_steady _ _ (fun u e => ?_) s
    split
    · rfl
    · split <;> rfl
  · rfl

theorem landDue_steady (s : State) (d : RingDue) : (landDue s d).steady = s.steady := by
  unfold landDue
  split
  · exact reportTo_steady ..
  · split
    · exact (reportTo_steady ..).trans (actOn_steady ..)
    · rfl

theorem stealFor_steady {s u : State} {t : Tenant} {n : Succ} {noSteal : Bool} (h : stealFor s t n noSteal = some u) :
    u.steady = s.steady := by
  unfold stealFor at h
  split at h
  · cases h
  · split at h
    · cases h
    · cases h
      exact (toldStolen_steady ..).trans (beginFade_steady ..)

theorem fallback_steady (s : State) (t : Tenant) (o : SpilledOut) : (fallback s t o).steady = s.steady := by
  unfold fallback
  dsimp only
  split
  next h => exact (stealFor_steady h).trans rfl
  next => exact finishRef_steady ..

theorem ringWork_steady (s : State) : (ringWork s).steady = s.steady := by
  unfold ringWork
  split
  · refine (foldS_steady _ _ (fun u t => foldS_steady _ _ (fun v o => ?_) u) _).trans
      ((foldS_steady _ _ landDue_steady _).trans (foldS_steady _ _ startArrived_steady s))
    split
    · exact fallback_steady ..
    · rfl
  · rfl

/-! ## Sessions (R67, R76) -/

theorem queueCmd_steady (s : State) (t : Tenant) (v : Voice) (c : NoteCmd) : (queueCmd s t v c).steady = s.steady := by
  unfold queueCmd
  split
  · refine foldS_steady _ _ (fun u e => ?_) s
    split
    · split <;> rfl
    · rfl
    · rfl
  · rfl

theorem sendCmd_steady (s : State) (t : Tenant) (g : Option Tag) (o : SpilledOut) (c : NoteCmd) (affected : Option Nat) :
    (sendCmd s t g o c affected).steady = s.steady := by
  cases g <;> rfl

theorem cmdToNote_steady {s u : State} {t : Tenant} {g : Option Tag} {id : BitVec 32} {c : NoteCmd}
    {affected : Option Nat} {b : Bool} (h : cmdToNote s t g id c affected = some (u, b)) : u.steady = s.steady := by
  unfold cmdToNote at h
  split at h
  · cases h; exact queueCmd_steady ..
  · split at h
    · cases h; rfl
    · split at h
      · split at h
        · cases h; rfl
        · cases h; exact sendCmd_steady ..
      · cases h

theorem cmdToAll_steady (s : State) (t : Tenant) (part : Option Nat) (c : NoteCmd) :
    (cmdToAll s t part c).steady = s.steady := by
  refine foldS_steady _ _ (fun u id => ?_) s
  split
  next h => exact cmdToNote_steady h
  next => rfl

theorem releaseGates_steady (s : State) (t : Tenant) : (releaseGates s t).steady = s.steady := by
  refine foldS_steady _ _ (fun u n => ?_) s
  split <;> rfl

theorem unmute_steady (s : State) (t : Tenant) : (unmute s t).steady = s.steady := by
  unfold unmute
  dsimp only
  refine Eq.trans (b := State.steady (if (s.ten t).muted then _ else s)) rfl ?_
  split
  · refine foldS_steady _ _ (fun u id => ?_) s
    cases h : cmdToNote u t none id .unmute none with
    | none => rfl
    | some p => exact cmdToNote_steady h
  · rfl

theorem releaseAll_steady (s : State) (t : Tenant) : (releaseAll s t).steady = s.steady :=
  (unmute_steady ..).trans ((releaseGates_steady ..).trans (cmdToAll_steady ..))

theorem tellSteward_steady (s : State) : (tellSteward s).steady = s.steady := by
  unfold tellSteward
  dsimp only
  split
  · exact (steward_steady ..).trans (foldS_steady _ _ (fun _ _ => stewardAt_steady ..) _)
  · exact foldS_steady _ _ (fun _ _ => stewardAt_steady ..) _

theorem newSession_steady (s : State) (t : Tenant) (g : Tag) (release : Bool) :
    (newSession s t g release).steady = s.steady := by
  have hopen : ∀ b : Bool, (if b then releaseAll s t else unmute s t).steady = s.steady := fun b => by
    cases b
    · exact unmute_steady ..
    · exact releaseAll_steady ..
  unfold newSession
  split
  · rfl
  · dsimp only
    split
    · exact (tellSteward_steady _).trans ((finish_steady ..).trans (hopen release))
    · exact (finish_steady ..).trans (hopen release)

theorem closeSession_steady (s : State) (t : Tenant) (g : Tag) : (closeSession s t g).steady = s.steady := by
  unfold closeSession
  exact (finish_steady ..).trans ((updTen_steady ..).trans (releaseAll_steady s t))

theorem settleSessions_steady (s : State) : (settleSessions s).steady = s.steady := by
  refine foldS_steady _ _ (fun u t => ?_) s
  unfold settleSession
  split
  · split
    · split
      · exact newSession_steady ..
      · rfl
    · split
      · exact closeSession_steady ..
      · rfl
    · rfl
  · rfl

/-! ## The end of a sample and of a tick -/

theorem beatsTick_steady (s : State) : (beatsTick s).steady = s.steady := foldS_steady _ _ (fun _ _ => updTen_steady ..) s

theorem quietStep_steady (s : State) : (quietStep s).steady = s.steady := rfl

theorem hibernateCount_steady (s : State) : (hibernateCount s).steady = s.steady := by
  unfold hibernateCount
  split
  · rfl
  · split <;> rfl

theorem ringSample_steady (s : State) : (ringSample s).steady = s.steady := by
  unfold ringSample
  split <;> rfl

end Sys2Proof.Machine
end

section
/-! SUPPORT. How writes land at a tick and at a block boundary, and the work of the boundary: what is due, the tick count and
the ring's realignment through them. -/

namespace Sys2Proof.Machine

/-! ## Landing (R26) -/

/-- What a landing write leaves alone, the wake sources and notes that wait aside. -/
structure Landed where
  pending : List Instr
  fuse : Fuse
  ticks : Nat
  readyL : List Write
  wake : BitVec 7 × Nat
  slips : Option Bool × Option Bool

/-- That part of what a tick's work leaves alone. -/
def Steady.landed (x : Steady) : Landed where
  pending := x.pending
  fuse := x.fuse
  ticks := x.core.ticks
  readyL := x.readyL
  wake := x.wake
  slips := x.slips

/-- That part of a state. -/
def State.landed (s : State) : Landed := s.steady.landed

theorem landed_of_steady {s u : State} (h : u.steady = s.steady) : u.landed = s.landed := congrArg Steady.landed h

theorem foldS_landed {α : Type} (l : List α) (f : State → α → State) (h : ∀ s a, (f s a).landed = s.landed) (s : State) :
    (foldS l s f).landed = s.landed :=
  foldS_keeps (fun u => u.landed = s.landed) l f (fun u a hu => (h u a).trans hu) rfl

/-- A write of the wake sources. -/
def Write.isWake : Write → Bool
  | .wakeConfig _ _ => true
  | _ => false

theorem endFades_steady (s : State) (l : List Nat) (byReset : Bool) : (endFades s l byReset).steady = s.steady :=
  (endFades_mixFrame ..).steady

/-- The engine's own state once it is stopped. -/
def Core.halted (c : Core) : Core := { c with run := .stopped, stopPos := 0, tide := {}, boundaryDone := false }

theorem engineStopped_steady (s : State) : s.engineStopped.steady = { s.steady with core := s.steady.core.halted } := rfl

theorem stopNow_steady (s : State) : (stopNow s).steady = { s.steady with core := s.steady.core.halted } := by
  have habort : (abortSchedules s.stopCleared).steady = s.stopCleared.steady :=
    foldS_steady _ _ (fun u t => foldS_steady _ _ (fun v g => finish_steady v t g _ _) u) _
  have hclear : s.stopCleared.steady = s.steady :=
    (parkLanes_steady _).trans ((foldS_steady _ _ clearOne_steady _).trans (endFades_steady ..))
  rw [stopNow_eq, engineStopped_steady, habort, hclear]

theorem stopNow_landed (s : State) : (stopNow s).landed = s.landed :=
  (congrArg Steady.landed (stopNow_steady s)).trans rfl

theorem portStart_landed (s : State) (i : Nat) : (portStart s i).landed = s.landed := rfl

/-- The engine runs from a tide of 0, with the preset swapped in. -/
def State.engineRuns (s : State) : State :=
  { s with core := { s.core with run := .running, tide := {}, boundaryDone := false }
           mix := { s.mix with preset := s.mix.presetNext } }

theorem startEngine_landed (s : State) : (startEngine s).landed = s.landed := by
  have hrest : ∀ u : State, (foldS (List.range 6) (foldS allBuses u.engineRuns syncReset) portStart).landed = u.landed :=
    fun u => (foldS_landed _ _ portStart_landed _).trans
      ((landed_of_steady (foldS_steady _ _ syncReset_steady _)).trans rfl)
  unfold startEngine
  split
  · rfl
  · refine (hrest _).trans ?_
    split
    · exact stopNow_landed s
    · rfl

theorem gtSwitch_steady (s : State) (n : Nat) (on : Bool) : (gtSwitch s n on).steady = s.steady :=
  (gtSwitch_outputsOnly ..).steady

theorem landGtEnable_steady (s : State) (n : Nat) (on : Bool) : (landGtEnable s n on).steady = s.steady := by
  unfold landGtEnable
  split
  · rfl
  · exact gtSwitch_steady ..

theorem landFieldProp_steady (s : State) (p : PropRef) (n : Nat) : (landFieldProp s p n).steady = s.steady := by
  unfold landFieldProp
  split
  case h_8 => exact landGtEnable_steady ..
  all_goals rfl

theorem landDevProp_landed (s : State) (p : PropRef) (n : Nat) : (landDevProp s p n).landed = s.landed := by
  unfold landDevProp
  split
  case h_1 =>
    split
    · unfold beginStop
      split <;> rfl
    · exact startEngine_landed s
  all_goals rfl

theorem landProp_landed (s : State) (t : Tenant) (p : PropRef) (v : Int) : (landProp s t p v).landed = s.landed := by
  unfold landProp
  dsimp only
  split
  · rfl
  · split
    · exact landed_of_steady (landFieldProp_steady ..)
    · split
      case h_19 => exact landDevProp_landed ..
      all_goals rfl

theorem landVoiceParam_steady (s : State) (t : Tenant) (id : BitVec 32) (pid : Nat) (x : Int) :
    (landVoiceParam s t id pid x).steady = s.steady := by
  unfold landVoiceParam
  split
  · rfl
  · split <;> rfl

theorem landSpilledParam_steady (s : State) (o : Nat) (t : Tenant) (id : BitVec 32) (pid : Nat) (x : Int) :
    (landSpilledParam s o t id pid x).steady = s.steady := by
  unfold landSpilledParam
  split <;> rfl

theorem landPartParam_steady (s : State) (t : Tenant) (part pid : Nat) (x : Int) :
    (landPartParam s t part pid x).steady = s.steady :=
  (foldS_steady _ _ (fun _ _ => landVoiceParam_steady ..) _).trans (updTen_steady ..)

theorem landSwitch_steady (s : State) (m : BitVec 32) : (landSwitch s m).steady = s.steady := by
  unfold landSwitch
  split
  · exact (startFade_mixFrame ..).steady
  · rfl

theorem landCvConfig_steady (s : State) (a : CvArgs) : (landCvConfig s a).steady = s.steady := by
  have hset : ∀ u : State, (if u.field.link = .silent then
      (u.updCv a.out.val fun c => { c with enable := a.enable }).putLate (.cv a) else cvSwitch u a).steady = u.steady :=
    fun u => by
      split
      · rfl
      · exact (cvSwitch_outputsOnly ..).steady
  unfold landCvConfig
  refine (hset _).trans ((updCv_outputsOnly ..).steady.trans ?_)
  split
  · exact abandonTrim_steady ..
  · rfl

theorem landLine_steady (s : State) (a : LineArgs) : (landLine s a).steady = s.steady := by
  have hset : ∀ u : State, (if u.field.link = .silent then
      (u.updLo a.out.val fun o => { o with enable := a.enable }).putLate (.line a) else lineSwitch u a).steady = u.steady :=
    fun u => by split <;> rfl
  unfold landLine
  refine (hset _).trans ?_
  split
  · exact abandonTrim_steady ..
  · rfl

theorem landLaneOut_steady (s : State) (n : Nat) : (landLaneOut s n).steady = s.steady := by
  unfold landLaneOut
  exact (parkLane_steady ..).trans ((removeExcess_steady ..).trans rfl)

theorem setField_steady (s : State) (f : Field) : (s.setField f).steady = s.steady := rfl

theorem releaseField_steady (s : State) (h : FieldHold) : (releaseField s h).steady = s.steady := by
  unfold releaseField
  exact (setField_steady ..).trans ((foldS_steady _ _ (fun _ _ => (updLo_outputsOnly ..).steady) _).trans
    ((foldS_steady _ _ (fun _ _ => (updGt_outputsOnly ..).steady) _).trans
      (foldS_steady _ _ (fun _ _ => (updCv_outputsOnly ..).steady) _)))

theorem landPadRelease_steady (s : State) : (landPadRelease s).steady = s.steady := by
  unfold landPadRelease
  dsimp only
  split
  · exact (releaseField_steady ..).trans rfl
  · rfl

/-- A write other than of the wake sources lands: a note's may go on waiting. -/
theorem landWrite_landed (s : State) {w : Write} (hw : w.isWake = false) : (landWrite s w).landed = s.landed ∨
    ∃ n, n.isWake = false ∧ (landWrite s w).landed = { s.landed with readyL := s.landed.readyL ++ [n] } := by
  cases w with
  | wakeConfig m k => cases hw
  | note t id c =>
    unfold landWrite landNote
    dsimp only
    split
    · exact .inl rfl
    · split
      · exact .inl (landed_of_steady (cmdOnVoice_steady ..))
      · exact .inr ⟨_, hw, rfl⟩
  | prop t p v => exact .inl (landProp_landed ..)
  | voiceParam t id pid v => exact .inl (landed_of_steady (landVoiceParam_steady ..))
  | spilledParam o t id pid v => exact .inl (landed_of_steady (landSpilledParam_steady ..))
  | partParam t part pid v => exact .inl (landed_of_steady (landPartParam_steady ..))
  | busResync n => exact .inl (landed_of_steady (syncReset_steady ..))
  | coefSwitch m t g => exact .inl (landed_of_steady (landSwitch_steady ..))
  | cvConfig a => exact .inl (landed_of_steady (landCvConfig_steady ..))
  | lineSpanEnable a => exact .inl (landed_of_steady (landLine_steady ..))
  | laneOut l t g => exact .inl (landed_of_steady (landLaneOut_steady ..))
  | padRelease => exact .inl (landed_of_steady (landPadRelease_steady _))
  | laneIn l t g => exact .inl rfl
  | partPressure t part v => exact .inl rfl
  | partBend t part v => exact .inl rfl
  | partCc t part i v => exact .inl rfl
  | busGain n c => exact .inl rfl
  | busEnable n on => exact .inl rfl
  | busRing n on => exact .inl rfl
  | lineSource o b => exact .inl rfl
  | ciConfig n r b => exact .inl rfl
  | powerEnter st => exact .inl rfl

end Sys2Proof.Machine
end

section
/-! SUPPORT. The block boundary and the two kinds of engine tick: what is due lands, the tide and the tick count go on. -/

namespace Sys2Proof.Machine

/-! ## A run of writes (R26) -/

/-- Writes have landed: the wake sources may have changed, notes that wait stand behind what was due, and a realignment of the
ring has not come from nowhere. -/
def Lands (s u : State) : Prop := ∃ l k p,
  u.landed = { s.landed with readyL := s.landed.readyL ++ l, wake := k, slips := p } ∧
    (∀ w ∈ l, w.isWake = false) ∧ (s.landed.slips = (none, none) → p = (none, none))

theorem Lands.of_landed {s u : State} (h : u.landed = s.landed) : Lands s u :=
  ⟨[], s.landed.wake, s.landed.slips, by rw [h, List.append_nil], by simp, id⟩

theorem Lands.of_steady {s u : State} (h : u.steady = s.steady) : Lands s u := .of_landed (landed_of_steady h)

theorem Lands.trans {a b c : State} (h : Lands a b) (k : Lands b c) : Lands a c := by
  obtain ⟨l, x, p, hb, hl, hp⟩ := h
  obtain ⟨l', x', p', hc, hl', hp'⟩ := k
  refine ⟨l ++ l', x', p', by rw [hc, hb, ← List.append_assoc], fun w hw => ?_, fun hs => hp' (by rw [hb]; exact hp hs)⟩
  rcases List.mem_append.mp hw with hw | hw
  · exact hl w hw
  · exact hl' w hw

theorem Lands.fold {α : Type} (l : List α) (f : State → α → State) (h : ∀ s a, Lands s (f s a)) (s : State) :
    Lands s (foldS l s f) :=
  foldS_keeps (Lands s) l f (fun u a hu => hu.trans (h u a)) (.of_landed rfl)

theorem landWrite_lands (s : State) (w : Write) : Lands s (landWrite s w) := by
  cases hw : w.isWake with
  | true =>
    cases w with
    | wakeConfig m k => exact ⟨[], (m, k), s.landed.slips, by rw [List.append_nil]; rfl, by simp, id⟩
    | _ => cases hw
  | false =>
    rcases landWrite_landed s hw with h | ⟨n, hn, h⟩
    · exact .of_landed h
    · exact ⟨[n], s.landed.wake, s.landed.slips, h, by simpa using hn, id⟩

theorem landB_lands (s : State) : Lands s (landB s) := by
  have htake : Lands s { s with readyB := [] } := .of_landed rfl
  exact htake.trans ((Lands.fold _ _ landWrite_lands _).trans (Lands.fold _ _ landWrite_lands _))

theorem landB_none {s : State} (h : s.readyB = []) : landB s = s := by
  unfold landB
  rw [h]
  exact congrArg (fun l => ({ s with readyB := l } : State)) h.symm

theorem landL_none {s : State} (h : s.readyL = []) : landL s = s := by
  unfold landL
  rw [h]
  exact congrArg (fun l => ({ s with readyL := l } : State)) h.symm

/-- What a tick's writes leave alone whatever they are. -/
structure TickKeeps (s u : State) : Prop where
  pending : u.pending = s.pending
  fuse : u.fuse = s.fuse
  ticks : u.core.ticks = s.core.ticks
  slips : s.landed.slips = (none, none) → u.landed.slips = (none, none)

theorem TickKeeps.trans {a b c : State} (h : TickKeeps a b) (k : TickKeeps b c) : TickKeeps a c :=
  ⟨k.pending.trans h.pending, k.fuse.trans h.fuse, k.ticks.trans h.ticks, fun hs => k.slips (h.slips hs)⟩

theorem Lands.keeps {s u : State} (h : Lands s u) : TickKeeps s u := by
  obtain ⟨l, k, p, hu, -, hp⟩ := h
  exact ⟨congrArg Landed.pending hu, congrArg Landed.fuse hu, congrArg Landed.ticks hu,
    fun hs => (congrArg Landed.slips hu).trans (hp hs)⟩

theorem landL_keeps (s : State) : TickKeeps s (landL s) := by
  have h := (Lands.fold s.readyL landWrite landWrite_lands { s with readyL := [] }).keeps
  exact ⟨h.pending, h.fuse, h.ticks, h.slips⟩

theorem foldS_landWrite_wake {l : List Write} (hl : ∀ w ∈ l, w.isWake = false) (s : State) :
    (foldS l s landWrite).landed.wake = s.landed.wake := by
  induction l generalizing s with
  | nil => rfl
  | cons w l ih =>
    have hw : (landWrite s w).landed.wake = s.landed.wake := by
      rcases landWrite_landed s (hl w List.mem_cons_self) with h | ⟨n, -, h⟩ <;> rw [h]
    exact (ih (fun v hv => hl v (List.mem_cons_of_mem w hv)) _).trans hw

/-- The write of the wake sources that is due is the one in effect. -/
theorem landL_wake {s : State} {m : BitVec 7} {k : Nat} {l : List Write} (h : s.readyL = .wakeConfig m k :: l)
    (hl : ∀ w ∈ l, w.isWake = false) : (landL s).landed.wake = (m, k) := by
  unfold landL
  rw [h]
  exact foldS_landWrite_wake hl _

/-! ## The block boundary (R20, R271, R290) -/

/-- The ring's realignment alone may change, and not from nothing. -/
def SlipsOnly (s u : State) : Prop := ∃ p, u.steady = { s.steady with slips := p } ∧
  (s.steady.slips = (none, none) → p = (none, none))

theorem SlipsOnly.of_steady {s u : State} (h : u.steady = s.steady) : SlipsOnly s u := ⟨s.steady.slips, h, id⟩

theorem SlipsOnly.trans {a b c : State} (h : SlipsOnly a b) (k : SlipsOnly b c) : SlipsOnly a c := by
  obtain ⟨p, hb, hp⟩ := h
  obtain ⟨q, hc, hq⟩ := k
  exact ⟨q, by rw [hc, hb], fun hs => hq (by rw [hb]; exact hp hs)⟩

theorem SlipsOnly.lands {s u : State} (h : SlipsOnly s u) : Lands s u := by
  obtain ⟨p, hu, hp⟩ := h
  exact ⟨[], s.landed.wake, p, by rw [List.append_nil]; exact congrArg Steady.landed hu, by simp, hp⟩

theorem slipBoundary_slipsOnly (s : State) : SlipsOnly s (slipBoundary s) := by
  unfold slipBoundary
  split
  next d h =>
    refine ⟨(some d, none), rfl, fun hs => ?_⟩
    have hdue : s.ring.slipDue = none := congrArg Prod.snd hs
    rw [hdue] at h
    cases h
  next => exact .of_steady rfl

theorem ringSend_spill (s : State) (i : RingItem) : SpillFrame s (ringSend s i) := rfl

theorem countSilent_spill (s : State) (l : List GossipEntry) : SpillFrame s (countSilent s l) := by
  unfold countSilent
  exact (SpillFrame.fold _ _ ringSend_spill _).after rfl

theorem countSilent_steady (s : State) (l : List GossipEntry) : (countSilent s l).steady = s.steady := by
  unfold countSilent
  exact (foldS_steady _ _ ringSend_steady _).trans rfl

theorem ageSpills_steady (s : State) : (ageSpills s).steady = s.steady := foldS_steady _ _ (fun _ _ => updTen_steady ..) s

theorem updTen_spill (s : State) (t : Tenant) (f : TenantSt → TenantSt) : SpillFrame s (s.updTen t f) := rfl

theorem ageSpills_spill (s : State) : SpillFrame s (ageSpills s) := SpillFrame.fold _ _ (fun _ _ => updTen_spill ..) s

theorem slipBoundary_spill (s : State) : SpillFrame s (slipBoundary s) := by
  unfold slipBoundary
  split <;> rfl

theorem ringBoundary_slipsOnly (s : State) : SlipsOnly s (ringBoundary s) := by
  have hcount : ∀ b : Bool, SlipsOnly s (if b then s else countSilent s []) := fun b => by
    cases b
    · exact .of_steady (countSilent_steady ..)
    · exact .of_steady rfl
  unfold ringBoundary
  split
  · extract_lets v r
    have hv : SlipsOnly s v := ((hcount _).trans (slipBoundary_slipsOnly _)).trans (.of_steady (ageSpills_steady _))
    exact hv.trans (.of_steady rfl)
  · exact .of_steady rfl

theorem ringBoundary_spill (s : State) : SpillFrame s (ringBoundary s) := by
  have hcount : ∀ b : Bool, SpillFrame s (if b then s else countSilent s []) := fun b => by
    cases b
    · exact countSilent_spill ..
    · exact SpillFrame.refl s
  unfold ringBoundary
  split
  · extract_lets v r
    have hv : SpillFrame s v := ((hcount _).trans (slipBoundary_spill _)).trans (ageSpills_spill _)
    exact hv.trans rfl
  · exact SpillFrame.refl s

theorem dropSpills_steady (s : State) : (dropSpills s).steady = s.steady :=
  (foldS_steady _ _ loseNotesOn_steady _).trans
    (foldS_steady _ _ (fun _ _ => (toldStolen_steady ..).trans (beginFade_steady ..)) s)

theorem standalone_slipsOnly (s : State) : SlipsOnly s (standalone s) := ⟨(none, none), rfl, fun _ => rfl⟩

theorem leaveBoundary_slipsOnly (s : State) : SlipsOnly s (leaveBoundary s) := by
  unfold leaveBoundary
  split
  · exact ((SlipsOnly.of_steady (dropSpills_steady s)).trans (standalone_slipsOnly _)).trans
      (.of_steady (finishRef_steady ..))
  · exact .of_steady rfl

/-- The work of a boundary before its writes land. -/
def State.boundaryOpened (s : State) : State :=
  ringBoundary (startPutOff { s with core := { s.core with boundaryDone := true } })

/-- The work of a boundary after its writes have landed. -/
def afterLanding (s : State) : State := leaveBoundary (periodicAfterNap (joinLanes (beatZeros s)))

theorem boundaryWork_eq (s : State) : boundaryWork s = afterLanding (landB s.boundaryOpened) := rfl

theorem startPutOff_mixFrame (s : State) : MixFrame s (startPutOff s) := by
  unfold startPutOff
  exact (MixFrame.fold _ _ (fun _ _ => startFade_mixFrame ..) _).after rfl

theorem afterLanding_slipsOnly (s : State) : SlipsOnly s (afterLanding s) := by
  have hbeats : (beatZeros s).steady = s.steady := foldS_steady _ _ (fun _ _ => updTen_steady ..) s
  exact (SlipsOnly.of_steady ((periodicAfterNap_steady _).trans
    ((foldS_steady _ _ joinLane_steady _).trans hbeats))).trans (leaveBoundary_slipsOnly _)

/-- The boundary is opened on a state whose boundary is noted as done. -/
theorem boundaryOpened_slipsOnly (s : State) :
    SlipsOnly { s with core := { s.core with boundaryDone := true } } s.boundaryOpened :=
  (SlipsOnly.of_steady (startPutOff_mixFrame _).steady).trans (ringBoundary_slipsOnly _)

theorem boundaryOpened_readyB (s : State) : s.boundaryOpened.readyB = s.readyB := by
  have hring := ringBoundary_spill (startPutOff { s with core := { s.core with boundaryDone := true } })
  have hmix := startPutOff_mixFrame { s with core := { s.core with boundaryDone := true } }
  unfold SpillFrame at hring
  unfold MixFrame at hmix
  rw [State.boundaryOpened, hring, hmix]

theorem boundaryWork_lands (s : State) : Lands s (boundaryWork s) := by
  have hnoted : Lands s { s with core := { s.core with boundaryDone := true } } := .of_landed rfl
  rw [boundaryWork_eq]
  exact hnoted.trans ((boundaryOpened_slipsOnly s).lands.trans ((landB_lands _).trans (afterLanding_slipsOnly _).lands))

/-- With no write due, the boundary's work is noted and the ring may realign. -/
theorem boundaryWork_quiet {s : State} (h : s.readyB = []) :
    SlipsOnly { s with core := { s.core with boundaryDone := true } } (boundaryWork s) := by
  rw [boundaryWork_eq, landB_none ((boundaryOpened_readyB s).trans h)]
  exact (boundaryOpened_slipsOnly s).trans (afterLanding_slipsOnly _)

theorem joinLane_mix (s : State) (n : Nat) : (joinLane s n).mix = s.mix := by
  have htold : ∀ (u : State) arg r, (finishRef (steward u .laneState arg []) r .ok (.note 0)).mix = u.mix := fun u arg r => by
    have h := (steward_eventFrame u .laneState arg []).trans (finishRef_tenantsOnly _ r .ok (.note 0)).eventFrame
    unfold EventFrame at h
    rw [h]
  unfold joinLane
  dsimp only
  split
  · exact (htold ..).trans rfl
  · rfl

theorem SpillFrame.mix {s u : State} (h : SpillFrame s u) : u.mix = s.mix := by
  unfold SpillFrame at h
  rw [h]

theorem standalone_spill (s : State) : SpillFrame s (standalone s) := rfl

theorem leaveBoundary_mix (s : State) : (leaveBoundary s).mix = s.mix := by
  unfold leaveBoundary
  split
  · exact ((dropSpills_spill s).trans ((standalone_spill _).trans (finishRef_tenantsOnly ..).spill)).mix
  · rfl

theorem afterLanding_mix (s : State) : (afterLanding s).mix = s.mix := by
  have hbeats : (beatZeros s).mix = s.mix := (SpillFrame.fold _ _ (fun _ _ => updTen_spill ..) s).mix
  have hlanes : ∀ u, (joinLanes u).mix = u.mix := fun u =>
    foldS_keeps (fun v => v.mix = u.mix) _ _ (fun v n hv => (joinLane_mix v n).trans hv) rfl
  have hperiodic : ∀ u, (periodicAfterNap u).mix = u.mix := fun u => by
    unfold periodicAfterNap startPeriodic
    split
    · split <;> rfl
    · rfl
  exact (leaveBoundary_mix _).trans ((hperiodic _).trans ((hlanes _).trans hbeats))

/-! ## The entry to a power state (R326 to R332) -/

theorem deactivate_steady (s : State) : (deactivate s).steady = s.steady := by
  unfold deactivate
  split
  · dsimp only
    refine (raiseTo_steady ..).trans ?_
    split <;> rfl
  · rfl

theorem cardFail_steady (s : State) (st : Status) : (cardFail s st).steady = s.steady :=
  (deactivate_steady _).trans (finishRef_steady ..)

theorem dropTx_steady (s : State) (n : Nat) : (dropTx s n).steady = s.steady := by
  unfold dropTx
  exact (foldS_steady _ _ (fun _ _ => finish_steady ..) _).trans rfl

theorem abortWaiting_steady (s : State) (t : Tenant) : (abortWaiting s t).steady = s.steady :=
  foldS_steady _ _ (fun _ _ => finish_steady ..) s

theorem powerEvent_steady (s : State) (kind n : Nat) : (powerEvent s kind n).steady = s.steady := steward_steady ..

theorem clearEntry_steady (s : State) : (clearEntry s).steady = s.steady := rfl

/-- The power part changed in what is no wake source. -/
def State.enters (s : State) (st : PState) : State :=
  { s with power := { s.power with st := st, request := none, timerEntry := none } }

theorem enters_steady (s : State) (st : PState) : (s.enters st).steady = s.steady := rfl

theorem enterDoze_steady (s : State) (byCommand : Bool) : (enterDoze s byCommand).steady = s.steady := by
  unfold enterDoze
  split
  · exact (powerEvent_steady ..).trans (clearEntry_steady s)
  · refine (enters_steady _ .doze).trans ?_
    split
    · exact powerEvent_steady ..
    · rfl

theorem enterNap_steady (s : State) : (enterNap s).steady = s.steady := by
  unfold enterNap
  extract_lets v w
  have hv : v.steady = s.steady := by
    change State.steady (ite _ _ _) = _
    split <;> rfl
  split
  · exact (powerEvent_steady ..).trans ((clearEntry_steady v).trans hv)
  · exact Eq.trans (b := w.steady) rfl ((powerEvent_steady v 1 2).trans hv)

/-- The quiesce of a HIBERNATE entry begins with a stop fade. -/
def State.quiesceFades (s : State) : State :=
  { s with core := { s.core with run := .stopping, stopPos := 0 }, power := { s.power with quiesceFade := true } }

/-- Only the quiesce of a HIBERNATE entry touches the engine: it begins its stop fade. -/
def Quiesces (s u : State) : Prop := u.steady = s.steady ∨ (s.core.run = .running ∧ u.steady = s.quiesceFades.steady)

theorem quiesceFades_steady {s u : State} (h : u.steady = s.steady) : u.quiesceFades.steady = s.quiesceFades.steady :=
  congrArg (fun x : Steady => { x with core := { x.core with run := .stopping, stopPos := 0 }, quiesceFade := true }) h

theorem startHibernate_quiesces (s : State) (byCommand : Bool) : Quiesces s (startHibernate s byCommand) := by
  have hleave : ∀ (u : State) (b : Bool), (if b then announceLeave u none else u).steady = u.steady := fun u b => by
    cases b <;> rfl
  have hcard : ∀ u : State, (if u.card.active then (if u.card.ref.isSome then cardFail u .cardAbsent else deactivate u)
      else u).steady = u.steady := fun u => by
    split
    · split
      · exact cardFail_steady ..
      · exact deactivate_steady u
    · rfl
  unfold startHibernate
  extract_lets fw pw v1 v2 v3 v4 v5
  have h1 : v1.steady = s.steady := rfl
  have h2 : v2.steady = v1.steady := hleave v1 (v1.onRing && !v1.ring.leaving)
  have h3 : v3.steady = v2.steady := foldS_steady allTenants abortWaiting abortWaiting_steady v2
  have h4 : v4.steady = v3.steady := hcard v3
  have h5 : v5.steady = v4.steady := foldS_steady (List.range 4) dropTx dropTx_steady v4
  clear_value v1 v2 v3 v4 v5
  have hv : v5.steady = s.steady := h5.trans (h4.trans (h3.trans (h2.trans h1)))
  split
  next hsound =>
    have hcore : v5.core = s.core := congrArg Steady.core hv
    exact .inr ⟨by rw [← hcore]; exact hsound.2, quiesceFades_steady hv⟩
  next => exact .inl hv

theorem powerBoundary_quiesces (s : State) : Quiesces s (powerBoundary s) := by
  unfold powerBoundary
  split
  · exact .inl rfl
  · split
    · split
      · exact startHibernate_quiesces ..
      · exact .inl rfl
    · split
      · exact .inl (enterDoze_steady ..)
      · exact .inl (enterNap_steady s)
      · exact startHibernate_quiesces ..
      · split <;> exact .inl rfl

end Sys2Proof.Machine
end

section
/-! SUPPORT. The engine tick: its stages up to the landing of what is due, the work of the tick, and its end. -/

namespace Sys2Proof.Machine

/-! ## Up to the landing -/

/-- The first tick of a sample: fades that are over end, and the outputs take their codes. -/
def sampleOpened (first : Bool) (s : State) : State := if first then outputSamples (endDueFades s) else s

theorem endDueFades_mixFrame (s : State) : MixFrame s (endDueFades s) := by
  unfold endDueFades
  split
  · exact MixFrame.refl s
  · exact endFades_mixFrame ..

theorem sampleOpened_steady (first : Bool) (s : State) : (sampleOpened first s).steady = s.steady := by
  unfold sampleOpened
  split
  · exact (outputSamples_outputsOnly _).steady.trans (endDueFades_mixFrame s).steady
  · rfl

theorem OutputsOnly.readyB {s u : State} (h : OutputsOnly s u) : u.readyB = s.readyB := by
  rw [h.frame]
  rfl

theorem outputSamples_readyB (s : State) : (outputSamples s).readyB = s.readyB := (outputSamples_outputsOnly s).readyB

theorem sampleOpened_readyB (first : Bool) (s : State) : (sampleOpened first s).readyB = s.readyB := by
  unfold sampleOpened
  split
  · refine (outputSamples_readyB _).trans ?_
    have h := endDueFades_mixFrame s
    unfold MixFrame at h
    rw [h]
  · rfl

theorem atBoundary_lands (s : State) : Lands s (atBoundary s) := by
  unfold atBoundary
  split
  · exact boundaryWork_lands s
  · exact .of_steady rfl

theorem landTick_keeps (s : State) : TickKeeps s (landTick s) :=
  (landL_keeps s).trans (Lands.of_steady ((landGates_steady _).trans (landCvSets_steady _))).keeps

theorem landTick_wake {s u : State} {m : BitVec 7} {k : Nat} (hl : Lands s u) (h : s.readyL = [.wakeConfig m k]) :
    (landTick u).landed.wake = (m, k) := by
  obtain ⟨l, x, p, hu, hnote, -⟩ := hl
  have hready : u.readyL = .wakeConfig m k :: l := (congrArg Landed.readyL hu).trans (by rw [← List.singleton_append, ← h]; rfl)
  exact (congrArg Steady.wake ((landGates_steady _).trans (landCvSets_steady _))).trans (landL_wake hready hnote)

/-- With nothing due, the boundary alone is noted, and the ring may realign. -/
def Quiet (s u : State) : Prop := ∃ b p, u.steady = { s.steady with core := { s.core with boundaryDone := b }, slips := p } ∧
  (s.steady.slips = (none, none) → p = (none, none))

theorem Quiet.after_steady {s u v : State} (h : Quiet u v) (hs : u.steady = s.steady) : Quiet s v := by
  obtain ⟨b, p, hv, hp⟩ := h
  have hcore : u.core = s.core := congrArg Steady.core hs
  exact ⟨b, p, by rw [hv, hs, hcore], fun hq => hp (by rw [hs]; exact hq)⟩

theorem boundaryWork_noted {s : State} (h : s.readyB = []) : Quiet s (boundaryWork s) := by
  obtain ⟨p, hu, hp⟩ := boundaryWork_quiet h
  exact ⟨true, p, hu, hp⟩

theorem atBoundary_quiet {s : State} (h : s.readyB = []) : Quiet s (atBoundary s) := by
  unfold atBoundary
  split
  · exact boundaryWork_noted h
  · exact ⟨s.core.boundaryDone, s.steady.slips, rfl, id⟩

theorem landTick_quiet {s u : State} (hq : Quiet s u) (h : s.readyL = []) : Quiet s (landTick u) := by
  obtain ⟨b, p, hu, hp⟩ := hq
  have hready : u.readyL = [] := (congrArg Steady.readyL hu).trans h
  refine ⟨b, p, ?_, hp⟩
  rw [landTick, landL_none hready]
  exact ((landGates_steady _).trans (landCvSets_steady _)).trans hu

/-! ## The work of a tick -/

/-- A place in the stop fade. -/
def Steady.atPos (y : Steady) (x : Nat) : Steady := { y with core := { y.core with stopPos := x } }

/-- The work of a tick: the quiesce of a HIBERNATE entry may begin its fade, and the fade goes on. -/
def Works (s u : State) : Prop := ∃ v x, Quiesces s v ∧ u.steady = v.steady.atPos x

theorem Works.of_quiesces {s v u : State} (h : Quiesces s v) (hu : u.steady = v.steady) : Works s u :=
  ⟨v, v.core.stopPos, h, hu⟩

theorem Works.landed {s u : State} (h : Works s u) : u.landed = s.landed := by
  obtain ⟨v, x, hv, hu⟩ := h
  have hvs : v.landed = s.landed := by
    rcases hv with hv | ⟨-, hv⟩
    · exact landed_of_steady hv
    · exact (congrArg Steady.landed hv).trans rfl
  exact (congrArg Steady.landed hu).trans hvs

theorem Works.nvm {s u : State} (h : Works s u) : u.steady.nvm = s.steady.nvm := by
  obtain ⟨v, x, hv, hu⟩ := h
  have hvs : v.steady.nvm = s.steady.nvm := by
    rcases hv with hv | ⟨-, hv⟩
    · rw [hv]
    · rw [hv]; rfl
  exact (congrArg Steady.nvm hu).trans hvs

theorem Works.tide {s u : State} (h : Works s u) : u.core.tide = s.core.tide ∧ u.core.osr = s.core.osr := by
  obtain ⟨v, x, hv, hu⟩ := h
  have hcore : u.core = { v.core with stopPos := x } := congrArg Steady.core hu
  rcases hv with hv | ⟨-, hv⟩
  · have hvc : v.core = s.core := congrArg Steady.core hv
    exact ⟨by rw [hcore, hvc], by rw [hcore, hvc]⟩
  · have hvc : v.core = s.quiesceFades.core := congrArg Steady.core hv
    exact ⟨by rw [hcore, hvc]; rfl, by rw [hcore, hvc]; rfl⟩

/-- A running engine that the work stops is one that a HIBERNATE entry quiesces. -/
theorem Works.running {s u : State} (h : Works s u) (hr : s.core.run = .running) :
    u.core.run = .running ∨ u.power.quiesceFade = true := by
  obtain ⟨v, x, hv, hu⟩ := h
  rcases hv with hv | ⟨-, hv⟩
  · have hrun : v.core.run = s.core.run := congrArg (fun y : Steady => y.core.run) hv
    exact .inl ((congrArg (fun y : Steady => y.core.run) hu).trans (hrun.trans hr))
  · exact .inr ((congrArg Steady.quiesceFade hu).trans (congrArg Steady.quiesceFade hv))

theorem Works.stopped {s u : State} (h : Works s u) (hr : s.core.run = .stopped) : u.core.run = .stopped := by
  obtain ⟨v, x, hv, hu⟩ := h
  rcases hv with hv | ⟨hrun, -⟩
  · have hvr : v.core.run = s.core.run := congrArg (fun y : Steady => y.core.run) hv
    exact (congrArg (fun y : Steady => y.core.run) hu).trans (hvr.trans hr)
  · rw [hr] at hrun
    cases hrun

/-- The voices and the buses of a tick. -/
def audioTick (s : State) : State := if s.engGated then s else foldS allBuses (voicesTick s) busTick

theorem audioTick_steady (s : State) : (audioTick s).steady = s.steady := by
  unfold audioTick
  split
  · rfl
  · exact (foldS_steady _ _ busTick_steady _).trans (voicesTick_steady s)

theorem sampleEnd_steady (s : State) : ∃ x, (sampleEnd s).steady = s.steady.atPos x := by
  have hscore : ∀ u : State, (if u.engGated then u else { u with voices := u.voices.map (scoreTick u) } : State).steady =
      u.steady := fun u => by split <;> rfl
  have hout := (ringSample_steady _).trans ((sampleOut_steady _).trans (hscore s))
  exact ⟨_, congrArg (fun y : Steady => y.atPos _) hout⟩

/-- The work of a tick of the running engine after what was due has landed. -/
def runningWork (last : Bool) (s : State) : State :=
  let s := ringWork (if s.core.tide.isBoundary then powerBoundary s else s)
  let s := tickMoves (abandonInputs s)
  let s := beatsTick (audioTick (if last then sampleIn s else s))
  if last then sampleEnd s else s

theorem runningWork_works (last : Bool) (s : State) : Works s (runningWork last s) := by
  have hpower : ∀ b : Bool, Quiesces s (if b then powerBoundary s else s) := fun b => by
    cases b
    · exact .inl rfl
    · exact powerBoundary_quiesces s
  unfold runningWork
  extract_lets v1 v2 v3
  have h2 : v2.steady = v1.steady := (tickMoves_steady _).trans (abandonInputs_steady _)
  have h3 : v3.steady = v2.steady := by
    refine (beatsTick_steady _).trans ((audioTick_steady _).trans ?_)
    split
    · exact sampleIn_steady _
    · rfl
  have h1 : v3.steady = _ := h3.trans (h2.trans (ringWork_steady _))
  split
  · obtain ⟨x, hx⟩ := sampleEnd_steady v3
    exact ⟨_, x, hpower _, hx.trans (congrArg (fun y : Steady => y.atPos x) h1)⟩
  · exact .of_quiesces (hpower _) h1

/-- The work of a tick of the stopped engine after what was due has landed. -/
def stoppedWork (first : Bool) (s : State) : State :=
  let s := tickMoves (abandonInputs (powerBoundary s))
  if first then quietStep (sampleOut (sampleIn s)) else s

theorem stoppedWork_works (first : Bool) (s : State) : Works s (stoppedWork first s) := by
  have hmoves : (tickMoves (abandonInputs (powerBoundary s))).steady = (powerBoundary s).steady :=
    (tickMoves_steady _).trans (abandonInputs_steady _)
  unfold stoppedWork
  dsimp only
  split
  · exact .of_quiesces (powerBoundary_quiesces s) ((quietStep_steady _).trans ((sampleOut_steady _).trans
      ((sampleIn_steady _).trans hmoves)))
  · exact .of_quiesces (powerBoundary_quiesces s) hmoves

/-! ## The end of a tick -/

theorem rotate_steady (s : State) : (rotate s).steady = { s.steady with readyL := s.readyL ++ s.pendL } := rfl

/-- What a tick ends with: what was executed in it is due, and the count goes on. -/
def rotated (s : State) : State := rotate (hibernateCount s)

theorem rotated_steady (s : State) : ∃ l, (rotated s).steady = { s.steady with readyL := l } :=
  ⟨_, by rw [rotated, rotate_steady, hibernateCount_steady]⟩

/-- The end of a tick of the running engine. -/
def runningEnd (s : State) : State :=
  let s := advance (rotated s)
  if s.stopDue && !s.power.quiesceFade then stopNow s else s

/-- The end of a tick of the stopped engine. -/
def stoppedEnd (s : State) : State :=
  let s := rotated s
  { s with core := { s.core with ticks := s.core.ticks + 1, boundaryDone := false } }

theorem runningTick_eq (s : State) : runningTick s = runningEnd (runningWork (s.core.tide.et + 1 == s.core.osr)
    (landTick (atBoundary (sampleOpened (s.core.tide.et == 0) s)))) := rfl

theorem stoppedTick_eq (s : State) : stoppedTick s = stoppedEnd (stoppedWork (s.core.ticks % s.core.osr == 0)
    (landTick (boundaryWork (if s.core.ticks % s.core.osr == 0 then outputSamples s else s)))) := rfl

/-- A tick has ended: it is counted. -/
structure TickEnds (s u : State) : Prop where
  pending : u.pending = s.pending
  fuse : u.fuse = s.fuse
  ticks : u.core.ticks = s.core.ticks + 1
  nvm : u.steady.nvm = s.steady.nvm
  wake : u.steady.wake = s.steady.wake

theorem TickEnds.of_core {s u : State} {c : Core} {l : List Write} {p : Option Bool × Option Bool}
    (h : u.steady = { s.steady with core := c, readyL := l, slips := p }) (hc : c.ticks = s.core.ticks + 1) : TickEnds s u :=
  ⟨(congrArg Steady.pending h).trans rfl, (congrArg Steady.fuse h).trans rfl,
    (congrArg (fun y : Steady => y.core.ticks) h).trans hc, (congrArg Steady.nvm h).trans rfl,
    (congrArg Steady.wake h).trans rfl⟩

/-- The engine's own state as the tide goes on. -/
def State.nextCore (s : State) : Core :=
  { s.core with tide := nextTide s, ticks := s.core.ticks + 1,
                boundaryDone := (nextTide s).et == 0 && s.ring.slipNow == some false }

theorem advance_steady (s : State) : (advance s).steady = { s.steady with
    core := s.nextCore, slips := (if (nextTide s).et = 0 then none else s.ring.slipNow, s.ring.slipDue) } := rfl

theorem nextCore_rotated (s : State) : (rotated s).nextCore = s.nextCore := by
  obtain ⟨l, h⟩ := rotated_steady s
  have hcore : (rotated s).core = s.core := congrArg Steady.core h
  have hslip : (rotated s).ring.slipNow = s.ring.slipNow := congrArg (fun y : Steady => y.slips.1) h
  unfold State.nextCore nextTide
  rw [hcore, hslip]

theorem advance_rotated (s : State) : ∃ l p, (advance (rotated s)).steady =
    { s.steady with core := s.nextCore, readyL := l, slips := p } := by
  obtain ⟨l, h⟩ := rotated_steady s
  exact ⟨l, _, by rw [advance_steady, h, nextCore_rotated]⟩

theorem runningEnd_ends (s : State) : ∃ c l p, (runningEnd s).steady = { s.steady with core := c, readyL := l, slips := p } ∧
    (c = s.nextCore ∨ (c = s.nextCore.halted ∧ s.core.run = .stopping ∧ s.power.quiesceFade = false)) := by
  obtain ⟨l, p, h⟩ := advance_rotated s
  have hrun : (advance (rotated s)).core.run = s.core.run := congrArg (fun y : Steady => y.core.run) h
  have hquiesce : (advance (rotated s)).power.quiesceFade = s.power.quiesceFade := congrArg Steady.quiesceFade h
  unfold runningEnd
  dsimp only
  split
  next hstop =>
    obtain ⟨hdue, hq⟩ := Bool.and_eq_true_iff.mp hstop
    have hstopping : (advance (rotated s)).core.run = .stopping := by
      simpa using (Bool.and_eq_true_iff.mp hdue).1
    exact ⟨s.nextCore.halted, l, p, by rw [stopNow_steady, h],
      .inr ⟨rfl, hrun.symm.trans hstopping, by rw [← hquiesce]; simpa using hq⟩⟩
  next => exact ⟨s.nextCore, l, p, h, .inl rfl⟩

theorem runningEnd_counts (s : State) : TickEnds s (runningEnd s) := by
  obtain ⟨c, l, p, h, hc⟩ := runningEnd_ends s
  refine .of_core h ?_
  rcases hc with rfl | ⟨rfl, -⟩ <;> rfl

theorem nextTide_slipless {s : State} (h : s.ring.slipNow = none) : nextTide s = s.core.tide.succ s.core.osr := by
  unfold nextTide
  rw [h]
  dsimp only
  split <;> rfl

theorem runningEnd_boundary {s : State} (h : s.ring.slipNow = none) : (runningEnd s).core.boundaryDone = false := by
  obtain ⟨c, l, p, hs, hc⟩ := runningEnd_ends s
  have hcore : (runningEnd s).core = c := congrArg Steady.core hs
  rw [hcore]
  rcases hc with rfl | ⟨rfl, -⟩
  · unfold State.nextCore
    rw [h]
    exact Bool.and_false _
  · rfl

theorem runningEnd_tide {s : State} (h : s.ring.slipNow = none)
    (hrun : s.core.run = .running ∨ s.power.quiesceFade = true) :
    (runningEnd s).core.tide = s.core.tide.succ s.core.osr := by
  obtain ⟨c, l, p, hs, hc⟩ := runningEnd_ends s
  have hcore : (runningEnd s).core = c := congrArg Steady.core hs
  rw [hcore]
  rcases hc with rfl | ⟨-, hstop, hq⟩
  · exact nextTide_slipless h
  · rcases hrun with hr | hr
    · rw [hr] at hstop; cases hstop
    · rw [hr] at hq; cases hq

theorem stoppedEnd_ends (s : State) : ∃ l, (stoppedEnd s).steady =
    { s.steady with core := { s.core with ticks := s.core.ticks + 1, boundaryDone := false }, readyL := l } := by
  obtain ⟨l, h⟩ := rotated_steady s
  have hcore : (rotated s).core = s.core := congrArg Steady.core h
  exact ⟨l, (congrArg (fun y : Steady =>
    { y with core := { (rotated s).core with ticks := (rotated s).core.ticks + 1, boundaryDone := false } }) h).trans
      (by rw [hcore])⟩

theorem stoppedEnd_counts (s : State) : TickEnds s (stoppedEnd s) := by
  obtain ⟨l, h⟩ := stoppedEnd_ends s
  exact .of_core (p := s.steady.slips) h rfl

/-! ## The whole tick (R16, R31, R32) -/

/-- What any tick does: it counts, and leaves the commands that wait and the fuses alone. -/
structure Counted (s u : State) : Prop where
  pending : u.pending = s.pending
  fuse : u.fuse = s.fuse
  ticks : u.core.ticks = s.core.ticks + 1

theorem TickKeeps.counted {s a c u : State} (h : TickKeeps s a) (k : Works a c) (e : TickEnds c u) : Counted s u := by
  have hw := k.landed
  exact ⟨e.pending.trans ((congrArg Landed.pending hw).trans h.pending),
    e.fuse.trans ((congrArg Landed.fuse hw).trans h.fuse),
    e.ticks.trans (congrArg (· + 1) ((congrArg Landed.ticks hw).trans h.ticks))⟩

/-- What has landed when the work of a running tick begins. -/
def State.runningLanded (s : State) : State := landTick (atBoundary (sampleOpened (s.core.tide.et == 0) s))

/-- What has landed when the work of a stopped tick begins. -/
def State.stoppedLanded (s : State) : State :=
  landTick (boundaryWork (if s.core.ticks % s.core.osr == 0 then outputSamples s else s))

theorem stoppedOpened_steady (first : Bool) (s : State) : (if first then outputSamples s else s).steady = s.steady := by
  cases first
  · rfl
  · exact (outputSamples_outputsOnly s).steady

theorem stoppedOpened_readyB (first : Bool) (s : State) : (if first then outputSamples s else s).readyB = s.readyB := by
  cases first
  · rfl
  · exact outputSamples_readyB s

theorem runningLanded_keeps (s : State) : TickKeeps s s.runningLanded :=
  ((Lands.of_steady (sampleOpened_steady ..)).trans (atBoundary_lands _)).keeps.trans (landTick_keeps _)

theorem stoppedLanded_keeps (s : State) : TickKeeps s s.stoppedLanded :=
  ((Lands.of_steady (stoppedOpened_steady ..)).trans (boundaryWork_lands _)).keeps.trans (landTick_keeps _)

theorem runningLanded_quiet {s : State} (hl : s.readyL = []) (hb : s.readyB = []) : Quiet s s.runningLanded :=
  landTick_quiet ((atBoundary_quiet ((sampleOpened_readyB ..).trans hb)).after_steady (sampleOpened_steady ..)) hl

theorem stoppedLanded_quiet {s : State} (hl : s.readyL = []) (hb : s.readyB = []) : Quiet s s.stoppedLanded :=
  landTick_quiet ((boundaryWork_noted ((stoppedOpened_readyB ..).trans hb)).after_steady (stoppedOpened_steady ..)) hl

theorem Quiet.nvm {s u : State} (h : Quiet s u) : u.steady.nvm = s.steady.nvm := by
  obtain ⟨b, p, hu, -⟩ := h
  rw [hu]

theorem Quiet.core {s u : State} (h : Quiet s u) : u.core.tide = s.core.tide ∧ u.core.osr = s.core.osr ∧
    u.core.run = s.core.run := by
  obtain ⟨b, p, hu, -⟩ := h
  have hcore : u.core = { s.core with boundaryDone := b } := congrArg Steady.core hu
  rw [hcore]
  exact ⟨rfl, rfl, rfl⟩

/-- The ring does not realign to the marker. -/
def State.slipless (s : State) : Prop := s.ring.slipNow = none ∧ s.ring.slipDue = none

theorem slipless_iff (s : State) : s.slipless ↔ s.landed.slips = (none, none) := by
  rw [show s.landed.slips = (s.ring.slipNow, s.ring.slipDue) from rfl, Prod.mk.injEq]
  rfl

/-- The state after the work of a running tick. -/
def State.runningWorked (s : State) : State := runningWork (s.core.tide.et + 1 == s.core.osr) s.runningLanded

/-- The state after the work of a stopped tick. -/
def State.stoppedWorked (s : State) : State := stoppedWork (s.core.ticks % s.core.osr == 0) s.stoppedLanded

theorem runningWorked_works (s : State) : Works s.runningLanded s.runningWorked := runningWork_works ..

theorem stoppedWorked_works (s : State) : Works s.stoppedLanded s.stoppedWorked := stoppedWork_works ..

theorem runningWorked_slipless {s : State} (h : s.slipless) : s.runningWorked.ring.slipNow = none :=
  congrArg Prod.fst ((congrArg Landed.slips (runningWorked_works s).landed).trans
    ((runningLanded_keeps s).slips ((slipless_iff s).mp h)))

theorem tick_running {s : State} (hs : s.strobes = true) (hr : s.core.run ≠ .stopped) :
    tick s = settleSessions (runningEnd s.runningWorked) := by
  rw [tick, if_pos hs, if_neg (by simpa [State.engStopped] using hr), runningTick_eq]
  rfl

theorem tick_stopped {s : State} (hs : s.strobes = true) (hr : s.core.run = .stopped) :
    tick s = settleSessions (stoppedEnd s.stoppedWorked) := by
  rw [tick, if_pos hs, if_pos (by simp [State.engStopped, hr]), stoppedTick_eq]
  rfl

theorem tick_idle {s : State} (hs : s.strobes = false) : tick s = s := if_neg (by simp [hs])

/-- A tick's end and the sessions that settle after it. -/
theorem tick_ends {s : State} (hs : s.strobes = true) : ∃ a c u, TickKeeps s a ∧ Works a c ∧ TickEnds c u ∧
    (tick s).steady = u.steady ∧ (s.readyL = [] → s.readyB = [] → Quiet s a) ∧
    (∀ m k, s.readyL = [.wakeConfig m k] → a.landed.wake = (m, k)) := by
  by_cases hr : s.core.run = .stopped
  · exact ⟨_, _, _, stoppedLanded_keeps s, stoppedWorked_works s, stoppedEnd_counts _,
      by rw [tick_stopped hs hr, settleSessions_steady], stoppedLanded_quiet,
      fun m k => landTick_wake ((Lands.of_steady (stoppedOpened_steady ..)).trans (boundaryWork_lands _))⟩
  · exact ⟨_, _, _, runningLanded_keeps s, runningWorked_works s, runningEnd_counts _,
      by rw [tick_running hs hr, settleSessions_steady], runningLanded_quiet,
      fun m k => landTick_wake ((Lands.of_steady (sampleOpened_steady ..)).trans (atBoundary_lands _))⟩

theorem tick_counted {s : State} (hs : s.strobes = true) : Counted s (tick s) := by
  obtain ⟨a, c, u, ha, hc, hu, htick, -⟩ := tick_ends hs
  have h := ha.counted hc hu
  exact ⟨(congrArg Steady.pending htick).trans h.pending, (congrArg Steady.fuse htick).trans h.fuse,
    (congrArg (fun y : Steady => y.core.ticks) htick).trans h.ticks⟩

/-- With nothing due, MRAM keeps all but an owed tamper record. -/
theorem tick_nvm {s : State} (hs : s.strobes = true) (hl : s.readyL = []) (hb : s.readyB = []) :
    (tick s).nvm = { s.nvm with tamperOwed := (tick s).nvm.tamperOwed } := by
  obtain ⟨a, c, u, -, hc, hu, htick, hquiet, -⟩ := tick_ends hs
  have h : (tick s).steady.nvm = s.steady.nvm :=
    (congrArg Steady.nvm htick).trans (hu.nvm.trans (hc.nvm.trans (hquiet hl hb).nvm))
  exact congrArg (fun n : Nvm => { n with tamperOwed := (tick s).nvm.tamperOwed }) h

theorem tick_wake {s : State} (hs : s.strobes = true) {m : BitVec 7} {k : Nat} (h : s.readyL = [.wakeConfig m k]) :
    (tick s).power.wakeMask = m ∧ (tick s).power.wakeTimer = k := by
  obtain ⟨a, c, u, -, hc, hu, htick, -, hwake⟩ := tick_ends hs
  have hw : (tick s).steady.wake = (m, k) :=
    (congrArg Steady.wake htick).trans (hu.wake.trans ((congrArg Landed.wake hc.landed).trans (hwake m k h)))
  exact ⟨congrArg Prod.fst hw, congrArg Prod.snd hw⟩

theorem tick_boundary {s : State} (hs : s.strobes = true) (h : s.slipless ∨ s.core.run = .stopped) :
    (tick s).core.boundaryDone = false := by
  by_cases hr : s.core.run = .stopped
  · obtain ⟨l, hend⟩ := stoppedEnd_ends s.stoppedWorked
    rw [tick_stopped hs hr]
    exact congrArg (fun y : Steady => y.core.boundaryDone) ((settleSessions_steady _).trans hend)
  · rw [tick_running hs hr]
    exact (congrArg (fun y : Steady => y.core.boundaryDone) (settleSessions_steady _)).trans
      (runningEnd_boundary (runningWorked_slipless (h.resolve_right hr)))

/-- With nothing due, the tide of a running engine advances by one. -/
theorem tick_tide {s : State} (hs : s.strobes = true) (hl : s.readyL = []) (hb : s.readyB = [])
    (hr : s.core.run = .running) (h : s.slipless) : (tick s).core.tide = s.core.tide.succ s.core.osr := by
  obtain ⟨htide, hosr, hrun⟩ := (runningLanded_quiet hl hb).core
  obtain ⟨htide', hosr'⟩ := (runningWorked_works s).tide
  rw [tick_running hs (by rw [hr]; decide)]
  refine (congrArg (fun y : Steady => y.core.tide) (settleSessions_steady _)).trans
    ((runningEnd_tide (runningWorked_slipless h) ((runningWorked_works s).running (hrun.trans hr))).trans ?_)
  rw [htide', htide, hosr', hosr]

/-- With nothing due, a stopped engine stays stopped, and its tide stands. -/
theorem tick_stands {s : State} (hs : s.strobes = true) (hl : s.readyL = []) (hb : s.readyB = [])
    (hr : s.core.run = .stopped) : (tick s).core.tide = s.core.tide ∧ (tick s).core.run = .stopped := by
  obtain ⟨htide, -, hrun⟩ := (stoppedLanded_quiet hl hb).core
  obtain ⟨l, hend⟩ := stoppedEnd_ends s.stoppedWorked
  have hu := (settleSessions_steady _).trans hend
  rw [tick_stopped hs hr]
  exact ⟨(congrArg (fun y : Steady => y.core.tide) hu).trans ((stoppedWorked_works s).tide.1.trans htide),
    (congrArg (fun y : Steady => y.core.run) hu).trans ((stoppedWorked_works s).stopped (hrun.trans hr))⟩

end Sys2Proof.Machine
end

section
/-! SUPPORT. What time does outside the tick: the boundary's row, the end of a steal fade, host loss, the notice of dropped
events, and the scrub. -/

namespace Sys2Proof.Machine

/-! ## The row of the block boundary (R20) -/

theorem exec_engineTick (s : State) : exec .engineTick s = .next (tick s) := rfl

theorem exec_blockBoundary (s : State) : exec .blockBoundary s = .next (if s.strobes then atBoundary s else s) := rfl

theorem atBoundary_not {s : State} (h : s.core.tide.isBoundary = false ∨ s.core.boundaryDone = true) : atBoundary s = s := by
  refine if_neg ?_
  rcases h with h | h <;> simp [h]

theorem atBoundary_due {s : State} (hb : s.core.tide.isBoundary = true) (hd : s.core.boundaryDone = false) :
    atBoundary s = boundaryWork s := if_pos (by simp [hb, hd])

theorem landB_busEnable {s : State} {n : Nat} {on : Bool} (h : s.readyB = [.busEnable n on]) :
    landB s = landEnable { s with readyB := [] } n on := by
  unfold landB
  rw [h]
  rfl

theorem landEnable_on (s : State) (n : Nat) (on : Bool) : ((landEnable s n on).bus n).on = on := by
  simp only [landEnable, State.updBus, State.bus, bankAt_bankPut_same]

theorem steady_core (s : State) : s.steady.core = s.core := rfl

theorem boundaryWork_core {s : State} (h : (landB s.boundaryOpened).steady = s.boundaryOpened.steady) :
    (boundaryWork s).core = { s.core with boundaryDone := true } := by
  obtain ⟨p, hu, -⟩ := afterLanding_slipsOnly (landB s.boundaryOpened)
  obtain ⟨q, hv, -⟩ := boundaryOpened_slipsOnly s
  rw [h, hv] at hu
  rw [boundaryWork_eq, ← steady_core, hu]
  rfl

theorem landB_boundaryOpened {s : State} {n : Nat} {on : Bool} (h : s.readyB = [] ∨ s.readyB = [.busEnable n on]) :
    (landB s.boundaryOpened).steady = s.boundaryOpened.steady := by
  rcases h with h | h
  · rw [landB_none ((boundaryOpened_readyB s).trans h)]
  · rw [landB_busEnable ((boundaryOpened_readyB s).trans h)]
    exact updBus_steady ..

theorem boundaryWork_busEnable {s : State} {n : Nat} {on : Bool} (h : s.readyB = [.busEnable n on]) :
    ((boundaryWork s).bus n).on = on := by
  have hmix := afterLanding_mix (landB s.boundaryOpened)
  rw [landB_busEnable ((boundaryOpened_readyB s).trans h)] at hmix
  rw [boundaryWork_eq, landB_busEnable ((boundaryOpened_readyB s).trans h), State.bus, hmix]
  exact landEnable_on ..

/-! ## The end of a steal fade (R159) -/

/-- A voice has the place and the name of another. -/
structure Voice.Like (v w : Voice) : Prop where
  lane : w.lane = v.lane
  slot : w.slot = v.slot
  noteId : w.noteId = v.noteId
  owner : w.owner = v.owner

theorem Voice.Like.refl (v : Voice) : v.Like v := ⟨rfl, rfl, rfl, rfl⟩

theorem Voice.Like.trans {a b c : Voice} (h : a.Like b) (k : b.Like c) : a.Like c :=
  ⟨k.lane.trans h.lane, k.slot.trans h.slot, k.noteId.trans h.noteId, k.owner.trans h.owner⟩

theorem like_foldl {α : Type} (l : List α) (f : Voice → α → Voice) (h : ∀ (v : Voice) a, v.Like (f v a)) (v : Voice) :
    v.Like (l.foldl f v) := by
  induction l generalizing v with
  | nil => exact .refl v
  | cons a l ih => exact (h v a).trans (ih _)

theorem startLfo_like (first : Bool) (n : Nat) (v : Voice) : v.Like (startLfo first n v) := by
  unfold startLfo
  dsimp only
  split
  · exact ⟨rfl, rfl, rfl, rfl⟩
  · split <;> exact ⟨rfl, rfl, rfl, rfl⟩

theorem startGlide_like (s : State) (v : Voice) : v.Like (startGlide s v) := by
  unfold startGlide
  dsimp only
  split <;> exact ⟨rfl, rfl, rfl, rfl⟩

theorem startVoice_like (s : State) (v : Voice) (first : Bool) : v.Like (startVoice s v first) := by
  unfold startVoice
  extract_lets keep v1 v2 v3 v4
  have h2 : v.Like v2 := ⟨rfl, rfl, rfl, rfl⟩
  have h3 : v2.Like v3 := by
    change Voice.Like v2 (ite _ _ _)
    split <;> exact ⟨rfl, rfl, rfl, rfl⟩
  have h4 : v3.Like v4 := by
    unfold v4
    split
    · split <;> exact ⟨rfl, rfl, rfl, rfl⟩
    · exact .refl v3
  have hdraw : v4.Like v4.draw.2 := ⟨rfl, rfl, rfl, rfl⟩
  have hv : v.Like v4.draw.2 := (h2.trans h3).trans (h4.trans hdraw)
  clear_value v4
  generalize v4.draw = p at hv ⊢
  obtain ⟨r, w⟩ := p
  change Voice.Like v (startGlide s (List.foldl (fun v n => startLfo first n v) _ (List.range 4)))
  refine hv.trans (.trans ?_ ((like_foldl _ _ (fun v n => startLfo_like first n v) _).trans (startGlide_like s _)))
  exact ⟨rfl, rfl, rfl, rfl⟩

theorem landParam_like (v : Voice) (pid : Nat) (x : Int) : v.Like (landParam v pid x) := by
  unfold landParam
  dsimp only
  split <;> exact ⟨rfl, rfl, rfl, rfl⟩

theorem paramTo_like (v : Voice) (e : Nat × Int) : v.Like (paramTo v e) := by
  unfold paramTo
  split
  · exact ⟨rfl, rfl, rfl, rfl⟩
  · exact landParam_like ..

theorem applyCmd_like (v : Voice) (c : NoteCmd) : v.Like (applyCmd v c) := by
  cases c with
  | retarget k =>
    unfold applyCmd glideTo
    dsimp only
    split <;> exact ⟨rfl, rfl, rfl, rfl⟩
  | params l => exact like_foldl _ _ paramTo_like v
  | umpCtl a i x => cases a <;> exact ⟨rfl, rfl, rfl, rfl⟩
  | _ => exact ⟨rfl, rfl, rfl, rfl⟩

/-- The slot of a voice bears a voice of its name, and no other. -/
structure Bears (s : State) (v : Voice) : Prop where
  only : ∀ w ∈ s.voices, w.lane = v.lane → w.slot = v.slot → v.Like w
  one : ∃ w ∈ s.voices, v.Like w

theorem Bears.of_voices {s u : State} {v : Voice} (h : Bears s v) (hv : u.voices = s.voices) : Bears u v :=
  ⟨by rw [hv]; exact h.only, by rw [hv]; exact h.one⟩

theorem Bears.setVoice {s : State} {v x : Voice} (h : Bears s v) (hx : v.Like x) : Bears (s.setVoice x) v := by
  constructor
  · intro w hw hlane hslot
    obtain ⟨y, hy, rfl⟩ := List.mem_map.mp hw
    split at hlane
    next hplace => rw [if_pos hplace]; exact hx
    next hplace =>
      rw [if_neg hplace] at hslot ⊢
      exact h.only y hy hlane hslot
  · obtain ⟨y, hy, hlike⟩ := h.one
    refine ⟨x, List.mem_map.mpr ⟨y, hy, if_pos ?_⟩, hx⟩
    exact ⟨hlike.lane.trans hx.lane.symm, hlike.slot.trans hx.slot.symm⟩

theorem TenantsOnly.voices {s u : State} (h : TenantsOnly s u) : u.voices = s.voices := by
  unfold TenantsOnly at h
  rw [h]

theorem Bears.finishRef {s : State} {v : Voice} (h : Bears s v) (r : Option (Tenant × Tag)) (st : Status) (res : Result) :
    Bears (Machine.finishRef s r st res) v := h.of_voices (finishRef_tenantsOnly ..).voices

theorem notePitch_voices (s : State) (v : Voice) : (notePitch s v).voices = s.voices := by
  unfold notePitch
  split <;> rfl

theorem Bears.notePitch {s : State} {v : Voice} (h : Bears s v) (w : Voice) : Bears (Machine.notePitch s w) v :=
  h.of_voices (notePitch_voices ..)

theorem Bears.startOne {s : State} {v w : Voice} (h : Bears s v) (hw : v.Like w) : Bears (Machine.startOne s w) v := by
  unfold Machine.startOne
  extract_lets re started
  have hre : v.Like re := by
    refine hw.trans ?_
    unfold re
    split <;> exact ⟨rfl, rfl, rfl, rfl⟩
  have hstart : ∀ first, Bears (started first) v := fun first =>
    (h.setVoice (hre.trans (startVoice_like s re first))).notePitch _
  split
  · exact ((hstart true).finishRef _ _ _).finishRef _ _ _
  · exact h
  · split
    · exact (hstart false).finishRef _ _ _
    · exact h

theorem Bears.cmdOnVoice {s : State} {v w : Voice} (h : Bears s v) (hw : v.Like w) (c : NoteCmd) :
    Bears (Machine.cmdOnVoice s w c) v := by
  unfold Machine.cmdOnVoice
  split
  · unfold fadeNote
    split
    · exact h
    · exact (h.finishRef _ _ _).setVoice (hw.trans ⟨rfl, rfl, rfl, rfl⟩)
  · exact (h.setVoice (hw.trans (applyCmd_like ..))).notePitch _
  · exact h.setVoice (hw.trans (applyCmd_like ..))

theorem find_place {s : State} {lane slot : Nat} {w : Voice}
    (h : s.voices.find? (fun v => v.lane == lane && v.slot == slot) = some w) :
    w ∈ s.voices ∧ w.lane = lane ∧ w.slot = slot := by
  have hplace := List.find?_some h
  simp only [Bool.and_eq_true, beq_iff_eq] at hplace
  exact ⟨List.mem_of_find?_eq_some h, hplace⟩

theorem Bears.applyHeld {s : State} {v : Voice} (h : Bears s v) (c : NoteCmd) :
    Bears (Machine.applyHeld v.lane v.slot s c) v := by
  unfold Machine.applyHeld
  split
  next w hw =>
    obtain ⟨hmem, hlane, hslot⟩ := find_place hw
    split
    · exact h.cmdOnVoice (h.only w hmem hlane hslot) c
    · exact h
  next => exact h

/-- The voice a waiting note becomes in a slot. -/
def Succ.voice (n : Succ) (lane slot : Nat) : Voice :=
  { lane := lane, slot := slot, owner := n.owner, noteId := n.noteId, part := n.part, key := n.key, vel := n.vel,
    detune := n.detune, life := .starting none, copy := n.copy, ref := n.ref, latency := n.latency }

/-- In a cleared slot the note that takes it is alone. -/
theorem startIn_bears (s : State) (v : Voice) (n : Succ) :
    Bears (startIn (s.clearVoice v) v.lane v.slot n none) (n.voice v.lane v.slot) := by
  have hvoices : (startIn (s.clearVoice v) v.lane v.slot n none).voices =
      s.voices.filter (fun w => !(w.lane == v.lane && w.slot == v.slot)) ++ [n.voice v.lane v.slot] := rfl
  constructor
  · intro w hw hlane hslot
    rw [hvoices] at hw
    rcases List.mem_append.mp hw with hw | hw
    · have hfree := (List.mem_filter.mp hw).2
      have hl : w.lane = v.lane := hlane
      have hs : w.slot = v.slot := hslot
      simp [hl, hs] at hfree
    · rw [List.mem_singleton.mp hw]
      exact .refl _
  · exact ⟨n.voice v.lane v.slot, by rw [hvoices]; exact List.mem_append_right _ (List.mem_singleton_self _), .refl _⟩

theorem endSteal_bears (s : State) {v : Voice} {n : Succ} (h : v.succ = some n) :
    Bears (endSteal s v) (n.voice v.lane v.slot) := by
  have hin := startIn_bears s v n
  unfold endSteal
  simp only [h]
  split
  next w hw =>
    obtain ⟨hmem, hlane, hslot⟩ := find_place hw
    exact foldS_keeps (fun u => Bears u (n.voice v.lane v.slot)) _ _
      (fun u c hu => hu.applyHeld c) (hin.startOne (hin.only w hmem hlane hslot))
  next => exact hin

theorem Bears.any {s : State} {v : Voice} (h : Bears s v) : (s.voices.any fun w =>
    w.lane == v.lane && w.slot == v.slot && w.noteId == v.noteId && w.owner == v.owner) = true := by
  obtain ⟨w, hw, hlike⟩ := h.one
  exact List.any_eq_true.mpr ⟨w, hw, by simp [hlike.lane, hlike.slot, hlike.noteId, hlike.owner]⟩

theorem endSteal_alone {s : State} {v : Voice} (hs : v.succ = none) (hr : v.retrig = none)
    (h : v.fade ≠ .release ∨ ∃ k, v.owner = .tenant k) : endSteal s v = s.clearVoice v := by
  unfold endSteal endFaded
  simp only [hs, hr]
  split
  next hfade howner =>
    rcases h with h | ⟨k, h⟩
    · exact absurd hfade h
    · rw [h] at howner; cases howner
  next => rfl

theorem endSteal_origin {s : State} {v : Voice} (hs : v.succ = none) (hr : v.retrig = none) (hf : v.fade = .release)
    {o : Nat} {k : Tenant} (ho : v.owner = .spilled o k) :
    endSteal s v = ringEnded (s.clearVoice v) o k v.noteId false := by
  unfold endSteal endFaded
  simp only [hs, hr, hf, ho]
  rfl

theorem exec_stealFadeEnd_none {s : State} {lane : Fin 8} {slot : Fin 48}
    (h : s.voices.find? (fun v => v.lane == lane.val && v.slot == slot.val) = none) :
    exec (.stealFadeEnd lane slot) s = .next s := by
  change execStealFadeEnd lane slot s = _
  rw [execStealFadeEnd, h]

theorem exec_stealFadeEnd_some {s : State} {lane : Fin 8} {slot : Fin 48} {v : Voice}
    (h : s.voices.find? (fun v => v.lane == lane.val && v.slot == slot.val) = some v) :
    exec (.stealFadeEnd lane slot) s = .next (if v.fadeOver && s.strobes then endSteal s v else s) := by
  change execStealFadeEnd lane slot s = _
  rw [execStealFadeEnd, h]

/-! ## Host loss (R84) -/

/-- A tenant's records and commands in flight change, its settings do not. -/
def Answers (s u : State) : Prop := ∀ w, ∃ i d q e,
  u.ten w = { s.ten w with inflight := i, doneTags := d, cq := q, echo := e }

theorem Answers.refl (s : State) : Answers s s := fun _ => ⟨_, _, _, _, rfl⟩

theorem Answers.trans {a b c : State} (h : Answers a b) (k : Answers b c) : Answers a c := fun w => by
  obtain ⟨i, d, q, e, hb⟩ := h w
  obtain ⟨i', d', q', e', hc⟩ := k w
  exact ⟨i', d', q', e', by rw [hc, hb]⟩

theorem Answers.fold {α : Type} (l : List α) (f : State → α → State) (h : ∀ s a, Answers s (f s a)) (s : State) :
    Answers s (foldS l s f) :=
  foldS_keeps (Answers s) l f (fun u a hu => hu.trans (h u a)) (Answers.refl s)

theorem commitOne_answers (s : State) (t : Tenant) (g : Tag) (st : Status) (res : Result) :
    Answers s (commitOne s t g st res) := by
  unfold commitOne
  split
  · exact Answers.refl s
  · intro w
    by_cases hw : w = t
    · subst hw
      rw [updTen_ten_same]
      unfold TenantSt.storeEcho
      dsimp only
      split <;> split <;> exact ⟨_, _, _, _, rfl⟩
    · rw [updTen_ten_other _ _ hw]
      exact ⟨_, _, _, _, rfl⟩

theorem finish_answers (s : State) (t : Tenant) (g : Tag) (st : Status) (res : Result) :
    Answers s (finish s t g st res) :=
  repeatN_keeps (Answers s) _ (fun u hu => hu.trans (Answers.fold _ _ (fun _ _ => commitOne_answers _ _ _ _ _) u)) _
    (commitOne_answers _ _ _ _ _)

theorem abortWaiting_answers (s : State) (t : Tenant) : Answers s (abortWaiting s t) :=
  Answers.fold _ _ (fun _ _ => finish_answers _ _ _ _ _) s

/-- After the waiting commands are aborted, only those that execute are in flight. -/
theorem abortWaiting_executing {s : State} (t : Tenant) (hr : s.fw.restarting = false) :
    ∀ d ∈ ((abortWaiting s t).ten t).inflight, d.phase = .executing := by
  intro d hd
  by_contra hp
  refine finishAll_frees .aborted (.note 0) _ hr d hd ?_
  exact List.mem_map.mpr ⟨d, List.mem_filter.mpr
    ⟨Shrinks.fold _ _ (fun _ _ => finish_shrinks _ _ _ _ _) s t d hd, by simpa using hp⟩, rfl⟩

/-- The host-loss action leaves the commands in flight, and mutes when it is MUTE. -/
theorem lossAction_ten (s : State) (t : Tenant) : ((lossAction s t).ten t).inflight = (s.ten t).inflight ∧
    ((s.ten t).hostLossAction = .mute → ((lossAction s t).ten t).muted = true) := by
  unfold lossAction
  split
  next h => exact ⟨rfl, fun hm => by rw [h] at hm; cases hm⟩
  next h =>
    obtain ⟨-, -, l, hten⟩ := (cmdToAll_frame s t none (.allRelease none false)).trans (releaseGates_frame _ t)
    exact ⟨by rw [hten], fun hm => by rw [h] at hm; cases hm⟩
  next h =>
    obtain ⟨-, -, l, hten⟩ := cmdToAll_frame (s.updTen t fun x => { x with muted := true }) t none .mute
    rw [updTen_ten_same] at hten
    exact ⟨by rw [hten], fun _ => by rw [hten]⟩

/-- An event that is raised leaves a tenant's state, its commands in flight and its mute. -/
theorem raiseTo_ten (s : State) (t w : Tenant) (e : Event) (arg : BitVec 16) (cont : List Byte) :
    ∃ q n a b, (raiseTo s t e arg cont).ten w =
      { s.ten w with cq := q, evSeq := n, eventsDropped := a, droppedSince := b } := by
  have hev : ∀ x : TenantSt, ∃ q n a b, x.raiseEv e arg cont s.smp =
      { x with cq := q, evSeq := n, eventsDropped := a, droppedSince := b } := fun x => by
    unfold TenantSt.raiseEv
    split <;> exact ⟨_, _, _, _, rfl⟩
  unfold raiseTo raiseToAt
  split
  · unfold holdEv
    dsimp only
    split <;> exact ⟨_, _, _, _, rfl⟩
  · split
    · exact ⟨_, _, _, _, rfl⟩
    · by_cases hw : w = t
      · subst hw
        rw [updTen_ten_same]
        exact hev _
      · rw [updTen_ten_other _ _ hw]
        exact ⟨_, _, _, _, rfl⟩

/-- The watchdog's time is noted. -/
def State.lossNoted (s : State) (t : Tenant) (ms : Nat) : State := s.updTen t fun x => { x with lossMs := x.lossMs + ms }

/-- The tenant is FAULTED for the loss of its host. -/
def State.hostLostAt (s : State) (t : Tenant) : State := s.updTen t fun x => { x with st := .faulted, fault := .hostLoss }

theorem hostLoss_unwatched {s : State} {t : Tenant} {ms : Nat}
    (h : ¬ (s.fwRuns = true ∧ (s.ten t).st = .opened ∧ (s.ten t).hostLossMs ≠ 0)) : hostLoss s t ms = s := by
  refine if_neg fun hw => h ?_
  simp only [Bool.and_eq_true, beq_iff_eq, bne_iff_ne] at hw
  exact ⟨hw.1.1, hw.1.2, hw.2⟩

section
variable {s : State} {t : Tenant} {ms : Nat}
  (hw : s.fwRuns = true ∧ (s.ten t).st = .opened ∧ (s.ten t).hostLossMs ≠ 0)
include hw

theorem watched_test : (s.fwRuns && (s.ten t).st == .opened && (s.ten t).hostLossMs != 0) = true := by
  obtain ⟨hup, hst, hms⟩ := hw
  simp [hup, hst, hms]

theorem hostLoss_waits (h : ¬ (s.ten t).hostLossMs ≤ (s.ten t).lossMs + ms) : hostLoss s t ms = s.lossNoted t ms := by
  rw [hostLoss, if_pos (watched_test hw), if_neg h]
  rfl

theorem hostLoss_lost (h : (s.ten t).hostLossMs ≤ (s.ten t).lossMs + ms) : hostLoss s t ms =
    raiseTo ((lossAction (abortWaiting (s.lossNoted t ms) t) t).hostLostAt t) t .hostLost
      (BitVec.ofNat 16 (s.ten t).hostLossAction.code) [] := by
  rw [hostLoss, if_pos (watched_test hw), if_pos h]
  rfl
end

/-- What host loss leaves of the tenant: it is FAULTED, and its action has been taken. -/
theorem hostLost_ten {s : State} {t : Tenant} {ms : Nat} (hr : s.fw.restarting = false) (e : Event) (arg : BitVec 16) :
    let u := raiseTo ((lossAction (abortWaiting (s.lossNoted t ms) t) t).hostLostAt t) t e arg []
    (u.ten t).st = .faulted ∧ (u.ten t).fault = .hostLoss ∧ (∀ d ∈ (u.ten t).inflight, d.phase = .executing) ∧
      ((s.ten t).hostLossAction = .mute → (u.ten t).muted = true) := by
  intro u
  obtain ⟨hfly, hmute⟩ := lossAction_ten (abortWaiting (s.lossNoted t ms) t) t
  have hexec := abortWaiting_executing (s := s.lossNoted t ms) t hr
  obtain ⟨i, d, q, r, habort⟩ := abortWaiting_answers (s.lossNoted t ms) t t
  obtain ⟨q', n, a, b, hten⟩ := raiseTo_ten ((lossAction (abortWaiting (s.lossNoted t ms) t) t).hostLostAt t) t t e arg []
  rw [State.hostLostAt, updTen_ten_same] at hten
  have haction : ((abortWaiting (s.lossNoted t ms) t).ten t).hostLossAction = (s.ten t).hostLossAction := by
    rw [habort, State.lossNoted, updTen_ten_same]
  refine ⟨?st, ?fault, ?fly, fun hm => ?mute⟩
  case st => exact congrArg TenantSt.st hten
  case fault => exact congrArg TenantSt.fault hten
  case fly =>
    have hflown : (u.ten t).inflight = ((abortWaiting (s.lossNoted t ms) t).ten t).inflight :=
      (congrArg TenantSt.inflight hten).trans hfly
    rw [hflown]
    exact hexec
  case mute => exact (congrArg TenantSt.muted hten).trans (hmute (haction.trans hm))

theorem abortWaiting_tenantsOnly (s : State) (t : Tenant) : TenantsOnly s (abortWaiting s t) :=
  TenantsOnly.fold _ _ (fun _ _ => finish_tenantsOnly ..) s

theorem NoteFrame.core {t : Tenant} {s u : State} (h : NoteFrame t s u) : u.core = s.core ∧ u.nvm = s.nvm := by
  obtain ⟨hu, -, -⟩ := h
  rw [hu]
  exact ⟨rfl, rfl⟩

theorem lossAction_core (s : State) (t : Tenant) : (lossAction s t).core = s.core ∧ (lossAction s t).nvm = s.nvm := by
  unfold lossAction
  split
  · exact ⟨rfl, rfl⟩
  · exact ((cmdToAll_frame ..).trans (releaseGates_frame ..)).core
  · exact (cmdToAll_frame (s.updTen t fun x => { x with muted := true }) t none .mute).core

theorem EventFrame.nvm {s u : State} (h : EventFrame s u) : u.nvm = s.nvm := by
  unfold EventFrame at h
  rw [h]

theorem hostLost_core (s : State) (t : Tenant) (ms : Nat) (e : Event) (arg : BitVec 16) :
    (raiseTo ((lossAction (abortWaiting (s.lossNoted t ms) t) t).hostLostAt t) t e arg []).core = s.core ∧
    (raiseTo ((lossAction (abortWaiting (s.lossNoted t ms) t) t).hostLostAt t) t e arg []).nvm = s.nvm := by
  have hevent := raiseTo_eventFrame ((lossAction (abortWaiting (s.lossNoted t ms) t) t).hostLostAt t) t e arg []
  have habort := abortWaiting_tenantsOnly (s.lossNoted t ms) t
  obtain ⟨hcore, hnvm⟩ := lossAction_core (abortWaiting (s.lossNoted t ms) t) t
  exact ⟨hevent.core.trans (hcore.trans habort.core), hevent.nvm.trans (hnvm.trans habort.eventFrame.nvm)⟩

/-! ## The notice of dropped events (R81) -/

theorem droppedNotice_none {s : State} {t : Tenant} (h : s.fwRuns = false ∨ (s.ten t).st = .closed ∨
    (s.ten t).droppedSince = 0 ∨ (s.ten t).events.getLsbD 1 = false) : droppedNotice s t = s := by
  refine if_neg fun hall => ?_
  simp only [Bool.and_eq_true, bne_iff_ne] at hall
  obtain ⟨⟨⟨⟨hup, hst⟩, hdropped⟩, hev⟩, -⟩ := hall
  rcases h with h | h | h | h
  · rw [h] at hup; cases hup
  · exact hst h
  · exact hdropped h
  · rw [h] at hev; cases hev

theorem notice_room {x : TenantSt} {e : Event} (arg : BitVec 16) (tide : Smp) (hev : x.events.getLsbD e.code = true)
    (hroom : 2 ≤ x.cqFree) : x.notice e arg tide =
      { (x.writeGroup (evRec e x.evSeq arg [] tide) []) with evSeq := x.evSeq + 1 } := by
  have hslots : evSlots [] ≤ x.cqFree := Nat.le_trans (by decide) hroom
  rw [TenantSt.notice, if_neg (by simp [hev]), if_neg (by omega), raiseEv_room arg [] tide hslots]

theorem droppedNotice_tells {s : State} {t : Tenant} (hup : s.fwRuns = true) (hst : (s.ten t).st ≠ .closed)
    (hd : (s.ten t).droppedSince ≠ 0) (hroom : 2 ≤ (s.ten t).cqFree) (hev : (s.ten t).events.getLsbD 1 = true) :
    droppedNotice s t = s.setTen t { (s.ten t).writeGroup (evRec .eventsDropped (s.ten t).evSeq
      (BitVec.ofNat 16 (min (s.ten t).droppedSince 65535)) [] s.smp) [] with
        evSeq := (s.ten t).evSeq + 1, droppedSince := 0 } := by
  rw [droppedNotice, if_pos (by simp [hup, hst, hd, hroom, hev]), State.updTen, notice_room _ _ hev hroom]

/-! ## The scrub (R303, R304) -/

theorem exec_waveScrub (found : List (Nat × Bool)) (corrected : List Nat) (s : State) :
    exec (.waveScrub found corrected) s = .next (if s.fwRuns then
      foldS (corrected.filter eccBank) (foldS found s scrubWord) fun s b => eccEvent s false b else s) := rfl

/-- While the firmware runs no wake is noted with the event. -/
theorem eccEvent_runs {s : State} (hup : s.fwRuns = true) (uncorrected : Bool) (bank : Nat) :
    ∃ a f, eccEvent s uncorrected bank = { s.eccCounted uncorrected with tenants := a, fw := f } := by
  by_cases hc : s.fw.eccRaised.contains ((if uncorrected then 512 else 256) + bank) = true
  · exact ⟨s.tenants, s.fw, by rw [eccEvent_eq, if_pos hc]; rfl⟩
  · rw [eccEvent_eq, if_neg hc]
    by_cases ho : (s.ten 0).st = .closed
    · rw [steward_closed]
      · exact ⟨_, _, rfl⟩
      · exact hup
      · exact ho
    · rw [steward_open]
      · exact ⟨_, _, rfl⟩
      · exact hup
      · exact ho

theorem scrubWord_off {s : State} {a : Nat} (on : Bool)
    (h : ¬ (a / 0x40000 < 16 ∧ s.mem.bankSt .wave (a / 0x40000) = .on)) : scrubWord s (a, on) = s := if_neg h

/-- The word is known to be bad. -/
def State.wordBad (s : State) (a : Nat) : State :=
  if s.mem.badWords.contains a then s else { s with mem := { s.mem with badWords := s.mem.badWords ++ [a] } }

theorem scrubWord_bad {s : State} {a : Nat} (h : a / 0x40000 < 16 ∧ s.mem.bankSt .wave (a / 0x40000) = .on) :
    scrubWord s (a, true) = eccEvent (s.wordBad a) true (a / 0x40000) := by
  rw [scrubWord, if_pos h]
  unfold State.wordBad
  cases s.mem.badWords.contains a <;> rfl

theorem scrubWord_corrected {s : State} {a : Nat} (h : a / 0x40000 < 16 ∧ s.mem.bankSt .wave (a / 0x40000) = .on) :
    scrubWord s (a, false) = eccEvent s false (a / 0x40000) := by
  rw [scrubWord, if_pos h]
  rfl

theorem wordBad_mem (s : State) (a : Nat) : ∃ l, s.wordBad a = { s with mem := { s.mem with badWords := l } } ∧
    l.contains a = true := by
  unfold State.wordBad
  split
  next h => exact ⟨s.mem.badWords, rfl, h⟩
  next => exact ⟨_, rfl, by simp⟩

/-- Settles O59: the tick by what each of its stages leaves alone, the other rows by the law of each case they meet. -/
theorem timeAdvancesTheBlock : Obligations.TimeAdvancesTheBlock := by
  intro s t ms n k lane slot v on m a b
  refine ⟨fun hs => ?idle, fun hs => ?tick, fun h => ?noBoundary, fun hb hw => ?boundary, exec_stealFadeEnd_none,
    fun hv hover => ?fadeGoesOn, fun hv hover hs => ⟨fun hn hr ho => ?alone, fun hn hr hf o k ho => ?origin,
      fun e he => ?waiting⟩, fun hw => congrArg _ (hostLoss_unwatched hw), fun hw h => congrArg _ (hostLoss_waits hw h),
    fun hw h => ?lost, fun h => congrArg _ (droppedNotice_none h),
    fun hup hst hd hroom hev => congrArg _ (droppedNotice_tells hup hst hd hroom hev), fun hup => ?scrubDown,
    fun hup hoff => ?scrubOff, fun hup hwave => ?scrub, fun hup hb => ?otherBank, fun hup hb => ?corrected⟩
  case idle =>
    refine ⟨congrArg _ (tick_idle hs), by rw [exec_blockBoundary, hs]; rfl, ?_⟩
    cases hv : s.voices.find? (fun v => v.lane == lane.val && v.slot == slot.val) with
    | none => exact exec_stealFadeEnd_none hv
    | some v => rw [exec_stealFadeEnd_some hv, if_neg (by simp [hs])]
  case tick =>
    have hcount := tick_counted hs
    exact ⟨_, exec_engineTick s, hcount.ticks, hcount.fuse, hcount.pending, tick_boundary hs,
      fun hl hb => ⟨tick_nvm hs hl hb, tick_tide hs hl hb, tick_stands hs hl hb⟩, tick_wake hs⟩
  case noBoundary => rw [exec_blockBoundary, atBoundary_not h]; exact congrArg _ (ite_self s)
  case boundary =>
    obtain ⟨hs, hbound, hdone⟩ := hb
    have hcore := boundaryWork_core (landB_boundaryOpened hw)
    exact ⟨_, by rw [exec_blockBoundary, if_pos hs, atBoundary_due hbound hdone], by rw [hcore], by rw [hcore],
      boundaryWork_busEnable⟩
  case fadeGoesOn => rw [exec_stealFadeEnd_some hv, if_neg (by simp [hover])]
  case alone => rw [exec_stealFadeEnd_some hv, if_pos (by simp [hover, hs]), endSteal_alone hn hr ho]
  case origin => rw [exec_stealFadeEnd_some hv, if_pos (by simp [hover, hs]), endSteal_origin hn hr hf ho]
  case waiting =>
    obtain ⟨-, hlane, hslot⟩ := find_place hv
    have hany := (endSteal_bears s he).any
    have hcore : (endSteal s v).core = s.core := congrArg Steady.core (endSteal_steady s v)
    refine ⟨endSteal s v, by rw [exec_stealFadeEnd_some hv, if_pos (by simp [hover, hs])], hcore, ?_⟩
    rw [← hlane, ← hslot]
    exact hany
  case lost =>
    obtain ⟨hst, hfault, hfly, hmute⟩ := hostLost_ten (s := s) (t := t) (ms := ms) (fwRuns_up hw.1).2 .hostLost
      (BitVec.ofNat 16 (s.ten t).hostLossAction.code)
    obtain ⟨hcore, hnvm⟩ := hostLost_core s t ms .hostLost (BitVec.ofNat 16 (s.ten t).hostLossAction.code)
    exact ⟨_, congrArg Host.Outcome.next (hostLoss_lost hw h), hst, hfault, hfly, hmute, hcore, hnvm⟩
  case scrubDown => rw [exec_waveScrub, hup]; rfl
  case scrubOff => rw [exec_waveScrub, if_pos hup]; exact congrArg Host.Outcome.next (scrubWord_off on hoff)
  case scrub =>
    have hexec : exec (.waveScrub [(a, on)] []) s = .next (scrubWord s (a, on)) := by rw [exec_waveScrub, if_pos hup]; rfl
    cases on with
    | true =>
      obtain ⟨l, hbad, hmem⟩ := wordBad_mem s a
      obtain ⟨x, f, hecc⟩ := eccEvent_runs (s := s.wordBad a) (by rw [hbad]; exact hup) true (a / 0x40000)
      rw [hexec, scrubWord_bad hwave, hecc, hbad]
      exact ⟨_, rfl, rfl, fun _ => ⟨hmem, rfl⟩, fun h => (by cases h), rfl⟩
    | false =>
      obtain ⟨x, f, hecc⟩ := eccEvent_runs hup false (a / 0x40000)
      rw [hexec, scrubWord_corrected hwave, hecc]
      exact ⟨_, rfl, rfl, fun h => (by cases h), fun _ => ⟨rfl, rfl⟩, rfl⟩
  case otherBank => rw [exec_waveScrub, if_pos hup, List.filter_cons_of_neg (by simp [hb])]; rfl
  case corrected =>
    obtain ⟨x, f, hecc⟩ := eccEvent_runs hup false b
    have hexec : exec (.waveScrub [] [b]) s = .next (eccEvent s false b) := by
      rw [exec_waveScrub, if_pos hup, List.filter_cons_of_pos hb]
      rfl
    rw [hexec, hecc]
    exact ⟨_, rfl, rfl, rfl⟩

end Sys2Proof.Machine
end

section
/-! SUPPORT. The link port: what the parts of a commit do to it, and the frames that arrive as ordinary ones. -/

namespace Sys2Proof.Machine

/-! ## The discards that a commit counts (R43, R54) -/

/-- The port after the discards of a list are counted, each in its counter. -/
def Link.counted (l : Link) (ds : List Discard) : Link :=
  { l with
    errShort := l.errShort + BitVec.ofNat 32 (ds.count .short)
    errHdr := l.errHdr + BitVec.ofNat 32 (ds.count .hdr)
    errPay := l.errPay + BitVec.ofNat 32 (ds.count .pay)
    errKind := l.errKind + BitVec.ofNat 32 (ds.count .kind)
    linkErr := l.linkErr || !ds.isEmpty }

theorem foldl_count (l : Link) (ds : List Discard) : ds.foldl Link.count l = l.counted ds := by
  induction ds generalizing l with
  | nil => simp [Link.counted]
  | cons d ds ih =>
    rw [List.foldl_cons, ih]
    cases d <;> simp [Link.count, Link.counted, BitVec.ofNat_add, add_comm, add_left_comm]

/-- The port at the commit of a frame: the discards before it are counted, and ENUM_IN is sampled. -/
def Link.begun (l : Link) (f : RawFrame) : Link :=
  { l.counted (if l.assigned then l.uncounted else []) with uncounted := [], enumIn := f.enumIn }

theorem counted_nil (l : Link) : l.counted [] = l := by simp [Link.counted]

theorem commitBegin_eq (s : State) (f : RawFrame) : commitBegin s f = { s with link := s.link.begun f } := by
  cases h : s.link.assigned <;> simp [commitBegin, Link.begun, h, foldl_count, counted_nil]

/-! ## The port of an ordinary frame -/

theorem readPhaseOp_plain {s : State} (f : RawFrame) {addr : Nat} (h : s.link.isConfirm addr = false) :
    ∃ d, readPhaseOp s f addr = { s with link := { s.link with driven := d } } := by
  simp only [readPhaseOp, h, Bool.false_and, Bool.false_eq_true, if_false]
  split
  · exact ⟨_, rfl⟩
  · exact ⟨_, rfl⟩

theorem endOffer_eq (s : State) (addr : Nat) : ∃ t, endOffer s addr =
    { s with link := { s.link with offer := none, tentative := t } } ∧ (t = s.link.tentative ∨ t = none) := by
  simp only [endOffer]
  split
  · exact ⟨_, rfl, .inl rfl⟩
  · exact ⟨_, rfl, .inr rfl⟩

/-- The state in which an ordinary frame takes effect differs in the port alone. -/
theorem framed_plain {s : State} (f : RawFrame) {addr : Nat} (h : s.link.isConfirm addr = false) : ∃ d t,
    s.framed f addr = { s with link := { s.link.begun f with driven := d, offer := none, tentative := t } } ∧
      (t = s.link.tentative ∨ t = none) := by
  obtain ⟨d, hread⟩ := readPhaseOp_plain f h
  obtain ⟨t, hoffer, ht⟩ := endOffer_eq (readPhaseOp s f addr) addr
  rw [hread] at hoffer ht
  exact ⟨d, t, by rw [State.framed, hread, hoffer, commitBegin_eq]; rfl, ht⟩

/-- Settles O7: an ordinary frame's port, field by field. -/
theorem framesCountTheDiscardsBeforeThem : Obligations.FramesCountTheDiscardsBeforeThem := by
  intro s f addr hass hplain
  obtain ⟨d, t, hframed, -⟩ := framed_plain f hplain
  simp [hframed, Link.begun, Link.counted, hass]

/-- An ordinary frame takes effect at a port that has kept its address. -/
theorem Arrives.framed {s : State} {f : RawFrame} {addr kind : Nat} {p : List Byte} (h : Arrives s f addr kind p) :
    ∃ l, s.framed f addr = { s with link := l } ∧ l.unitAddr = s.link.unitAddr ∧ l.assigned = true := by
  obtain ⟨d, t, hframed, -⟩ := framed_plain f h.plain
  exact ⟨_, hframed, rfl, h.assigned⟩

/-- The row of the kind of an ordinary frame executes it. -/
theorem Arrives.row {s : State} {f : RawFrame} {addr kind : Nat} {p : List Byte} (h : Arrives s f addr kind p)
    (bad : List Nat) : commitRow s f kind bad =
      latchStatus (executeFrame (s.framed f addr) addr kind p (field f.hdr 2 2) bad) := by
  simp [commitRow, h.commits, h.plain, commitFrame, State.framed]

theorem exec_submitCommit (s : State) (f : RawFrame) : exec (.submitCommit f) s = .next (commitRow s f 0 []) := rfl

theorem exec_reapCommit (s : State) (f : RawFrame) (bad : List Nat) :
    exec (.reapCommit f bad) s = .next (commitRow s f 1 bad) := rfl

theorem exec_lreadCommit (s : State) (f : RawFrame) : exec (.lreadCommit f) s = .next (commitRow s f 2 []) := rfl

theorem exec_lwriteCommit (s : State) (f : RawFrame) : exec (.lwriteCommit f) s = .next (commitRow s f 3 []) := rfl

theorem exec_bulkWriteCommit (s : State) (f : RawFrame) : exec (.bulkWriteCommit f) s = .next (commitRow s f 5 []) := rfl

theorem exec_bulkReadCommit (s : State) (f : RawFrame) : exec (.bulkReadCommit f) s = .next (commitRow s f 6 []) := rfl

/-! ## Execution at the addressed unit and in a broadcast (R46, R55) -/

/-- The state with the frame counted in FRAMES_OK. -/
def State.ran (s : State) : State := { s with link := { s.link with framesOk := s.link.framesOk + 1 } }

/-- The state with the response of an effect staged. -/
def staged (r : State × List Byte) : State := { r.1 with link := { r.1.link with staged := some r.2 } }

theorem fed_ran (s : State) (t : Tenant) : s.ran.fed t = (s.fed t).ran := rfl

theorem ran_ten (s : State) (t : Tenant) : s.ran.ten t = s.ten t := rfl

theorem staged_ran (s : State) (resp : List Byte) : staged (s.ran, resp) = s.responded resp := rfl

theorem assigned_ne_broadcast {l : Link} (h : l.assigned = true) : l.unitAddr.toNat ≠ 31 := by
  have := of_decide_eq_true h
  omega

theorem executeFrame_own {s : State} (hass : s.link.assigned = true) (kind : Nat) (p : List Byte) (len : Nat)
    (bad : List Nat) : executeFrame s s.link.unitAddr.toNat kind p len bad =
      staged (commitEffect s.ran kind p len false bad) := by
  simp [executeFrame, hass, staged, State.ran]

theorem executeFrame_broadcast {s : State} (hass : s.link.assigned = true) (kind : Nat) (p : List Byte) (len : Nat)
    (bad : List Nat) : executeFrame s 31 kind p len bad = (commitEffect s kind p len true bad).1 := by
  simp [executeFrame, hass, assigned_ne_broadcast hass]

/-- An ordinary frame that arrives has its effect: alone in a broadcast; after the count of the frame and before its response
is staged at the addressed unit. -/
theorem Arrives.effect {s : State} {f : RawFrame} {addr kind : Nat} {p : List Byte} (h : Arrives s f addr kind p)
    (bad : List Nat) : commitRow s f kind bad = latchStatus
      (if addr = 31 then (commitEffect (s.framed f addr) kind p (field f.hdr 2 2) true bad).1
       else staged (commitEffect (s.framed f addr).ran kind p (field f.hdr 2 2) false bad)) := by
  obtain ⟨l, hframed, haddr, hass⟩ := h.framed
  rw [h.row, hframed]
  rcases h.here with hown | hall
  · rw [if_neg (hown ▸ assigned_ne_broadcast h.assigned), hown, ← haddr]
    exact congrArg latchStatus (executeFrame_own (s := { s with link := l }) hass ..)
  · rw [if_pos hall, hall]
    exact congrArg latchStatus (executeFrame_broadcast (s := { s with link := l }) hass ..)

theorem Arrives.effect_own {s : State} {f : RawFrame} {kind : Nat} {p : List Byte}
    (h : Arrives s f s.link.unitAddr.toNat kind p) (bad : List Nat) : commitRow s f kind bad = latchStatus
      (staged (commitEffect (s.framed f s.link.unitAddr.toNat).ran kind p (field f.hdr 2 2) false bad)) := by
  rw [h.effect, if_neg (assigned_ne_broadcast h.assigned)]

theorem commitEffect_submit (s : State) (p : List Byte) (len : Nat) (bcast : Bool) (bad : List Nat) :
    commitEffect s 0 p len bcast bad = commitSubmit (s.fed (tenantOf (byteAt p 5))) p bcast := rfl

theorem commitEffect_reap (s : State) (p : List Byte) (len : Nat) (bcast : Bool) (bad : List Nat) :
    commitEffect s 1 p len bcast bad = commitReap (s.fed (tenantOf (byteAt p 0))) p bad := rfl

theorem commitEffect_lread (s : State) (p : List Byte) (len : Nat) (bcast : Bool) (bad : List Nat) :
    commitEffect s 2 p len bcast bad = (s, regWords s (field p 0 2) (field p 2 2)) := rfl

theorem commitEffect_lwrite (s : State) (p : List Byte) (len : Nat) (bcast : Bool) (bad : List Nat) :
    commitEffect s 3 p len bcast bad = commitLwrite s p bcast := rfl

theorem commitEffect_bulkWrite (s : State) (p : List Byte) (len : Nat) (bcast : Bool) (bad : List Nat) :
    commitEffect s 5 p len bcast bad = commitBulkWrite (s.fed (tenantOf (byteAt p 0))) p bcast := rfl

theorem commitEffect_bulkRead (s : State) (p : List Byte) (len : Nat) (bcast : Bool) (bad : List Nat) :
    commitEffect s 6 p len bcast bad = (s.fed (tenantOf (byteAt p 0)),
      ((s.fed (tenantOf (byteAt p 0))).ten (tenantOf (byteAt p 0))).windowRead (field p 4 4) (4 * (len + 1))) := rfl

/-! ## The status latch (R45) -/

theorem latchStatus_eq (s : State) : ∃ w, latchStatus s = { s with link := { s.link with status := w } } := by
  unfold latchStatus
  split
  · exact ⟨_, rfl⟩
  · exact ⟨s.link.status, rfl⟩

@[simp] theorem latchStatus_staged (s : State) : (latchStatus s).link.staged = s.link.staged := by
  obtain ⟨w, h⟩ := latchStatus_eq s
  rw [h]

@[simp] theorem latchStatus_mem (s : State) : (latchStatus s).mem = s.mem := by
  obtain ⟨w, h⟩ := latchStatus_eq s
  rw [h]

/-! ## What a wake by the link and a refused broadcast change -/

/-- The power state after a wake by the link (Table 13-7). -/
def Power.linkWoken (p : Power) : Power :=
  if p.st = .doze then { p with st := .run, timerEntry := none }
  else if p.st = .nap then { p with wake := some (p.wake.getD .link) } else p

theorem linkWake_eq (s : State) : linkWake s = { s with power := s.power.linkWoken } := by
  by_cases hd : s.power.st = .doze
  · simp [linkWake, Power.linkWoken, hd]
  · by_cases hn : s.power.st = .nap <;> simp [linkWake, Power.linkWoken, noteWake, hd, hn]

theorem linkWake_ran (s : State) : linkWake s.ran = (linkWake s).ran := by
  rw [linkWake_eq, linkWake_eq]
  rfl

theorem linkWake_ten (s : State) (t : Tenant) : (linkWake s).ten t = s.ten t := by
  rw [linkWake_eq]
  rfl

theorem bcastDrop_ten (s : State) (bcast : Bool) (a : Accept) (t : Tenant) : (bcastDrop s bcast a).ten t = s.ten t := by
  unfold bcastDrop
  split <;> rfl

/-! ## SUBMIT (R68) -/

/-- The queue of a tenant has room for the header and the payload of an entry (R68). -/
def TenantSt.roomFor (x : TenantSt) (p : List Byte) : Prop := x.sq.length < 128 ∧ x.payloadUsed + (p.length - 16) ≤ 4096

theorem full_iff (x : TenantSt) (p : List Byte) :
    (x.sqFree = 0 ∨ 4096 < x.payloadUsed + (p.length - 16)) ↔ ¬ x.roomFor p := by
  unfold TenantSt.roomFor TenantSt.sqFree
  omega

/-- The entry is taken into the queue (Table 02-8). -/
def State.takesEntry (s : State) (x : TenantSt) (p : List Byte) : Prop :=
  s.queuesClosed = false ∧ Machine.field p 6 2 + 16 = p.length ∧ x.roomFor p

/-- Why an entry is not taken. -/
def State.refusal (s : State) (p : List Byte) : Accept :=
  if s.queuesClosed = true then .notReady else if ¬ Machine.field p 6 2 + 16 = p.length then .lenMismatch else .sqFull

theorem submitCode_queued {s : State} {x : TenantSt} {p : List Byte} (h : s.takesEntry x p) :
    submitCode s x p = .queued := by
  obtain ⟨hopen, hfits, hroom⟩ := h
  simp [submitCode, full_iff, hopen, hfits, hroom]

theorem submitCode_refused {s : State} {x : TenantSt} {p : List Byte} (h : ¬ s.takesEntry x p) :
    submitCode s x p = s.refusal p := by
  simp only [submitCode, State.refusal]
  split
  · rfl
  · split
    · rfl
    · next hopen hfits => exact if_pos ((full_iff x p).mpr fun hroom => h ⟨by simpa using hopen, by simpa using hfits, hroom⟩)

theorem refusal_ne_queued (s : State) (p : List Byte) : s.refusal p ≠ .queued := by
  unfold State.refusal
  split <;> [skip; split] <;> simp

theorem refusal_code (s : State) (p : List Byte) : (s.refusal p).code =
    if s.queuesClosed = true then 3 else if ¬ field p 6 2 + 16 = p.length then 2 else 1 := by
  unfold State.refusal
  split <;> [rfl; split <;> rfl]

/-- The answer to a SUBMIT (Table 02-7). -/
def submitAnswer (p : List Byte) (code : Byte) (free : Nat) : List Byte :=
  [BitVec.ofNat 8 (tenantOf (byteAt p 5)).val, BitVec.ofNat 8 (byteAt p 4)] ++ (p.drop 2).take 2 ++
    [code, BitVec.ofNat 8 free, 0, 0]

/-- The state with an entry behind the others of its tenant's queue. -/
def State.queued (s : State) (p : List Byte) : State :=
  s.updTen (tenantOf (byteAt p 5)) fun x => { x with sq := x.sq ++ [{ header := p.take 16, payload := p.drop 16 }] }

theorem commitSubmit_queued {s : State} {p : List Byte} (bcast : Bool)
    (h : s.takesEntry (s.ten (tenantOf (byteAt p 5))) p) : commitSubmit s p bcast = (linkWake (s.queued p),
      submitAnswer p 0 (128 - ((s.ten (tenantOf (byteAt p 5))).sq.length + 1))) := by
  simp [commitSubmit, submitCode_queued h, linkWake_ten, submitAnswer, State.queued, Accept.code, TenantSt.sqFree]

theorem commitSubmit_refused {s : State} {p : List Byte} (bcast : Bool)
    (h : ¬ s.takesEntry (s.ten (tenantOf (byteAt p 5))) p) : commitSubmit s p bcast =
      (bcastDrop s bcast (s.refusal p),
        submitAnswer p (s.refusal p).code (128 - (s.ten (tenantOf (byteAt p 5))).sq.length)) := by
  simp only [commitSubmit, submitCode_refused h, if_neg (refusal_ne_queued s p), bcastDrop_ten]
  rfl

/-- The state with a dropped broadcast counted (R55). -/
def State.dropped (s : State) : State :=
  { s with link := { s.link with bcastDrop := s.link.bcastDrop + 1, linkErr := true } }

theorem bcastDrop_refusal (s : State) (p : List Byte) : bcastDrop s true (s.refusal p) =
    if (s.refusal p).code = 2 then s else s.dropped := by
  unfold State.refusal
  split <;> [skip; split] <;> simp [bcastDrop, Accept.code, State.dropped]

/-- Settles O8: the law of ordinary frames, and the two outcomes of a SUBMIT. -/
theorem submitQueuesTheEntry : Obligations.SubmitQueuesTheEntry := by
  intro s f addr p h t b n room fits answer taken dropped code
  obtain ⟨l, hframed, -, -⟩ := h.framed
  have hten : b.ten t = { s.ten t with lossMs := 0 } := by
    simp only [b, hframed, State.fed, updTen_ten_same]
    rfl
  have hclosed : b.queuesClosed = s.queuesClosed := by
    simp only [b, hframed]
    rfl
  have htakes : b.takesEntry (b.ten t) p ↔ (s.queuesClosed = false ∧ fits ∧ room) := by
    rw [hten, State.takesEntry, hclosed]
    rfl
  have hcode : (b.refusal p).code = code := by rw [refusal_code, hclosed]
  have hrow : exec (.submitCommit f) s = .next (latchStatus
      (if addr = 31 then (commitSubmit b p true).1 else staged (commitSubmit b.ran p false))) :=
    by rw [exec_submitCommit, h.effect, commitEffect_submit, commitEffect_submit, fed_ran]
  rw [hrow]
  have hfree : (b.ten t).sq.length = n := by rw [hten]
  constructor
  case left =>
    intro hq
    have hq := htakes.mpr hq
    rw [commitSubmit_queued true hq, commitSubmit_queued (s := b.ran) false hq]
    change Host.Outcome.next (latchStatus (if addr = 31 then taken else
      staged (linkWake (b.queued p).ran, submitAnswer p 0 (128 - ((b.ten t).sq.length + 1))))) = _
    rw [linkWake_ran, staged_ran, hfree]
    rfl
  case right =>
    intro hr
    have hr := mt htakes.mp hr
    rw [commitSubmit_refused true hr, commitSubmit_refused (s := b.ran) false hr]
    change Host.Outcome.next (latchStatus (if addr = 31 then bcastDrop b true (b.refusal p) else
      staged (b.ran, submitAnswer p (b.refusal p).code (128 - (b.ten t).sq.length)))) = _
    rw [bcastDrop_refusal, staged_ran, hcode, hfree]
    rfl

/-! ## REAP (R49, R303) -/

/-- The slots as they are delivered: one that ECC finds uncorrectable reads as 0xFF. -/
theorem reapSlots_eq (bad : List Nat) (i : Nat) (l : List CqSlot) : reapSlots bad i l =
    ((l.zipIdx i).map fun e => if bad.contains e.2 then List.replicate 16 0xFF else e.1.bytes).flatten := by
  induction l generalizing i with
  | nil => rfl
  | cons c l ih => simp [reapSlots, ih]

theorem reapSlots_nil (i : Nat) (l : List CqSlot) : reapSlots [] i l = l.flatMap CqSlot.bytes := by
  induction l generalizing i with
  | nil => rfl
  | cons c l ih => simp [reapSlots, ih]

theorem eccEvent_eccUncorrected (s : State) (bank : Nat) :
    (eccEvent s true bank).mem.eccUncorrected = s.mem.eccUncorrected + 1 := by
  obtain ⟨a, f, p, h⟩ := eccEvent_frame s true bank
  rw [h]
  rfl

/-- Each uncorrectable slot is counted (Table 12-5). -/
theorem foldS_eccUncorrected (l : List Nat) (s : State) (bank : Nat) :
    (foldS l s fun s _ => eccEvent s true bank).mem.eccUncorrected = s.mem.eccUncorrected + BitVec.ofNat 32 l.length := by
  induction l generalizing s with
  | nil => simp
  | cons a l ih => simp [ih, eccEvent_eccUncorrected, BitVec.ofNat_add, add_comm, add_left_comm]

/-- The tenant's queue after a REAP: the acknowledged records are freed, when the index lies in the queue (R49). -/
def TenantSt.acknowledged (x : TenantSt) (ack : BitVec 16) : TenantSt :=
  if (ack - x.cons).toNat ≤ x.cq.length then { x with cq := x.cq.drop (ack - x.cons).toNat, cons := ack } else x

/-- The answer to a REAP of queue `x` (Table 02-7). -/
def reapAnswer (p : List Byte) (x : TenantSt) (slots : List Byte) : List Byte :=
  [BitVec.ofNat 8 (tenantOf (byteAt p 0)).val, BitVec.ofNat 8 (x.cq.take (byteAt p 1)).length] ++ leBytes 2 x.cons.toNat ++
    padTo (16 * byteAt p 1) slots

/-- The tenant that a REAP names, after its acknowledgement. -/
def State.reaped (s : State) (p : List Byte) : TenantSt :=
  (s.ten (tenantOf (byteAt p 0))).acknowledged (BitVec.ofNat 16 (Machine.field p 2 2))

theorem commitReap_eq (s : State) (p : List Byte) (bad : List Nat) : commitReap s p bad =
    (foldS (bad.filter (· < ((s.reaped p).cq.take (byteAt p 1)).length)) (s.setTen (tenantOf (byteAt p 0)) (s.reaped p))
        fun s _ => eccEvent s true 48,
      reapAnswer p (s.reaped p) (reapSlots bad 0 ((s.reaped p).cq.take (byteAt p 1)))) := by
  simp only [commitReap, updTen_ten_same]
  rfl

/-- Settles O9: the law of ordinary frames; the acknowledgement and what each delivered slot reads. -/
theorem reapDeliversTheOldestRecords : Obligations.ReapDeliversTheOldestRecords := by
  intro s f p h t b x ack k y got answer
  obtain ⟨l, hframed, -, -⟩ := h.framed
  have hten : (b.fed t).ten t = x := by
    simp only [b, hframed, State.fed, updTen_ten_same]
    rfl
  have hreaped : (b.fed t).ran.reaped p = y := by
    change ((b.fed t).ten t).acknowledged _ = y
    rw [hten]
    rfl
  have hset : (b.fed t).setTen t y = b.setTen t y := setTen_setTen ..
  have hrow : ∀ bad, exec (.reapCommit f bad) s = .next (latchStatus (staged (commitReap (b.fed t).ran p bad))) :=
    fun bad => by rw [exec_reapCommit, h.effect_own, commitEffect_reap, fed_ran]
  constructor
  case left =>
    rw [hrow, commitReap_eq, hreaped, reapSlots_nil, ← hset]
    rfl
  case right =>
    refine fun bad => ⟨_, hrow bad, ?_, ?_⟩
    · rw [latchStatus_staged, commitReap_eq, hreaped, reapSlots_eq]
      rfl
    · have hmem : ((b.fed t).ran.setTen t y).mem = s.mem := by
        simp only [b, hframed]
        rfl
      rw [latchStatus_mem, commitReap_eq, hreaped, ← hmem]
      exact foldS_eccUncorrected ..

/-! ## LREAD and BULK_READ (R53, R70) -/

theorem readReg_staged (s : State) (r : Option (List Byte)) (off : Nat) :
    ({ s with link := { s.link with staged := r } } : State).readReg off = s.readReg off := rfl

/-- What LREAD answers does not depend on the response that is staged. -/
theorem regWords_staged (s : State) (r : Option (List Byte)) (off n : Nat) :
    regWords { s with link := { s.link with staged := r } } off n = regWords s off n := by
  induction n generalizing off with
  | zero => rfl
  | succ n ih => rw [regWords, regWords, ih, readReg_staged]

theorem regWords_ran (s : State) (off n : Nat) : regWords s.ran off n = regWords (s.responded []) off n :=
  (regWords_staged s.ran (some []) off n).symm

theorem exec_lread {s : State} {f : RawFrame} {p : List Byte} (h : Arrives s f s.link.unitAddr.toNat 2 p) :
    exec (.lreadCommit f) s = .next (latchStatus ((s.framed f s.link.unitAddr.toNat).responded
      (regWords ((s.framed f s.link.unitAddr.toNat).responded []) (field p 0 2) (field p 2 2)))) := by
  rw [exec_lreadCommit, h.effect_own, commitEffect_lread, staged_ran, regWords_ran]

theorem padTo_length (n : Nat) (l : List Byte) : (padTo n l).length = n := by
  simp [padTo]
  omega

theorem padTo_getD (n : Nat) (l : List Byte) {i : Nat} (hi : i < n) : (padTo n l).getD i 0 = l.getD i 0 := by
  by_cases hl : i < l.length
  · simp [padTo, List.getElem?_append, hi, hl]
  · simp [padTo, List.getElem?_append, List.getElem?_replicate, hi, hl]
    split <;> rfl

theorem memReadN_getD (m : Memory) (a n i : Nat) : (memReadN m a n).getD i 0 = if i < n then memRead m (a + i) else 0 := by
  induction n generalizing a i with
  | zero => rfl
  | succ n ih =>
    cases i with
    | zero => rfl
    | succ i =>
      have hplace : a + 1 + i = a + (i + 1) := by omega
      simpa only [memReadN, List.getD_cons_succ, Nat.succ_lt_succ_iff, hplace] using ih (a + 1) i

/-- The bytes of a window, 0 beyond its end (R70). -/
theorem windowRead_getD (x : TenantSt) (off n : Nat) {i : Nat} (hi : i < n) : (x.windowRead off n).getD i 0 =
    if off + i < x.windowKib * 1024 then memRead x.window (off + i) else 0 := by
  rw [TenantSt.windowRead, padTo_getD _ _ hi, memReadN_getD]
  congr 1
  simp [TenantSt.windowBytes]
  omega

/-- Settles O10: the law of ordinary frames, and what the bytes of a window read. -/
theorem readFramesStageWhatTheyRead : Obligations.ReadFramesStageWhatTheyRead := by
  intro s f p b
  refine ⟨fun h => exec_lread h, fun h => ?_⟩
  obtain ⟨l, hframed, -, -⟩ := h.framed
  have hten : (b.fed (tenantOf (byteAt p 0))).ten (tenantOf (byteAt p 0)) =
      { s.ten (tenantOf (byteAt p 0)) with lossMs := 0 } := by
    simp only [b, hframed, State.fed, updTen_ten_same]
    rfl
  rw [exec_bulkReadCommit, h.effect_own, commitEffect_bulkRead, fed_ran, ran_ten, staged_ran, hten]
  exact ⟨_, rfl, padTo_length .., fun i hi => windowRead_getD _ _ _ (hi.trans_eq (padTo_length ..))⟩

/-! ## BULK_WRITE (R70) -/

/-- The data of a BULK_WRITE are written to the window (Table 02-8). -/
def State.takesData (s : State) (x : TenantSt) (p : List Byte) : Prop :=
  s.queuesClosed = false ∧ Machine.field p 4 4 + (p.drop 8).length ≤ x.windowKib * 1024

/-- The answer to a BULK_WRITE. -/
def bulkAnswer (p : List Byte) (code : Byte) (n : Nat) : List Byte :=
  [BitVec.ofNat 8 (tenantOf (byteAt p 0)).val, code, 0, 0] ++ leBytes 4 n

/-- The state with the data in the window. -/
def State.filled (s : State) (p : List Byte) : State :=
  s.updTen (tenantOf (byteAt p 0)) fun x => { x with window := memWriteN x.window (Machine.field p 4 4) (p.drop 8) }

theorem commitBulkWrite_taken {s : State} {p : List Byte} (bcast : Bool)
    (h : s.takesData (s.ten (tenantOf (byteAt p 0))) p) :
    commitBulkWrite s p bcast = (linkWake (s.filled p), bulkAnswer p 0 (p.drop 8).length) := by
  obtain ⟨hopen, hfits⟩ := h
  have hwithin : ¬ (s.ten (tenantOf (byteAt p 0))).windowBytes < field p 4 4 + (p.drop 8).length := Nat.not_lt.mpr hfits
  simp only [commitBulkWrite, hopen, hwithin, Bool.false_eq_true, if_false, if_true]
  rfl

theorem commitBulkWrite_refused {s : State} {p : List Byte} (bcast : Bool)
    (h : ¬ s.takesData (s.ten (tenantOf (byteAt p 0))) p) : commitBulkWrite s p bcast =
      (if bcast then s.dropped else s, bulkAnswer p (if s.queuesClosed = true then 3 else 4) 0) := by
  cases hclosed : s.queuesClosed with
  | true => cases bcast <;> simp [commitBulkWrite, hclosed, bcastDrop, State.dropped, bulkAnswer, Accept.code]
  | false =>
    have hbeyond : (s.ten (tenantOf (byteAt p 0))).windowBytes < field p 4 4 + (p.drop 8).length :=
      Nat.lt_of_not_le fun hfits => h ⟨hclosed, hfits⟩
    simp only [commitBulkWrite, hclosed, hbeyond, Bool.false_eq_true, if_false, if_true]
    cases bcast <;> rfl

/-- Settles O12: the law of ordinary frames, the two outcomes of a BULK_WRITE, and the laws of memories. -/
theorem bulkWriteFillsTheWindow : Obligations.BulkWriteFillsTheWindow := by
  intro s f addr p h t b data off answer taken dropped
  obtain ⟨l, hframed, -, -⟩ := h.framed
  have hten : b.ten t = { s.ten t with lossMs := 0 } := by
    simp only [b, hframed, State.fed, updTen_ten_same]
    rfl
  have hclosed : b.queuesClosed = s.queuesClosed := by
    simp only [b, hframed]
    rfl
  have htakes : b.takesData (b.ten t) p ↔ (s.queuesClosed = false ∧ off + data.length ≤ (s.ten t).windowKib * 1024) := by
    rw [hten, State.takesData, hclosed]
  rw [exec_bulkWriteCommit, h.effect, commitEffect_bulkWrite, commitEffect_bulkWrite, fed_ran]
  refine ⟨fun hq => ?taken, fun hr => ?refused, fun a ha => memRead_memWriteN_other _ _ ha,
    fun hwf => memReadN_memWriteN _ _ _ hwf⟩
  case taken =>
    have hq := htakes.mpr hq
    rw [commitBulkWrite_taken true hq, commitBulkWrite_taken (s := b.ran) false hq]
    change Host.Outcome.next (latchStatus (if addr = 31 then taken else
      staged (linkWake (b.filled p).ran, bulkAnswer p 0 data.length))) = _
    rw [linkWake_ran, staged_ran]
    rfl
  case refused =>
    have hr := mt htakes.mp hr
    rw [commitBulkWrite_refused true hr, commitBulkWrite_refused (s := b.ran) false hr, if_pos rfl, if_neg Bool.false_ne_true,
      staged_ran, ← hclosed]
    rfl

/-! ## The registers (R53) -/

theorem regWrite_up {s : State} (hup : s.link.up = true) (hass : s.link.assigned = true) (off : Nat) (v : Word) :
    regWrite s off v = { s with link := s.link.write off v } := by
  simp [regWrite, hup, hass]

theorem regWrite_unassigned {s : State} (h : s.link.assigned = false) (off : Nat) (v : Word) : regWrite s off v = s := by
  simp [regWrite, h]

theorem exec_linkRegisterWrite {off : BitVec 8} (h : ¬ (off = 0x08 ∨ off = 0x18)) (v : Word) (s : State) :
    exec (.linkRegisterWrite off v) s = .next (regWrite s off.toNat v) :=
  congrArg Host.Outcome.next (if_neg h)

/-- A value other than 0 changes the four registers that take bits, and no other. -/
theorem write_ignored (l : Link) {v : Word} (hv : v ≠ 0) {off : Nat} (h08 : off ≠ 0x08) (h0C : off ≠ 0x0C)
    (h14 : off ≠ 0x14) (h18 : off ≠ 0x18) : l.write off v = l := by
  have hkeep : ∀ w, counterWrite w v = w := fun w => if_neg hv
  unfold Link.write
  split <;> simp_all only [ne_eq, not_true_eq_false]

theorem readReg_beyond (s : State) {off : Nat} (h : 0x38 ≤ off) : s.readReg off = 0 := by
  obtain ⟨k, rfl⟩ := Nat.exists_eq_add_of_le' h
  rfl

theorem commitLwrite_eq (s : State) (p : List Byte) (bcast : Bool) : commitLwrite s p bcast =
    ({ s with link := writeWords s.link bcast (field p 0 2) (p.drop 4) (field p 2 2) },
      p.take 2 ++ [BitVec.ofNat 8 (field p 2 2), 0]) := rfl

/-- An LWRITE that arrives writes its words, at the addressed unit after the count of the frame. -/
theorem exec_lwrite {s : State} {f : RawFrame} {addr : Nat} {p : List Byte} (h : Arrives s f addr 3 p) :
    exec (.lwriteCommit f) s = .next (latchStatus (if addr = 31 then
      { s.framed f addr with link := writeWords (s.framed f addr).link true (field p 0 2) (p.drop 4) (field p 2 2) }
      else staged (commitLwrite (s.framed f addr).ran p false))) := by
  rw [exec_lwriteCommit, h.effect, commitEffect_lwrite, commitEffect_lwrite, commitLwrite_eq]

/-- Settles O11: the writes one register at a time, and the law of ordinary frames for LREAD and LWRITE. -/
theorem registerWritesFollowTheTable : Obligations.RegisterWritesFollowTheTable := by
  refine ⟨fun s v off h => ?unassigned, fun s v hup hass => ?assigned⟩
  case unassigned =>
    refine ⟨congrArg _ (regWrite_unassigned h ..), congrArg _ (regWrite_unassigned h ..), ?_⟩
    by_cases hoff : off = 0x08 ∨ off = 0x18
    · exact congrArg Host.Outcome.next (if_pos hoff)
    · rw [exec_linkRegisterWrite hoff, regWrite_unassigned h]
  case assigned =>
    have hrow : ∀ off : BitVec 8, ¬ (off = 0x08 ∨ off = 0x18) → ∀ w,
        exec (.linkRegisterWrite off w) s = .next { s with link := s.link.write off.toNat w } := fun off hoff w => by
      rw [exec_linkRegisterWrite hoff, regWrite_up hup hass]
    refine ⟨?addr, congrArg _ (regWrite_up hup hass ..), hrow 0x0C (by decide) v, hrow 0x14 (by decide) v,
      fun hv off h08 h0C h14 h18 => ?other,
      hrow 0x20 (by decide) 0, hrow 0x24 (by decide) 0, hrow 0x28 (by decide) 0, hrow 0x2C (by decide) 0,
      hrow 0x30 (by decide) 0, hrow 0x34 (by decide) 0, fun off h _ => readReg_beyond s h,
      fun f p h => exec_lread h, fun f addr p h => ?lwrite⟩
    case addr =>
      refine (congrArg Host.Outcome.next (regWrite_up hup hass 0x08 v)).trans (congrArg Host.Outcome.next ?_)
      simp only [Link.write]
      split <;> rfl
    case other =>
      have hne : ∀ {x : BitVec 8}, off ≠ x → off.toNat ≠ x.toNat := fun hx heq => hx (BitVec.eq_of_toNat_eq heq)
      rw [hrow off (not_or.mpr ⟨h08, h18⟩), write_ignored _ hv (hne h08) (hne h0C) (hne h14) (hne h18)]
    case lwrite =>
      rw [exec_lwrite h]
      rcases h.here with hown | rfl
      · have hne : addr ≠ 31 := hown ▸ assigned_ne_broadcast h.assigned
        rw [if_neg hne]
        simp only [if_neg hne, beq_false_of_ne hne]
        rfl
      · rfl

/-! ## Discarded frames (R39, R43, R54) -/

/-- A discard that this unit counts, after what the frame's read phase and address have done. -/
theorem exec_frameDiscard {s : State} {f : RawFrame} {d : Discard} {head : Option (Nat × Nat)}
    (h : classify s.link f = .discarded d head) : exec (.frameDiscard f) s = .next (discardOp s f d head) := by
  change Host.Outcome.next _ = _
  rw [h]

theorem discardOp_noHeader (s : State) (f : RawFrame) (d : Discard) (hass : s.link.assigned = true) :
    discardOp s f d none = { s with link := { s.link with driven := none, uncounted := s.link.uncounted ++ [d] } } := by
  have hdriven : ({ s.link with driven := none } : Link).assigned = true := hass
  simp [discardOp, hdriven]

/-- The read phase of an ordinary frame at a unit with an address: the addressed unit drives its status word and its staged
response (R39, R46). -/
theorem readPhaseOp_assigned {s : State} (f : RawFrame) {addr : Nat} (hass : s.link.assigned = true)
    (h : s.link.isConfirm addr = false) : readPhaseOp s f addr = { s with link := { s.link with
      driven := (if addr = s.link.unitAddr.toNat then some (readPhase s.link.status (s.link.staged.getD [])) else none) } } := by
  by_cases haddr : addr = s.link.unitAddr.toNat
  · subst haddr
    simp [readPhaseOp, h, hass]
  · simp [readPhaseOp, h, haddr, Ne.symm haddr]

theorem endOffer_calm {s : State} (addr : Nat) (h : s.link.tentative = none) :
    endOffer s addr = { s with link := { s.link with offer := none } } := by
  obtain ⟨t, hoffer, ht⟩ := endOffer_eq s addr
  rw [hoffer, ht.elim id fun hnone => hnone.trans h.symm]

/-- Settles O14: the read phase, the end of the offer, and the count of the discard. -/
theorem discardedFramesAreCounted : Obligations.DiscardedFramesAreCounted := by
  intro s f d hass
  refine ⟨fun h => ?noHeader, fun addr kind hplain htent h => ?header⟩
  case noHeader => rw [exec_frameDiscard h, discardOp_noHeader s f d hass]
  case header =>
    rw [exec_frameDiscard h]
    have hread := readPhaseOp_assigned f hass hplain
    have hoffer := endOffer_calm (s := readPhaseOp s f addr) addr (by rw [hread]; exact htent)
    rw [hread] at hoffer
    have hass' : ∀ dr, ({ s.link with driven := dr, offer := none } : Link).assigned = true := fun _ => hass
    simp only [discardOp, hplain, hread, hoffer, Bool.false_eq_true, if_false, hass', Bool.true_and]
    by_cases hown : addr = s.link.unitAddr.toNat
    · rw [if_pos hown, if_pos hown, if_pos (by simp [hown])]
    · rw [if_neg hown, if_neg hown]
      by_cases hall : addr = 31
      · rw [if_pos hall, if_pos (by simp [hall])]
      · rw [if_neg hall, if_neg (by simp [hown, hall])]

end Sys2Proof.Machine
end

section
/-! SUPPORT. Enumeration: the bytes of its frames, ENUMERATE, and the confirm frame. -/

namespace Sys2Proof.Machine

/-! ## Little-endian fields -/

theorem leNat_leBytes (n v : Nat) : leNat (leBytes n v) = v % 256 ^ n := by
  induction n generalizing v with
  | zero => simp [leNat, leBytes, Nat.mod_one]
  | succ n ih =>
    rw [leBytes, leNat, ih, Nat.pow_succ', Nat.mod_mul, BitVec.toNat_ofNat]

theorem leNat_leBytes_of_lt {n v : Nat} (h : v < 256 ^ n) : leNat (leBytes n v) = v := by
  rw [leNat_leBytes, Nat.mod_eq_of_lt h]

/-- A field that is written behind `o` bytes reads back. -/
theorem field_leBytes {a r : List Byte} {n v o : Nat} (ha : a.length = o) (h : v < 256 ^ n) :
    field (a ++ (leBytes n v ++ r)) o n = v := by
  rw [field, List.drop_left' ha, List.take_left' (leBytes_length n v), leNat_leBytes_of_lt h]

theorem field_leBytes_last {a : List Byte} {n v o : Nat} (ha : a.length = o) (h : v < 256 ^ n) :
    field (a ++ leBytes n v) o n = v := by
  simpa using field_leBytes (r := []) ha h

/-! ## The frames of Table 02-3 in single mode -/

theorem headGood_sync (x y z : Byte) :
    headGood ([0xA5, x, y, z] ++ leBytes 2 (crc16 [0xA5, x, y, z]).toNat) = true := by
  have hcrc : field ([0xA5, x, y, z] ++ leBytes 2 (crc16 [0xA5, x, y, z]).toNat) 4 2 = (crc16 [0xA5, x, y, z]).toNat :=
    field_leBytes_last rfl (crc16 [0xA5, x, y, z]).isLt
  rw [headGood, hcrc]
  exact decide_eq_true rfl

/-- A frame of single mode whose header and payload lie in Table 02-3 commits. -/
theorem classify_plainFrame {l : Link} {x y z : Byte} {p : List Byte} {read tail addr kind len : Nat} {e : Bool}
    {rivals : List Rival} (hup : l.up = true) (hquad : l.quadNow = false) (haddr : x.toNat / 8 = addr)
    (hkind : x.toNat % 8 = kind) (hlen : y.toNat + 256 * z.toNat = len) (hhead : headOk addr kind len false = true)
    (hp : p.length = payloadLen kind len) (hpay : payloadOk kind p = true) (htail : 16 ≤ tail)
    (hread : ∀ f, f.read = read → l.readLen f addr = read) :
    classify l { plainFrame [0xA5, x, y, z] p read tail e with rivals := rivals } = .commits addr kind p := by
  set f : RawFrame := { plainFrame [0xA5, x, y, z] p read tail e with rivals := rivals } with hf
  have hof : headOf f.hdr = (addr, kind, len) := by
    simp [hf, plainFrame, headOf, byteAt, field, leNat, leBytes, haddr, hkind, hlen]
  have hreq : l.request f addr = p ++ leBytes 4 (crc32 p).toNat := by
    rw [Link.request, hread f rfl]
    exact List.drop_left' (List.length_replicate ..)
  have hcrc : field (p ++ leBytes 4 (crc32 p).toNat) (payloadLen kind len) 4 = (crc32 p).toNat :=
    field_leBytes_last hp (crc32 p).isLt
  have hgood : headGood f.hdr = true := headGood_sync x y z
  have hsix : f.hdr.length = 6 := rfl
  have htail' : f.tail = tail := rfl
  have hq : f.quad = false := rfl
  simp [classify, hup, hsix, hq, hquad, hgood, hof, hhead, hreq, leBytes_length, htail', hp, hcrc, hpay, Nat.not_lt.mpr htail]

/-! ## ENUMERATE (R57) -/

/-- The addresses of the port are compared as numbers. -/
theorem address_ne {x : Option (BitVec 5)} {a : BitVec 5} (h : x ≠ some a) :
    (x.map BitVec.toNat == some a.toNat) = false := by
  cases x with
  | none => rfl
  | some o => simpa using fun heq => h (congrArg some (BitVec.eq_of_toNat_eq heq))

theorem isConfirm_eq_false {l : Link} {a : BitVec 5} (hhold : l.tentHold = false) (hoffer : l.offer ≠ some a) :
    l.isConfirm a.toNat = false := by
  simp [Link.isConfirm, hhold, address_ne hoffer]

/-- What ENUMERATE leaves in the port where it takes effect: the offer, and TENTATIVE where the unit has no address and its
ENUM_IN is high. -/
def Link.offered (l : Link) (f : RawFrame) (a : BitVec 5) (dieId : BitVec 64) : Link :=
  if l.unitAddr = 30 ∧ f.enumIn = true then
    { l with offer := some a, tentative := some a, tentHold := false, staged := some (leBytes 8 dieId.toNat) }
  else { l with offer := some a }

/-- A unit without an address counts no discard (R54). -/
theorem commitBegin_unassigned {s : State} (f : RawFrame) (h : s.link.assigned = false) :
    commitBegin s f = { s with link := { s.link with uncounted := [], enumIn := f.enumIn } } := by
  simp [commitBegin, h]

/-- At a unit without an address a frame to address 30 that confirms no offer ends the offer and drives nothing. -/
theorem framed_tentativeElsewhere {s : State} (f : RawFrame) (hfree : s.link.unitAddr = 30)
    (hfresh : s.link.tentHold = false) (ho : s.link.offer ≠ some 30) (ht : s.link.tentative ≠ some 30) : s.framed f 30 = { s with link := { s.link with
      driven := none, offer := none, tentative := none, uncounted := [], enumIn := f.enumIn } } := by
  have hplain : s.link.isConfirm 30 = false := isConfirm_eq_false (a := 30) hfresh ho
  have hun : s.link.assigned = false := by simp [Link.assigned, hfree]
  have hread : readPhaseOp s f 30 = { s with link := { s.link with driven := none } } := by
    simp [readPhaseOp, hplain, hun]
  have hoffer : endOffer { s with link := { s.link with driven := none } } 30 =
      { s with link := { s.link with driven := none, offer := none, tentative := none } } := by
    have hne : (s.link.tentative.map BitVec.toNat == some 30) = false := address_ne ht
    simp [endOffer, hfresh, hne]
  rw [State.framed, hread, hoffer]
  exact commitBegin_unassigned f hun

theorem exec_enumerate {s : State} {f : RawFrame} {p : List Byte} (h : classify s.link f = .commits 30 4 p) :
    exec (.enumerateCommit f) s = .next (latchStatus { s.framed f 30 with
      link := (s.framed f 30).link.offered f (BitVec.ofNat 5 (byteAt p 0)) (s.framed f 30).fuse.dieId }) := by
  change Host.Outcome.next _ = _
  rw [h]
  rfl

theorem latchStatus_unassigned {s : State} (h : s.link.assigned = false) : latchStatus s = s := by
  simp [latchStatus, h]

/-! ## The confirm frame (R58 to R60) -/

theorem exec_confirmFrame {s : State} {f : RawFrame} {addr kind : Nat} {p : List Byte}
    (h : classify s.link f = .commits addr kind p) (hconf : s.link.isConfirm addr = true) :
    exec (.confirmFrameCommit f) s = .next (commitConfirm s f addr kind p) := by
  change Host.Outcome.next _ = _
  rw [h]
  exact congrArg Host.Outcome.next (if_pos hconf)

theorem executeFrame_unassigned {s : State} (h : s.link.assigned = false) (addr kind : Nat) (p : List Byte) (len : Nat)
    (bad : List Nat) : executeFrame s addr kind p len bad = s := by
  simp [executeFrame, h]

theorem commitConfirm_tentative {s u : State} {f : RawFrame} {o : BitVec 5} (kind : Nat) (p : List Byte)
    (hu : commitBegin (readPhaseOp s f o.toNat) f = u) (ht : u.link.tentative = some o) :
    commitConfirm s f o.toNat kind p = latchStatus (executeFrame { u with link := { u.link with
      unitAddr := o, tentative := none, tentHold := false, offer := none } } o.toNat kind p (field f.hdr 2 2) []) := by
  simp only [commitConfirm, hu, ht, Option.map_some, beq_self_eq_true, if_true, BitVec.ofNat_toNat, BitVec.setWidth_eq]

/-- A unit without an address that is TENTATIVE at the offered address `o`, in the confirm frame of the offer. -/
structure Confirming (s : State) (o : BitVec 5) : Prop where
  free : s.link.unitAddr = 30
  legal : o.toNat < 16
  tentative : s.link.tentative = some o
  offered : s.link.offer = some o
  fresh : s.link.tentHold = false

/-- The port of a confirming unit after the confirm frame. -/
def Link.confirmed (l : Link) (f : RawFrame) (a : BitVec 5) (bytes : Option (List Byte)) : Link :=
  { l with
    unitAddr := a, tentative := none, tentHold := false, offer := none, uncounted := [], enumIn := f.enumIn,
    driven := bytes }

/-- What a confirming unit drives: the fixed status word and its die ID. -/
def State.idPhase (s : State) (o : BitVec 5) : List Byte :=
  readPhase (confirmStatus o.toNat true) (leBytes 8 s.fuse.dieId.toNat)

namespace Confirming

variable {s : State} {o : BitVec 5} (h : Confirming s o) (f : RawFrame) (kind : Nat) (p : List Byte)
include h

theorem isConfirm : s.link.isConfirm o.toNat = true := by simp [Link.isConfirm, h.offered]

theorem unassigned : s.link.assigned = false := by simp [Link.assigned, h.free]

theorem notHolder : (s.link.unitAddr.toNat == o.toNat) = false := by
  have := h.legal
  simp [h.free]
  omega

theorem takesPart : s.link.takesPart o.toNat = true := by simp [Link.takesPart, h.tentative]

/-- A rival that wins leaves the unit at address 30. -/
theorem loses (hlost : f.rivals.any (losesTo false s.fuse.dieId) = true) :
    commitConfirm s f o.toNat kind p = { s with link := s.link.confirmed f 30 none } := by
  have hread : readPhaseOp s f o.toNat = { s with link := { s.link with
      unitAddr := 30, tentative := none, tentHold := false, driven := none } } := by
    simp [readPhaseOp, h.isConfirm, h.takesPart, h.notHolder, hlost]
  simp [commitConfirm, hread, commitBegin_eq, Link.begun, Link.confirmed, counted_nil, executeFrame, latchStatus, Link.assigned]

/-- A unit that no rival beats takes the address and executes the request. -/
theorem wins (hwon : f.rivals.any (losesTo false s.fuse.dieId) = false) :
    commitConfirm s f o.toNat kind p = latchStatus (executeFrame
      { s with link := s.link.confirmed f o (some (s.idPhase o)) } o.toNat kind p (field f.hdr 2 2) []) := by
  have hread : readPhaseOp s f o.toNat = { s with link := { s.link with driven := some (s.idPhase o) } } := by
    simp [readPhaseOp, h.isConfirm, h.takesPart, h.notHolder, hwon, State.idPhase]
  have hbegin : commitBegin (readPhaseOp s f o.toNat) f = { s with link := { s.link with
      driven := some (s.idPhase o), uncounted := [], enumIn := f.enumIn } } := by
    rw [hread]
    exact commitBegin_unassigned f h.unassigned
  rw [commitConfirm_tentative kind p hbegin h.tentative]
  rfl

end Confirming

/-! ## The obligation -/

/-- A payload of an LREAD within the registers (Table 02-3). -/
theorem regRange_fields {off n : Nat} (hoff : off % 4 = 0) (h1 : 1 ≤ n) (h64 : n ≤ 64) (hend : off + 4 * n ≤ 256) :
    field (leBytes 2 off ++ leBytes 2 n) 0 2 = off ∧ field (leBytes 2 off ++ leBytes 2 n) 2 2 = n ∧
      payloadOk 2 (leBytes 2 off ++ leBytes 2 n) = true := by
  have hfirst : field (leBytes 2 off ++ leBytes 2 n) 0 2 = off :=
    field_leBytes (a := []) rfl (by omega)
  have hsecond : field (leBytes 2 off ++ leBytes 2 n) 2 2 = n := field_leBytes_last rfl (by omega)
  refine ⟨hfirst, hsecond, ?_⟩
  simp [payloadOk, regRangeOk, hfirst, hsecond]
  omega

/-- The confirm frame of an offer with an LREAD within the registers commits at the unit that is TENTATIVE. -/
theorem Confirming.classify {s : State} {o : BitVec 5} (h : Confirming s o) (hup : s.link.up = true) {off n tail : Nat}
    (hoff : off % 4 = 0) (h1 : 1 ≤ n) (h64 : n ≤ 64) (hend : off + 4 * n ≤ 256) (htail : 16 ≤ tail) (e : Bool)
    (rivals : List Rival) : Machine.classify s.link { plainFrame [0xA5, BitVec.ofNat 8 (o.toNat * 8 + 2), 4, 0]
      (leBytes 2 off ++ leBytes 2 n) 16 tail e with rivals := rivals } =
        .commits o.toNat 2 (leBytes 2 off ++ leBytes 2 n) := by
  have hlegal := h.legal
  have hbyte : (BitVec.ofNat 8 (o.toNat * 8 + 2)).toNat = o.toNat * 8 + 2 := by
    rw [BitVec.toNat_ofNat]; omega
  refine classify_plainFrame (len := 4) hup (by simp [Link.quadNow, h.unassigned]) (by omega) (by omega) rfl
    (by simp [headOk]; omega) (by simp [leBytes_length, payloadLen]) (regRange_fields hoff h1 h64 hend).2.2 htail
    fun f hf => ?_
  rw [Link.readLen, if_pos h.isConfirm]

theorem Confirming.row {s : State} {o : BitVec 5} (h : Confirming s o) {f : RawFrame} {kind : Nat} {p : List Byte}
    (hc : Machine.classify s.link f = .commits o.toNat kind p) :
    Machine.exec (.confirmFrameCommit f) s = .next (commitConfirm s f o.toNat kind p) :=
  exec_confirmFrame hc h.isConfirm

/-- An ENUMERATE frame of Table 02-3 commits at every unit in single mode. -/
theorem classify_enumerate {l : Link} {a tail : Nat} (e : Bool) (hup : l.up = true) (hquad : l.quadNow = false)
    (hplain : l.isConfirm 30 = false) (ha : a < 16) (htail : 16 ≤ tail) :
    classify l (plainFrame [0xA5, 0xF4, 4, 0] [BitVec.ofNat 8 a, 0, 0, 0] 8 tail e) =
      .commits 30 4 [BitVec.ofNat 8 a, 0, 0, 0] := by
  have hbyte : byteAt [BitVec.ofNat 8 a, 0, 0, 0] 0 = a := by
    simp [byteAt]
    omega
  refine classify_plainFrame (rivals := []) (len := 4) hup hquad rfl rfl rfl rfl rfl ?_ htail fun f hf => ?_
  · rw [payloadOk, hbyte, decide_eq_true ha]
    rfl
  · simp [Link.readLen, hplain]

/-- Settles O13: the bytes of the two frames, and what each does where it commits. -/
theorem enumerationAssignsAddresses : Obligations.EnumerationAssignsAddresses := by
  refine ⟨fun s a tail e hup hquad hplain ha htail => ?offer, fun s o off n tail e hup hfree hlegal htent hfresh hoffer
    hoff h1 h64 hend htail => ?bytes, fun s f p hfree hfresh => ⟨fun hc ho ht => ?enumerate,
    fun o kind hlegal ht ho hc => ?confirm⟩⟩
  case offer =>
    intro f b o
    have hc := classify_enumerate e hup hquad hplain ha htail
    obtain ⟨d, t, hframed, -⟩ := framed_plain f hplain
    have hbyte : byteAt [BitVec.ofNat 8 a, 0, 0, 0] 0 = a := by
      simp [byteAt]
      omega
    have haddr : b.link.unitAddr = s.link.unitAddr := by simp only [b, hframed]; rfl
    have hfuse : b.fuse = s.fuse := by simp only [b, hframed]
    rw [exec_enumerate hc, hbyte]
    change Host.Outcome.next (latchStatus { b with link := b.link.offered f o b.fuse.dieId }) = _
    by_cases hfree : s.link.unitAddr = 30 ∧ e = true
    · rw [Link.offered, hfuse, if_pos ⟨haddr.trans hfree.1, hfree.2⟩, if_pos hfree]
    · rw [Link.offered, hfuse, if_neg fun hc => hfree ⟨haddr.symm.trans hc.1, hc.2⟩, if_neg hfree]
  case bytes =>
    have h : Confirming s o := ⟨hfree, hlegal, htent, hoffer, hfresh⟩
    obtain ⟨hfirst, hsecond, -⟩ := regRange_fields hoff h1 h64 hend
    intro f has won
    refine ⟨?won, fun r hr => ?lost⟩
    case won =>
      have hc : classify s.link f = .commits o.toNat 2 (leBytes 2 off ++ leBytes 2 n) :=
        h.classify hup hoff h1 h64 hend htail e []
      have hass : (s.link.confirmed f o (some (s.idPhase o))).assigned = true := decide_eq_true hlegal
      have hrun := executeFrame_own (s := { s with link := s.link.confirmed f o (some (s.idPhase o)) }) hass 2
        (leBytes 2 off ++ leBytes 2 n) (field f.hdr 2 2) []
      rw [commitEffect_lread, staged_ran, regWords_ran, hfirst, hsecond] at hrun
      rw [h.row hc, h.wins f 2 _ rfl]
      exact congrArg (fun u => Host.Outcome.next (latchStatus u)) hrun
    case lost =>
      have hc : classify s.link { f with rivals := [r] } = .commits o.toNat 2 (leBytes 2 off ++ leBytes 2 n) :=
        h.classify hup hoff h1 h64 hend htail e [r]
      rw [h.row hc, h.loses _ 2 _ (by simp [hr])]
      rfl
  case enumerate =>
    rw [exec_enumerate hc, framed_tentativeElsewhere f hfree hfresh ho ht]
    by_cases he : f.enumIn = true <;>
      simp [Link.offered, latchStatus, Link.assigned, hfree, hfresh, he]
  case confirm =>
    intro wins loses
    have h : Confirming s o := ⟨hfree, hlegal, ht, ho, hfresh⟩
    rw [h.row hc]
    cases hr : f.rivals.any (losesTo false s.fuse.dieId) with
    | true =>
      have hun : loses.assigned = false := rfl
      rw [if_pos rfl, executeFrame_unassigned hun, latchStatus_unassigned hun, h.loses f kind p hr]
      rfl
    | false => exact congrArg Host.Outcome.next (h.wins f kind p hr)

end Sys2Proof.Machine
end

section
namespace Sys2Proof.Machine

/-- Settles O4: at reset UNIT_ADDR is 30 and no address is tentative; that the memories are canonical is evaluated. -/
theorem invariantsHoldAtReset : Obligations.InvariantsHoldAtReset := by
  have haddr : State.reset.link.addrOk := ⟨.inr rfl, fun a h => by cases h⟩
  have hmem : State.reset.memoriesWf = true := by decide
  exact ⟨haddr, hmem⟩

end Sys2Proof.Machine
end

section
/-! SUPPORT. The link port stays as it is in all that happens outside it: one lemma for each operation of the model, in
the order of its files. -/

namespace Sys2Proof.Machine

variable (s : State) (t : Tenant) (g : Tag)

/-! ## Branches, folds and repetitions -/

@[simp] theorem ite_link (c : Prop) [Decidable c] (a b : State) :
    (if c then a else b).link = if c then a.link else b.link := apply_ite ..

@[simp] theorem foldS_link {α : Type} {l : List α} {f : State → α → State} (h : ∀ s a, (f s a).link = s.link)
    (s : State) : (foldS l s f).link = s.link :=
  foldS_keeps (fun u => u.link = s.link) l f (fun u a e => (h u a).trans e) rfl

@[simp] theorem repeatN_link {f : State → State} (h : ∀ s, (f s).link = s.link) (n : Nat) (s : State) :
    (repeatN f n s).link = s.link :=
  repeatN_keeps (fun u => u.link = s.link) f (fun u e => (h u).trans e) n rfl

theorem foldl_link {β : Type} {l : List β} {f : State × Bool → β → State × Bool}
    (h : ∀ a b, (f a b).1.link = a.1.link) (a : State × Bool) : (l.foldl f a).1.link = a.1.link := by
  induction l generalizing a with
  | nil => rfl
  | cons b l ih => exact (ih (f a b)).trans (h a b)

@[simp] theorem foldS_updTen_link {α : Type} (l : List α) (n : α → Tenant) (f : State → α → TenantSt → TenantSt)
    (s : State) : (foldS l s fun s a => s.updTen (n a) (f s a)).link = s.link := foldS_link (by intros; rfl) s
@[simp] theorem foldS_updLo_link {α : Type} (l : List α) (n : α → Nat) (f : State → α → LineOut → LineOut)
    (s : State) : (foldS l s fun s a => s.updLo (n a) (f s a)).link = s.link := foldS_link (by intros; rfl) s
@[simp] theorem foldS_updCv_link {α : Type} (l : List α) (n : α → Nat) (f : State → α → CvOut → CvOut)
    (s : State) : (foldS l s fun s a => s.updCv (n a) (f s a)).link = s.link := foldS_link (by intros; rfl) s
@[simp] theorem foldS_updGt_link {α : Type} (l : List α) (n : α → Nat) (f : State → α → GateOut → GateOut)
    (s : State) : (foldS l s fun s a => s.updGt (n a) (f s a)).link = s.link := foldS_link (by intros; rfl) s
@[simp] theorem foldS_updLane_link {α : Type} (l : List α) (n : α → Nat) (f : State → α → Lane → Lane)
    (s : State) : (foldS l s fun s a => s.updLane (n a) (f s a)).link = s.link := foldS_link (by intros; rfl) s
@[simp] theorem foldS_updBus_link {α : Type} (l : List α) (n : α → Nat) (f : State → α → Bus → Bus)
    (s : State) : (foldS l s fun s a => s.updBus (n a) (f s a)).link = s.link := foldS_link (by intros; rfl) s
@[simp] theorem foldS_updSc_link {α : Type} (l : List α) (n : α → Nat) (f : State → α → Serial → Serial)
    (s : State) : (foldS l s fun s a => s.updSc (n a) (f s a)).link = s.link := foldS_link (by intros; rfl) s
@[simp] theorem foldS_writeL_link {α : Type} (l : List α) (w : α → Write) (s : State) :
    (foldS l s fun s a => s.writeL (w a)).link = s.link := foldS_link (by intros; rfl) s
@[simp] theorem foldS_writeB_link {α : Type} (l : List α) (w : α → Write) (s : State) :
    (foldS l s fun s a => s.writeB (w a)).link = s.link := foldS_link (by intros; rfl) s

/-! ## Changes that are known to be of other blocks -/

theorem TenantsOnly.link {s u : State} (h : TenantsOnly s u) : u.link = s.link := (congrArg State.link h).trans rfl
theorem EventFrame.link {s u : State} (h : EventFrame s u) : u.link = s.link := (congrArg State.link h).trans rfl
theorem SpillFrame.link {s u : State} (h : SpillFrame s u) : u.link = s.link := (congrArg State.link h).trans rfl
theorem MixFrame.link {s u : State} (h : MixFrame s u) : u.link = s.link := (congrArg State.link h).trans rfl
theorem NoteFrame.link {t : Tenant} {s u : State} (h : NoteFrame t s u) : u.link = s.link :=
  (congrArg State.link h.1).trans rfl
theorem OutsideFrame.port {s u : State} (h : OutsideFrame s u) : u.link = s.link :=
  (congrArg State.link h.frame).trans rfl
theorem OutputsOnly.port {s u : State} (h : OutputsOnly s u) : u.link = s.link := h.outside.port

/-! ## Rows of commands -/

theorem onCmd_link {s : State} {t : Tenant} {g : Tag} {f : Body → Option State}
    (h : ∀ b u, f b = some u → u.link = s.link) : (onCmd s t g f).link = s.link := by
  rcases onCmd_cases s t g f with hstays | ⟨c, u, -, hruns, hu⟩
  · rw [hstays]
  · rw [hu, h _ _ hruns]

/-! ## Completions, events and free values -/

@[simp] theorem commitOne_link (st : Status) (res : Result) : (commitOne s t g st res).link = s.link := by
  rw [commitOne_frame]
@[simp] theorem finish_link (st : Status) (res : Result) : (finish s t g st res).link = s.link := by rw [finish_frame]
@[simp] theorem ok_link : (ok s t g).link = s.link := by simp [ok]
@[simp] theorem fail_link (st : Status) : (fail s t g st).link = s.link := by simp [fail]
@[simp] theorem badField_link (off : Nat) : (badField s t g off).link = s.link := by simp [badField]
@[simp] theorem okBytes_link (b : List Byte) : (okBytes s t g b).link = s.link := by simp [okBytes]
@[simp] theorem okShort_link (v : Nat) : (okShort s t g v).link = s.link := by simp [okShort]
@[simp] theorem finishRef_link (r : Option (Tenant × Tag)) (st : Status) (res : Result) :
    (finishRef s r st res).link = s.link := (finishRef_keepsCore ..).link
@[simp] theorem startLong_link : (startLong s t g).link = s.link := by simp [startLong]
@[simp] theorem noteWake_link (src : WakeSrc) : (noteWake s src).link = s.link := by simp [noteWake]
@[simp] theorem holdEv_link (k : Held) : (holdEv s k).link = s.link := (holdEv_keepsCore ..).link
@[simp] theorem raiseToAt_link (e : Event) (arg : BitVec 16) (cont : List Byte) (tide : Smp) :
    (raiseToAt s t e arg cont tide).link = s.link := by simp [raiseToAt]
@[simp] theorem raiseTo_link (e : Event) (arg : BitVec 16) (cont : List Byte) :
    (raiseTo s t e arg cont).link = s.link := (raiseTo_eventFrame ..).link
@[simp] theorem stewardAt_link (e : Event) (arg : BitVec 16) (cont : List Byte) (tide : Smp) :
    (stewardAt s e arg cont tide).link = s.link := by simp [stewardAt]
@[simp] theorem steward_link (e : Event) (arg : BitVec 16) (cont : List Byte) : (steward s e arg cont).link = s.link :=
  (steward_keepsCore ..).link

@[simp] theorem raiseHeld_link : (raiseHeld s).link = s.link :=
  foldS_link (fun u k => by cases hk : k.dest <;> simp) _

@[simp] theorem eccEvent_link (uncorrected : Bool) (bank : Nat) : (eccEvent s uncorrected bank).link = s.link := by
  simp [eccEvent]
theorem onLow_link (ns : Nat) {f : State → State} (h : ∀ u, (f u).link = u.link) : (s.onLow ns f).link = s.link := by
  simp [State.onLow, h]

/-! ## Allocation of voices -/

@[simp] theorem ringSend_link (i : RingItem) : (ringSend s i).link = s.link := (ringSend_spill ..).link
@[simp] theorem ringEnded_link (origin : Nat) (t : Tenant) (noteId : BitVec 32) (stolen : Bool) :
    (ringEnded s origin t noteId stolen).link = s.link := (ringEnded_spill ..).link
@[simp] theorem setVoice_link (w : Voice) : (s.setVoice w).link = s.link := by simp [State.setVoice]
@[simp] theorem clearVoice_link (v : Voice) : (s.clearVoice v).link = s.link := by simp [State.clearVoice]
@[simp] theorem toldStolen_link (v : Voice) : (toldStolen s v).link = s.link := (toldStolen_spill ..).link
@[simp] theorem beginFade_link (v : Voice) (n : Option Succ) (k : FadeKind) : (beginFade s v n k).link = s.link :=
  (beginFade_spill ..).link
@[simp] theorem fadeNote_link (v : Voice) : (fadeNote s v).link = s.link := by simp [fadeNote]
@[simp] theorem startIn_link (lane slot : Nat) (n : Succ) (at_ : Option (Smp × Nat)) :
    (startIn s lane slot n at_).link = s.link := by simp [startIn]
@[simp] theorem spillTo_link (u : Nat) (n : Succ) (noSteal : Bool) : (spillTo s t u n noSteal).link = s.link := by
  simp [spillTo]

theorem stealFor_link {s : State} {t : Tenant} {n : Succ} {noSteal : Bool} {u : State}
    (h : stealFor s t n noSteal = some u) : u.link = s.link := by
  unfold stealFor at h
  split at h
  · cases h
  · split at h
    · cases h
    · cases h; simp

theorem place_link {s : State} {t : Tenant} {n : Succ} {noSpill noSteal : Bool} {u : State}
    (h : place s t n noSpill noSteal = some u) : u.link = s.link := by
  unfold place at h
  split at h
  · cases h; simp
  · split at h
    · cases h; simp
    · exact stealFor_link h

@[simp] theorem removeOne_link : (removeOne s).link = s.link := by
  simp only [removeOne]
  (repeat' split) <;> simp

@[simp] theorem removeExcess_link (was : Nat) (s : State) : (removeExcess was s).link = s.link := by simp [removeExcess]
@[simp] theorem parkLane_link (n : Nat) : (parkLane s n).link = s.link := (parkLane_keepsCore ..).link
@[simp] theorem parkLanes_link : (parkLanes s).link = s.link := by simp [parkLanes]

/-! ## The voice engine -/

@[simp] theorem notePitch_link (v : Voice) : (notePitch s v).link = s.link := by
  unfold notePitch
  split <;> simp

/-! ## Buses and TDM ports -/

@[simp] theorem portSample_link (i : Nat) : (portSample s i).link = s.link := by
  simp only [portSample]
  (repeat' split) <;> simp

@[simp] theorem masterIn_link (i : Nat) : (masterIn s i).link = s.link := by simp [masterIn]

@[simp] theorem slaveFrame_link (i bclks : Nat) (words : List Int) : (slaveFrame s i bclks words).link = s.link := by
  simp only [slaveFrame]
  (repeat' split) <;> simp

@[simp] theorem noClock_link (i : Nat) : (noClock s i).link = s.link := by simp [noClock]
@[simp] theorem portStart_link (i : Nat) : (portStart s i).link = s.link := by simp [portStart]
@[simp] theorem startFade_link (m : BitVec 32) : (startFade s m).link = s.link := (startFade_mixFrame ..).link
@[simp] theorem loadBanks_link (m : BitVec 32) (c : List Int) : (loadBanks s m c).link = s.link := by simp [loadBanks]
@[simp] theorem endFades_link (l : List Nat) (byReset : Bool) : (endFades s l byReset).link = s.link :=
  (endFades_mixFrame ..).link
@[simp] theorem endDueFades_link : (endDueFades s).link = s.link := (endDueFades_mixFrame ..).link
@[simp] theorem syncReset_link (n : Nat) : (syncReset s n).link = s.link := (syncReset_mixFrame ..).link
@[simp] theorem startPutOff_link : (startPutOff s).link = s.link := (startPutOff_mixFrame ..).link
@[simp] theorem landSwitch_link (m : BitVec 32) : (landSwitch s m).link = s.link := by simp [landSwitch]
@[simp] theorem doCoefLoad_link (m : BitVec 32) (c : List Int) : (doCoefLoad s t g m c).link = s.link := by
  simp [doCoefLoad]
@[simp] theorem doCoefSwitch_link (m : BitVec 32) : (doCoefSwitch s t g m).link = s.link := by simp [doCoefSwitch]
@[simp] theorem busSample_link (n : Nat) (y : Int) : (busSample s n y).link = s.link := by simp [busSample]

@[simp] theorem busTick_link (n : Nat) : (busTick s n).link = s.link := by
  simp only [busTick]
  split <;> simp

@[simp] theorem doBusWrite_link (b : Option Nat) (w : Nat → Write) : (doBusWrite s t g b w).link = s.link := by
  simp [doBusWrite]
@[simp] theorem landGain_link (n : Nat) (cB : Int) : (landGain s n cB).link = s.link := by simp [landGain]
@[simp] theorem landEnable_link (n : Nat) (on : Bool) : (landEnable s n on).link = s.link := by simp [landEnable]
@[simp] theorem landContrib_link (n : Nat) (on : Bool) : (landContrib s n on).link = s.link := by simp [landContrib]
@[simp] theorem doDecim_link (p : Preset) : (doDecim s t g p).link = s.link := by simp [doDecim]
@[simp] theorem doDetectBuses_link (d : BitVec 3) (m : BitVec 32) : (doDetectBuses s t g d m).link = s.link := by
  simp [doDetectBuses]

@[simp] theorem doDetectNote_link (id : BitVec 32) : (doDetectNote s t g id).link = s.link := by
  unfold doDetectNote
  split <;> simp

/-! ## Outputs of the field die -/

@[simp] theorem abandonTrim_link (target : Nat) : (abandonTrim s target).link = s.link := by
  unfold abandonTrim
  split <;> simp

@[simp] theorem putLate_link (l : LateOut) : (s.putLate l).link = s.link := by simp [State.putLate]
@[simp] theorem cvSwitch_link (a : CvArgs) : (cvSwitch s a).link = s.link := (cvSwitch_outputsOnly ..).port
@[simp] theorem landCvConfig_link (a : CvArgs) : (landCvConfig s a).link = s.link := by simp [landCvConfig]
@[simp] theorem doCvConfig_link (a : CvArgs) : (doCvConfig s t g a).link = s.link := by simp [doCvConfig]

@[simp] theorem doCvSet_link (timed : Bool) (l : List CvEntry) : (doCvSet s t g timed l).link = s.link := by
  unfold doCvSet
  split <;> simp

@[simp] theorem landCvEntry_link (e : CvEntry) : (landCvEntry s e).link = s.link := by simp [landCvEntry]
@[simp] theorem landCvSets_link : (landCvSets s).link = s.link := by simp [landCvSets]
@[simp] theorem doCvQueue_link (due : Option Smp) (n : Nat) (codes : List (BitVec 16)) :
    (doCvQueue s t g due n codes).link = s.link := by simp [doCvQueue]
@[simp] theorem doGateSet_link (timed : Bool) (mask levels : BitVec 8) :
    (doGateSet s t g timed mask levels).link = s.link := by simp [doGateSet]
@[simp] theorem setGate_link (n : Nat) (high : Bool) (t : Tenant) : (s.setGate n high t).link = s.link := by
  simp [State.setGate]
@[simp] theorem landGate_link (p : PendGate) : (landGate s p).link = s.link := by simp [landGate]
@[simp] theorem landGates_link : (landGates s).link = s.link := by simp [landGates]
@[simp] theorem releaseGates_link : (releaseGates s t).link = s.link := (releaseGates_frame ..).link
@[simp] theorem gtSwitch_link (n : Nat) (on : Bool) : (gtSwitch s n on).link = s.link := (gtSwitch_outputsOnly ..).port
@[simp] theorem landGtEnable_link (n : Nat) (on : Bool) : (landGtEnable s n on).link = s.link := by simp [landGtEnable]
@[simp] theorem lineSwitch_link (a : LineArgs) : (lineSwitch s a).link = s.link := by simp [lineSwitch]
@[simp] theorem landLine_link (a : LineArgs) : (landLine s a).link = s.link := by simp [landLine]
@[simp] theorem landLate_link : (landLate s).link = s.link := (landLate_outputsOnly ..).port
@[simp] theorem doLineConfig_link (a : LineArgs) : (doLineConfig s t g a).link = s.link := by simp [doLineConfig]
@[simp] theorem lineSamples_link : (lineSamples s).link = s.link := (lineSamples_outputsOnly ..).port
@[simp] theorem outputSamples_link : (outputSamples s).link = s.link := (outputSamples_outputsOnly ..).port
@[simp] theorem allHiz_link : (allHiz s).link = s.link := (allHiz_outputsOnly ..).port
@[simp] theorem muteLines_link : (muteLines s).link = s.link := (muteLines_outputsOnly ..).port
@[simp] theorem zeroLines_link : (zeroLines s).link = s.link := (zeroLines_outputsOnly ..).port
@[simp] theorem cvFault_link (o : Nat) (kind : Nat) : (cvFault s o kind).link = s.link := by simp [cvFault]
@[simp] theorem clearPairs_link (o : Nat) : (clearPairs s o).link = s.link := by simp [clearPairs]
@[simp] theorem cvCleared_link (o : Nat) : (cvCleared s o).link = s.link := by simp [cvCleared]

@[simp] theorem limitBegin_link (o : OutRef) (positive : Bool) : (limitBegin s o positive).link = s.link := by
  unfold limitBegin
  (repeat' split) <;> simp

@[simp] theorem setOut_link (o : OutRef) (st : OutState) : (s.setOut o st).link = s.link := by
  unfold State.setOut
  split <;> simp

@[simp] theorem limitTimeout_link (o : OutRef) : (limitTimeout s o).link = s.link := by
  unfold limitTimeout
  split <;> simp

@[simp] theorem retryBegin_link (o : OutRef) : (retryBegin s o).link = s.link := by
  unfold retryBegin
  (repeat' split) <;> simp

@[simp] theorem retryEnd_link (o : OutRef) (limited : Bool) : (retryEnd s o limited).link = s.link := by
  unfold retryEnd
  (repeat' split) <;> simp

@[simp] theorem episodeEnd_link (o : OutRef) : (episodeEnd s o).link = s.link := by
  unfold episodeEnd
  (repeat' split) <;> simp

@[simp] theorem setPair_link (o : OutRef) : (s.setPair o).link = s.link := by
  unfold State.setPair
  split <;> simp

@[simp] theorem pairSuspectOf_link (a b : OutRef) : (pairSuspectOf s a b).link = s.link := by simp [pairSuspectOf]
@[simp] theorem senseInject_link (n : Nat) (mv : Nat) : (senseInject s n mv).link = s.link := by simp [senseInject]
@[simp] theorem senseOpen_link (n : Nat) (mv : Nat) : (senseOpen s n mv).link = s.link := by simp [senseOpen]
@[simp] theorem holdEvents_link : (holdEvents s).link = s.link := by simp [holdEvents]
@[simp] theorem releaseField_link (h : FieldHold) : (releaseField s h).link = s.link := by rw [releaseField_frame]

@[simp] theorem landPadRelease_link : (landPadRelease s).link = s.link := by
  simp only [landPadRelease]
  split <;> simp

@[simp] theorem doPadRelease_link : (doPadRelease s t g).link = s.link := by simp [doPadRelease]

theorem onCmdC_link {f : InFlight → Option State} (h : ∀ c u, f c = some u → u.link = s.link) :
    (onCmdC s t g f).link = s.link := by
  unfold onCmdC
  split
  · next c _ =>
    cases hf : f c with
    | none => rfl
    | some u => exact h c u hf
  · rfl

/-! ## Serial channels -/

@[simp] theorem scLine_link (ch : Nat) (kind : Nat) (cont : List Byte) : (scLine s ch kind cont).link = s.link := by
  simp [scLine]
@[simp] theorem rxPut_link (ch : Nat) (b : Byte) : (rxPut s ch b).link = s.link := by simp [rxPut]
@[simp] theorem scByte_link (ch : Nat) (b : Byte) : (scByte s ch b).link = s.link := by simp [scByte]
@[simp] theorem drainWake_link (ch : Nat) : (drainWake s ch).link = s.link := by simp [drainWake]
@[simp] theorem scError_link (ch : Nat) (framing parity : Bool) : (scError s ch framing parity).link = s.link := by
  simp [scError]
@[simp] theorem breakBegin_link (ch : Nat) : (breakBegin s ch).link = s.link := by simp [breakBegin]
@[simp] theorem disarm_link (ch : Nat) : (disarm s ch).link = s.link := by simp [disarm]

@[simp] theorem decodeChar_link (ch : Nat) (edges : List Nat) (level : Nat → Bool) :
    (decodeChar s ch edges level).link = s.link := by
  simp only [decodeChar]
  (repeat' split) <;> simp

@[simp] theorem measureChar_link (ch : Nat) (edges : List Nat) : (measureChar s ch edges).link = s.link := by
  simp [measureChar]
@[simp] theorem echoChar_link (ch : Nat) (edges : List Nat) (level : Nat → Bool) (ctsHigh : Bool) :
    (echoChar s ch edges level ctsHigh).link = s.link := by simp [echoChar]
@[simp] theorem scChar_link (ch : Nat) (line : List Nat) (ctsHigh : Bool) : (scChar s ch line ctsHigh).link = s.link := by
  simp [scChar]

@[simp] theorem lineRise_link (ch : Nat) (low : Nat) : (lineRise s ch low).link = s.link := by
  simp only [lineRise]
  split <;> simp

@[simp] theorem breakSaturate_link (ch : Nat) : (breakSaturate s ch).link = s.link := by simp [breakSaturate]
@[simp] theorem rxDeliver_link (ch : Nat) (oldestMs : Nat) : (rxDeliver s ch oldestMs).link = s.link := by
  simp [rxDeliver]

@[simp] theorem txChar_link (ch : Nat) (ctsHigh : Bool) : (txChar s ch ctsHigh).link = s.link := by
  simp only [txChar]
  (repeat' split) <;> simp

@[simp] theorem txBreakStart_link (ch : Nat) (ctsHigh : Bool) : (txBreakStart s ch ctsHigh).link = s.link := by
  simp only [txBreakStart]
  (repeat' split) <;> simp

@[simp] theorem txBreakEnd_link (ch : Nat) : (txBreakEnd s ch).link = s.link := by
  unfold txBreakEnd
  split <;> simp

@[simp] theorem doScSend_link (ch : Nat) (b : List Byte) : (doScSend s t g ch b).link = s.link := by simp [doScSend]
@[simp] theorem doScBreak_link (ch bits : Nat) : (doScBreak s t g ch bits).link = s.link := by simp [doScBreak]
@[simp] theorem scOff_link (ch : Nat) : (scOff s ch).link = s.link := by simp [scOff]

/-! ## The smart card -/

@[simp] theorem cardEvent_link (v : Nat) : (cardEvent s v).link = s.link := by simp [cardEvent]

@[simp] theorem deactivate_link : (deactivate s).link = s.link := by
  unfold deactivate
  (repeat' split) <;> simp

@[simp] theorem cardFail_link (st : Status) : (cardFail s st).link = s.link := by simp [cardFail]
@[simp] theorem cardOk_link (b : List Byte) : (cardOk s b).link = s.link := by simp [cardOk]

theorem cardCmd_link {f : State → State} (h : ∀ u, (f u).link = u.link) : (cardCmd s t g f).link = s.link := by
  unfold cardCmd
  split <;> simp [h]

@[simp] theorem doCardStart_link : (doCardStart s t g).link = s.link :=
  cardCmd_link s t g fun u => by split <;> simp

@[simp] theorem doCardStop_link : (doCardStop s t g).link = s.link :=
  cardCmd_link s t g fun u => by split <;> simp

@[simp] theorem doCardExchange_link (d : CardDir) (h data : List Byte) :
    (doCardExchange s t g d h data).link = s.link := cardCmd_link s t g fun u => by split <;> [split; skip] <;> simp

@[simp] theorem cardTimer_link : (cardTimer s).link = s.link := by
  unfold cardTimer
  split <;> simp

@[simp] theorem cardTs_link (m : List Bool) (t3 : Nat) : (cardTs s m t3).link = s.link := by simp [cardTs]

@[simp] theorem atrChar_link (b : Byte) : (atrChar s b).link = s.link := by
  simp only [atrChar]
  split <;> simp

@[simp] theorem procByte_link (b : Byte) : (procByte s b).link = s.link := by
  simp only [procByte]
  (repeat' split) <;> simp

@[simp] theorem cardChar_link (m : BitVec 9) : (cardChar s m).link = s.link := by
  simp only [cardChar]
  (repeat' split) <;> simp

@[simp] theorem cardTx_link (n : Nat) (err : Bool) : (cardTx s n err).link = s.link := by
  simp only [cardTx]
  (repeat' split) <;> simp

@[simp] theorem cardDetect_link (present : Bool) : (cardDetect s present).link = s.link := by simp [cardDetect]
@[simp] theorem doScConfig_link (a : ScArgs) : (doScConfig s t g a).link = s.link := by simp [doScConfig]

/-! ## Inputs of the field die and the key scanner -/

@[simp] theorem landCi_link (n rank bank : Nat) : (landCi s n rank bank).link = s.link := by simp [landCi]
@[simp] theorem ciSample_link (n : Nat) (bits : BitVec 128) : (ciSample s n bits).link = s.link := by simp [ciSample]
@[simp] theorem doCiConfig_link (n : Option Nat) (rank bank : Nat) : (doCiConfig s t g n rank bank).link = s.link := by
  simp [doCiConfig]
@[simp] theorem refillRanks_link : (refillRanks s).link = s.link := (refillRanks_outside ..).port

@[simp] theorem raiseKey_link (e : KeyEv) : (raiseKey s e).link = s.link := by
  unfold raiseKey
  (repeat' split) <;> simp

@[simp] theorem putScan_link (a : Scanner × List KeyEv) : (s.putScan a).link = s.link := by simp [State.putScan]
@[simp] theorem clearCell_link (c : Nat) : (clearCell s c).link = s.link := by simp [clearCell]
@[simp] theorem captureRest_link : (captureRest s).link = s.link := by simp [captureRest]
@[simp] theorem keyScan_link (r : ScanReadings) : (keyScan s r).link = s.link := by simp [keyScan]
@[simp] theorem doKeyscanConfig_link (mode : Nat) (to_ : Tenant) (part : Nat) :
    (doKeyscanConfig s t g mode to_ part).link = s.link := by simp [doKeyscanConfig]
@[simp] theorem doKeyscanStatus_link : (doKeyscanStatus s t g).link = s.link := by simp [doKeyscanStatus]

/-! ## Notes -/

@[simp] theorem sendCmd_link (g : Option Tag) (o : SpilledOut) (c : NoteCmd) (affected : Option Nat) :
    (sendCmd s t g o c affected).link = s.link := (sendCmd_frame ..).link
theorem cmdToNote_link {s : State} {t : Tenant} {g : Option Tag} {id : BitVec 32} {c : NoteCmd} {affected : Option Nat}
    {u : State} {w : Bool} (h : cmdToNote s t g id c affected = some (u, w)) : u.link = s.link :=
  (cmdToNote_frame h).link

@[simp] theorem noteCmd_link (id : BitVec 32) (c : NoteCmd) : (noteCmd s t g id c).link = s.link := by
  unfold noteCmd
  split
  · simp
  · next h => simpa using cmdToNote_link h
  · next h => simpa using cmdToNote_link h

@[simp] theorem cmdToAll_link (part : Option Nat) (c : NoteCmd) : (cmdToAll s t part c).link = s.link :=
  (cmdToAll_frame s t part c).link

theorem retrigger_link {s : State} {t : Tenant} {id : BitVec 32} {r : Retrig} {u : State} {w : Bool}
    (h : retrigger s t id r = some (u, w)) : u.link = s.link := by
  unfold retrigger at h
  split at h
  · cases h; simp
  · split at h
    · cases h; simp
    · split at h
      · split at h <;> cases h <;> simp
      · cases h

@[simp] theorem doNoteOn_link (a : NoteOnArgs) : (doNoteOn s t g a).link = s.link := by
  simp only [doNoteOn]
  split
  · next h => simpa using retrigger_link h
  · next h => simpa using retrigger_link h
  · split
    · next h => simpa using place_link h
    · simp

/-- One note of an ALL_RELEASE. -/
theorem releaseStep_link (t : Tenant) (g : Tag) (part : Option Nat) (fade : Bool) (k : Option Nat) (a : State × Bool)
    (id : BitVec 32) : (match cmdToNote a.1 t (some g) id (.allRelease part fade) k with
      | some (s, w) => (s, a.2 || w)
      | none => a).1.link = a.1.link := by
  split
  · next h => exact cmdToNote_link h
  · rfl

@[simp] theorem doAllRelease_link (part : Option Nat) (fade : Bool) : (doAllRelease s t g part fade).link = s.link := by
  simp only [doAllRelease]
  split
  · exact (startLong_link ..).trans (foldl_link (fun a id => releaseStep_link ..) _)
  · exact (okShort_link ..).trans (foldl_link (fun a id => releaseStep_link ..) _)

@[simp] theorem doVoiceParam_link (id : BitVec 32) (l : List (Nat × Int)) :
    (doVoiceParam s t g id l).link = s.link := by
  unfold doVoiceParam
  (repeat' split) <;> simp

@[simp] theorem partV_link (part : Nat) (e : Nat × Int) : (partV s t part e).link = s.link := by simp [partV]

@[simp] theorem partEntry_link (t : Tenant) (part : Nat) (s : State) (e : Nat × Int) :
    (partEntry t part s e).link = s.link := by
  unfold partEntry
  split <;> simp

@[simp] theorem doPartParam_link (part : Nat) (l : List (Nat × Int)) : (doPartParam s t g part l).link = s.link := by
  unfold doPartParam
  split <;> simp

@[simp] theorem selectPatch_link (part slot : Nat) (img : List Byte) : (selectPatch s t part slot img).link = s.link := by
  simp [selectPatch]

@[simp] theorem trySelect_link (part slot : Nat) : (trySelect s t part slot).link = s.link := by
  unfold trySelect
  (repeat' split) <;> simp

@[simp] theorem umpCmd_link (part key : Nat) (c : NoteCmd) : (umpCmd s t part key c).link = s.link := by
  unfold umpCmd
  split
  · next h => exact cmdToNote_link h
  · rfl

@[simp] theorem umpOn_link (part key vel : Nat) : (umpOn s t part key vel).link = s.link := by
  simp only [umpOn]
  split
  · next h => exact retrigger_link h
  · cases h : place s t (newNote s t (umpId part key) part key vel 0 none) false false with
    | none => rfl
    | some u => exact place_link h

@[simp] theorem umpControl_link (part i v full : Nat) : (umpControl s t part i v full).link = s.link := by
  simp only [umpControl]
  split <;> simp

@[simp] theorem umpOne_link (t : Tenant) (s : State) (o : UmpOp) : (umpOne t s o).link = s.link := by
  unfold umpOne
  (repeat' split) <;> simp

@[simp] theorem doUmp_link (l : List UmpOp) : (doUmp s t g l).link = s.link := by simp [doUmp]

@[simp] theorem cmdOnVoice_link (v : Voice) (c : NoteCmd) : (cmdOnVoice s v c).link = s.link := by
  unfold cmdOnVoice
  split <;> simp

@[simp] theorem landNote_link (id : BitVec 32) (c : NoteCmd) : (landNote s t id c).link = s.link := by
  unfold landNote
  split <;> simp

@[simp] theorem landVoiceParam_link (id : BitVec 32) (pid : Nat) (x : Int) :
    (landVoiceParam s t id pid x).link = s.link := by
  unfold landVoiceParam
  (repeat' split) <;> simp

@[simp] theorem landPartParam_link (part pid : Nat) (x : Int) : (landPartParam s t part pid x).link = s.link := by
  simp [landPartParam]

/-! ## The mix ring -/

@[simp] theorem ringState_link (kind pos : Nat) (dieId : BitVec 64) : (ringState s kind pos dieId).link = s.link :=
  (ringState_eventFrame ..).link
@[simp] theorem setAlign_link (dMax : Nat) : (setAlign s dMax).link = s.link := by simp [setAlign]
@[simp] theorem contribsOff_link : (contribsOff s).link = s.link := by simp [contribsOff]
@[simp] theorem wakeKeeper_link : (wakeKeeper s).link = s.link := by simp [wakeKeeper]
@[simp] theorem codeError_link : (codeError s).link = s.link := by simp [codeError]

@[simp] theorem takeItem_link (origin : Nat) (q : BitVec 16) : (takeItem s origin q).1.link = s.link := by
  simp only [takeItem]
  split <;> simp

theorem onceOnly_link (r : RingHead) {f : State → State} (h : ∀ u, (f u).link = u.link) :
    (onceOnly s r f).link = s.link := by simp [onceOnly, h]
@[simp] theorem remap_link (f : Nat → Nat) : (remap s f).link = s.link := by simp [remap]
@[simp] theorem doRingStart_link : (doRingStart s t g).link = s.link := by simp [doRingStart]
@[simp] theorem announceJoin_link : (announceJoin s).link = s.link := by simp [announceJoin]
@[simp] theorem startRecord_link (d : BitVec 64) (fs : Nat) : (startRecord s d fs).link = s.link := by
  simp [startRecord]
@[simp] theorem keeperRecord_link (r : KeeperRecord) : (keeperRecord s r).link = s.link := by simp [keeperRecord]

@[simp] theorem windowEnd_link : (windowEnd s).link = s.link := by
  unfold windowEnd
  (repeat' split) <;> simp

@[simp] theorem setLanes_link (m : Membership) : (setLanes s m).link = s.link := by simp [setLanes]
@[simp] theorem setMembers_link (m : Membership) (position units : Nat) (gone : List Nat) :
    (setMembers s m position units gone).link = s.link := by simp [setMembers]
@[simp] theorem joinSelf_link (ref : Tenant × Tag) (m : Membership) : (joinSelf s ref m).link = s.link := by
  simp [joinSelf]
@[simp] theorem joinOther_link (m : Membership) : (joinOther s m).link = s.link := by simp [joinOther]

@[simp] theorem joinBoundary_link (m : Membership) : (joinBoundary s m).link = s.link := by
  unfold joinBoundary
  (repeat' split) <;> simp

@[simp] theorem loseWaits_link (p : RingWait → Bool) : (loseWaits s p).link = s.link := (loseWaits_spill ..).link
@[simp] theorem loseNotesOn_link (unit : Nat) : (loseNotesOn s unit).link = s.link := (loseNotesOn_spill ..).link
@[simp] theorem releaseFrom_link (origin : Nat) : (releaseFrom s origin).link = s.link := by simp [releaseFrom]
@[simp] theorem laneLoss_link (laneA : Bool) (neighbour : BitVec 64) : (laneLoss s laneA neighbour).link = s.link := by
  simp [laneLoss]
@[simp] theorem heal_link (m : Membership) : (heal s m).link = s.link := by simp [heal]

@[simp] theorem unfold_link (m : Membership) : (unfold s m).link = s.link := by simp [unfold]

@[simp] theorem announceLeave_link (ref : Option (Tenant × Tag)) : (announceLeave s ref).link = s.link := by
  simp [announceLeave]
@[simp] theorem doRingLeave_link : (doRingLeave s t g).link = s.link := by simp [doRingLeave]
@[simp] theorem standalone_link : (standalone s).link = s.link := (standalone_spill ..).link
@[simp] theorem dropSpills_link : (dropSpills s).link = s.link := (dropSpills_spill ..).link
@[simp] theorem leaveBoundary_link : (leaveBoundary s).link = s.link := by simp [leaveBoundary]
@[simp] theorem leaveNotice_link (d : BitVec 64) : (leaveNotice s d).link = s.link := by simp [leaveNotice]
@[simp] theorem joinNotice_link (d : BitVec 64) : (joinNotice s d).link = s.link := by simp [joinNotice]
@[simp] theorem alignTide_link (m : Marker) : (alignTide s m).link = s.link := by simp [alignTide]
@[simp] theorem markerIn_link (m : Marker) : (markerIn s m).link = s.link := by simp [markerIn]
@[simp] theorem countSilent_link (l : List GossipEntry) : (countSilent s l).link = s.link := (countSilent_spill ..).link
@[simp] theorem gossipIn_link (l : List GossipEntry) (crcOk : Bool) : (gossipIn s l crcOk).link = s.link := by
  simp [gossipIn]
@[simp] theorem sumIn_link (l : List (List Int)) (crcOk : Bool) : (sumIn s l crcOk).link = s.link := by simp [sumIn]
@[simp] theorem totalIn_link (l : List (List Int)) (crcOk : Bool) : (totalIn s l crcOk).link = s.link := by
  simp [totalIn]
@[simp] theorem ringSample_link : (ringSample s).link = s.link := by simp [ringSample]
@[simp] theorem ringBoundary_link : (ringBoundary s).link = s.link := (ringBoundary_spill ..).link
@[simp] theorem dropItem_link (q : BitVec 16) : (dropItem s q).link = s.link := by simp [dropItem]
@[simp] theorem ackIn_link (q : BitVec 16) : (ackIn s q).link = s.link := by simp [ackIn]
@[simp] theorem resend_link : (resend s).link = s.link := by simp [resend]
@[simp] theorem countLost_link : (countLost s).link = s.link := by simp [countLost]
@[simp] theorem freeSpill_link (id : BitVec 32) : (freeSpill s t id).link = s.link := by simp [freeSpill]

@[simp] theorem loseCommand_link (id : BitVec 32) : (loseCommand s t g id).link = s.link := by
  simp only [loseCommand]
  split <;> simp

@[simp] theorem loseNote_link (o : SpilledOut) : (loseNote s t o).link = s.link := by simp [loseNote]

@[simp] theorem giveUp_link (i : RingItem) : (giveUp s i).link = s.link := by
  unfold giveUp
  (repeat' split) <;> simp

@[simp] theorem itemGiveUp_link (q : BitVec 16) : (itemGiveUp s q).link = s.link := by
  unfold itemGiveUp
  split <;> simp

@[simp] theorem reportTimeout_link : (reportTimeout s t g).link = s.link := by
  simp only [reportTimeout]
  split <;> split
  · simp
  · rw [foldS_link fun u w => by split <;> simp]
    simp
  · rfl
  · rw [foldS_link fun u w => by split <;> simp]
    simp

@[simp] theorem originSilent_link (origin : Nat) : (originSilent s origin).link = s.link := by simp [originSilent]
@[simp] theorem noteArrives_link (n : RingNote) : (noteArrives s n).link = s.link := by simp [noteArrives]

@[simp] theorem startArrived_link (v : Voice) : (startArrived s v).link = s.link := by
  unfold startArrived
  split <;> simp

@[simp] theorem startAllArrived_link : (startAllArrived s).link = s.link := by simp [startAllArrived]

@[simp] theorem reportTo_link (c : SpillCommand) (found late : Bool) : (reportTo s c found late).link = s.link := by
  unfold reportTo
  split <;> simp

@[simp] theorem actOn_link (v : Voice) (c : SpillCommand) : (actOn s v c).link = s.link := by
  unfold actOn
  split
  · simp
  · exact foldS_link (fun u e => by split <;> simp) s
  · simp

@[simp] theorem landDue_link (d : RingDue) : (landDue s d).link = s.link := by
  unfold landDue
  split <;> simp

@[simp] theorem landAllDue_link : (landAllDue s).link = s.link := by simp [landAllDue]

@[simp] theorem reportIn_link (id : BitVec 32) (found late : Bool) (landed : Smp) :
    (reportIn s t g id found late landed).link = s.link := by
  unfold reportIn
  (repeat' split) <;> simp

@[simp] theorem endOrderIn_link (h : RingHead) (t : Tenant) (id : BitVec 32) : (endOrderIn s h t id).link = s.link := by
  unfold endOrderIn
  split <;> simp

@[simp] theorem commandRecord_link (r : SpillRecord) : (commandRecord s r).link = s.link := by
  unfold commandRecord
  split
  · simp
  · split
    · rfl
    · split
      · rfl
      · exact onceOnly_link _ _ fun u => reportIn_link ..
      · exact onceOnly_link _ _ fun u => by split <;> simp
      · exact onceOnly_link _ _ fun u => endOrderIn_link ..
      · exact onceOnly_link _ _ fun u => by dsimp only; split <;> simp

@[simp] theorem startReportIn_link (id : BitVec 32) : (startReportIn s t id).link = s.link := by
  unfold startReportIn
  (repeat' split) <;> simp

@[simp] theorem refusalIn_link (id : BitVec 32) : (refusalIn s t id).link = s.link := by simp [refusalIn]

@[simp] theorem fallback_link (o : SpilledOut) : (fallback s t o).link = s.link := by
  simp only [fallback]
  split
  · next h => simpa using stealFor_link h
  · simp

@[simp] theorem fallbackOf_link (id : BitVec 32) : (fallbackOf s t id).link = s.link := by
  unfold fallbackOf
  split <;> simp

@[simp] theorem allFallbacks_link : (allFallbacks s).link = s.link := by simp [allFallbacks]

@[simp] theorem endRecord_link (id : BitVec 32) (stolen : Bool) : (endRecord s t id stolen).link = s.link := by
  unfold endRecord
  split <;> simp

theorem notice_link (r : RingHead) {f : State → State} (h : ∀ u, (f u).link = u.link) :
    (notice s r f).link = s.link := by
  simp [notice, onceOnly_link _ _ h]

/-! ## The link to the field die, supplies and heat -/

@[simp] theorem vddFaRise_link : (vddFaRise s).link = s.link := by simp [vddFaRise]
@[simp] theorem fieldPass_link (vfUp : Bool) : (fieldPass s vfUp).link = s.link := by simp [fieldPass]
@[simp] theorem linkSilent_link : (linkSilent s).link = s.link := by simp [linkSilent]
@[simp] theorem linkDark_link : (linkDark s).link = s.link := by simp [linkDark]
@[simp] theorem gatePins_link : (gatePins s).link = s.link := (gatePins_outputsOnly ..).port
@[simp] theorem topUpLines_link : (topUpLines s).link = s.link := (topUpLines_outputsOnly ..).port

@[simp] theorem linkRecover_link : (linkRecover s).link = s.link := by
  unfold linkRecover
  split <;> simp

@[simp] theorem fieldFault_link (cause : Nat) : (fieldFault s cause).link = s.link := by simp [fieldFault]
@[simp] theorem dieFault_link (cause : Nat) : (dieFault s cause).link = s.link := by simp [dieFault]
@[simp] theorem mclkLoss_link : (mclkLoss s).link = s.link := by simp [mclkLoss]
@[simp] theorem mclkRestore_link : (mclkRestore s).link = s.link := by simp [mclkRestore]
@[simp] theorem frameEdge_link (rising : Bool) : (frameEdge s rising).link = s.link := by simp [frameEdge]
@[simp] theorem setThermal_link (st : Thermal) (n : Nat) : (setThermal s st n).link = s.link := by simp [setThermal]
@[simp] theorem softEvent_link (n : Nat) : (softEvent s n).link = s.link := by simp [softEvent]

@[simp] theorem thermalSample_link (tj : Int) : (thermalSample s tj).link = s.link := by
  simp only [thermalSample]
  (repeat' split) <;> simp

@[simp] theorem softStep_link : (softStep s).link = s.link := by simp [softStep]

/-! ## The parts of a frame's effect that are not of the port -/

@[simp] theorem linkWake_link : (linkWake s).link = s.link := by simp [linkWake]
@[simp] theorem commitReap_link (p : List Byte) (bad : List Nat) : (commitReap s p bad).1.link = s.link := by
  simp [commitReap]
@[simp] theorem commitBulkRead_link (p : List Byte) (len : Nat) : (commitBulkRead s p len).1.link = s.link := by
  simp [commitBulkRead]

@[simp] theorem feed_link (kind : Nat) (p : List Byte) : (s.feed kind p).link = s.link := by
  unfold State.feed
  split <;> simp

/-! ## Memories, the vault and MRAM -/

@[simp] theorem setPatch_link (n : Nat) (p : PatchSlot) : (s.setPatch n p).link = s.link := by simp [State.setPatch]
@[simp] theorem dropPatch_link (n : Nat) : (s.dropPatch n).link = s.link := by simp [State.dropPatch]

@[simp] theorem doPatchWrite_link (slot win : Nat) : (doPatchWrite s t g slot win).link = s.link := by
  simp only [doPatchWrite]
  (repeat' split) <;> simp

@[simp] theorem patchBad_link (slot : Nat) : (patchBad s slot).link = s.link := by simp [patchBad]
@[simp] theorem doPatchRead_link (slot win : Nat) (hw : HwAnswer) : (doPatchRead s t g slot win hw).link = s.link := by
  simp [doPatchRead]

@[simp] theorem doPatchSelect_link (part slot : Nat) (hw : HwAnswer) :
    (doPatchSelect s t g part slot hw).link = s.link := by
  unfold doPatchSelect
  (repeat' split) <;> simp

@[simp] theorem waveStore_link (a : Nat) (b : List Byte) : (waveStore s a b).link = s.link := by simp [waveStore]
@[simp] theorem waveZero_link (a n : Nat) : (waveZero s a n).link = s.link := by simp [waveZero]
@[simp] theorem doWaveWrite_link (bank off win n : Nat) : (doWaveWrite s t g bank off win n).link = s.link := by
  simp [doWaveWrite]
@[simp] theorem doWaveRead_link (bank off win n : Nat) : (doWaveRead s t g bank off win n).link = s.link := by
  simp [doWaveRead]
@[simp] theorem doWaveMap_link (a : MapArgs) : (doWaveMap s t g a).link = s.link := by simp [doWaveMap]
@[simp] theorem keyBad_link (slot : Nat) : (keyBad s slot).link = s.link := by simp [keyBad]

@[simp] theorem doLoadSealed_link (a : SealedArgs) (hw : HwAnswer) : (doLoadSealed s t g a hw).link = s.link := by
  unfold doLoadSealed
  (repeat' split) <;> simp

@[simp] theorem landSealed_link (l : SealedLoad) (p : Option (List Byte)) : (landSealed s l p).link = s.link := by
  unfold landSealed
  split <;> simp

@[simp] theorem clearBank_link (k : BankKind) (n : Nat) : (clearBank s k n).link = s.link := by
  unfold clearBank
  split <;> simp

@[simp] theorem changeBank_link (k : BankKind) (n : Nat) (st : BankSt) : (changeBank s t g k n st).link = s.link := by
  simp [changeBank]
@[simp] theorem doBankState_link (k : BankKind) (n : Nat) (st : BankSt) : (doBankState s t g k n st).link = s.link := by
  simp [doBankState]
@[simp] theorem runBankWaits_link : (runBankWaits s).link = s.link := by simp [runBankWaits]

@[simp] theorem waveWriteDone_link : (waveWriteDone s t g).link = s.link := by
  unfold waveWriteDone
  split <;> simp

@[simp] theorem sealedDone_link : (sealedDone s t g).link = s.link := by
  unfold sealedDone
  split <;> simp

@[simp] theorem landMove_link (m : BankMove) : (landMove s m).link = s.link := by simp [landMove]

@[simp] theorem bankDone_link (k : BankKind) (n : Nat) : (bankDone s k n).link = s.link := by
  unfold bankDone
  split <;> simp

@[simp] theorem tickMoves_link : (tickMoves s).link = s.link := by simp [tickMoves]
@[simp] theorem storeKeys_link (keys : Bank (List Byte)) (verify : Bool) : (storeKeys s keys verify).link = s.link := by
  simp [storeKeys]

@[simp] theorem doKeyLoad_link (slot : Nat) (w : List Byte) (hw : HwAnswer) :
    (doKeyLoad s t g slot w hw).link = s.link := by
  unfold doKeyLoad
  (repeat' split) <;> simp

@[simp] theorem doKeyErase_link (slot : Nat) (hw : HwAnswer) : (doKeyErase s t g slot hw).link = s.link := by
  simp [doKeyErase]
@[simp] theorem vaultWipe_link : (vaultWipe s).link = s.link := by simp [vaultWipe]
@[simp] theorem advanceLife_link (to_ : Life) (key : List Byte) : (advanceLife s to_ key).link = s.link := by
  simp [advanceLife]

@[simp] theorem doLifecycle_link (target : Nat) (die : BitVec 32) (key : List Byte) (hw : HwAnswer) :
    (doLifecycle s t g target die key hw).link = s.link := by
  unfold doLifecycle
  (repeat' split) <;> simp

@[simp] theorem doFwStage_link (off win n : Nat) (final : Bool) (hw : HwAnswer) :
    (doFwStage s t g off win n final hw).link = s.link := by simp [doFwStage]
@[simp] theorem doFwActivate_link (hw : HwAnswer) : (doFwActivate s t g hw).link = s.link := by simp [doFwActivate]
@[simp] theorem doDeviceReset_link : (doDeviceReset s t g).link = s.link := by simp [doDeviceReset]
@[simp] theorem scrubWord_link (e : Nat × Bool) : (scrubWord s e).link = s.link := by simp [scrubWord]

/-! ## Calibration, self-tests and lanes -/

@[simp] theorem startTrim_link (ref : Option (Tenant × Tag)) (l : List Nat) : (startTrim s ref l).link = s.link := by
  simp [startTrim]
@[simp] theorem doCalRun_link (target mask : Nat) : (doCalRun s t g target mask).link = s.link := by simp [doCalRun]
@[simp] theorem landTrim_link (m : Measured) : (landTrim s m).link = s.link := by simp [landTrim]

@[simp] theorem calRunDone_link (m : List Measured) : (calRunDone s m).link = s.link := by
  unfold calRunDone
  (repeat' split) <;> simp

@[simp] theorem doCalRead_link (target index : Nat) : (doCalRead s t g target index).link = s.link := by
  simp [doCalRead]
@[simp] theorem startStore_link (ref : Option (Tenant × Tag)) : (startStore s ref).link = s.link := by simp [startStore]
@[simp] theorem doCalStore_link : (doCalStore s t g).link = s.link := by simp [doCalStore]

@[simp] theorem calStoreDone_link (verify : Bool) : (calStoreDone s verify).link = s.link := by
  unfold calStoreDone
  split <;> simp

@[simp] theorem startPeriodic_link : (startPeriodic s).link = s.link := by simp [startPeriodic]
@[simp] theorem periodicDue_link (elapsedS : Nat) : (periodicDue s elapsedS).link = s.link := by simp [periodicDue]
@[simp] theorem periodicAfterNap_link : (periodicAfterNap s).link = s.link := by simp [periodicAfterNap]

@[simp] theorem periodicDone_link (m : List Measured) : (periodicDone s m).link = s.link := by
  unfold periodicDone
  (repeat' split) <;> simp

@[simp] theorem abandonInputs_link : (abandonInputs s).link = s.link := by simp [abandonInputs]
@[simp] theorem doSelftest_link (target : Nat) (m : BitVec 32) : (doSelftest s t g target m).link = s.link := by
  simp [doSelftest]

@[simp] theorem selftestDone_link (failMask : BitVec 32) : (selftestDone s failMask).link = s.link := by
  unfold selftestDone
  split <;> simp

@[simp] theorem doLaneService_link (n : Nat) (inward : Bool) : (doLaneService s t g n inward).link = s.link := by
  simp [doLaneService]
@[simp] theorem landLaneOut_link (n : Nat) : (landLaneOut s n).link = s.link := by simp [landLaneOut]
@[simp] theorem landLaneIn_link (n : Nat) : (landLaneIn s n).link = s.link := by simp [landLaneIn]
@[simp] theorem joinLane_link (n : Nat) : (joinLane s n).link = s.link := by simp [joinLane]
@[simp] theorem joinLanes_link : (joinLanes s).link = s.link := by simp [joinLanes]
@[simp] theorem laneTestDone_link (n : Nat) (pass : Bool) : (laneTestDone s n pass).link = s.link := by
  simp [laneTestDone]

@[simp] theorem fadeOut_link (v : Voice) : (fadeOut s v).link = s.link := by
  unfold fadeOut
  split <;> simp

@[simp] theorem drainLimit_link (n ms : Nat) : (drainLimit s n ms).link = s.link := by simp [drainLimit]
@[simp] theorem lifeSecond_link : (lifeSecond s).link = s.link := by simp [lifeSecond]
@[simp] theorem lifeStore_link (hw : HwAnswer) : (lifeStore s hw).link = s.link := by simp [lifeStore]

/-! ## Writes that land -/

@[simp] theorem clearOne_link (v : Voice) : (clearOne s v).link = s.link := (clearOne_keepsCore ..).link
@[simp] theorem clearVoices_link : (clearVoices s).link = s.link := by simp [clearVoices]
@[simp] theorem abortSchedules_link : (abortSchedules s).link = s.link := (abortSchedules_keepsCore ..).link
@[simp] theorem endAllFades_link : (endAllFades s).link = s.link := by simp [endAllFades]
@[simp] theorem stopNow_link : (stopNow s).link = s.link := by simp [stopNow]
@[simp] theorem beginStop_link : (beginStop s).link = s.link := by simp [beginStop]
@[simp] theorem startEngine_link : (startEngine s).link = s.link := by simp [startEngine]

@[simp] theorem landFieldProp_link (p : PropRef) (n : Nat) : (landFieldProp s p n).link = s.link := by
  unfold landFieldProp
  split <;> simp

@[simp] theorem landDevProp_link (p : PropRef) (n : Nat) : (landDevProp s p n).link = s.link := by
  unfold landDevProp
  split <;> simp

@[simp] theorem landProp_link (p : PropRef) (v : Int) : (landProp s t p v).link = s.link := by
  unfold landProp
  (repeat' split) <;> simp

@[simp] theorem landSpilledParam_link (origin : Nat) (t : Tenant) (id : BitVec 32) (pid : Nat) (x : Int) :
    (landSpilledParam s origin t id pid x).link = s.link := by
  unfold landSpilledParam
  split <;> simp

@[simp] theorem landWrite_link (w : Write) : (landWrite s w).link = s.link := by
  unfold landWrite
  split <;> simp

@[simp] theorem landL_link : (landL s).link = s.link := by simp [landL]
@[simp] theorem landB_link : (landB s).link = s.link := by simp [landB]

/-! ## Properties -/

@[simp] theorem doPropGet_link (own : Tenant) (p : PropRef) : (doPropGet s t g own p).link = s.link := by
  simp [doPropGet]
@[simp] theorem resizeWindow_link (own : Tenant) (kib : Nat) : (resizeWindow s own kib).link = s.link := by
  rw [resizeWindow_frame]

@[simp] theorem doPropSet_link (own : Tenant) (p : PropRef) (v : Int) : (doPropSet s t g own p v).link = s.link := by
  simp only [doPropSet]
  (repeat' split) <;> simp

@[simp] theorem propRowOp_link (is : PropRef → Int → Bool) : (propRowOp s t g is).link = s.link :=
  onCmd_link fun b u hu => by
    split at hu
    · split at hu <;> cases hu; simp
    · cases hu

/-! ## Sessions, host loss and the watchdog -/

@[simp] theorem recordEntry_link (e : SqEntry) (r : Rec) (store : Bool) : (recordEntry s t e r store).link = s.link := by
  simp [recordEntry]
@[simp] theorem abortWaiting_link : (abortWaiting s t).link = s.link := (abortWaiting_tenantsOnly ..).link

@[simp] theorem unmute_link : (unmute s t).link = s.link := by
  simp only [unmute]
  split
  · refine foldS_link (fun u id => ?_) s
    cases h : cmdToNote u t none id .unmute none with
    | none => rfl
    | some p => exact cmdToNote_link h
  · rfl

@[simp] theorem releaseAll_link : (releaseAll s t).link = s.link := by simp [releaseAll]

@[simp] theorem tellSteward_link : (tellSteward s).link = s.link := by
  simp only [tellSteward]
  split <;> simp

@[simp] theorem newSession_link (release : Bool) : (newSession s t g release).link = s.link := by
  unfold newSession
  split <;> simp

@[simp] theorem closeSession_link : (closeSession s t g).link = s.link := by simp [closeSession]

@[simp] theorem settleSession_link : (settleSession s t).link = s.link := by
  unfold settleSession
  (repeat' split) <;> simp

@[simp] theorem settleSessions_link : (settleSessions s).link = s.link := by simp [settleSessions]
@[simp] theorem doOpen_link (release : Bool) : (doOpen s t g release).link = s.link := by simp [doOpen]
@[simp] theorem doClose_link : (doClose s t g).link = s.link := by simp [doClose]
@[simp] theorem doReset_link (u : Tenant) : (doReset s t g u).link = s.link := by simp [doReset]

@[simp] theorem resetDone_link (u : Tenant) : (resetDone s u).link = s.link := by
  unfold resetDone
  split <;> simp

@[simp] theorem aimAt_link (a : Aim) : (s.aimAt t g a).link = s.link := by simp [State.aimAt]

@[simp] theorem judgeAbort_link (g target : Tag) : (judgeAbort s t g target).link = s.link := by
  unfold judgeAbort
  (repeat' split) <;> simp

@[simp] theorem settleAbort_link (g target : Tag) (a : Aim) : (settleAbort s t g target a).link = s.link := by
  unfold settleAbort
  split <;> simp

@[simp] theorem doAbort_link (g target : Tag) : (doAbort s t g target).link = s.link := by simp [doAbort]

@[simp] theorem lossAction_link : (lossAction s t).link = s.link := by
  unfold lossAction
  split <;> simp

@[simp] theorem hostLoss_link (ms : Nat) : (hostLoss s t ms).link = s.link := by simp [hostLoss]
@[simp] theorem droppedNotice_link : (droppedNotice s t).link = s.link := by simp [droppedNotice]

@[simp] theorem dropStart_link (v : Voice) : (dropStart s v).link = s.link := by
  unfold dropStart
  (repeat' split) <;> simp

@[simp] theorem dropStarts_link : (dropStarts s).link = s.link := by simp [dropStarts]
@[simp] theorem lossRelease_link : (lossRelease s).link = s.link := by simp [lossRelease]
@[simp] theorem watchdog_link : (watchdog s).link = s.link := by simp [watchdog]
@[simp] theorem dropRefs_link : (dropRefs s).link = s.link := by simp [dropRefs]
@[simp] theorem loseInFlight_link : (loseInFlight s t g).link = s.link := by simp [loseInFlight]
@[simp] theorem loseEntry_link (e : SqEntry) : (loseEntry s t e).link = s.link := by simp [loseEntry]
@[simp] theorem loseTag_link (t : Tenant) (s : State) (g : Nat) : (loseTag t s g).link = s.link := by simp [loseTag]
@[simp] theorem loseAll_link : (loseAll s t).link = s.link := by simp [loseAll]
@[simp] theorem returnTenant_link : (returnTenant s t).link = s.link := by simp [returnTenant]

/-! ## Power states -/

@[simp] theorem wakeBy_link (src : WakeSrc) : (wakeBy s src).link = s.link := by
  unfold wakeBy
  split <;> simp

@[simp] theorem wakeInEntry_link (src : WakeSrc) : (wakeInEntry s src).link = s.link := by
  unfold wakeInEntry
  (repeat' split) <;> simp

@[simp] theorem doPolicy_link (a : PolicyArgs) : (doPolicy s t g a).link = s.link := by simp [doPolicy]
@[simp] theorem doPowerEnter_link (st : PState) : (doPowerEnter s t g st).link = s.link := by simp [doPowerEnter]
@[simp] theorem powerEvent_link (kind n : Nat) : (powerEvent s kind n).link = s.link := by simp [powerEvent]
@[simp] theorem clearEntry_link : (clearEntry s).link = s.link := by simp [clearEntry]
@[simp] theorem enterDoze_link (byCommand : Bool) : (enterDoze s byCommand).link = s.link := by simp [enterDoze]
@[simp] theorem enterNap_link : (enterNap s).link = s.link := by simp [enterNap]
@[simp] theorem dropTx_link (n : Nat) : (dropTx s n).link = s.link := by simp [dropTx]
@[simp] theorem startHibernate_link (byCommand : Bool) : (startHibernate s byCommand).link = s.link := by
  simp [startHibernate]
@[simp] theorem abandonEntry_link (n : Nat) : (abandonEntry s n).link = s.link := by simp [abandonEntry]

theorem passPoint_link (n : Nat) {next : State → State} (h : ∀ u, (next u).link = u.link) :
    (passPoint s n next).link = s.link := by simp [passPoint, h]

@[simp] theorem quiesceDone_link : (quiesceDone s).link = s.link := by
  simp only [quiesceDone]
  split
  · rfl
  · split
    · rw [passPoint_link _ _ fun u => ?_]
      · split <;> simp
      · rfl
    · rfl

@[simp] theorem holdField_link : (holdField s).link = s.link := by simp [holdField]
@[simp] theorem latchPads_link : (latchPads s).link = s.link := by simp [latchPads]
@[simp] theorem unlatch_link : (unlatch s).link = s.link := by simp [unlatch]

@[simp] theorem powerBoundary_link : (powerBoundary s).link = s.link := by
  unfold powerBoundary
  (repeat' split) <;> simp

@[simp] theorem idleExpiry_link (ms : Nat) : (idleExpiry s ms).link = s.link := by
  unfold idleExpiry
  (repeat' split) <;> simp

@[simp] theorem idlenessEnd_link : (idlenessEnd s).link = s.link := by simp [idlenessEnd]
@[simp] theorem tideComparator_link : (tideComparator s).link = s.link := by simp [tideComparator]
@[simp] theorem restartWatchdogs_link : (restartWatchdogs s).link = s.link := by simp [restartWatchdogs]
@[simp] theorem napWake_link (src : WakeSrc) : (napWake s src).link = s.link := by simp [napWake]

@[simp] theorem powerEnterRow_link (st : PState) : (powerEnterRow s t g st).link = s.link :=
  onCmd_link fun b u hu => by
    split at hu
    · split at hu <;> cases hu; simp
    · cases hu

@[simp] theorem doWakeConfig_link (m : BitVec 7) (timer : Nat) : (doWakeConfig s t g m timer).link = s.link := by
  simp [doWakeConfig]

/-! ## Resets and boots -/

@[simp] theorem tamperRecord_link : (tamperRecord s).link = s.link := by
  unfold tamperRecord
  split <;> simp

@[simp] theorem readErrors_link (rd : BootRead) : (readErrors s rd).link = s.link := by simp [readErrors]
@[simp] theorem calSelect_link : (calSelect s).link = s.link := by simp [calSelect]

@[simp] theorem finishAdvance_link : (finishAdvance s).link = s.link := by
  unfold finishAdvance
  split <;> simp

@[simp] theorem fillVault_link (warm : Bool) : (fillVault s warm).link = s.link := by simp [fillVault]
@[simp] theorem setFwBanks_link : (setFwBanks s).link = s.link := by simp [setFwBanks]
@[simp] theorem bootRun_link (warm : Bool) (rd : BootRead) : (bootRun s warm rd).link = s.link := by simp [bootRun]
@[simp] theorem closeAfterWarm_link : (closeAfterWarm s t).link = s.link := by simp [closeAfterWarm]
@[simp] theorem confirmSlot_link (rd : BootRead) : (confirmSlot s rd).link = s.link := by simp [confirmSlot]
@[simp] theorem bootLane_link (fails : BitVec 8) (s : State) (n : Nat) : (bootLane fails s n).link = s.link := by
  simp [bootLane]

/-! ## The tick -/

@[simp] theorem startOne_link (v : Voice) : (startOne s v).link = s.link := by
  simp only [startOne]
  split <;> simp

@[simp] theorem startAll_link : (startAll s).link = s.link := by simp [startAll]

@[simp] theorem applyHeld_link (lane slot : Nat) (s : State) (c : NoteCmd) : (applyHeld lane slot s c).link = s.link := by
  unfold applyHeld
  split <;> simp

@[simp] theorem endFaded_link (v : Voice) : (endFaded s v).link = s.link := by
  unfold endFaded
  split <;> simp

@[simp] theorem endSteal_link (v : Voice) : (endSteal s v).link = s.link := by
  simp only [endSteal]
  split
  · simp
  · split <;> simp

@[simp] theorem endSteals_link : (endSteals s).link = s.link := by simp [endSteals]
@[simp] theorem tenLfoTick_link (t : Tenant) (s : State) (n : Nat) : (tenLfoTick t s n).link = s.link := by
  simp [tenLfoTick]
@[simp] theorem tenLfosTick_link : (tenLfosTick s).link = s.link := by simp [tenLfosTick]
@[simp] theorem beatsTick_link : (beatsTick s).link = s.link := by simp [beatsTick]
@[simp] theorem beatZeros_link : (beatZeros s).link = s.link := by simp [beatZeros]
@[simp] theorem addSends_link (l : List (Nat × Int)) : (addSends s l).link = s.link := by simp [addSends]

@[simp] theorem bankOffEvent_link (v : Voice) (bank : Nat) : (bankOffEvent s v bank).link = s.link := by
  unfold bankOffEvent
  split <;> simp

@[simp] theorem computeVoice_link (again : List (Nat × Nat)) (s : State) (v : Voice) :
    (computeVoice again s v).link = s.link := by
  unfold computeVoice
  (repeat' split) <;> simp

@[simp] theorem endVoice_link (v : Voice) : (endVoice s v).link = s.link := by
  unfold endVoice
  (repeat' split) <;> simp

@[simp] theorem voicesTick_link : (voicesTick s).link = s.link := by simp [voicesTick]
@[simp] theorem boundaryWork_link : (boundaryWork s).link = s.link := by simp [boundaryWork]
@[simp] theorem atBoundary_link : (atBoundary s).link = s.link := by simp [atBoundary]
@[simp] theorem rotate_link : (rotate s).link = s.link := by simp [rotate]
@[simp] theorem landTick_link : (landTick s).link = s.link := by simp [landTick]
@[simp] theorem sampleIn_link : (sampleIn s).link = s.link := by simp [sampleIn]
@[simp] theorem sampleOut_link : (sampleOut s).link = s.link := by simp [sampleOut]
@[simp] theorem quietStep_link : (quietStep s).link = s.link := by simp [quietStep]
@[simp] theorem hibernateCount_link : (hibernateCount s).link = s.link := by simp [hibernateCount]
@[simp] theorem sampleEnd_link : (sampleEnd s).link = s.link := by simp [sampleEnd]
@[simp] theorem ringWork_link : (ringWork s).link = s.link := by simp [ringWork]
@[simp] theorem stoppedTick_link : (stoppedTick s).link = s.link := by simp [stoppedTick]
@[simp] theorem advance_link : (advance s).link = s.link := by simp [advance]
@[simp] theorem runningTick_link : (runningTick s).link = s.link := by simp [runningTick]
@[simp] theorem tick_link : (tick s).link = s.link := by simp [tick]

/-! ## Taking entries -/

@[simp] theorem refuse_link (e : SqEntry) (st : Status) (short : BitVec 16) : (refuse s t e st short).link = s.link := by
  simp [refuse]

@[simp] theorem accept_link (e : SqEntry) (d : Int) (b : Body) (et : Nat) : (accept s t e d b et).link = s.link := by
  unfold accept
  split <;> simp

@[simp] theorem judge_link (e : SqEntry) (ecc : EntryEcc) : (judge s t e ecc).link = s.link := by
  simp only [judge]
  split <;> simp

@[simp] theorem resendEcho_link (r : Rec) (ecc : EntryEcc) : (resendEcho s t r ecc).link = s.link := by
  simp [resendEcho]

@[simp] theorem checkTaken_link (e : SqEntry) (ecc : EntryEcc) : (checkTaken s t e ecc).link = s.link := by
  simp only [checkTaken]
  (repeat' split) <;> simp

@[simp] theorem entryEcc_link (ecc : EntryEcc) : (entryEcc s ecc).link = s.link := by
  unfold entryEcc
  split <;> simp

@[simp] theorem takeEntry_link (ecc : EntryEcc) : (takeEntry s ecc).link = s.link := by
  unfold takeEntry
  (repeat' split) <;> simp

@[simp] theorem execBody_link (c : InFlight) (hw : HwAnswer) : (execBody s t g c hw).link = s.link := by
  unfold execBody
  split <;> simp

@[simp] theorem commandDue_link (hw : HwAnswer) : (commandDue s t g hw).link = s.link := by
  unfold commandDue
  split <;> simp

end Sys2Proof.Machine
end

section
/-! SUPPORT. UNIT_ADDR and the tentative address: every command leaves them legal. -/

namespace Sys2Proof.Machine

/-! ## Commands that leave the port as it is -/

/-- The commands that write the link port: its own rows, resets and boots, the firmware's return, and the step into
HIBERNATE. -/
def setsPort : Instr → Bool
  | .submitCommit _ | .reapCommit .. | .lreadCommit _ | .lwriteCommit _ | .enumerateCommit _ | .confirmFrameCommit _
  | .bulkWriteCommit _ | .bulkReadCommit _ | .frameDiscard _ | .unitAddrWrite _ | .irqSumClear _ | .linkRegisterWrite ..
  | .warmReset _ | .ctlFirmwareReturn | .powerOnReset _ | .resetNAssert _ | .bootComplete .. | .vddEngTimeout
  | .tamperDetect _ | .hibernateEntry | .hibernateWake .. | .vddEngOutOfRange => true
  | _ => false

/-- A command that does not write the port leaves it, whatever the port holds. The commands that share a frame (a property
row, a command of the queue, a notice of the ring) go by the rule of that frame; every other one is an operation of the
layer above. -/
theorem exec_link {i : Instr} {s u : State} (hi : setsPort i = false) (h : exec i s = .next u) : u.link = s.link := by
  cases i <;> cases hi <;> cases h
  case propSet | engRunStop | engRunRun | tenantBeatReset | tenantWindowResize | tpEnableWrite | gtEnableWrite
      | vaultTamperedClear => exact propRowOp_link ..
  case powerEnterDoze | powerEnterNap | powerEnterHibernate => exact powerEnterRow_link ..
  case cvSet | cvQueue | gateSet => exact onCmdC_link _ _ _ fun c v hv => by split at hv <;> cases hv; simp
  case tenantOpen | tenantClose =>
    split
    · split <;> simp
    · exact onCmd_link fun b v hv => by split at hv <;> cases hv; simp
  case joinNoticeReceived | leaveNoticeReceived | foldNoticeReceived => exact notice_link _ _ fun v => by simp
  case spillStartReport | spillRefusal | spillEndRecord =>
    split
    · exact onceOnly_link _ _ fun v => by simp
    · rfl
  case wakeNEdge => exact onLow_link _ _ fun v => by simp
  case stealFadeEnd | ctlWatchdogRestart | spilledNoteStart | cardWaitTimeout | limitExit | vddNvmInRange =>
    split <;> simp
  case nop | identify | tenantReset | heartbeat | abort | propGet | noteOn | noteOff | noteChangeBend | noteChangePressure
      | noteChangeRetarget | allRelease | allReleaseFade | ump | voiceParam | partParam | patchWrite | patchRead
      | patchSelect | waveWrite | waveRead | waveMap | waveLoadSealed | busConfigGain | busConfigEnable | busConfigResync
      | busConfigRing | decimConfig | coefLoad | coefSwitch | detectRead | cvConfig | lineConfig | padRelease | ciConfig
      | keyscanConfig | keyscanStatus | scConfig | scSend | scBreak | cardSessionStart | cardSessionExchange
      | cardSessionStop | chainInfo | ringStart | ringStatus | ringLeave | memBankState | vaultKeyLoad | vaultKeyErase
      | lifecycleAdvance | powerPolicy | wakeConfig | calRun | calStore | calRead | selftest | laneServiceOut
      | laneServiceIn | fwStage | fwActivate | deviceReset =>
    exact onCmd_link fun b v hv => by split at hv <;> cases hv <;> simp
  all_goals simp

/-! ## Frames -/

theorem Link.addrOk.keep {l m : Link} (h : l.addrOk) (ha : m.unitAddr = l.unitAddr)
    (ht : m.tentative = l.tentative ∨ m.tentative = none) : m.addrOk := by
  obtain ⟨hunit, htent⟩ := h
  refine ⟨ha ▸ hunit, fun a hm => ?_⟩
  rcases ht with ht | ht
  · exact htent a (ht ▸ hm)
  · rw [ht] at hm; cases hm

/-- A port without an address and without an offer, as a reset leaves it. -/
theorem addrOk_free {l : Link} (ha : l.unitAddr = 30) (ht : l.tentative = none) : l.addrOk :=
  ⟨.inr ha, fun a h => by rw [ht] at h; cases h⟩

section
variable {s : State} (h : s.link.addrOk)
include h

theorem latchStatus_addrOk : (latchStatus s).link.addrOk := by
  obtain ⟨w, hw⟩ := latchStatus_eq s
  rw [hw]
  exact h

theorem readPhaseOp_addrOk (f : RawFrame) (addr : Nat) : (readPhaseOp s f addr).link.addrOk := by
  unfold readPhaseOp
  dsimp only
  split
  · split
    · exact addrOk_free rfl rfl
    · exact h
  · split <;> exact h

theorem endOffer_addrOk (addr : Nat) : (endOffer s addr).link.addrOk := by
  unfold endOffer
  dsimp only
  split
  · exact h
  · exact h.keep rfl (.inr rfl)

theorem commitBegin_addrOk (f : RawFrame) : (commitBegin s f).link.addrOk := by
  rw [commitBegin_eq]
  unfold Link.begun
  split <;> exact h

theorem bcastDrop_addrOk (bcast : Bool) (a : Accept) : (bcastDrop s bcast a).link.addrOk := by
  unfold bcastDrop
  split <;> exact h

/-- What a frame that a queue or a window takes, or turns away, leaves of the addresses. -/
theorem takenOrDropped_addrOk (t : Tenant) (x : TenantSt → TenantSt) (bcast : Bool) (code : Accept) :
    (if code = .queued then linkWake (s.updTen t x) else bcastDrop s bcast code).link.addrOk := by
  split
  · simpa using h
  · exact bcastDrop_addrOk h ..

theorem commitSubmit_addrOk (p : List Byte) (bcast : Bool) : (commitSubmit s p bcast).1.link.addrOk :=
  takenOrDropped_addrOk h ..

theorem commitBulkWrite_addrOk (p : List Byte) (bcast : Bool) : (commitBulkWrite s p bcast).1.link.addrOk :=
  takenOrDropped_addrOk h ..

theorem uncounted_addrOk (c : Bool) (ds : List Discard) :
    (if c then { s with link := { s.link with uncounted := ds } } else s).link.addrOk := by
  split <;> exact h
end

/-- Only UNIT_ADDR holds an address, and it takes 0 to 15 and 30 alone (R53). -/
theorem write_addrOk {l : Link} (h : l.addrOk) (off : Nat) (v : Word) : (l.write off v).addrOk := by
  unfold Link.write
  split
  case h_1 =>
    dsimp only
    split
    case isTrue hv => exact ⟨hv, h.2⟩
    case isFalse => exact h
  all_goals exact h

theorem writeWords_addrOk {l : Link} (h : l.addrOk) (bcast : Bool) (off : Nat) (p : List Byte) (n : Nat) :
    (writeWords l bcast off p n).addrOk := by
  induction n generalizing l off p with
  | zero => exact h
  | succ n ih =>
    refine ih ?_ _ _
    split
    · exact h
    · exact write_addrOk h ..

section
variable {s : State} (h : s.link.addrOk)
include h

theorem commitEffect_addrOk (kind : Nat) (p : List Byte) (len : Nat) (bcast : Bool) (bad : List Nat) :
    (commitEffect s kind p len bcast bad).1.link.addrOk := by
  have hfed : (s.feed kind p).link.addrOk := by simpa using h
  unfold commitEffect
  dsimp only
  split
  · exact commitSubmit_addrOk hfed ..
  · simpa using h
  · exact hfed
  · exact writeWords_addrOk hfed ..
  · exact commitBulkWrite_addrOk hfed ..
  · simpa using h

theorem executeFrame_addrOk (addr kind : Nat) (p : List Byte) (len : Nat) (bad : List Nat) :
    (executeFrame s addr kind p len bad).link.addrOk := by
  unfold executeFrame
  split
  · exact commitEffect_addrOk (s := s.ran) h ..
  · split
    · exact commitEffect_addrOk h ..
    · exact h

theorem commitRow_addrOk (f : RawFrame) (kind : Nat) (bad : List Nat) : (commitRow s f kind bad).link.addrOk := by
  unfold commitRow
  split
  · split
    · exact latchStatus_addrOk (executeFrame_addrOk
        (commitBegin_addrOk (endOffer_addrOk (readPhaseOp_addrOk h ..) ..) ..) ..)
    · exact h
  · exact h

theorem regWrite_addrOk (off : Nat) (v : Word) : (regWrite s off v).link.addrOk := by
  unfold regWrite
  split
  · exact write_addrOk h ..
  · exact h

theorem commitEnumerate_addrOk (f : RawFrame) {p : List Byte} (hp : byteAt p 0 < 16) :
    (commitEnumerate s f p).link.addrOk := by
  have hbegun := commitBegin_addrOk (endOffer_addrOk (readPhaseOp_addrOk h f 30) 30) f
  refine latchStatus_addrOk ?_
  dsimp only
  split
  · refine ⟨hbegun.1, fun a ha => ?_⟩
    cases ha
    rw [BitVec.toNat_ofNat]
    omega
  · exact hbegun

/-- The unit that takes the address held it tentatively, and a tentative address is below 16. -/
theorem commitConfirm_addrOk (f : RawFrame) (addr kind : Nat) (p : List Byte) :
    (commitConfirm s f addr kind p).link.addrOk := by
  have hbegun := commitBegin_addrOk (readPhaseOp_addrOk h f addr) f
  refine latchStatus_addrOk (executeFrame_addrOk ?_ ..)
  dsimp only
  split
  case isTrue htent =>
    obtain ⟨a, ha, rfl⟩ := Option.map_eq_some_iff.mp (eq_of_beq htent)
    exact ⟨.inl (by simpa using hbegun.2 a ha), fun b hb => by cases hb⟩
  case isFalse => exact hbegun

theorem discardOp_addrOk (f : RawFrame) (d : Discard) (head : Option (Nat × Nat)) :
    (discardOp s f d head).link.addrOk := by
  refine uncounted_addrOk ?_ _ _
  split
  · exact h
  · dsimp only
    split
    · exact readPhaseOp_addrOk h ..
    · exact endOffer_addrOk (readPhaseOp_addrOk h ..) ..
end

/-- A committed frame has a legal payload; ENUMERATE offers an address below 16 (Table 02-3). -/
theorem classify_commits {l : Link} {f : RawFrame} {addr kind : Nat} {p : List Byte}
    (h : classify l f = .commits addr kind p) : payloadOk kind p = true := by
  unfold classify at h
  dsimp only at h
  split_ifs at h with hup hshort hhdr hhead hbody hpay hok
  cases h
  simpa using hok

theorem classify_enumerates {l : Link} {f : RawFrame} {addr : Nat} {p : List Byte}
    (h : classify l f = .commits addr 4 p) : byteAt p 0 < 16 := by
  have hok := classify_commits h
  simp only [payloadOk, Bool.and_eq_true, decide_eq_true_eq] at hok
  exact hok.1

/-! ## Resets, boots and the firmware's return -/

theorem coldReset_addrOk (s : State) (kind : LastReset) (keepLatch : Bool) : (coldReset s kind keepLatch).link.addrOk :=
  addrOk_free rfl rfl

section
variable {s : State} (h : s.link.addrOk)
include h

theorem onLow_addrOk (ns : Nat) {f : State → State} (hf : ∀ u, (f u).link.addrOk) : (s.onLow ns f).link.addrOk := by
  have hdrew : s.drew.link.addrOk := h
  unfold State.onLow
  split_ifs
  · exact hf s
  · exact h
  · exact hf s.drew
  · exact hdrew

theorem warmReset_addrOk (rd : BootRead) : (warmReset s rd).link.addrOk := by
  simp only [warmReset, bootRun_link]
  rw [foldS_link fun _ _ => landSealed_link ..]
  exact h

theorem tamperSeen_addrOk (seen : TamperSeen) : (tamperSeen s seen).link.addrOk := by
  unfold tamperSeen
  split
  · exact coldReset_addrOk ..
  · split_ifs
    · exact coldReset_addrOk ..
    · exact h
    · exact h
  · exact h

theorem coldBoot_addrOk (rd : BootRead) : (coldBoot s rd).link.addrOk := by
  rw [coldBoot, bootRun_link]
  exact h

theorem bootComplete_addrOk (fails : BitVec 8) (rd : BootRead) : (bootComplete s fails rd).link.addrOk := by
  have hrun : (if s.fw.boot = .powering then coldBoot s rd else s).link.addrOk := by
    split
    · exact coldBoot_addrOk h rd
    · exact h
  unfold bootComplete
  dsimp only
  split
  · exact hrun.keep (by simp) (.inl (by simp))
  · exact hrun

theorem wakeDone_addrOk : (wakeDone s).link.addrOk :=
  h.keep (by simp [wakeDone]) (.inl (by simp [wakeDone]))

theorem hibernateWake_addrOk (src : WakeSrc) (saveBad digestBad : Bool) (rd : BootRead) :
    (hibernateWake s src saveBad digestBad rd).link.addrOk := by
  have hwoken : (wakeState s src).link.addrOk := h.keep rfl (.inr rfl)
  unfold hibernateWake
  dsimp only
  (repeat' split)
  · simpa using warmReset_addrOk hwoken rd
  · exact warmReset_addrOk hwoken rd
  · exact wakeDone_addrOk hwoken
  · exact h

theorem passPoint_addrOk (n : Nat) {next : State → State} (hn : ∀ u, (next u).link = u.link) :
    (passPoint s n next).link.addrOk := by
  rw [passPoint_link _ _ hn]
  exact h

theorem entryStep_addrOk : (entryStep s).link.addrOk := by
  unfold entryStep
  split
  · exact passPoint_addrOk h 2 fun _ => rfl
  · exact passPoint_addrOk h 3 latchPads_link
  · split
    · simpa using h
    · exact h
  · exact h

theorem firmwareReturn_addrOk : (firmwareReturn s).link.addrOk := by
  unfold firmwareReturn
  split
  · exact h.keep (by simp) (.inl (by simp))
  · exact h

/-! ## Every command -/

theorem exec_setsPort_addrOk {i : Instr} {u : State} (hi : setsPort i = true) (hu : exec i s = .next u) :
    u.link.addrOk := by
  cases i <;> cases hi <;> cases hu
  case submitCommit | reapCommit | lreadCommit | lwriteCommit | bulkWriteCommit | bulkReadCommit =>
    exact commitRow_addrOk h ..
  case enumerateCommit =>
    split
    case h_1 hf => exact commitEnumerate_addrOk h _ (classify_enumerates hf)
    case h_2 => exact h
  case confirmFrameCommit =>
    split
    · split
      · exact commitConfirm_addrOk h ..
      · exact h
    · exact h
  case frameDiscard =>
    split
    · exact discardOp_addrOk h ..
    · exact h
  case unitAddrWrite | irqSumClear => exact regWrite_addrOk h ..
  case linkRegisterWrite =>
    split
    · exact h
    · exact regWrite_addrOk h ..
  case warmReset =>
    split
    · exact warmReset_addrOk h _
    · exact h
  case ctlFirmwareReturn => exact firmwareReturn_addrOk h
  case powerOnReset => exact coldReset_addrOk ..
  case resetNAssert => exact onLow_addrOk h _ fun _ => coldReset_addrOk ..
  case bootComplete => exact bootComplete_addrOk h ..
  case vddEngTimeout =>
    split
    · exact addrOk_free rfl rfl
    · exact h
  case tamperDetect => exact tamperSeen_addrOk h _
  case hibernateEntry =>
    split
    · exact entryStep_addrOk h
    · split
      · simpa using h
      · exact h
  case hibernateWake => exact hibernateWake_addrOk h ..
  case vddEngOutOfRange =>
    split
    · exact coldReset_addrOk ..
    · exact h

theorem exec_addrOk {i : Instr} {u : State} (hu : exec i s = .next u) : u.link.addrOk := by
  by_cases hi : setsPort i = true
  · exact exec_setsPort_addrOk h hi hu
  · rwa [exec_link (Bool.eq_false_iff.mpr hi) hu]
end

/-- Settles O5: a frame assigns an address below 16 or gives 30, a reset gives 30, and every other command leaves the
address and the tentative address as they are. -/
theorem unitAddressStaysLegal : Obligations.UnitAddressStaysLegal := by
  intro s u h hu
  rcases step_cases s with ⟨-, hstep⟩ | ⟨c, rest, -, hstep⟩
  · cases hstep.symm.trans hu
    exact h
  · exact exec_addrOk (s := { s with pending := rest }) h (hstep.symm.trans hu)

end Sys2Proof.Machine
end

section
/-! SUPPORT. The memories stay canonical in all that happens outside them: one lemma for each operation of the model, in
the order of its files. -/

namespace Sys2Proof.Machine

/-! ## What the form of the memories rests on -/

/-- The windows of a bank of tenants are canonical. -/
def windowsWf (ts : Bank TenantSt) : Bool := ts.all fun e => Memory.wf e.2.window

/-- What `State.memoriesWf` says, of the parts it looks into. -/
def memoriesOk (wave fwA fwB sram : Memory) (ts : Bank TenantSt) : Bool :=
  Memory.wf wave && Memory.wf fwA && Memory.wf fwB && Memory.wf sram && windowsWf ts

theorem memoriesWf_eq (s : State) :
    s.memoriesWf = memoriesOk s.mem.wave s.nvm.fwA s.nvm.fwB s.fw.sram s.tenants := rfl

/-- A state written out field by field is as good as its memories. -/
@[simp] theorem mk_memoriesWf (pending freeCtr fuse supply link tenants fw core pendL readyL pendB readyB voices
    slots alloc mix ports field cis scan serials card ring mem vault nvm power cal) :
    (State.mk pending freeCtr fuse supply link tenants fw core pendL readyL pendB readyB voices slots alloc
      mix ports field cis scan serials card ring mem vault nvm power cal).memoriesWf =
      memoriesOk mem.wave nvm.fwA nvm.fwB fw.sram tenants := rfl

@[simp] theorem memoriesOk_self (s : State) :
    memoriesOk s.mem.wave s.nvm.fwA s.nvm.fwB s.fw.sram s.tenants = s.memoriesWf := rfl

theorem windowsWf_iff (ts : Bank TenantSt) : windowsWf ts = true ↔ ∀ e ∈ ts, Memory.wf e.2.window = true :=
  List.all_eq_true

theorem windowsWf_cons (k : Nat) (x : TenantSt) (r : Bank TenantSt) :
    windowsWf ((k, x) :: r) = true ↔ Memory.wf x.window = true ∧ windowsWf r = true := by simp [windowsWf]

/-- The window of a tenant is canonical where every window is; a tenant that is not listed has an empty one. -/
theorem window_wf {ts : Bank TenantSt} (h : windowsWf ts = true) (n : Nat) :
    Memory.wf (bankAt ts n {}).window = true := by
  rw [windowsWf_iff] at h
  induction ts with
  | nil => rfl
  | cons e r ih =>
    obtain ⟨k, v⟩ := e
    by_cases hk : k = n
    · simpa [bankAt, bankGet, hk] using h (k, v) (by simp)
    · simpa [bankAt, bankGet, hk] using ih fun e he => h e (by simp [he])

/-- Writing an entry with a canonical window keeps the windows canonical. -/
theorem windowsWf_put {ts : Bank TenantSt} {x : TenantSt} (h : windowsWf ts = true) (hx : Memory.wf x.window = true)
    (n : Nat) : windowsWf (bankPut ts n x) = true := by
  rw [windowsWf_iff] at h ⊢
  intro e he
  rcases mem_bankPut he with rfl | he
  · exact hx
  · exact h e he

/-- Writing an entry with the window it had leaves the windows as canonical as they were. -/
theorem windowsWf_put_same {ts : Bank TenantSt} {n : Nat} {x : TenantSt} (hx : x.window = (bankAt ts n {}).window) :
    windowsWf (bankPut ts n x) = windowsWf ts := by
  rw [Bool.eq_iff_iff]
  refine ⟨fun h => ?_, fun h => windowsWf_put h (hx ▸ window_wf h n) n⟩
  induction ts with
  | nil => rfl
  | cons e r ih =>
    obtain ⟨k, v⟩ := e
    rw [windowsWf_cons]
    by_cases hlt : n < k
    · rw [bankPut, if_pos hlt, windowsWf_cons, windowsWf_cons] at h
      exact h.2
    · by_cases hk : n = k
      · rw [bankPut, if_neg hlt, if_pos hk, windowsWf_cons] at h
        rw [bankAt, bankGet, if_pos hk.symm] at hx
        exact ⟨hx ▸ h.1, h.2⟩
      · rw [bankPut, if_neg hlt, if_neg hk, windowsWf_cons] at h
        rw [bankAt, bankGet, if_neg (Ne.symm hk)] at hx
        exact ⟨h.1, ih hx h.2⟩

theorem setTen_windows {s : State} {t : Tenant} {x : TenantSt} (hx : x.window = (s.ten t).window) :
    windowsWf (s.setTen t x).tenants = windowsWf s.tenants := windowsWf_put_same hx

@[simp] theorem setTen_memoriesOk {s : State} {t : Tenant} {x : TenantSt} (a b c d : Memory)
    (hx : x.window = (s.ten t).window) :
    memoriesOk a b c d (s.setTen t x).tenants = memoriesOk a b c d s.tenants := by
  simp [memoriesOk, setTen_windows hx]

@[simp] theorem updTen_memoriesOk {s : State} {t : Tenant} {f : TenantSt → TenantSt} (a b c d : Memory)
    (hf : ∀ x, (f x).window = x.window) :
    memoriesOk a b c d (s.updTen t f).tenants = memoriesOk a b c d s.tenants := setTen_memoriesOk a b c d (hf _)

@[simp] theorem updTen_memories {s : State} {t : Tenant} {f : TenantSt → TenantSt} (hf : ∀ x, (f x).window = x.window) :
    (s.updTen t f).memoriesWf = s.memoriesWf := updTen_memoriesOk _ _ _ _ hf

section
variable (s : State)

@[simp] theorem updLane_memories (n : Nat) (f : Lane → Lane) : (s.updLane n f).memoriesWf = s.memoriesWf := rfl
@[simp] theorem updBus_memories (n : Nat) (f : Bus → Bus) : (s.updBus n f).memoriesWf = s.memoriesWf := rfl
@[simp] theorem updPort_memories (n : Nat) (f : Port → Port) : (s.updPort n f).memoriesWf = s.memoriesWf := rfl
@[simp] theorem updLo_memories (n : Nat) (f : LineOut → LineOut) : (s.updLo n f).memoriesWf = s.memoriesWf := rfl
@[simp] theorem updCv_memories (n : Nat) (f : CvOut → CvOut) : (s.updCv n f).memoriesWf = s.memoriesWf := rfl
@[simp] theorem updGt_memories (n : Nat) (f : GateOut → GateOut) : (s.updGt n f).memoriesWf = s.memoriesWf := rfl
@[simp] theorem updCi_memories (n : Nat) (f : CvIn → CvIn) : (s.updCi n f).memoriesWf = s.memoriesWf := rfl
@[simp] theorem updSc_memories (n : Nat) (f : Serial → Serial) : (s.updSc n f).memoriesWf = s.memoriesWf := rfl
@[simp] theorem writeL_memories (w : Write) : (s.writeL w).memoriesWf = s.memoriesWf := rfl
@[simp] theorem writeB_memories (w : Write) : (s.writeB w).memoriesWf = s.memoriesWf := rfl
@[simp] theorem drew_memories : s.drew.memoriesWf = s.memoriesWf := rfl
end

variable (s : State) (t : Tenant) (g : Tag)

/-! ## Windows that a tenant's own operations leave -/

@[simp] theorem writeGroup_window (x : TenantSt) (r : Rec) (data : List Byte) :
    (x.writeGroup r data).window = x.window := (rfl)
@[simp] theorem storeEcho_window (x : TenantSt) (r : Rec) : (x.storeEcho r).window = x.window := by
  simp only [TenantSt.storeEcho]; split <;> rfl
@[simp] theorem setHigh_window (x : TenantSt) (q : BitVec 16) : (x.setHigh q).window = x.window := (rfl)
@[simp] theorem updCmd_window (x : TenantSt) (g : Tag) (f : InFlight → InFlight) :
    (x.updCmd g f).window = x.window := (rfl)
@[simp] theorem updPart_window (x : TenantSt) (p : Nat) (f : Part → Part) : (x.updPart p f).window = x.window := (rfl)
@[simp] theorem updOut_window (x : TenantSt) (id : BitVec 32) (f : SpilledOut → SpilledOut) :
    (x.updOut id f).window = x.window := (rfl)
@[simp] theorem updLfo_window (x : TenantSt) (n : Nat) (f : TenLfo → TenLfo) : (x.updLfo n f).window = x.window := (rfl)
@[simp] theorem raiseEv_window (x : TenantSt) (e : Event) (arg : BitVec 16) (cont : List Byte) (tide : Smp) :
    (x.raiseEv e arg cont tide).window = x.window := by
  simp only [TenantSt.raiseEv]; split <;> rfl
@[simp] theorem ite_window (c : Prop) [Decidable c] (x y : TenantSt) :
    (if c then x else y).window = if c then x.window else y.window := apply_ite ..

/-! ## Branches, folds and repetitions -/

@[simp] theorem ite_memories (c : Prop) [Decidable c] (a b : State) :
    (if c then a else b).memoriesWf = if c then a.memoriesWf else b.memoriesWf := apply_ite ..

@[simp] theorem foldS_memories {α : Type} {l : List α} {f : State → α → State}
    (h : ∀ s a, (f s a).memoriesWf = s.memoriesWf)
    (s : State) : (foldS l s f).memoriesWf = s.memoriesWf :=
  foldS_keeps (fun u => u.memoriesWf = s.memoriesWf) l f (fun u a e => (h u a).trans e) rfl

@[simp] theorem repeatN_memories {f : State → State} (h : ∀ s, (f s).memoriesWf = s.memoriesWf) (n : Nat) (s : State) :
    (repeatN f n s).memoriesWf = s.memoriesWf :=
  repeatN_keeps (fun u => u.memoriesWf = s.memoriesWf) f (fun u e => (h u).trans e) n rfl

theorem foldl_memories {β : Type} {l : List β} {f : State × Bool → β → State × Bool}
    (h : ∀ a b, (f a b).1.memoriesWf = a.1.memoriesWf) (a : State × Bool) :
    (l.foldl f a).1.memoriesWf = a.1.memoriesWf := by
  induction l generalizing a with
  | nil => rfl
  | cons b l ih => exact (ih (f a b)).trans (h a b)

@[simp] theorem foldS_updLo_memories {α : Type} (l : List α) (n : α → Nat) (f : State → α → LineOut → LineOut)
    (s : State) : (foldS l s fun s a => s.updLo (n a) (f s a)).memoriesWf = s.memoriesWf :=
  foldS_memories (by intros; rfl) s
@[simp] theorem foldS_updCv_memories {α : Type} (l : List α) (n : α → Nat) (f : State → α → CvOut → CvOut)
    (s : State) : (foldS l s fun s a => s.updCv (n a) (f s a)).memoriesWf = s.memoriesWf :=
  foldS_memories (by intros; rfl) s
@[simp] theorem foldS_updGt_memories {α : Type} (l : List α) (n : α → Nat) (f : State → α → GateOut → GateOut)
    (s : State) : (foldS l s fun s a => s.updGt (n a) (f s a)).memoriesWf = s.memoriesWf :=
  foldS_memories (by intros; rfl) s
@[simp] theorem foldS_updLane_memories {α : Type} (l : List α) (n : α → Nat) (f : State → α → Lane → Lane)
    (s : State) : (foldS l s fun s a => s.updLane (n a) (f s a)).memoriesWf = s.memoriesWf :=
  foldS_memories (by intros; rfl) s
@[simp] theorem foldS_updBus_memories {α : Type} (l : List α) (n : α → Nat) (f : State → α → Bus → Bus)
    (s : State) : (foldS l s fun s a => s.updBus (n a) (f s a)).memoriesWf = s.memoriesWf :=
  foldS_memories (by intros; rfl) s
@[simp] theorem foldS_updSc_memories {α : Type} (l : List α) (n : α → Nat) (f : State → α → Serial → Serial)
    (s : State) : (foldS l s fun s a => s.updSc (n a) (f s a)).memoriesWf = s.memoriesWf :=
  foldS_memories (by intros; rfl) s
@[simp] theorem foldS_writeL_memories {α : Type} (l : List α) (w : α → Write) (s : State) :
    (foldS l s fun s a => s.writeL (w a)).memoriesWf = s.memoriesWf := foldS_memories (by intros; rfl) s
@[simp] theorem foldS_writeB_memories {α : Type} (l : List α) (w : α → Write) (s : State) :
    (foldS l s fun s a => s.writeB (w a)).memoriesWf = s.memoriesWf := foldS_memories (by intros; rfl) s

theorem OutsideFrame.memories {s u : State} (h : OutsideFrame s u) : u.memoriesWf = s.memoriesWf := by
  rw [h.frame, mk_memoriesWf, memoriesOk_self]
theorem OutputsOnly.memories {s u : State} (h : OutputsOnly s u) : u.memoriesWf = s.memoriesWf := h.outside.memories

/-! ## Rows of commands -/

theorem onCmd_memories {s : State} {t : Tenant} {g : Tag} {f : Body → Option State}
    (h : ∀ b u, f b = some u → u.memoriesWf = s.memoriesWf) : (onCmd s t g f).memoriesWf = s.memoriesWf := by
  rcases onCmd_cases s t g f with hstays | ⟨c, u, -, hruns, hu⟩
  · rw [hstays]
  · rw [hu, h _ _ hruns]

/-! ## Completions, events and free values -/

@[simp] theorem commitOne_memories (st : Status) (res : Result) :
    (commitOne s t g st res).memoriesWf = s.memoriesWf := by
  unfold commitOne
  split
  · rfl
  · refine updTen_memories fun x => ?_
    simp
@[simp] theorem finish_memories (st : Status) (res : Result) : (finish s t g st res).memoriesWf = s.memoriesWf := by
  simp [finish, settleAborts]
@[simp] theorem ok_memories : (ok s t g).memoriesWf = s.memoriesWf := by simp [ok]
@[simp] theorem fail_memories (st : Status) : (fail s t g st).memoriesWf = s.memoriesWf := by simp [fail]
@[simp] theorem badField_memories (off : Nat) : (badField s t g off).memoriesWf = s.memoriesWf := by simp [badField]
@[simp] theorem okBytes_memories (b : List Byte) : (okBytes s t g b).memoriesWf = s.memoriesWf := by simp [okBytes]
@[simp] theorem okShort_memories (v : Nat) : (okShort s t g v).memoriesWf = s.memoriesWf := by simp [okShort]
@[simp] theorem finishRef_memories (r : Option (Tenant × Tag)) (st : Status) (res : Result) :
    (finishRef s r st res).memoriesWf = s.memoriesWf := by
  unfold finishRef
  split <;> simp
@[simp] theorem startLong_memories : (startLong s t g).memoriesWf = s.memoriesWf := by simp [startLong]
@[simp] theorem noteWake_memories (src : WakeSrc) : (noteWake s src).memoriesWf = s.memoriesWf := by simp [noteWake]
@[simp] theorem holdEv_memories (k : Held) : (holdEv s k).memoriesWf = s.memoriesWf := by simp [holdEv]
@[simp] theorem raiseToAt_memories (e : Event) (arg : BitVec 16) (cont : List Byte) (tide : Smp) :
    (raiseToAt s t e arg cont tide).memoriesWf = s.memoriesWf := by simp [raiseToAt]
@[simp] theorem raiseTo_memories (e : Event) (arg : BitVec 16) (cont : List Byte) :
    (raiseTo s t e arg cont).memoriesWf = s.memoriesWf := by simp [raiseTo]
@[simp] theorem stewardAt_memories (e : Event) (arg : BitVec 16) (cont : List Byte) (tide : Smp) :
    (stewardAt s e arg cont tide).memoriesWf = s.memoriesWf := by simp [stewardAt]
@[simp] theorem steward_memories (e : Event) (arg : BitVec 16) (cont : List Byte) :
    (steward s e arg cont).memoriesWf = s.memoriesWf := by
  simp [steward]

@[simp] theorem raiseHeld_memories : (raiseHeld s).memoriesWf = s.memoriesWf :=
  foldS_memories (fun u k => by cases hk : k.dest <;> simp) _

@[simp] theorem eccEvent_memories (uncorrected : Bool) (bank : Nat) :
    (eccEvent s uncorrected bank).memoriesWf = s.memoriesWf := by
  cases uncorrected <;> simp [eccEvent]

/-! ## Allocation of voices -/

@[simp] theorem ringSend_memories (i : RingItem) : (ringSend s i).memoriesWf = s.memoriesWf := by
  simp [ringSend]
@[simp] theorem ringEnded_memories (origin : Nat) (t : Tenant) (noteId : BitVec 32) (stolen : Bool) :
    (ringEnded s origin t noteId stolen).memoriesWf = s.memoriesWf := by
  unfold ringEnded
  split <;> simp
@[simp] theorem setVoice_memories (w : Voice) : (s.setVoice w).memoriesWf = s.memoriesWf := by simp [State.setVoice]
@[simp] theorem clearVoice_memories (v : Voice) : (s.clearVoice v).memoriesWf = s.memoriesWf := by
  simp [State.clearVoice]
@[simp] theorem toldStolen_memories (v : Voice) : (toldStolen s v).memoriesWf = s.memoriesWf := by
  unfold toldStolen
  split <;> simp
@[simp] theorem beginFade_memories (v : Voice) (n : Option Succ) (k : FadeKind) :
    (beginFade s v n k).memoriesWf = s.memoriesWf := by
  simp [beginFade]
@[simp] theorem fadeNote_memories (v : Voice) : (fadeNote s v).memoriesWf = s.memoriesWf := by simp [fadeNote]
@[simp] theorem startIn_memories (lane slot : Nat) (n : Succ) (at_ : Option (Smp × Nat)) :
    (startIn s lane slot n at_).memoriesWf = s.memoriesWf := by simp [startIn]
@[simp] theorem spillTo_memories (u : Nat) (n : Succ) (noSteal : Bool) :
    (spillTo s t u n noSteal).memoriesWf = s.memoriesWf := by
  simp [spillTo]

theorem stealFor_memories {s : State} {t : Tenant} {n : Succ} {noSteal : Bool} {u : State}
    (h : stealFor s t n noSteal = some u) : u.memoriesWf = s.memoriesWf := by
  unfold stealFor at h
  split at h
  · cases h
  · split at h
    · cases h
    · cases h; simp

theorem place_memories {s : State} {t : Tenant} {n : Succ} {noSpill noSteal : Bool} {u : State}
    (h : place s t n noSpill noSteal = some u) : u.memoriesWf = s.memoriesWf := by
  unfold place at h
  split at h
  · cases h; simp
  · split at h
    · cases h; simp
    · exact stealFor_memories h

@[simp] theorem removeOne_memories : (removeOne s).memoriesWf = s.memoriesWf := by
  simp only [removeOne]
  (repeat' split) <;> simp

@[simp] theorem removeExcess_memories (was : Nat) (s : State) : (removeExcess was s).memoriesWf = s.memoriesWf := by
  simp [removeExcess]
@[simp] theorem parkLane_memories (n : Nat) : (parkLane s n).memoriesWf = s.memoriesWf := by
  simp [parkLane]
@[simp] theorem parkLanes_memories : (parkLanes s).memoriesWf = s.memoriesWf := by simp [parkLanes]

/-! ## The voice engine -/

@[simp] theorem notePitch_memories (v : Voice) : (notePitch s v).memoriesWf = s.memoriesWf := by
  unfold notePitch
  split <;> simp

/-! ## Buses and TDM ports -/

@[simp] theorem portSample_memories (i : Nat) : (portSample s i).memoriesWf = s.memoriesWf := by
  simp only [portSample]
  (repeat' split) <;> simp

@[simp] theorem masterIn_memories (i : Nat) : (masterIn s i).memoriesWf = s.memoriesWf := by simp [masterIn]

@[simp] theorem slaveFrame_memories (i bclks : Nat) (words : List Int) :
    (slaveFrame s i bclks words).memoriesWf = s.memoriesWf := by
  simp only [slaveFrame]
  (repeat' split) <;> simp

@[simp] theorem noClock_memories (i : Nat) : (noClock s i).memoriesWf = s.memoriesWf := by simp [noClock]
@[simp] theorem portStart_memories (i : Nat) : (portStart s i).memoriesWf = s.memoriesWf := by simp [portStart]
@[simp] theorem startFade_memories (m : BitVec 32) : (startFade s m).memoriesWf = s.memoriesWf := by
  simp [startFade]
@[simp] theorem loadBanks_memories (m : BitVec 32) (c : List Int) : (loadBanks s m c).memoriesWf = s.memoriesWf := by
  simp [loadBanks]
@[simp] theorem endFades_memories (l : List Nat) (byReset : Bool) :
    (endFades s l byReset).memoriesWf = s.memoriesWf := by
  simp [endFades, startQueued, applyWaits, switchesDone]
@[simp] theorem endDueFades_memories : (endDueFades s).memoriesWf = s.memoriesWf := by
  simp [endDueFades]
@[simp] theorem syncReset_memories (n : Nat) : (syncReset s n).memoriesWf = s.memoriesWf := by
  simp only [syncReset]
  split <;> simp
@[simp] theorem startPutOff_memories : (startPutOff s).memoriesWf = s.memoriesWf := by
  simp [startPutOff]
@[simp] theorem landSwitch_memories (m : BitVec 32) : (landSwitch s m).memoriesWf = s.memoriesWf := by simp [landSwitch]
@[simp] theorem doCoefLoad_memories (m : BitVec 32) (c : List Int) :
    (doCoefLoad s t g m c).memoriesWf = s.memoriesWf := by
  simp [doCoefLoad]
@[simp] theorem doCoefSwitch_memories (m : BitVec 32) : (doCoefSwitch s t g m).memoriesWf = s.memoriesWf := by
  simp [doCoefSwitch]
@[simp] theorem busSample_memories (n : Nat) (y : Int) : (busSample s n y).memoriesWf = s.memoriesWf := by
  simp [busSample]

@[simp] theorem busTick_memories (n : Nat) : (busTick s n).memoriesWf = s.memoriesWf := by
  simp only [busTick]
  split <;> simp

@[simp] theorem doBusWrite_memories (b : Option Nat) (w : Nat → Write) :
    (doBusWrite s t g b w).memoriesWf = s.memoriesWf := by
  simp [doBusWrite]
@[simp] theorem landGain_memories (n : Nat) (cB : Int) : (landGain s n cB).memoriesWf = s.memoriesWf := by
  simp [landGain]
@[simp] theorem landEnable_memories (n : Nat) (on : Bool) : (landEnable s n on).memoriesWf = s.memoriesWf := by
  simp [landEnable]
@[simp] theorem landContrib_memories (n : Nat) (on : Bool) : (landContrib s n on).memoriesWf = s.memoriesWf := by
  simp [landContrib]
@[simp] theorem doDecim_memories (p : Preset) : (doDecim s t g p).memoriesWf = s.memoriesWf := by simp [doDecim]
@[simp] theorem doDetectBuses_memories (d : BitVec 3) (m : BitVec 32) :
    (doDetectBuses s t g d m).memoriesWf = s.memoriesWf := by
  simp [doDetectBuses]

@[simp] theorem doDetectNote_memories (id : BitVec 32) : (doDetectNote s t g id).memoriesWf = s.memoriesWf := by
  unfold doDetectNote
  split <;> simp

/-! ## Outputs of the field die -/

@[simp] theorem abandonTrim_memories (target : Nat) : (abandonTrim s target).memoriesWf = s.memoriesWf := by
  unfold abandonTrim
  split <;> simp

@[simp] theorem putLate_memories (l : LateOut) : (s.putLate l).memoriesWf = s.memoriesWf := by simp [State.putLate]
@[simp] theorem cvSwitch_memories (a : CvArgs) : (cvSwitch s a).memoriesWf = s.memoriesWf :=
  (cvSwitch_outputsOnly ..).memories
@[simp] theorem landCvConfig_memories (a : CvArgs) : (landCvConfig s a).memoriesWf = s.memoriesWf := by
  simp [landCvConfig]
@[simp] theorem doCvConfig_memories (a : CvArgs) : (doCvConfig s t g a).memoriesWf = s.memoriesWf := by
  simp [doCvConfig]

@[simp] theorem doCvSet_memories (timed : Bool) (l : List CvEntry) :
    (doCvSet s t g timed l).memoriesWf = s.memoriesWf := by
  unfold doCvSet
  split <;> simp

@[simp] theorem landCvEntry_memories (e : CvEntry) : (landCvEntry s e).memoriesWf = s.memoriesWf := by
  simp [landCvEntry]
@[simp] theorem landCvSets_memories : (landCvSets s).memoriesWf = s.memoriesWf := by simp [landCvSets]
@[simp] theorem doCvQueue_memories (due : Option Smp) (n : Nat) (codes : List (BitVec 16)) :
    (doCvQueue s t g due n codes).memoriesWf = s.memoriesWf := by simp [doCvQueue]
@[simp] theorem doGateSet_memories (timed : Bool) (mask levels : BitVec 8) :
    (doGateSet s t g timed mask levels).memoriesWf = s.memoriesWf := by simp [doGateSet]
@[simp] theorem setGate_memories (n : Nat) (high : Bool) (t : Tenant) :
    (s.setGate n high t).memoriesWf = s.memoriesWf := by
  simp [State.setGate]
@[simp] theorem landGate_memories (p : PendGate) : (landGate s p).memoriesWf = s.memoriesWf := by simp [landGate]
@[simp] theorem landGates_memories : (landGates s).memoriesWf = s.memoriesWf := by simp [landGates]
@[simp] theorem releaseGates_memories : (releaseGates s t).memoriesWf = s.memoriesWf := by
  simp only [releaseGates]
  refine foldS_memories (fun u n => ?_) s
  split <;> simp
@[simp] theorem gtSwitch_memories (n : Nat) (on : Bool) : (gtSwitch s n on).memoriesWf = s.memoriesWf :=
  (gtSwitch_outputsOnly ..).memories
@[simp] theorem landGtEnable_memories (n : Nat) (on : Bool) : (landGtEnable s n on).memoriesWf = s.memoriesWf := by
  simp [landGtEnable]
@[simp] theorem lineSwitch_memories (a : LineArgs) : (lineSwitch s a).memoriesWf = s.memoriesWf := by simp [lineSwitch]
@[simp] theorem landLine_memories (a : LineArgs) : (landLine s a).memoriesWf = s.memoriesWf := by simp [landLine]
@[simp] theorem landLate_memories : (landLate s).memoriesWf = s.memoriesWf := (landLate_outputsOnly ..).memories
@[simp] theorem doLineConfig_memories (a : LineArgs) : (doLineConfig s t g a).memoriesWf = s.memoriesWf := by
  simp [doLineConfig]
@[simp] theorem lineSamples_memories : (lineSamples s).memoriesWf = s.memoriesWf :=
  (lineSamples_outputsOnly ..).memories
@[simp] theorem outputSamples_memories : (outputSamples s).memoriesWf = s.memoriesWf :=
  (outputSamples_outputsOnly ..).memories
@[simp] theorem allHiz_memories : (allHiz s).memoriesWf = s.memoriesWf := (allHiz_outputsOnly ..).memories
@[simp] theorem muteLines_memories : (muteLines s).memoriesWf = s.memoriesWf := (muteLines_outputsOnly ..).memories
@[simp] theorem zeroLines_memories : (zeroLines s).memoriesWf = s.memoriesWf := (zeroLines_outputsOnly ..).memories
@[simp] theorem cvFault_memories (o : Nat) (kind : Nat) : (cvFault s o kind).memoriesWf = s.memoriesWf := by
  simp [cvFault]
@[simp] theorem clearPairs_memories (o : Nat) : (clearPairs s o).memoriesWf = s.memoriesWf := by simp [clearPairs]
@[simp] theorem cvCleared_memories (o : Nat) : (cvCleared s o).memoriesWf = s.memoriesWf := by simp [cvCleared]

@[simp] theorem limitBegin_memories (o : OutRef) (positive : Bool) :
    (limitBegin s o positive).memoriesWf = s.memoriesWf := by
  unfold limitBegin
  (repeat' split) <;> simp

@[simp] theorem setOut_memories (o : OutRef) (st : OutState) : (s.setOut o st).memoriesWf = s.memoriesWf := by
  unfold State.setOut
  split <;> simp

@[simp] theorem limitTimeout_memories (o : OutRef) : (limitTimeout s o).memoriesWf = s.memoriesWf := by
  unfold limitTimeout
  split <;> simp

@[simp] theorem retryBegin_memories (o : OutRef) : (retryBegin s o).memoriesWf = s.memoriesWf := by
  unfold retryBegin
  (repeat' split) <;> simp

@[simp] theorem retryEnd_memories (o : OutRef) (limited : Bool) : (retryEnd s o limited).memoriesWf = s.memoriesWf := by
  unfold retryEnd
  (repeat' split) <;> simp

@[simp] theorem episodeEnd_memories (o : OutRef) : (episodeEnd s o).memoriesWf = s.memoriesWf := by
  unfold episodeEnd
  (repeat' split) <;> simp

@[simp] theorem setPair_memories (o : OutRef) : (s.setPair o).memoriesWf = s.memoriesWf := by
  unfold State.setPair
  split <;> simp

@[simp] theorem pairSuspectOf_memories (a b : OutRef) : (pairSuspectOf s a b).memoriesWf = s.memoriesWf := by
  simp [pairSuspectOf]
@[simp] theorem senseInject_memories (n : Nat) (mv : Nat) : (senseInject s n mv).memoriesWf = s.memoriesWf := by
  simp [senseInject]
@[simp] theorem senseOpen_memories (n : Nat) (mv : Nat) : (senseOpen s n mv).memoriesWf = s.memoriesWf := by
  simp [senseOpen]
@[simp] theorem holdEvents_memories : (holdEvents s).memoriesWf = s.memoriesWf := by simp [holdEvents]
@[simp] theorem releaseField_memories (h : FieldHold) : (releaseField s h).memoriesWf = s.memoriesWf := by
  rw [releaseField_frame, mk_memoriesWf, memoriesOk_self]

@[simp] theorem landPadRelease_memories : (landPadRelease s).memoriesWf = s.memoriesWf := by
  simp only [landPadRelease]
  split <;> simp

@[simp] theorem doPadRelease_memories : (doPadRelease s t g).memoriesWf = s.memoriesWf := by simp [doPadRelease]

theorem onCmdC_memories {f : InFlight → Option State} (h : ∀ c u, f c = some u → u.memoriesWf = s.memoriesWf) :
    (onCmdC s t g f).memoriesWf = s.memoriesWf := by
  unfold onCmdC
  split
  · next c _ =>
    cases hf : f c with
    | none => rfl
    | some u => exact h c u hf
  · rfl

/-! ## Serial channels -/

@[simp] theorem scLine_memories (ch : Nat) (kind : Nat) (cont : List Byte) :
    (scLine s ch kind cont).memoriesWf = s.memoriesWf := by
  simp [scLine]
@[simp] theorem rxPut_memories (ch : Nat) (b : Byte) : (rxPut s ch b).memoriesWf = s.memoriesWf := by simp [rxPut]
@[simp] theorem scByte_memories (ch : Nat) (b : Byte) : (scByte s ch b).memoriesWf = s.memoriesWf := by simp [scByte]
@[simp] theorem drainWake_memories (ch : Nat) : (drainWake s ch).memoriesWf = s.memoriesWf := by simp [drainWake]
@[simp] theorem scError_memories (ch : Nat) (framing parity : Bool) :
    (scError s ch framing parity).memoriesWf = s.memoriesWf := by
  simp [scError]
@[simp] theorem breakBegin_memories (ch : Nat) : (breakBegin s ch).memoriesWf = s.memoriesWf := by simp [breakBegin]
@[simp] theorem disarm_memories (ch : Nat) : (disarm s ch).memoriesWf = s.memoriesWf := by simp [disarm]

@[simp] theorem decodeChar_memories (ch : Nat) (edges : List Nat) (level : Nat → Bool) :
    (decodeChar s ch edges level).memoriesWf = s.memoriesWf := by
  simp only [decodeChar]
  (repeat' split) <;> simp

@[simp] theorem measureChar_memories (ch : Nat) (edges : List Nat) :
    (measureChar s ch edges).memoriesWf = s.memoriesWf := by
  simp [measureChar]
@[simp] theorem echoChar_memories (ch : Nat) (edges : List Nat) (level : Nat → Bool) (ctsHigh : Bool) :
    (echoChar s ch edges level ctsHigh).memoriesWf = s.memoriesWf := by simp [echoChar]
@[simp] theorem scChar_memories (ch : Nat) (line : List Nat) (ctsHigh : Bool) :
    (scChar s ch line ctsHigh).memoriesWf = s.memoriesWf := by
  simp [scChar]

@[simp] theorem lineRise_memories (ch : Nat) (low : Nat) : (lineRise s ch low).memoriesWf = s.memoriesWf := by
  simp only [lineRise]
  split <;> simp

@[simp] theorem breakSaturate_memories (ch : Nat) : (breakSaturate s ch).memoriesWf = s.memoriesWf := by
  simp [breakSaturate]
@[simp] theorem rxDeliver_memories (ch : Nat) (oldestMs : Nat) :
    (rxDeliver s ch oldestMs).memoriesWf = s.memoriesWf := by
  simp [rxDeliver]

@[simp] theorem txChar_memories (ch : Nat) (ctsHigh : Bool) : (txChar s ch ctsHigh).memoriesWf = s.memoriesWf := by
  simp only [txChar]
  (repeat' split) <;> simp

@[simp] theorem txBreakStart_memories (ch : Nat) (ctsHigh : Bool) :
    (txBreakStart s ch ctsHigh).memoriesWf = s.memoriesWf := by
  simp only [txBreakStart]
  (repeat' split) <;> simp

@[simp] theorem txBreakEnd_memories (ch : Nat) : (txBreakEnd s ch).memoriesWf = s.memoriesWf := by
  unfold txBreakEnd
  split <;> simp

@[simp] theorem doScSend_memories (ch : Nat) (b : List Byte) : (doScSend s t g ch b).memoriesWf = s.memoriesWf := by
  simp [doScSend]
@[simp] theorem doScBreak_memories (ch bits : Nat) : (doScBreak s t g ch bits).memoriesWf = s.memoriesWf := by
  simp [doScBreak]
@[simp] theorem scOff_memories (ch : Nat) : (scOff s ch).memoriesWf = s.memoriesWf := by simp [scOff]

/-! ## The smart card -/

@[simp] theorem cardEvent_memories (v : Nat) : (cardEvent s v).memoriesWf = s.memoriesWf := by simp [cardEvent]

@[simp] theorem deactivate_memories : (deactivate s).memoriesWf = s.memoriesWf := by
  unfold deactivate
  (repeat' split) <;> simp

@[simp] theorem cardFail_memories (st : Status) : (cardFail s st).memoriesWf = s.memoriesWf := by simp [cardFail]
@[simp] theorem cardOk_memories (b : List Byte) : (cardOk s b).memoriesWf = s.memoriesWf := by simp [cardOk]

theorem cardCmd_memories {f : State → State} (h : ∀ u, (f u).memoriesWf = u.memoriesWf) :
    (cardCmd s t g f).memoriesWf = s.memoriesWf := by
  unfold cardCmd
  split <;> simp [h]

@[simp] theorem doCardStart_memories : (doCardStart s t g).memoriesWf = s.memoriesWf :=
  cardCmd_memories s t g fun u => by split <;> simp

@[simp] theorem doCardStop_memories : (doCardStop s t g).memoriesWf = s.memoriesWf :=
  cardCmd_memories s t g fun u => by split <;> simp

@[simp] theorem doCardExchange_memories (d : CardDir) (h data : List Byte) :
    (doCardExchange s t g d h data).memoriesWf = s.memoriesWf :=
  cardCmd_memories s t g fun u => by split <;> [split; skip] <;> simp

@[simp] theorem cardTimer_memories : (cardTimer s).memoriesWf = s.memoriesWf := by
  unfold cardTimer
  split <;> simp

@[simp] theorem cardTs_memories (m : List Bool) (t3 : Nat) : (cardTs s m t3).memoriesWf = s.memoriesWf := by
  simp [cardTs]

@[simp] theorem atrChar_memories (b : Byte) : (atrChar s b).memoriesWf = s.memoriesWf := by
  simp only [atrChar]
  split <;> simp

@[simp] theorem procByte_memories (b : Byte) : (procByte s b).memoriesWf = s.memoriesWf := by
  simp only [procByte]
  (repeat' split) <;> simp

@[simp] theorem cardChar_memories (m : BitVec 9) : (cardChar s m).memoriesWf = s.memoriesWf := by
  simp only [cardChar]
  (repeat' split) <;> simp

@[simp] theorem cardTx_memories (n : Nat) (err : Bool) : (cardTx s n err).memoriesWf = s.memoriesWf := by
  simp only [cardTx]
  (repeat' split) <;> simp

@[simp] theorem cardDetect_memories (present : Bool) : (cardDetect s present).memoriesWf = s.memoriesWf := by
  simp [cardDetect]
@[simp] theorem doScConfig_memories (a : ScArgs) : (doScConfig s t g a).memoriesWf = s.memoriesWf := by
  simp [doScConfig]

/-! ## Inputs of the field die and the key scanner -/

@[simp] theorem landCi_memories (n rank bank : Nat) : (landCi s n rank bank).memoriesWf = s.memoriesWf := by
  simp [landCi]
@[simp] theorem ciSample_memories (n : Nat) (bits : BitVec 128) : (ciSample s n bits).memoriesWf = s.memoriesWf := by
  simp [ciSample]
@[simp] theorem doCiConfig_memories (n : Option Nat) (rank bank : Nat) :
    (doCiConfig s t g n rank bank).memoriesWf = s.memoriesWf := by
  simp [doCiConfig]
@[simp] theorem refillRanks_memories : (refillRanks s).memoriesWf = s.memoriesWf := (refillRanks_outside ..).memories

@[simp] theorem raiseKey_memories (e : KeyEv) : (raiseKey s e).memoriesWf = s.memoriesWf := by
  unfold raiseKey
  (repeat' split) <;> simp

@[simp] theorem putScan_memories (a : Scanner × List KeyEv) : (s.putScan a).memoriesWf = s.memoriesWf := by
  simp [State.putScan]
@[simp] theorem clearCell_memories (c : Nat) : (clearCell s c).memoriesWf = s.memoriesWf := by simp [clearCell]
@[simp] theorem captureRest_memories : (captureRest s).memoriesWf = s.memoriesWf := by simp [captureRest]
@[simp] theorem keyScan_memories (r : ScanReadings) : (keyScan s r).memoriesWf = s.memoriesWf := by simp [keyScan]
@[simp] theorem doKeyscanConfig_memories (mode : Nat) (to_ : Tenant) (part : Nat) :
    (doKeyscanConfig s t g mode to_ part).memoriesWf = s.memoriesWf := by simp [doKeyscanConfig]
@[simp] theorem doKeyscanStatus_memories : (doKeyscanStatus s t g).memoriesWf = s.memoriesWf := by
  simp [doKeyscanStatus]

/-! ## Notes -/

@[simp] theorem sendCmd_memories (g : Option Tag) (o : SpilledOut) (c : NoteCmd) (affected : Option Nat) :
    (sendCmd s t g o c affected).memoriesWf = s.memoriesWf := by
  cases g <;> simp [sendCmd]

@[simp] theorem queueCmd_memories (v : Voice) (c : NoteCmd) : (queueCmd s t v c).memoriesWf = s.memoriesWf := by
  unfold queueCmd
  split
  · refine foldS_memories (fun u e => ?_) s
    split
    · split <;> simp
    · simp
    · simp
  · simp

@[simp] theorem holdFor_memories (v : Voice) (c : NoteCmd) : (holdFor s v c).memoriesWf = s.memoriesWf := by
  simp [holdFor]
@[simp] theorem holdOut_memories (o : SpilledOut) (c : NoteCmd) : (holdOut s t o c).memoriesWf = s.memoriesWf := by
  simp [holdOut]

theorem cmdToNote_memories {s : State} {t : Tenant} {g : Option Tag} {id : BitVec 32} {c : NoteCmd}
    {affected : Option Nat}
    {u : State} {w : Bool} (h : cmdToNote s t g id c affected = some (u, w)) : u.memoriesWf = s.memoriesWf := by
  unfold cmdToNote at h
  split at h
  · cases h; simp
  · split at h
    · cases h; simp
    · split at h
      · split at h <;> cases h <;> simp
      · cases h

@[simp] theorem noteCmd_memories (id : BitVec 32) (c : NoteCmd) : (noteCmd s t g id c).memoriesWf = s.memoriesWf := by
  unfold noteCmd
  split
  · simp
  · next h => simpa using cmdToNote_memories h
  · next h => simpa using cmdToNote_memories h

@[simp] theorem cmdToAll_memories (part : Option Nat) (c : NoteCmd) :
    (cmdToAll s t part c).memoriesWf = s.memoriesWf := by
  refine foldS_memories (fun u id => ?_) s
  split
  · next h => exact cmdToNote_memories h
  · rfl

theorem retrigger_memories {s : State} {t : Tenant} {id : BitVec 32} {r : Retrig} {u : State} {w : Bool}
    (h : retrigger s t id r = some (u, w)) : u.memoriesWf = s.memoriesWf := by
  unfold retrigger at h
  split at h
  · cases h; simp
  · split at h
    · cases h; simp
    · split at h
      · split at h <;> cases h <;> simp
      · cases h

@[simp] theorem doNoteOn_memories (a : NoteOnArgs) : (doNoteOn s t g a).memoriesWf = s.memoriesWf := by
  simp only [doNoteOn]
  split
  · next h => simpa using retrigger_memories h
  · next h => simpa using retrigger_memories h
  · split
    · next h => simpa using place_memories h
    · simp

/-- One note of an ALL_RELEASE. -/
theorem releaseStep_memories (t : Tenant) (g : Tag) (part : Option Nat) (fade : Bool) (k : Option Nat)
    (a : State × Bool)
    (id : BitVec 32) : (match cmdToNote a.1 t (some g) id (.allRelease part fade) k with
      | some (s, w) => (s, a.2 || w)
      | none => a).1.memoriesWf = a.1.memoriesWf := by
  split
  · next h => exact cmdToNote_memories h
  · rfl

@[simp] theorem doAllRelease_memories (part : Option Nat) (fade : Bool) :
    (doAllRelease s t g part fade).memoriesWf = s.memoriesWf := by
  simp only [doAllRelease]
  split
  · exact (startLong_memories ..).trans (foldl_memories (fun a id => releaseStep_memories ..) _)
  · exact (okShort_memories ..).trans (foldl_memories (fun a id => releaseStep_memories ..) _)

@[simp] theorem doVoiceParam_memories (id : BitVec 32) (l : List (Nat × Int)) :
    (doVoiceParam s t g id l).memoriesWf = s.memoriesWf := by
  unfold doVoiceParam
  (repeat' split) <;> simp

@[simp] theorem partV_memories (part : Nat) (e : Nat × Int) : (partV s t part e).memoriesWf = s.memoriesWf := by
  simp [partV]

@[simp] theorem partEntry_memories (t : Tenant) (part : Nat) (s : State) (e : Nat × Int) :
    (partEntry t part s e).memoriesWf = s.memoriesWf := by
  unfold partEntry
  split <;> simp

@[simp] theorem doPartParam_memories (part : Nat) (l : List (Nat × Int)) :
    (doPartParam s t g part l).memoriesWf = s.memoriesWf := by
  unfold doPartParam
  split <;> simp

@[simp] theorem selectPatch_memories (part slot : Nat) (img : List Byte) :
    (selectPatch s t part slot img).memoriesWf = s.memoriesWf := by
  simp [selectPatch]

@[simp] theorem trySelect_memories (part slot : Nat) : (trySelect s t part slot).memoriesWf = s.memoriesWf := by
  unfold trySelect
  (repeat' split) <;> simp

@[simp] theorem umpCmd_memories (part key : Nat) (c : NoteCmd) : (umpCmd s t part key c).memoriesWf = s.memoriesWf := by
  unfold umpCmd
  split
  · next h => exact cmdToNote_memories h
  · rfl

@[simp] theorem umpOn_memories (part key vel : Nat) : (umpOn s t part key vel).memoriesWf = s.memoriesWf := by
  simp only [umpOn]
  split
  · next h => exact retrigger_memories h
  · cases h : place s t (newNote s t (umpId part key) part key vel 0 none) false false with
    | none => rfl
    | some u => exact place_memories h

@[simp] theorem umpControl_memories (part i v full : Nat) :
    (umpControl s t part i v full).memoriesWf = s.memoriesWf := by
  simp only [umpControl]
  split <;> simp

@[simp] theorem umpOne_memories (t : Tenant) (s : State) (o : UmpOp) : (umpOne t s o).memoriesWf = s.memoriesWf := by
  unfold umpOne
  (repeat' split) <;> simp

@[simp] theorem doUmp_memories (l : List UmpOp) : (doUmp s t g l).memoriesWf = s.memoriesWf := by simp [doUmp]

@[simp] theorem cmdOnVoice_memories (v : Voice) (c : NoteCmd) : (cmdOnVoice s v c).memoriesWf = s.memoriesWf := by
  unfold cmdOnVoice
  split <;> simp

@[simp] theorem landNote_memories (id : BitVec 32) (c : NoteCmd) : (landNote s t id c).memoriesWf = s.memoriesWf := by
  unfold landNote
  split <;> simp

@[simp] theorem landVoiceParam_memories (id : BitVec 32) (pid : Nat) (x : Int) :
    (landVoiceParam s t id pid x).memoriesWf = s.memoriesWf := by
  unfold landVoiceParam
  (repeat' split) <;> simp

@[simp] theorem landPartParam_memories (part pid : Nat) (x : Int) :
    (landPartParam s t part pid x).memoriesWf = s.memoriesWf := by
  simp [landPartParam]

/-! ## The mix ring -/

@[simp] theorem ringState_memories (kind pos : Nat) (dieId : BitVec 64) :
    (ringState s kind pos dieId).memoriesWf = s.memoriesWf := by
  simp [ringState]
@[simp] theorem setAlign_memories (dMax : Nat) : (setAlign s dMax).memoriesWf = s.memoriesWf := by simp [setAlign]
@[simp] theorem contribsOff_memories : (contribsOff s).memoriesWf = s.memoriesWf := by simp [contribsOff]
@[simp] theorem wakeKeeper_memories : (wakeKeeper s).memoriesWf = s.memoriesWf := by simp [wakeKeeper]
@[simp] theorem codeError_memories : (codeError s).memoriesWf = s.memoriesWf := by simp [codeError]

@[simp] theorem takeItem_memories (origin : Nat) (q : BitVec 16) :
    (takeItem s origin q).1.memoriesWf = s.memoriesWf := by
  simp only [takeItem]
  split <;> simp

theorem onceOnly_memories (r : RingHead) {f : State → State} (h : ∀ u, (f u).memoriesWf = u.memoriesWf) :
    (onceOnly s r f).memoriesWf = s.memoriesWf := by simp [onceOnly, h]
@[simp] theorem remap_memories (f : Nat → Nat) : (remap s f).memoriesWf = s.memoriesWf := by simp [remap]
@[simp] theorem doRingStart_memories : (doRingStart s t g).memoriesWf = s.memoriesWf := by simp [doRingStart]
@[simp] theorem announceJoin_memories : (announceJoin s).memoriesWf = s.memoriesWf := by simp [announceJoin]
@[simp] theorem startRecord_memories (d : BitVec 64) (fs : Nat) : (startRecord s d fs).memoriesWf = s.memoriesWf := by
  simp [startRecord]
@[simp] theorem keeperRecord_memories (r : KeeperRecord) : (keeperRecord s r).memoriesWf = s.memoriesWf := by
  simp [keeperRecord]

@[simp] theorem windowEnd_memories : (windowEnd s).memoriesWf = s.memoriesWf := by
  unfold windowEnd
  (repeat' split) <;> simp

@[simp] theorem setLanes_memories (m : Membership) : (setLanes s m).memoriesWf = s.memoriesWf := by simp [setLanes]
@[simp] theorem setMembers_memories (m : Membership) (position units : Nat) (gone : List Nat) :
    (setMembers s m position units gone).memoriesWf = s.memoriesWf := by simp [setMembers]
@[simp] theorem joinSelf_memories (ref : Tenant × Tag) (m : Membership) :
    (joinSelf s ref m).memoriesWf = s.memoriesWf := by
  simp [joinSelf]
@[simp] theorem joinOther_memories (m : Membership) : (joinOther s m).memoriesWf = s.memoriesWf := by simp [joinOther]

@[simp] theorem joinBoundary_memories (m : Membership) : (joinBoundary s m).memoriesWf = s.memoriesWf := by
  unfold joinBoundary
  (repeat' split) <;> simp

@[simp] theorem loseWaits_memories (p : RingWait → Bool) : (loseWaits s p).memoriesWf = s.memoriesWf := by
  simp [loseWaits]
@[simp] theorem loseNotesOn_memories (unit : Nat) : (loseNotesOn s unit).memoriesWf = s.memoriesWf := by
  simp [loseNotesOn]
@[simp] theorem releaseFrom_memories (origin : Nat) : (releaseFrom s origin).memoriesWf = s.memoriesWf := by
  simp [releaseFrom]
@[simp] theorem laneLoss_memories (laneA : Bool) (neighbour : BitVec 64) :
    (laneLoss s laneA neighbour).memoriesWf = s.memoriesWf := by
  simp [laneLoss]
@[simp] theorem heal_memories (m : Membership) : (heal s m).memoriesWf = s.memoriesWf := by simp [heal]

@[simp] theorem unfold_memories (m : Membership) : (unfold s m).memoriesWf = s.memoriesWf := by simp [unfold]

@[simp] theorem announceLeave_memories (ref : Option (Tenant × Tag)) :
    (announceLeave s ref).memoriesWf = s.memoriesWf := by
  simp [announceLeave]
@[simp] theorem doRingLeave_memories : (doRingLeave s t g).memoriesWf = s.memoriesWf := by simp [doRingLeave]
@[simp] theorem standalone_memories : (standalone s).memoriesWf = s.memoriesWf := rfl
@[simp] theorem dropSpills_memories : (dropSpills s).memoriesWf = s.memoriesWf := by simp [dropSpills]
@[simp] theorem leaveBoundary_memories : (leaveBoundary s).memoriesWf = s.memoriesWf := by simp [leaveBoundary]
@[simp] theorem leaveNotice_memories (d : BitVec 64) : (leaveNotice s d).memoriesWf = s.memoriesWf := by
  simp [leaveNotice]
@[simp] theorem joinNotice_memories (d : BitVec 64) : (joinNotice s d).memoriesWf = s.memoriesWf := by simp [joinNotice]
@[simp] theorem alignTide_memories (m : Marker) : (alignTide s m).memoriesWf = s.memoriesWf := by simp [alignTide]
@[simp] theorem markerIn_memories (m : Marker) : (markerIn s m).memoriesWf = s.memoriesWf := by simp [markerIn]
@[simp] theorem countSilent_memories (l : List GossipEntry) : (countSilent s l).memoriesWf = s.memoriesWf := by
  simp [countSilent]
@[simp] theorem gossipIn_memories (l : List GossipEntry) (crcOk : Bool) :
    (gossipIn s l crcOk).memoriesWf = s.memoriesWf := by
  simp [gossipIn]
@[simp] theorem sumIn_memories (l : List (List Int)) (crcOk : Bool) : (sumIn s l crcOk).memoriesWf = s.memoriesWf := by
  simp [sumIn]
@[simp] theorem totalIn_memories (l : List (List Int)) (crcOk : Bool) :
    (totalIn s l crcOk).memoriesWf = s.memoriesWf := by
  simp [totalIn]
@[simp] theorem ringSample_memories : (ringSample s).memoriesWf = s.memoriesWf := by simp [ringSample]
@[simp] theorem slipBoundary_memories : (slipBoundary s).memoriesWf = s.memoriesWf := by
  unfold slipBoundary
  split <;> simp

@[simp] theorem ringBoundary_memories : (ringBoundary s).memoriesWf = s.memoriesWf := by
  simp [ringBoundary, ageSpills]
@[simp] theorem dropItem_memories (q : BitVec 16) : (dropItem s q).memoriesWf = s.memoriesWf := by simp [dropItem]
@[simp] theorem ackIn_memories (q : BitVec 16) : (ackIn s q).memoriesWf = s.memoriesWf := by simp [ackIn]
@[simp] theorem resend_memories : (resend s).memoriesWf = s.memoriesWf := by simp [resend]
@[simp] theorem countLost_memories : (countLost s).memoriesWf = s.memoriesWf := by simp [countLost]
@[simp] theorem freeSpill_memories (id : BitVec 32) : (freeSpill s t id).memoriesWf = s.memoriesWf := by
  simp [freeSpill]

@[simp] theorem loseCommand_memories (id : BitVec 32) : (loseCommand s t g id).memoriesWf = s.memoriesWf := by
  simp only [loseCommand]
  split <;> simp

@[simp] theorem loseNote_memories (o : SpilledOut) : (loseNote s t o).memoriesWf = s.memoriesWf := by simp [loseNote]

@[simp] theorem giveUp_memories (i : RingItem) : (giveUp s i).memoriesWf = s.memoriesWf := by
  unfold giveUp
  (repeat' split) <;> simp

@[simp] theorem itemGiveUp_memories (q : BitVec 16) : (itemGiveUp s q).memoriesWf = s.memoriesWf := by
  unfold itemGiveUp
  split <;> simp

@[simp] theorem reportTimeout_memories : (reportTimeout s t g).memoriesWf = s.memoriesWf := by
  simp only [reportTimeout]
  split <;> split
  · simp
  · rw [foldS_memories fun u w => by split <;> simp]
    simp
  · rfl
  · rw [foldS_memories fun u w => by split <;> simp]
    simp

@[simp] theorem originSilent_memories (origin : Nat) : (originSilent s origin).memoriesWf = s.memoriesWf := by
  simp [originSilent]
@[simp] theorem noteArrives_memories (n : RingNote) : (noteArrives s n).memoriesWf = s.memoriesWf := by
  simp [noteArrives]

@[simp] theorem startArrived_memories (v : Voice) : (startArrived s v).memoriesWf = s.memoriesWf := by
  unfold startArrived
  split <;> simp

@[simp] theorem startAllArrived_memories : (startAllArrived s).memoriesWf = s.memoriesWf := by simp [startAllArrived]

@[simp] theorem reportTo_memories (c : SpillCommand) (found late : Bool) :
    (reportTo s c found late).memoriesWf = s.memoriesWf := by
  unfold reportTo
  split <;> simp

@[simp] theorem actOn_memories (v : Voice) (c : SpillCommand) : (actOn s v c).memoriesWf = s.memoriesWf := by
  unfold actOn
  split
  · simp
  · exact foldS_memories (fun u e => by split <;> simp) s
  · simp

@[simp] theorem landDue_memories (d : RingDue) : (landDue s d).memoriesWf = s.memoriesWf := by
  unfold landDue
  split <;> simp

@[simp] theorem landAllDue_memories : (landAllDue s).memoriesWf = s.memoriesWf := by simp [landAllDue]

@[simp] theorem reportIn_memories (id : BitVec 32) (found late : Bool) (landed : Smp) :
    (reportIn s t g id found late landed).memoriesWf = s.memoriesWf := by
  unfold reportIn
  (repeat' split) <;> simp

@[simp] theorem endOrderIn_memories (h : RingHead) (t : Tenant) (id : BitVec 32) :
    (endOrderIn s h t id).memoriesWf = s.memoriesWf := by
  unfold endOrderIn
  split <;> simp

@[simp] theorem commandRecord_memories (r : SpillRecord) : (commandRecord s r).memoriesWf = s.memoriesWf := by
  unfold commandRecord
  split
  · simp
  · split
    · rfl
    · split
      · rfl
      · exact onceOnly_memories _ _ fun u => reportIn_memories ..
      · exact onceOnly_memories _ _ fun u => by split <;> simp
      · exact onceOnly_memories _ _ fun u => endOrderIn_memories ..
      · exact onceOnly_memories _ _ fun u => by dsimp only; split <;> simp

@[simp] theorem startReportIn_memories (id : BitVec 32) : (startReportIn s t id).memoriesWf = s.memoriesWf := by
  unfold startReportIn
  (repeat' split) <;> simp

@[simp] theorem refusalIn_memories (id : BitVec 32) : (refusalIn s t id).memoriesWf = s.memoriesWf := by
  simp [refusalIn]

@[simp] theorem fallback_memories (o : SpilledOut) : (fallback s t o).memoriesWf = s.memoriesWf := by
  simp only [fallback]
  split
  · next h => simpa using stealFor_memories h
  · simp

@[simp] theorem fallbackOf_memories (id : BitVec 32) : (fallbackOf s t id).memoriesWf = s.memoriesWf := by
  unfold fallbackOf
  split <;> simp

@[simp] theorem allFallbacks_memories : (allFallbacks s).memoriesWf = s.memoriesWf := by simp [allFallbacks]

@[simp] theorem endRecord_memories (id : BitVec 32) (stolen : Bool) :
    (endRecord s t id stolen).memoriesWf = s.memoriesWf := by
  unfold endRecord
  split <;> simp

theorem notice_memories (r : RingHead) {f : State → State} (h : ∀ u, (f u).memoriesWf = u.memoriesWf) :
    (notice s r f).memoriesWf = s.memoriesWf := by
  simp [notice, onceOnly_memories _ _ h]

/-! ## The link to the field die, supplies and heat -/

@[simp] theorem vddFaRise_memories : (vddFaRise s).memoriesWf = s.memoriesWf := by simp [vddFaRise]
@[simp] theorem fieldPass_memories (vfUp : Bool) : (fieldPass s vfUp).memoriesWf = s.memoriesWf := by simp [fieldPass]
@[simp] theorem linkSilent_memories : (linkSilent s).memoriesWf = s.memoriesWf := by simp [linkSilent]
@[simp] theorem linkDark_memories : (linkDark s).memoriesWf = s.memoriesWf := by simp [linkDark]
@[simp] theorem gatePins_memories : (gatePins s).memoriesWf = s.memoriesWf := (gatePins_outputsOnly ..).memories
@[simp] theorem topUpLines_memories : (topUpLines s).memoriesWf = s.memoriesWf := (topUpLines_outputsOnly ..).memories

@[simp] theorem linkRecover_memories : (linkRecover s).memoriesWf = s.memoriesWf := by
  unfold linkRecover
  split <;> simp

@[simp] theorem fieldFault_memories (cause : Nat) : (fieldFault s cause).memoriesWf = s.memoriesWf := by
  simp [fieldFault]
@[simp] theorem dieFault_memories (cause : Nat) : (dieFault s cause).memoriesWf = s.memoriesWf := by simp [dieFault]
@[simp] theorem mclkLoss_memories : (mclkLoss s).memoriesWf = s.memoriesWf := by simp [mclkLoss]
@[simp] theorem mclkRestore_memories : (mclkRestore s).memoriesWf = s.memoriesWf := by simp [mclkRestore]
@[simp] theorem frameEdge_memories (rising : Bool) : (frameEdge s rising).memoriesWf = s.memoriesWf := by
  simp [frameEdge]
@[simp] theorem setThermal_memories (st : Thermal) (n : Nat) : (setThermal s st n).memoriesWf = s.memoriesWf := by
  simp [setThermal]
@[simp] theorem softEvent_memories (n : Nat) : (softEvent s n).memoriesWf = s.memoriesWf := by simp [softEvent]

@[simp] theorem thermalSample_memories (tj : Int) : (thermalSample s tj).memoriesWf = s.memoriesWf := by
  simp only [thermalSample]
  (repeat' split) <;> simp

@[simp] theorem softStep_memories : (softStep s).memoriesWf = s.memoriesWf := by simp [softStep]

/-! ## Frames -/

@[simp] theorem latchStatus_memories : (latchStatus s).memoriesWf = s.memoriesWf := by simp [latchStatus]
@[simp] theorem endOffer_memories (addr : Nat) : (endOffer s addr).memoriesWf = s.memoriesWf := by simp [endOffer]
@[simp] theorem commitBegin_memories (f : RawFrame) : (commitBegin s f).memoriesWf = s.memoriesWf := by
  simp [commitBegin]
@[simp] theorem readPhaseOp_memories (f : RawFrame) (addr : Nat) :
    (readPhaseOp s f addr).memoriesWf = s.memoriesWf := by
  simp [readPhaseOp]
@[simp] theorem bcastDrop_memories (bcast : Bool) (a : Accept) : (bcastDrop s bcast a).memoriesWf = s.memoriesWf := by
  simp [bcastDrop]

@[simp] theorem regWrite_memories (off : Nat) (v : Word) : (regWrite s off v).memoriesWf = s.memoriesWf := by
  simp [regWrite]
@[simp] theorem discardOp_memories (f : RawFrame) (d : Discard) (head : Option (Nat × Nat)) :
    (discardOp s f d head).memoriesWf = s.memoriesWf := by
  cases head <;> simp [discardOp]
@[simp] theorem commitEnumerate_memories (f : RawFrame) (p : List Byte) :
    (commitEnumerate s f p).memoriesWf = s.memoriesWf := by simp [commitEnumerate]
@[simp] theorem linkWake_memories : (linkWake s).memoriesWf = s.memoriesWf := by simp [linkWake]
@[simp] theorem feed_memories (kind : Nat) (p : List Byte) : (s.feed kind p).memoriesWf = s.memoriesWf := by
  unfold State.feed
  split <;> simp

@[simp] theorem commitReap_memories (p : List Byte) (bad : List Nat) :
    (commitReap s p bad).1.memoriesWf = s.memoriesWf := by
  simp [commitReap]
@[simp] theorem commitSubmit_memories (p : List Byte) (bcast : Bool) :
    (commitSubmit s p bcast).1.memoriesWf = s.memoriesWf := by
  simp [commitSubmit]
@[simp] theorem commitLwrite_memories (p : List Byte) (bcast : Bool) :
    (commitLwrite s p bcast).1.memoriesWf = s.memoriesWf := by
  simp [commitLwrite]
@[simp] theorem commitBulkRead_memories (p : List Byte) (len : Nat) :
    (commitBulkRead s p len).1.memoriesWf = s.memoriesWf := by
  simp [commitBulkRead]

/-! ## Memories, the vault and MRAM -/

@[simp] theorem setBank_wave (m : Mem) (k : BankKind) (n : Nat) (st : BankSt) : (m.setBank k n st).wave = m.wave := by
  cases k <;> rfl
@[simp] theorem putSlot_fwA (m : Nvm) (r : SlotRec) (verify : Bool) : (m.putSlot r verify).fwA = m.fwA := rfl
@[simp] theorem putSlot_fwB (m : Nvm) (r : SlotRec) (verify : Bool) : (m.putSlot r verify).fwB = m.fwB := rfl

@[simp] theorem setPatch_memories (n : Nat) (p : PatchSlot) : (s.setPatch n p).memoriesWf = s.memoriesWf := by
  simp [State.setPatch]
@[simp] theorem dropPatch_memories (n : Nat) : (s.dropPatch n).memoriesWf = s.memoriesWf := by simp [State.dropPatch]

@[simp] theorem doPatchWrite_memories (slot win : Nat) : (doPatchWrite s t g slot win).memoriesWf = s.memoriesWf := by
  simp only [doPatchWrite]
  (repeat' split) <;> simp

@[simp] theorem patchBad_memories (slot : Nat) : (patchBad s slot).memoriesWf = s.memoriesWf := by simp [patchBad]
@[simp] theorem doPatchSelect_memories (part slot : Nat) (hw : HwAnswer) :
    (doPatchSelect s t g part slot hw).memoriesWf = s.memoriesWf := by
  unfold doPatchSelect
  (repeat' split) <;> simp

@[simp] theorem doWaveWrite_memories (bank off win n : Nat) :
    (doWaveWrite s t g bank off win n).memoriesWf = s.memoriesWf := by
  simp [doWaveWrite]
@[simp] theorem doWaveMap_memories (a : MapArgs) : (doWaveMap s t g a).memoriesWf = s.memoriesWf := by simp [doWaveMap]
@[simp] theorem keyBad_memories (slot : Nat) : (keyBad s slot).memoriesWf = s.memoriesWf := by simp [keyBad]

@[simp] theorem doLoadSealed_memories (a : SealedArgs) (hw : HwAnswer) :
    (doLoadSealed s t g a hw).memoriesWf = s.memoriesWf := by
  unfold doLoadSealed
  (repeat' split) <;> simp

@[simp] theorem changeBank_memories (k : BankKind) (n : Nat) (st : BankSt) :
    (changeBank s t g k n st).memoriesWf = s.memoriesWf := by
  simp [changeBank]
@[simp] theorem doBankState_memories (k : BankKind) (n : Nat) (st : BankSt) :
    (doBankState s t g k n st).memoriesWf = s.memoriesWf := by
  simp [doBankState]
@[simp] theorem runBankWaits_memories : (runBankWaits s).memoriesWf = s.memoriesWf := by simp [runBankWaits]

@[simp] theorem storeKeys_memories (keys : Bank (List Byte)) (verify : Bool) :
    (storeKeys s keys verify).memoriesWf = s.memoriesWf := by
  simp [storeKeys]

@[simp] theorem doKeyLoad_memories (slot : Nat) (w : List Byte) (hw : HwAnswer) :
    (doKeyLoad s t g slot w hw).memoriesWf = s.memoriesWf := by
  unfold doKeyLoad
  (repeat' split) <;> simp

@[simp] theorem doKeyErase_memories (slot : Nat) (hw : HwAnswer) :
    (doKeyErase s t g slot hw).memoriesWf = s.memoriesWf := by
  simp [doKeyErase]
@[simp] theorem doFwActivate_memories (hw : HwAnswer) : (doFwActivate s t g hw).memoriesWf = s.memoriesWf := by
  have hnvm : (ok s t g).nvm = s.nvm := (finish_keepsCore ..).nvm
  unfold doFwActivate
  split
  · simp
  · split
    · simp
    · rw [← hnvm]
      simp
@[simp] theorem doDeviceReset_memories : (doDeviceReset s t g).memoriesWf = s.memoriesWf := by simp [doDeviceReset]
@[simp] theorem scrubWord_memories (e : Nat × Bool) : (scrubWord s e).memoriesWf = s.memoriesWf := by simp [scrubWord]

/-! ## Calibration, self-tests and lanes -/

@[simp] theorem startTrim_memories (ref : Option (Tenant × Tag)) (l : List Nat) :
    (startTrim s ref l).memoriesWf = s.memoriesWf := by
  simp [startTrim]
@[simp] theorem doCalRun_memories (target mask : Nat) : (doCalRun s t g target mask).memoriesWf = s.memoriesWf := by
  simp [doCalRun]
@[simp] theorem landTrim_memories (m : Measured) : (landTrim s m).memoriesWf = s.memoriesWf := by simp [landTrim]

@[simp] theorem calRunDone_memories (m : List Measured) : (calRunDone s m).memoriesWf = s.memoriesWf := by
  unfold calRunDone
  (repeat' split) <;> simp

@[simp] theorem doCalRead_memories (target index : Nat) : (doCalRead s t g target index).memoriesWf = s.memoriesWf := by
  simp [doCalRead]
@[simp] theorem startStore_memories (ref : Option (Tenant × Tag)) : (startStore s ref).memoriesWf = s.memoriesWf := by
  simp [startStore]
@[simp] theorem doCalStore_memories : (doCalStore s t g).memoriesWf = s.memoriesWf := by simp [doCalStore]

@[simp] theorem calStoreDone_memories (verify : Bool) : (calStoreDone s verify).memoriesWf = s.memoriesWf := by
  unfold calStoreDone
  split <;> simp

@[simp] theorem startPeriodic_memories : (startPeriodic s).memoriesWf = s.memoriesWf := by simp [startPeriodic]
@[simp] theorem periodicDue_memories (elapsedS : Nat) : (periodicDue s elapsedS).memoriesWf = s.memoriesWf := by
  simp [periodicDue]
@[simp] theorem periodicAfterNap_memories : (periodicAfterNap s).memoriesWf = s.memoriesWf := by simp [periodicAfterNap]

@[simp] theorem periodicDone_memories (m : List Measured) : (periodicDone s m).memoriesWf = s.memoriesWf := by
  unfold periodicDone
  (repeat' split) <;> simp

@[simp] theorem abandonInputs_memories : (abandonInputs s).memoriesWf = s.memoriesWf := by simp [abandonInputs]
@[simp] theorem selftestDone_memories (failMask : BitVec 32) : (selftestDone s failMask).memoriesWf = s.memoriesWf := by
  unfold selftestDone
  split <;> simp

@[simp] theorem doLaneService_memories (n : Nat) (inward : Bool) :
    (doLaneService s t g n inward).memoriesWf = s.memoriesWf := by
  simp [doLaneService]
@[simp] theorem landLaneOut_memories (n : Nat) : (landLaneOut s n).memoriesWf = s.memoriesWf := by simp [landLaneOut]
@[simp] theorem landLaneIn_memories (n : Nat) : (landLaneIn s n).memoriesWf = s.memoriesWf := by simp [landLaneIn]
@[simp] theorem joinLane_memories (n : Nat) : (joinLane s n).memoriesWf = s.memoriesWf := by simp [joinLane]
@[simp] theorem joinLanes_memories : (joinLanes s).memoriesWf = s.memoriesWf := by simp [joinLanes]
@[simp] theorem laneTestDone_memories (n : Nat) (pass : Bool) : (laneTestDone s n pass).memoriesWf = s.memoriesWf := by
  simp [laneTestDone]

@[simp] theorem fadeOut_memories (v : Voice) : (fadeOut s v).memoriesWf = s.memoriesWf := by
  unfold fadeOut
  split <;> simp

@[simp] theorem drainLimit_memories (n ms : Nat) : (drainLimit s n ms).memoriesWf = s.memoriesWf := by simp [drainLimit]
@[simp] theorem lifeSecond_memories : (lifeSecond s).memoriesWf = s.memoriesWf := by simp [lifeSecond]
@[simp] theorem lifeStore_memories (hw : HwAnswer) : (lifeStore s hw).memoriesWf = s.memoriesWf := by simp [lifeStore]

/-! ## Writes that land -/

@[simp] theorem clearOne_memories (v : Voice) : (clearOne s v).memoriesWf = s.memoriesWf := by
  simp only [clearOne]
  split <;> simp
@[simp] theorem clearVoices_memories : (clearVoices s).memoriesWf = s.memoriesWf := by simp [clearVoices]
@[simp] theorem abortSchedules_memories : (abortSchedules s).memoriesWf = s.memoriesWf := by
  simp [abortSchedules]
@[simp] theorem endAllFades_memories : (endAllFades s).memoriesWf = s.memoriesWf := by simp [endAllFades]
@[simp] theorem stopNow_memories : (stopNow s).memoriesWf = s.memoriesWf := by simp [stopNow]
@[simp] theorem beginStop_memories : (beginStop s).memoriesWf = s.memoriesWf := by simp [beginStop]
@[simp] theorem startEngine_memories : (startEngine s).memoriesWf = s.memoriesWf := by simp [startEngine]

@[simp] theorem landFieldProp_memories (p : PropRef) (n : Nat) : (landFieldProp s p n).memoriesWf = s.memoriesWf := by
  unfold landFieldProp
  split <;> simp

@[simp] theorem landDevProp_memories (p : PropRef) (n : Nat) : (landDevProp s p n).memoriesWf = s.memoriesWf := by
  unfold landDevProp
  split <;> simp

@[simp] theorem landTenProp_window (x : TenantSt) (p : PropRef) (n : Nat) : (landTenProp x p n).window = x.window := by
  unfold landTenProp
  split
  case h_6 => split <;> rfl
  all_goals rfl

@[simp] theorem landProp_memories (p : PropRef) (v : Int) : (landProp s t p v).memoriesWf = s.memoriesWf := by
  unfold landProp
  (repeat' split) <;> simp

@[simp] theorem landSpilledParam_memories (origin : Nat) (t : Tenant) (id : BitVec 32) (pid : Nat) (x : Int) :
    (landSpilledParam s origin t id pid x).memoriesWf = s.memoriesWf := by
  unfold landSpilledParam
  split <;> simp

@[simp] theorem landWrite_memories (w : Write) : (landWrite s w).memoriesWf = s.memoriesWf := by
  unfold landWrite
  split <;> simp

@[simp] theorem landL_memories : (landL s).memoriesWf = s.memoriesWf := by simp [landL]
@[simp] theorem landB_memories : (landB s).memoriesWf = s.memoriesWf := by simp [landB]

/-! ## Properties -/

@[simp] theorem doPropGet_memories (own : Tenant) (p : PropRef) :
    (doPropGet s t g own p).memoriesWf = s.memoriesWf := by
  simp [doPropGet]

/-! ## Sessions, host loss and the watchdog -/

@[simp] theorem recordEntry_memories (e : SqEntry) (r : Rec) (store : Bool) :
    (recordEntry s t e r store).memoriesWf = s.memoriesWf := by
  simp [recordEntry]
@[simp] theorem abortWaiting_memories : (abortWaiting s t).memoriesWf = s.memoriesWf := by
  simp [abortWaiting]

@[simp] theorem unmute_memories : (unmute s t).memoriesWf = s.memoriesWf := by
  have hout : (foldS ((s.ten t).outIds none) s fun s id =>
      ((cmdToNote s t none id .unmute none).map (·.1)).getD s).memoriesWf = s.memoriesWf := by
    refine foldS_memories (fun u id => ?_) s
    cases h : cmdToNote u t none id .unmute none with
    | none => rfl
    | some p => exact cmdToNote_memories h
  simp [unmute, hout]

@[simp] theorem releaseAll_memories : (releaseAll s t).memoriesWf = s.memoriesWf := by simp [releaseAll]

@[simp] theorem tellSteward_memories : (tellSteward s).memoriesWf = s.memoriesWf := by
  simp only [tellSteward]
  split <;> simp

@[simp] theorem startTenLfos_window (x : TenantSt) : (startTenLfos x).window = x.window := by
  simp [startTenLfos]

@[simp] theorem newSession_memories (release : Bool) : (newSession s t g release).memoriesWf = s.memoriesWf := by
  unfold newSession
  split <;> simp

@[simp] theorem doReset_memories (u : Tenant) : (doReset s t g u).memoriesWf = s.memoriesWf := by simp [doReset]

@[simp] theorem resetDone_memories (u : Tenant) : (resetDone s u).memoriesWf = s.memoriesWf := by
  unfold resetDone
  split <;> simp

@[simp] theorem aimAt_memories (a : Aim) : (s.aimAt t g a).memoriesWf = s.memoriesWf := by simp [State.aimAt]

@[simp] theorem judgeAbort_memories (g target : Tag) : (judgeAbort s t g target).memoriesWf = s.memoriesWf := by
  unfold judgeAbort
  (repeat' split) <;> simp

@[simp] theorem settleAbort_memories (g target : Tag) (a : Aim) :
    (settleAbort s t g target a).memoriesWf = s.memoriesWf := by
  unfold settleAbort
  split <;> simp

@[simp] theorem doAbort_memories (g target : Tag) : (doAbort s t g target).memoriesWf = s.memoriesWf := by
  simp [doAbort]

@[simp] theorem lossAction_memories : (lossAction s t).memoriesWf = s.memoriesWf := by
  unfold lossAction
  split <;> simp

@[simp] theorem hostLoss_memories (ms : Nat) : (hostLoss s t ms).memoriesWf = s.memoriesWf := by simp [hostLoss]
@[simp] theorem notice_window (x : TenantSt) (e : Event) (arg : BitVec 16) (tide : Smp) :
    (x.notice e arg tide).window = x.window := by
  unfold TenantSt.notice
  (repeat' split) <;> simp

@[simp] theorem droppedNotice_memories : (droppedNotice s t).memoriesWf = s.memoriesWf := by simp [droppedNotice]

@[simp] theorem dropStart_memories (v : Voice) : (dropStart s v).memoriesWf = s.memoriesWf := by
  unfold dropStart
  (repeat' split) <;> simp

@[simp] theorem dropStarts_memories : (dropStarts s).memoriesWf = s.memoriesWf := by simp [dropStarts]
@[simp] theorem lossRelease_memories : (lossRelease s).memoriesWf = s.memoriesWf := by simp [lossRelease]
@[simp] theorem watchdog_memories : (watchdog s).memoriesWf = s.memoriesWf := by simp [watchdog]
@[simp] theorem loseInFlight_memories : (loseInFlight s t g).memoriesWf = s.memoriesWf := by simp [loseInFlight]
@[simp] theorem loseEntry_memories (e : SqEntry) : (loseEntry s t e).memoriesWf = s.memoriesWf := by simp [loseEntry]
@[simp] theorem loseTag_memories (t : Tenant) (s : State) (g : Nat) : (loseTag t s g).memoriesWf = s.memoriesWf := by
  simp [loseTag]
@[simp] theorem loseAll_memories : (loseAll s t).memoriesWf = s.memoriesWf := by simp [loseAll]
@[simp] theorem returnTenant_memories : (returnTenant s t).memoriesWf = s.memoriesWf := by simp [returnTenant]

/-! ## Power states -/

@[simp] theorem wakeBy_memories (src : WakeSrc) : (wakeBy s src).memoriesWf = s.memoriesWf := by
  unfold wakeBy
  split <;> simp

@[simp] theorem wakeInEntry_memories (src : WakeSrc) : (wakeInEntry s src).memoriesWf = s.memoriesWf := by
  unfold wakeInEntry
  (repeat' split) <;> simp

@[simp] theorem doPolicy_memories (a : PolicyArgs) : (doPolicy s t g a).memoriesWf = s.memoriesWf := by simp [doPolicy]
@[simp] theorem doPowerEnter_memories (st : PState) : (doPowerEnter s t g st).memoriesWf = s.memoriesWf := by
  simp [doPowerEnter]
@[simp] theorem powerEvent_memories (kind n : Nat) : (powerEvent s kind n).memoriesWf = s.memoriesWf := by
  simp [powerEvent]
@[simp] theorem clearEntry_memories : (clearEntry s).memoriesWf = s.memoriesWf := by simp [clearEntry]
@[simp] theorem enterDoze_memories (byCommand : Bool) : (enterDoze s byCommand).memoriesWf = s.memoriesWf := by
  simp [enterDoze]
@[simp] theorem enterNap_memories : (enterNap s).memoriesWf = s.memoriesWf := by simp [enterNap]
@[simp] theorem dropTx_memories (n : Nat) : (dropTx s n).memoriesWf = s.memoriesWf := by simp [dropTx]
@[simp] theorem startHibernate_memories (byCommand : Bool) :
    (startHibernate s byCommand).memoriesWf = s.memoriesWf := by
  simp [startHibernate]
@[simp] theorem abandonEntry_memories (n : Nat) : (abandonEntry s n).memoriesWf = s.memoriesWf := by simp [abandonEntry]

theorem passPoint_memories (n : Nat) {next : State → State} (h : ∀ u, (next u).memoriesWf = u.memoriesWf) :
    (passPoint s n next).memoriesWf = s.memoriesWf := by simp [passPoint, h]

@[simp] theorem quiesceDone_memories : (quiesceDone s).memoriesWf = s.memoriesWf := by
  simp only [quiesceDone]
  split
  · rfl
  · split
    · rw [passPoint_memories _ _ fun u => ?_]
      · split <;> simp
      · rfl
    · rfl

@[simp] theorem holdField_memories : (holdField s).memoriesWf = s.memoriesWf := by simp [holdField]
@[simp] theorem latchPads_memories : (latchPads s).memoriesWf = s.memoriesWf := by simp [latchPads]
@[simp] theorem unlatch_memories : (unlatch s).memoriesWf = s.memoriesWf := by simp [unlatch]

@[simp] theorem powerBoundary_memories : (powerBoundary s).memoriesWf = s.memoriesWf := by
  unfold powerBoundary
  (repeat' split) <;> simp

@[simp] theorem idleExpiry_memories (ms : Nat) : (idleExpiry s ms).memoriesWf = s.memoriesWf := by
  unfold idleExpiry
  (repeat' split) <;> simp

@[simp] theorem idlenessEnd_memories : (idlenessEnd s).memoriesWf = s.memoriesWf := by simp [idlenessEnd]
@[simp] theorem tideComparator_memories : (tideComparator s).memoriesWf = s.memoriesWf := by simp [tideComparator]
@[simp] theorem restartWatchdogs_memories : (restartWatchdogs s).memoriesWf = s.memoriesWf := by simp [restartWatchdogs]
@[simp] theorem napWake_memories (src : WakeSrc) : (napWake s src).memoriesWf = s.memoriesWf := by simp [napWake]

@[simp] theorem powerEnterRow_memories (st : PState) : (powerEnterRow s t g st).memoriesWf = s.memoriesWf :=
  onCmd_memories fun b u hu => by
    split at hu
    · split at hu <;> cases hu; simp
    · cases hu

@[simp] theorem doWakeConfig_memories (m : BitVec 7) (timer : Nat) :
    (doWakeConfig s t g m timer).memoriesWf = s.memoriesWf := by
  simp [doWakeConfig]

@[simp] theorem entryStep_memories : (entryStep s).memoriesWf = s.memoriesWf := by
  unfold entryStep
  split
  · exact passPoint_memories s 2 fun _ => by simp
  · exact passPoint_memories s 3 latchPads_memories
  · simp [powerOff]
  · rfl

/-! ## Resets and boots -/

@[simp] theorem tamperRecord_memories : (tamperRecord s).memoriesWf = s.memoriesWf := by
  unfold tamperRecord
  split <;> simp

@[simp] theorem calSelect_memories : (calSelect s).memoriesWf = s.memoriesWf := by simp [calSelect]

@[simp] theorem fillVault_memories (warm : Bool) : (fillVault s warm).memoriesWf = s.memoriesWf := by simp [fillVault]
@[simp] theorem setFwBanks_memories : (setFwBanks s).memoriesWf = s.memoriesWf := by simp [setFwBanks]
@[simp] theorem closeAfterWarm_memories : (closeAfterWarm s t).memoriesWf = s.memoriesWf := by simp [closeAfterWarm]
@[simp] theorem confirmSlot_memories (rd : BootRead) : (confirmSlot s rd).memoriesWf = s.memoriesWf := by
  simp [confirmSlot]
@[simp] theorem bootLane_memories (fails : BitVec 8) (s : State) (n : Nat) :
    (bootLane fails s n).memoriesWf = s.memoriesWf := by
  simp [bootLane]

/-! ## The tick -/

@[simp] theorem startOne_memories (v : Voice) : (startOne s v).memoriesWf = s.memoriesWf := by
  simp only [startOne]
  split <;> simp

@[simp] theorem startAll_memories : (startAll s).memoriesWf = s.memoriesWf := by simp [startAll]

@[simp] theorem applyHeld_memories (lane slot : Nat) (s : State) (c : NoteCmd) :
    (applyHeld lane slot s c).memoriesWf = s.memoriesWf := by
  unfold applyHeld
  split <;> simp

@[simp] theorem endFaded_memories (v : Voice) : (endFaded s v).memoriesWf = s.memoriesWf := by
  unfold endFaded
  split <;> simp

@[simp] theorem endSteal_memories (v : Voice) : (endSteal s v).memoriesWf = s.memoriesWf := by
  simp only [endSteal]
  split
  · simp
  · split <;> simp

@[simp] theorem endSteals_memories : (endSteals s).memoriesWf = s.memoriesWf := by simp [endSteals]
@[simp] theorem tenLfoTick_memories (t : Tenant) (s : State) (n : Nat) :
    (tenLfoTick t s n).memoriesWf = s.memoriesWf := by
  simp [tenLfoTick]
@[simp] theorem tenLfosTick_memories : (tenLfosTick s).memoriesWf = s.memoriesWf := by simp [tenLfosTick]
@[simp] theorem beatsTick_memories : (beatsTick s).memoriesWf = s.memoriesWf := by simp [beatsTick]
@[simp] theorem beatZeros_memories : (beatZeros s).memoriesWf = s.memoriesWf := by simp [beatZeros]
@[simp] theorem addSends_memories (l : List (Nat × Int)) : (addSends s l).memoriesWf = s.memoriesWf := by
  simp [addSends]

@[simp] theorem bankOffEvent_memories (v : Voice) (bank : Nat) : (bankOffEvent s v bank).memoriesWf = s.memoriesWf := by
  unfold bankOffEvent
  split <;> simp

@[simp] theorem computeVoice_memories (again : List (Nat × Nat)) (s : State) (v : Voice) :
    (computeVoice again s v).memoriesWf = s.memoriesWf := by
  unfold computeVoice
  (repeat' split) <;> simp

@[simp] theorem endVoice_memories (v : Voice) : (endVoice s v).memoriesWf = s.memoriesWf := by
  unfold endVoice
  (repeat' split) <;> simp

@[simp] theorem voicesTick_memories : (voicesTick s).memoriesWf = s.memoriesWf := by simp [voicesTick]
@[simp] theorem boundaryWork_memories : (boundaryWork s).memoriesWf = s.memoriesWf := by simp [boundaryWork]
@[simp] theorem atBoundary_memories : (atBoundary s).memoriesWf = s.memoriesWf := by simp [atBoundary]
@[simp] theorem rotate_memories : (rotate s).memoriesWf = s.memoriesWf := by simp [rotate]
@[simp] theorem landTick_memories : (landTick s).memoriesWf = s.memoriesWf := by simp [landTick]
@[simp] theorem sampleIn_memories : (sampleIn s).memoriesWf = s.memoriesWf := by simp [sampleIn]
@[simp] theorem sampleOut_memories : (sampleOut s).memoriesWf = s.memoriesWf := by simp [sampleOut]
@[simp] theorem quietStep_memories : (quietStep s).memoriesWf = s.memoriesWf := by simp [quietStep]
@[simp] theorem hibernateCount_memories : (hibernateCount s).memoriesWf = s.memoriesWf := by simp [hibernateCount]
@[simp] theorem sampleEnd_memories : (sampleEnd s).memoriesWf = s.memoriesWf := by simp [sampleEnd]
@[simp] theorem ringWork_memories : (ringWork s).memoriesWf = s.memoriesWf := by simp [ringWork]
@[simp] theorem advance_memories : (advance s).memoriesWf = s.memoriesWf := by simp [advance]

/-! ## Taking entries -/

@[simp] theorem refuse_memories (e : SqEntry) (st : Status) (short : BitVec 16) :
    (refuse s t e st short).memoriesWf = s.memoriesWf := by
  simp [refuse]

@[simp] theorem accept_memories (e : SqEntry) (d : Int) (b : Body) (et : Nat) :
    (accept s t e d b et).memoriesWf = s.memoriesWf := by
  unfold accept
  split <;> simp

@[simp] theorem judge_memories (e : SqEntry) (ecc : EntryEcc) : (judge s t e ecc).memoriesWf = s.memoriesWf := by
  simp only [judge]
  split <;> simp

@[simp] theorem resendEcho_memories (r : Rec) (ecc : EntryEcc) : (resendEcho s t r ecc).memoriesWf = s.memoriesWf := by
  simp [resendEcho]

@[simp] theorem checkTaken_memories (e : SqEntry) (ecc : EntryEcc) :
    (checkTaken s t e ecc).memoriesWf = s.memoriesWf := by
  simp only [checkTaken]
  (repeat' split) <;> simp

@[simp] theorem entryEcc_memories (ecc : EntryEcc) : (entryEcc s ecc).memoriesWf = s.memoriesWf := by
  unfold entryEcc
  split <;> simp

@[simp] theorem takeEntry_memories (ecc : EntryEcc) : (takeEntry s ecc).memoriesWf = s.memoriesWf := by
  unfold takeEntry
  (repeat' split) <;> simp

end Sys2Proof.Machine
end

section
/-! SUPPORT. The operations that write, clear, move or load a memory keep its form, and with them every command does. -/

namespace Sys2Proof.Machine

/-! ## Memories as they are written -/

theorem memoriesWf_iff (s : State) : s.memoriesWf = true ↔ Memory.wf s.mem.wave = true ∧ Memory.wf s.nvm.fwA = true ∧
    Memory.wf s.nvm.fwB = true ∧ Memory.wf s.fw.sram = true ∧ windowsWf s.tenants = true := by
  simp [memoriesWf_eq, memoriesOk, and_assoc]

theorem foldS_memoriesWf {α : Type} {l : List α} {f : State → α → State} {s : State} (h : s.memoriesWf = true)
    (hf : ∀ u a, u.memoriesWf = true → (f u a).memoriesWf = true) : (foldS l s f).memoriesWf = true :=
  foldS_keeps (fun u => u.memoriesWf = true) l f hf h

@[simp] theorem setInactive_fwA (m : Nvm) (x : Memory) : (m.setInactive x).fwA = if m.activeB then x else m.fwA := by
  unfold Nvm.setInactive
  split <;> rfl

@[simp] theorem setInactive_fwB (m : Nvm) (x : Memory) : (m.setInactive x).fwB = if m.activeB then m.fwB else x := by
  unfold Nvm.setInactive
  split <;> rfl

@[simp] theorem unmark_fwA (m : Nvm) : m.unmark.fwA = m.fwA := by
  unfold Nvm.unmark
  split <;> rfl

@[simp] theorem unmark_fwB (m : Nvm) : m.unmark.fwB = m.fwB := by
  unfold Nvm.unmark
  split <;> rfl

@[simp] theorem spoil_fwA (m : Nvm) (e : NvmRec × Bool) : (m.spoil e).fwA = m.fwA := by
  unfold Nvm.spoil
  split <;> rfl

@[simp] theorem spoil_fwB (m : Nvm) (e : NvmRec × Bool) : (m.spoil e).fwB = m.fwB := by
  unfold Nvm.spoil
  split <;> rfl

/-- A partly stored chunk is a memory with some of its bytes written. -/
theorem stagedPart_wf (s : State) {m : Memory} (off i : Nat) (l : List Byte) (h : Memory.wf m = true) :
    Memory.wf (stagedPart s m off i l) = true := by
  induction l generalizing m i with
  | nil => exact h
  | cons b r ih =>
    refine ih _ ?_
    split
    · exact memWrite_wf _ _ _ h
    · exact h

theorem slotBoot_fwA (v : Nvm) (rd : BootRead) : (slotBoot v rd).1.fwA = v.fwA := by
  simp only [slotBoot]
  (repeat' split) <;> rfl

theorem slotBoot_fwB (v : Nvm) (rd : BootRead) : (slotBoot v rd).1.fwB = v.fwB := by
  simp only [slotBoot]
  (repeat' split) <;> rfl

section
variable {s : State} (h : s.memoriesWf = true)
include h

theorem slotMem_wf (b : Bool) : Memory.wf (s.nvm.slotMem b) = true := by
  obtain ⟨-, hA, hB, -, -⟩ := (memoriesWf_iff s).mp h
  cases b
  · exact hA
  · exact hB

/-- A window that is canonical after the change keeps the windows canonical. -/
theorem updTen_memoriesWf {t : Tenant} {f : TenantSt → TenantSt}
    (hf : Memory.wf (s.ten t).window = true → Memory.wf (f (s.ten t)).window = true) :
    (s.updTen t f).memoriesWf = true := by
  obtain ⟨hwave, hA, hB, hsram, hwin⟩ := (memoriesWf_iff s).mp h
  exact (memoriesWf_iff _).mpr ⟨hwave, hA, hB, hsram, windowsWf_put hwin (hf (window_wf hwin _)) _⟩

/-! ## Windows -/

theorem fillWindow_memoriesWf (t : Tenant) (win : Nat) (b : List Byte) :
    (s.updTen t fun x => { x with window := memWriteN x.window win b }).memoriesWf = true :=
  updTen_memoriesWf h (memWriteN_wf _ _ _)

@[simp] theorem resizeWindow_memoriesWf (own : Tenant) (kib : Nat) : (resizeWindow s own kib).memoriesWf = true :=
  foldS_memoriesWf (updTen_memoriesWf h (memFilter_wf _ _)) fun _ _ hu => updTen_memoriesWf hu fun _ => rfl

@[simp] theorem doPropSet_memoriesWf (t : Tenant) (g : Tag) (own : Tenant) (p : PropRef) (v : Int) :
    (doPropSet s t g own p v).memoriesWf = true := by
  simp only [doPropSet]
  (repeat' split) <;> simp [h]

@[simp] theorem doPatchRead_memoriesWf (t : Tenant) (g : Tag) (slot win : Nat) (hw : HwAnswer) :
    (doPatchRead s t g slot win hw).memoriesWf = true := by
  simp [doPatchRead, h, fillWindow_memoriesWf h]

@[simp] theorem doWaveRead_memoriesWf (t : Tenant) (g : Tag) (bank off win n : Nat) :
    (doWaveRead s t g bank off win n).memoriesWf = true := by
  simp [doWaveRead, h, fillWindow_memoriesWf h]

/-! ## Wave memory -/

@[simp] theorem waveStore_memoriesWf (a : Nat) (b : List Byte) : (waveStore s a b).memoriesWf = true := by
  obtain ⟨hwave, hrest⟩ := (memoriesWf_iff s).mp h
  exact (memoriesWf_iff _).mpr ⟨memWriteN_wf _ a b hwave, hrest⟩

@[simp] theorem waveZero_memoriesWf (a n : Nat) : (waveZero s a n).memoriesWf = true := by
  obtain ⟨hwave, hrest⟩ := (memoriesWf_iff s).mp h
  exact (memoriesWf_iff _).mpr ⟨memClear_wf _ a n hwave, hrest⟩

@[simp] theorem landSealed_memoriesWf (l : SealedLoad) (p : Option (List Byte)) :
    (landSealed s l p).memoriesWf = true := by
  unfold landSealed
  dsimp only
  split <;> split
  · simpa using h
  · simpa using h
  · simp [h]
  · simp [h]

@[simp] theorem clearBank_memoriesWf (k : BankKind) (n : Nat) : (clearBank s k n).memoriesWf = true := by
  cases k <;> simp [clearBank, h]

@[simp] theorem waveWriteDone_memoriesWf (t : Tenant) (g : Tag) : (waveWriteDone s t g).memoriesWf = true := by
  unfold waveWriteDone
  split <;> simp [h]

@[simp] theorem sealedDone_memoriesWf (t : Tenant) (g : Tag) : (sealedDone s t g).memoriesWf = true := by
  unfold sealedDone
  split
  · exact h
  · dsimp only
    rw [runBankWaits_memories]
    split <;> simp [h]

theorem landMove_memoriesWf (m : BankMove) : (landMove s m).memoriesWf = true := by
  simp only [landMove, runBankWaits_memories, finishRef_memories]
  split <;> simp [h]

@[simp] theorem bankDone_memoriesWf (k : BankKind) (n : Nat) : (bankDone s k n).memoriesWf = true := by
  unfold bankDone
  split
  · exact landMove_memoriesWf h _
  · exact h

@[simp] theorem tickMoves_memoriesWf : (tickMoves s).memoriesWf = true :=
  foldS_memoriesWf h fun _ m hu => landMove_memoriesWf hu m

@[simp] theorem vaultWipe_memoriesWf : (vaultWipe s).memoriesWf = true := by
  have hzero : ∀ u : State, u.memoriesWf = true →
      (foldS u.mem.seals u fun s r => waveZero s (waveAddr r.bank r.offset) r.length).memoriesWf = true :=
    fun u hu => foldS_memoriesWf hu fun _ _ hv => waveZero_memoriesWf hv _ _
  simp only [vaultWipe, mk_memoriesWf, memoriesOk_self]
  refine hzero { s with vault := _, nvm := _ } ?_
  simpa using h

@[simp] theorem advanceLife_memoriesWf (to_ : Life) (key : List Byte) : (advanceLife s to_ key).memoriesWf = true := by
  have hwiped := vaultWipe_memoriesWf h
  cases to_ <;> simpa [advanceLife] using hwiped

@[simp] theorem doLifecycle_memoriesWf (t : Tenant) (g : Tag) (target : Nat) (die : BitVec 32) (key : List Byte)
    (hw : HwAnswer) : (doLifecycle s t g target die key hw).memoriesWf = true := by
  unfold doLifecycle
  (repeat' split) <;> simp [h]

@[simp] theorem doSelftest_memoriesWf (t : Tenant) (g : Tag) (target : Nat) (m : BitVec 32) :
    (doSelftest s t g target m).memoriesWf = true := by
  have hclear : ∀ l, (foldS l s fun s n => clearBank s .wave n).memoriesWf = true :=
    fun l => foldS_memoriesWf h fun _ n hu => clearBank_memoriesWf hu .wave n
  simp [doSelftest, h, hclear]

/-! ## Firmware slots -/

/-- A canonical memory in place of the inactive slot. -/
theorem inactiveSlot_memoriesOk {x : Memory} (hx : Memory.wf x = true) : memoriesOk s.mem.wave
    (if s.nvm.activeB then x else s.nvm.fwA) (if s.nvm.activeB then s.nvm.fwB else x) s.fw.sram s.tenants = true := by
  obtain ⟨hwave, hA, hB, hsram, hwin⟩ := (memoriesWf_iff s).mp h
  split <;> simp [memoriesOk, *]

/-- A chunk is staged into a slot that was canonical, whole or in part (R340). -/
@[simp] theorem doFwStage_memoriesWf (t : Tenant) (g : Tag) (off win n : Nat) (final : Bool) (hw : HwAnswer) :
    (doFwStage s t g off win n final hw).memoriesWf = true := by
  have hold := slotMem_wf h (!s.nvm.activeB)
  have hstaged : Memory.wf (if hw.verify then
        memWriteN (s.nvm.slotMem (!s.nvm.activeB)) off ((s.ten t).windowRead win n)
      else stagedPart s (s.nvm.slotMem (!s.nvm.activeB)) off 0 ((s.ten t).windowRead win n)) = true := by
    split
    · exact memWriteN_wf _ _ _ hold
    · exact stagedPart_wf s _ _ _ hold
  have hslot := inactiveSlot_memoriesOk h hstaged
  simp [doFwStage, hslot]

/-! ## Sessions -/

@[simp] theorem closeSession_memoriesWf (t : Tenant) (g : Tag) : (closeSession s t g).memoriesWf = true := by
  simp only [closeSession, ok_memories]
  exact updTen_memoriesWf (by simpa using h) fun _ => rfl

@[simp] theorem settleSession_memoriesWf (t : Tenant) : (settleSession s t).memoriesWf = true := by
  unfold settleSession
  (repeat' split) <;> simp [h]

@[simp] theorem settleSessions_memoriesWf : (settleSessions s).memoriesWf = true :=
  foldS_memoriesWf h fun _ t hu => settleSession_memoriesWf hu t

@[simp] theorem doOpen_memoriesWf (t : Tenant) (g : Tag) (release : Bool) :
    (doOpen s t g release).memoriesWf = true := by
  simp [doOpen, h]

@[simp] theorem doClose_memoriesWf (t : Tenant) (g : Tag) : (doClose s t g).memoriesWf = true := by
  simp [doClose, h]

@[simp] theorem dropRefs_memoriesWf : (dropRefs s).memoriesWf = true := by
  have hdrop := foldS_memoriesWf (l := s.mem.loads) h fun _ l hu => landSealed_memoriesWf hu l none
  simp [dropRefs, hdrop]

@[simp] theorem firmwareReturn_memoriesWf : (firmwareReturn s).memoriesWf = true := by
  simp [firmwareReturn, h]

/-! ## Ticks and commands -/

@[simp] theorem tick_memoriesWf : (tick s).memoriesWf = true := by
  simp [tick, stoppedTick, runningTick, h]

@[simp] theorem execBody_memoriesWf (t : Tenant) (g : Tag) (c : InFlight) (hw : HwAnswer) :
    (execBody s t g c hw).memoriesWf = true := by
  unfold execBody
  split <;> simp [h]

@[simp] theorem commandDue_memoriesWf (t : Tenant) (g : Tag) (hw : HwAnswer) :
    (commandDue s t g hw).memoriesWf = true := by
  unfold commandDue
  split <;> simp [h]

/-! ## Resets and boots -/

theorem coldReset_memoriesWf (kind : LastReset) (keepLatch : Bool) :
    (coldReset s kind keepLatch).memoriesWf = true := by
  obtain ⟨-, hA, hB, -, -⟩ := (memoriesWf_iff s).mp h
  exact (memoriesWf_iff _).mpr ⟨rfl, hA, hB, rfl, rfl⟩

@[simp] theorem readErrors_memoriesWf (rd : BootRead) : (readErrors s rd).memoriesWf = true :=
  foldS_memoriesWf h fun _ _ hu => by simpa using hu

@[simp] theorem finishAdvance_memoriesWf : (finishAdvance s).memoriesWf = true := by
  unfold finishAdvance
  split <;> simp [h]

@[simp] theorem slotBoot_memoriesOk (rd : BootRead) (sram : Memory) (hsram : Memory.wf sram = true) :
    memoriesOk s.mem.wave (slotBoot s.nvm rd).1.fwA (slotBoot s.nvm rd).1.fwB sram s.tenants = true := by
  obtain ⟨hwave, hA, hB, -, hwin⟩ := (memoriesWf_iff s).mp h
  simp [memoriesOk, slotBoot_fwA, slotBoot_fwB, *]

/-- The image that a boot loads is canonical: it is the beginning of a slot (R343). -/
theorem bootImage_wf (rd : BootRead) (b : Bool) : Memory.wf (imageBody ((slotBoot s.nvm rd).1.slotMem b)) = true := by
  have hslot : (slotBoot s.nvm rd).1.slotMem b = s.nvm.slotMem b := by
    simp only [Nvm.slotMem, slotBoot_fwA, slotBoot_fwB]
  rw [hslot]
  exact memTake_wf _ _ (slotMem_wf h b)

theorem sram_wf : Memory.wf s.fw.sram = true := by
  obtain ⟨-, -, -, hsram, -⟩ := (memoriesWf_iff s).mp h
  exact hsram

@[simp] theorem bootRun_memoriesWf (warm : Bool) (rd : BootRead) : (bootRun s warm rd).memoriesWf = true := by
  have hread : (tamperRecord (readErrors s rd)).memoriesWf = true := by simp [h]
  unfold bootRun
  split
  · simpa using h
  · simp [slotBoot_memoriesOk hread, bootImage_wf hread, sram_wf hread]

@[simp] theorem warmReset_memoriesWf (rd : BootRead) : (warmReset s rd).memoriesWf = true := by
  have hload := foldS_memoriesWf (l := s.mem.loads) h fun _ l hu => landSealed_memoriesWf hu l none
  obtain ⟨hwave, hA, hB, hsram, hwin⟩ := (memoriesWf_iff _).mp hload
  have hwarm : ∀ ts, windowsWf (ts.map fun e => (e.1, e.2.warm)) = windowsWf ts := fun ts => by
    simp [windowsWf, TenantSt.warm, Function.comp_def]
  refine bootRun_memoriesWf ?_ true rd
  exact (memoriesWf_iff _).mpr ⟨hwave, hA, hB, hsram, (hwarm _).trans hwin⟩

@[simp] theorem tamper_memoriesWf (src : TamperSrc) : (tamper s src).memoriesWf = true := by
  refine coldReset_memoriesWf ?_ _ _
  split <;> simpa using h

@[simp] theorem tamperSeen_memoriesWf (seen : TamperSeen) : (tamperSeen s seen).memoriesWf = true := by
  unfold tamperSeen
  (repeat' split) <;> simp [h]

@[simp] theorem coldBoot_memoriesWf (rd : BootRead) : (coldBoot s rd).memoriesWf = true :=
  bootRun_memoriesWf (by simpa using h) false rd

@[simp] theorem bootComplete_memoriesWf (fails : BitVec 8) (rd : BootRead) :
    (bootComplete s fails rd).memoriesWf = true := by
  have hrun : (if s.fw.boot = .powering then coldBoot s rd else s).memoriesWf = true := by simp [h]
  unfold bootComplete
  dsimp only
  split
  · simpa using hrun
  · exact hrun

/-- A wake loads the firmware from its slot; the wave memory and the windows are empty after HIBERNATE. -/
theorem wakeState_memoriesWf (src : WakeSrc) : (wakeState s src).memoriesWf = true := by
  obtain ⟨-, hA, hB, -, -⟩ := (memoriesWf_iff s).mp h
  exact (memoriesWf_iff _).mpr ⟨rfl, hA, hB, memTake_wf _ _ (slotMem_wf h _), rfl⟩

@[simp] theorem hibernateWake_memoriesWf (src : WakeSrc) (saveBad digestBad : Bool) (rd : BootRead) :
    (hibernateWake s src saveBad digestBad rd).memoriesWf = true := by
  have hwoken := wakeState_memoriesWf h src
  unfold hibernateWake wakeDone
  dsimp only
  (repeat' split) <;> simp [h, hwoken]

/-! ## Frames -/

@[simp] theorem commitBulkWrite_memoriesWf (p : List Byte) (bcast : Bool) :
    (commitBulkWrite s p bcast).1.memoriesWf = true := by
  simp [commitBulkWrite, h, fillWindow_memoriesWf h]

@[simp] theorem commitEffect_memoriesWf (kind : Nat) (p : List Byte) (len : Nat) (bcast : Bool) (bad : List Nat) :
    (commitEffect s kind p len bcast bad).1.memoriesWf = true := by
  unfold commitEffect
  dsimp only
  split <;> simp [h]

@[simp] theorem executeFrame_memoriesWf (addr kind : Nat) (p : List Byte) (len : Nat) (bad : List Nat) :
    (executeFrame s addr kind p len bad).memoriesWf = true := by
  simp [executeFrame, h]

@[simp] theorem commitRow_memoriesWf (f : RawFrame) (kind : Nat) (bad : List Nat) :
    (commitRow s f kind bad).memoriesWf = true := by
  unfold commitRow commitFrame
  (repeat' split) <;> simp [h]

@[simp] theorem commitConfirm_memoriesWf (f : RawFrame) (addr kind : Nat) (p : List Byte) :
    (commitConfirm s f addr kind p).memoriesWf = true := by
  simp [commitConfirm, h]

/-! ## Every command -/

theorem onCmd_memoriesWf {t : Tenant} {g : Tag} {f : Body → Option State}
    (hf : ∀ b u, f b = some u → u.memoriesWf = true) : (onCmd s t g f).memoriesWf = true := by
  rcases onCmd_cases s t g f with hstays | ⟨c, u, -, hruns, hu⟩
  · rwa [hstays]
  · rw [hu]
    exact hf _ _ hruns

theorem propRowOp_memoriesWf (t : Tenant) (g : Tag) (is : PropRef → Int → Bool) :
    (propRowOp s t g is).memoriesWf = true :=
  onCmd_memoriesWf h fun b u hu => by
    split at hu
    · split at hu <;> cases hu
      simp [h]
    · cases hu

theorem onLow_memoriesWf (ns : Nat) {f : State → State}
    (hf : ∀ u, u.memoriesWf = true → (f u).memoriesWf = true) : (s.onLow ns f).memoriesWf = true := by
  have hdrew : s.drew.memoriesWf = true := h
  unfold State.onLow
  (repeat' split) <;> simp [h, hf, hdrew]

/-- The rows that share a frame (a property row, a command of the queue, a notice of the ring) go by the rule of that
frame; every other row is an operation of the layers above. -/
theorem exec_memoriesWf {i : Instr} {u : State} (hu : exec i s = .next u) : u.memoriesWf = true := by
  cases i <;> cases hu
  case propSet | engRunStop | engRunRun | tenantBeatReset | tenantWindowResize | tpEnableWrite | gtEnableWrite
      | vaultTamperedClear => exact propRowOp_memoriesWf h ..
  case cvSet | cvQueue | gateSet =>
    rw [onCmdC_memories _ _ _ fun c v hv => by split at hv <;> cases hv; simp]
    exact h
  case tenantOpen | tenantClose =>
    split
    · split <;> simp [h]
    · exact onCmd_memoriesWf h fun b v hv => by split at hv <;> cases hv; simp [h]
  case joinNoticeReceived | leaveNoticeReceived | foldNoticeReceived =>
    rw [notice_memories _ _ fun v => by simp]
    exact h
  case spillStartReport | spillRefusal | spillEndRecord =>
    split
    · rw [onceOnly_memories _ _ fun v => by simp]
      exact h
    · exact h
  case wakeNEdge => exact onLow_memoriesWf h _ fun v hv => by simp [hv]
  case resetNAssert => exact onLow_memoriesWf h _ fun v hv => coldReset_memoriesWf hv ..
  case powerOnReset => exact coldReset_memoriesWf (by simpa using h) ..
  case nop | identify | tenantReset | heartbeat | abort | propGet | noteOn | noteOff | noteChangeBend |
      noteChangePressure | noteChangeRetarget | allRelease | allReleaseFade | ump | voiceParam | partParam |
      patchWrite | patchRead | patchSelect | waveWrite | waveRead | waveMap | waveLoadSealed | busConfigGain |
      busConfigEnable | busConfigResync | busConfigRing | decimConfig | coefLoad | coefSwitch | detectRead | cvConfig
      | lineConfig | padRelease | ciConfig | keyscanConfig | keyscanStatus | scConfig | scSend | scBreak |
      cardSessionStart | cardSessionExchange | cardSessionStop | chainInfo | ringStart | ringStatus | ringLeave |
      memBankState | vaultKeyLoad | vaultKeyErase | lifecycleAdvance | powerPolicy | wakeConfig | calRun | calStore |
      calRead | selftest | laneServiceOut | laneServiceIn | fwStage | fwActivate | deviceReset =>
    exact onCmd_memoriesWf h fun b v hv => by split at hv <;> cases hv <;> simp [h]
  case vddEngTimeout =>
    split
    · simpa using coldReset_memoriesWf h s.power.lastReset true
    · exact h
  case vddEngOutOfRange =>
    split
    · exact coldReset_memoriesWf h ..
    · exact h
  case submitCommit | reapCommit | lreadCommit | lwriteCommit | bulkWriteCommit | bulkReadCommit =>
    exact commitRow_memoriesWf h ..
  case enumerateCommit | confirmFrameCommit | frameDiscard | warmReset | hibernateEntry | stealFadeEnd
      | ctlWatchdogRestart | spilledNoteStart | cardWaitTimeout | limitExit | vddNvmInRange =>
    (repeat' split) <;> simp [h]
  all_goals simp [h]
end

/-- Settles O6: what writes a memory keeps it canonical, and every other command leaves the memories as they are. -/
theorem memoriesStayCanonical : Obligations.MemoriesStayCanonical := by
  intro s u h hu
  rcases step_cases s with ⟨-, hstep⟩ | ⟨c, rest, -, hstep⟩
  · cases hstep.symm.trans hu
    exact h
  · exact exec_memoriesWf (s := { s with pending := rest }) h (hstep.symm.trans hu)

end Sys2Proof.Machine
end

section
/-! SUPPORT. Sessions: what the release of a tenant's notes leaves, and what TENANT_OPEN, TENANT_CLOSE and TENANT_RESET
do with nothing else in flight. -/

namespace Sys2Proof.Machine

/-! ## MUTE is lifted -/

/-- Voices, class-L writes, the ring and the tenants alone change. -/
def VoicesOnly (s u : State) : Prop :=
  u = { s with tenants := u.tenants, voices := u.voices, pendL := u.pendL, ring := u.ring }

theorem VoicesOnly.trans {a b c : State} (h : VoicesOnly a b) (k : VoicesOnly b c) : VoicesOnly a c := by
  unfold VoicesOnly at *
  rw [k, h]

/-- UNMUTE to a note writes no class-B write and no gate. -/
theorem cmdToNote_unmute {s u : State} {t : Tenant} {id : BitVec 32} {w : Bool}
    (h : cmdToNote s t none id .unmute none = some (u, w)) : VoicesOnly s u := by
  unfold cmdToNote at h
  split at h
  · cases h; rfl
  · split at h
    · cases h; rfl
    · split at h
      · split at h <;> cases h <;> rfl
      · cases h

/-- The notes of a tenant that play on other units hear that MUTE is lifted. -/
def unmuteOut (t : Tenant) (s : State) (id : BitVec 32) : State :=
  ((cmdToNote s t none id .unmute none).map (·.1)).getD s

theorem unmuteOut_frame (t : Tenant) (s : State) (id : BitVec 32) :
    NoteFrame t s (unmuteOut t s id) ∧ VoicesOnly s (unmuteOut t s id) := by
  unfold unmuteOut
  cases h : cmdToNote s t none id .unmute none with
  | none => exact ⟨NoteFrame.refl t s, rfl⟩
  | some p => exact ⟨cmdToNote_frame h, cmdToNote_unmute h⟩

theorem unmuteOuts_frame (t : Tenant) (s : State) (ids : List (BitVec 32)) :
    NoteFrame t s (foldS ids s (unmuteOut t)) ∧ VoicesOnly s (foldS ids s (unmuteOut t)) :=
  foldS_keeps (fun u => NoteFrame t s u ∧ VoicesOnly s u) ids (unmuteOut t)
    (fun u id ⟨hn, hv⟩ => ⟨hn.trans (unmuteOut_frame t u id).1, hv.trans (unmuteOut_frame t u id).2⟩)
    ⟨NoteFrame.refl t s, rfl⟩

/-- A tenant whose notes have been told to go on. -/
def TenantSt.unmuted (x : TenantSt) (l : List SpilledOut) : TenantSt := { x with spilledOut := l, muted := false }

/-- The state in which they have heard it. -/
def State.unmuteTold (s : State) (t : Tenant) : State :=
  if (s.ten t).muted then foldS ((s.ten t).outIds none) s (unmuteOut t) else s

theorem unmuteTold_frame (s : State) (t : Tenant) : NoteFrame t s (s.unmuteTold t) ∧ VoicesOnly s (s.unmuteTold t) := by
  unfold State.unmuteTold
  split
  · exact unmuteOuts_frame ..
  · exact ⟨NoteFrame.refl t s, rfl⟩

theorem unmute_ten (s : State) (t w : Tenant) :
    (unmute s t).ten w = ((s.unmuteTold t).updTen t fun x => { x with muted := false }).ten w := rfl

theorem unmute_frame (s : State) (t : Tenant) : VoicesOnly s (unmute s t) ∧
    (∀ w, w ≠ t → (unmute s t).ten w = s.ten w) ∧ ∃ l, (unmute s t).ten t = (s.ten t).unmuted l := by
  obtain ⟨⟨-, hother, l, hten⟩, hvoices⟩ := unmuteTold_frame s t
  refine ⟨hvoices.trans rfl, fun w hw => ?_, l, ?_⟩
  · rw [unmute_ten, updTen_ten_other _ _ hw, hother w hw]
  · rw [unmute_ten, updTen_ten_same, hten]
    rfl

/-! ## The release of a tenant (R67 step 3) -/

/-- What the release of all that a tenant plays leaves: its notes and gates are told, its MUTE is lifted. -/
structure Released (t : Tenant) (s u : State) : Prop where
  frame : u = { s with tenants := u.tenants, voices := u.voices, pendL := u.pendL, pendB := u.pendB, ring := u.ring,
                       field := u.field }
  others : ∀ w, w ≠ t → u.ten w = s.ten w
  own : ∃ l, u.ten t = (s.ten t).unmuted l

theorem releaseAll_released (s : State) (t : Tenant) : Released t s (releaseAll s t) := by
  obtain ⟨hnote, hother, l, hten⟩ :=
    (cmdToAll_frame s t none (.allRelease none false)).trans (releaseGates_frame _ t)
  obtain ⟨hvoices, hothers, m, hown⟩ := unmute_frame (releaseGates (cmdToAll s t none (.allRelease none false)) t) t
  refine ⟨?_, fun w hw => (hothers w hw).trans (hother w hw), m, ?_⟩
  · unfold releaseAll
    rw [hvoices, hnote]
  · exact hown.trans (by rw [hten]; rfl)

/-! ## A command alone in flight -/

theorem abortWaiting_allExecuting {s : State} {t : Tenant} (h : ∀ d ∈ (s.ten t).inflight, d.phase = .executing) :
    abortWaiting s t = s := by
  have hnone : (s.ten t).notStarted = [] := by
    simp only [TenantSt.notStarted, List.map_eq_nil_iff, List.filter_eq_nil_iff]
    intro d hd
    simp [h d hd]
  rw [abortWaiting, hnone, foldS_nil]

/-- The completion of the one command in flight of a tenant, which is no ABORT. -/
theorem finish_only {s : State} {t : Tenant} {c : InFlight} (st : Status) (res : Result)
    (hr : s.fw.restarting = false) (hin : (s.ten t).inflight = [c]) (hq : c.quiet = false)
    (hb : ∀ x, c.body ≠ .abort x) : finish s t c.tag st res = s.answer t c st res := by
  refine finish_eq st res hr (by simp [TenantSt.find, hin]) hq ?_
  intro d hd x _
  rw [hin, List.mem_singleton] at hd
  rw [hd]
  exact hb x

/-- A command as it executes. -/
def InFlight.running (c : InFlight) : InFlight := { c with phase := .executing }

theorem executing_only {s : State} {t : Tenant} {c : InFlight} (hin : (s.ten t).inflight = [c]) :
    (s.executing t c.tag).ten t = { s.ten t with inflight := [c.running] } := by
  simp [State.executing, hin, InFlight.running]

/-- A tenant after its one command in flight has completed: one record more, and no command in flight. -/
def TenantSt.completed (x : TenantSt) (r : Rec) (tags : Bank (BitVec 16)) (echo : Bank EchoEntry) : TenantSt :=
  { x with inflight := [], cq := x.cq ++ [.record r], doneTags := tags, echo := echo }

/-- The record of a command that completes OK. -/
def InFlight.okRec (c : InFlight) (res : Result) (smp : Smp) : Rec :=
  mkRec c.op (lateStatus c.late .ok) c.seq c.tag c.late res (c.execAt.getD smp)

theorem answered_alone {x : TenantSt} {c : InFlight} {res : Result} (hin : x.inflight = [c]) (hres : res.cont = [])
    (smp : Smp) : x.answered c .ok res (c.execAt.getD smp) = x.completed (c.okRec res smp)
      (bankPut x.doneTags c.tag.val c.seq) (x.answered c .ok res (c.execAt.getD smp)).echo := by
  have hlate : (c.late && Status.ok != .aborted && Status.ok != .lost) = c.late := by cases c.late <;> rfl
  have hfree : [c].filter (fun d => d.tag != c.tag) = [] := by simp
  simp only [TenantSt.answered, TenantSt.storeEcho, TenantSt.completed, InFlight.okRec, hlate, hres, hin, hfree]
  split <;> rfl

/-! ## TENANT_CLOSE and TENANT_RESET_DONE (R66, R67) -/

/-- A tenant's notes and gates are released, the tenant changes, and its one command in flight completes. -/
structure Ended (t : Tenant) (c : InFlight) (f : TenantSt → TenantSt) (s u : State) : Prop where
  own : ∃ l tags echo, u.ten t = (f ((s.ten t).unmuted l)).completed (c.okRec (.note 0) s.smp) tags echo
  others : ∀ w, w ≠ t → u.ten w = s.ten w
  rest : u.mem = s.mem ∧ u.nvm = s.nvm ∧ u.link = s.link ∧ u.core = s.core

theorem release_ended {s : State} {t : Tenant} {c : InFlight} {f : TenantSt → TenantSt}
    (hr : s.fw.restarting = false) (hin : (s.ten t).inflight = [c]) (hq : c.quiet = false)
    (hb : ∀ x, c.body ≠ .abort x) (hf : ∀ x, (f x).inflight = x.inflight) :
    Ended t c f s (ok ((releaseAll s t).updTen t f) t c.tag) := by
  obtain ⟨hframe, hothers, l, hown⟩ := releaseAll_released s t
  have hten : ((releaseAll s t).updTen t f).ten t = f ((s.ten t).unmuted l) := by rw [updTen_ten_same, hown]
  have halone : (((releaseAll s t).updTen t f).ten t).inflight = [c] := by rw [hten, hf]; exact hin
  have hup : ((releaseAll s t).updTen t f).fw.restarting = false := by
    rw [updTen_fw, hframe]
    exact hr
  have hsmp : ((releaseAll s t).updTen t f).smp = s.smp := by
    rw [State.smp, updTen_core, hframe]
    rfl
  have hdone := answered_alone (res := .note 0) halone rfl s.smp
  rw [ok, finish_only .ok (.note 0) hup halone hq hb]
  refine ⟨⟨l, ?_⟩, fun w hw => ?_, ?_⟩
  · rw [answer_ten_same, hsmp, hdone, hten]
    exact ⟨_, _, rfl⟩
  · rw [answer_ten_other _ _ _ hw, updTen_ten_other _ _ hw, hothers w hw]
  · unfold State.answer State.updTen State.setTen
    rw [hframe]
    exact ⟨rfl, rfl, rfl, rfl⟩

/-- What the fact that a command may start says of the block and of the session of its tenant. -/
theorem Starts.idle {s : State} {t : Tenant} {g : Tag} {c : InFlight} {b : Body} (h : Starts s t g c b) :
    s.fwRuns = true ∧ s.fw.restarting = false ∧ (s.ten t).session = .none ∧ (s.ten t).free = true := by
  obtain ⟨hruns, hfree, -⟩ := startable_some h.start
  have hnone : (s.ten t).session = .none := by
    simp only [TenantSt.free, Bool.and_eq_true, beq_iff_eq] at hfree
    exact hfree.1
  exact ⟨hruns, (fwRuns_up hruns).2, hnone, hfree⟩

/-- The command on tag `g` executes, and the session work that it begins is under way. -/
def State.inSession (s : State) (t : Tenant) (g : Tag) (w : Session) : State :=
  (s.executing t g).updTen t fun x => { x with session := w }

theorem inSession_ten {s : State} {t : Tenant} {c : InFlight} (hin : (s.ten t).inflight = [c]) (w : Session) :
    (s.inSession t c.tag w).ten t =
      { s.ten t with inflight := [c.running], session := w } := by
  rw [State.inSession, updTen_ten_same, executing_only hin]

theorem inSession_ten_other (s : State) {t u : Tenant} (g : Tag) (w : Session) (hu : u ≠ t) :
    (s.inSession t g w).ten u = s.ten u := by
  rw [State.inSession, updTen_ten_other _ _ hu, State.executing, setTen_ten_other _ _ hu]

/-- A command alone in flight has nothing to abort; it settles its session work at once. -/
theorem settle_alone {s : State} {t : Tenant} {c : InFlight} (hin : (s.ten t).inflight = [c]) (w : Session) :
    settleSession ((abortWaiting (startLong s t c.tag) t).updTen t fun x => { x with session := w }) t =
      settleSession (s.inSession t c.tag w) t := by
  rw [startLong_eq, abortWaiting_allExecuting]
  · rfl
  · rw [executing_only hin]
    intro d hd
    rw [List.mem_singleton.mp hd]
    rfl

theorem inSession_only {s : State} {t : Tenant} {c : InFlight} (hin : (s.ten t).inflight = [c]) (w : Session) :
    ((s.inSession t c.tag w).ten t).only c.tag = true := by
  rw [inSession_ten hin]
  simp [TenantSt.only, InFlight.running]

/-- A CLOSED tenant: its window, reservation and ceiling are as after a reset (Table 03-1, R66). -/
def TenantSt.shut (x : TenantSt) : TenantSt :=
  { x with st := .closed, fault := .none, session := .none, window := [], reserve := 0, ceiling := 384 }

theorem exec_tenantClose {s : State} {t : Tenant} {g : Tag} {c : InFlight} (h : Starts s t g c .tenantClose)
    (hin : (s.ten t).inflight = [c]) : exec (.tenantClose t g) s =
      .next (ok ((releaseAll (s.inSession t g (.closing g)) t).updTen t TenantSt.shut) t g) := by
  obtain ⟨hruns, -, hnone, -⟩ := h.idle
  obtain rfl := h.tag
  have hrow : exec (.tenantClose t c.tag) s = .next (doClose s t c.tag) := by
    refine congrArg Host.Outcome.next ?_
    rw [hnone]
    exact h.onCmd _
  have hses : ((s.inSession t c.tag (.closing c.tag)).ten t).session = .closing c.tag := by rw [inSession_ten hin]
  have hup : (s.inSession t c.tag (.closing c.tag)).fwRuns = true := hruns
  rw [hrow, doClose, settle_alone hin, settleSession, if_pos hup, hses]
  exact congrArg Host.Outcome.next (if_pos (inSession_only hin _))

/-- Settles O19: alone in flight, the command closes its tenant as soon as it executes. -/
theorem tenantCloseReleasesWhatTheTenantHeld : Obligations.TenantCloseReleasesWhatTheTenantHeld := by
  intro s t g c h hin
  obtain rfl := h.tag
  obtain ⟨-, hup, -, -⟩ := h.idle
  have hten := inSession_ten hin (.closing c.tag)
  obtain ⟨⟨l, tags, echo, hown⟩, hothers, hrest⟩ :=
    release_ended (s := s.inSession t c.tag (.closing c.tag)) (t := t) (c := c.running) (f := TenantSt.shut) hup
      (by rw [hten]) h.loud (fun x hx => by cases h.body.symm.trans hx) fun _ => rfl
  rw [hten] at hown
  refine ⟨_, exec_tenantClose h hin, ?_⟩
  have htag : c.running.tag = c.tag := rfl
  rw [htag] at hown hothers hrest
  generalize ok ((releaseAll (s.inSession t c.tag (.closing c.tag)) t).updTen t TenantSt.shut) t c.tag = u at *
  rw [hown]
  exact ⟨rfl, rfl, rfl, rfl, rfl, rfl, fun w hw => (hothers w hw).trans (inSession_ten_other s _ _ hw), hrest⟩

/-- An open tenant without a fault, as TENANT_RESET leaves it (R67). -/
def TenantSt.reopened (x : TenantSt) : TenantSt := { x with st := .opened, fault := .none, resetBy := none }

theorem exec_tenantResetDone {s : State} {t : Tenant} {c : InFlight} (hruns : s.fwRuns = true)
    (hst : (s.ten t).st = .resetting) (hby : (s.ten t).resetBy = some (t, c.tag)) (hin : (s.ten t).inflight = [c]) :
    exec (.tenantResetDone t) s = .next (ok ((releaseAll s t).updTen t TenantSt.reopened) t c.tag) := by
  have honly : (s.ten t).only c.tag = true := by simp [TenantSt.only, hin]
  have hrow : exec (.tenantResetDone t) s = .next (resetDone s t) := rfl
  rw [hrow, resetDone, hby]
  simp only [hruns, hst, honly, if_true, beq_self_eq_true, Bool.and_self]
  rfl

theorem exec_tenantReset {s : State} {t w : Tenant} {g : Tag} {c : InFlight} (h : Starts s t g c (.tenantReset w)) :
    exec (.tenantReset t g) s = .next (doReset s t g w) := congrArg Host.Outcome.next (h.onCmd _)

/-- Settles O20: the command executes with nothing to abort, and its end is the release of the tenant. -/
theorem tenantResetOpensTheTenantAgain : Obligations.TenantResetOpensTheTenantAgain := by
  intro s t g c
  refine ⟨fun h hst hin => ?own, fun w hw ht h => ?other, fun hruns hst hby hin htag hq hb => ?done⟩
  case own =>
    obtain rfl := h.tag
    obtain ⟨-, -, -, hfree⟩ := h.idle
    rw [exec_tenantReset h, doReset, if_neg (by simp), if_neg hst, if_neg (by simp [hfree]), startLong_eq]
    refine congrArg Host.Outcome.next (abortWaiting_allExecuting fun d hd => ?_)
    rw [updTen_ten_same, executing_only hin] at hd
    rw [List.mem_singleton.mp hd]
    rfl
  case other =>
    rw [exec_tenantReset h, doReset, if_pos ⟨hw, .inl ht⟩, fail, h.finish_self]
  case done =>
    subst htag
    obtain ⟨-, hup⟩ := fwRuns_up hruns
    obtain ⟨⟨l, tags, echo, hown⟩, hothers, hrest⟩ :=
      release_ended (f := TenantSt.reopened) hup hin hq hb fun _ => rfl
    refine ⟨_, exec_tenantResetDone hruns hst hby hin, ?_⟩
    generalize ok ((releaseAll s t).updTen t TenantSt.reopened) t c.tag = u at *
    rw [hown]
    exact ⟨rfl, rfl, rfl, rfl, rfl, hothers, hrest⟩

/-! ## TENANT_OPEN (R65, R76, R136) -/

theorem startTenLfos_lfos (x : TenantSt) : ∃ l, startTenLfos x = { x with lfos := l } := by
  have hstep : ∀ (ns : List Nat) (f : TenLfo → TenLfo) (y : TenantSt),
      ∃ l, ns.foldl (fun y n => y.updLfo n f) y = { y with lfos := l } := by
    intro ns f
    induction ns with
    | nil => exact fun y => ⟨y.lfos, rfl⟩
    | cons n ns ih =>
      intro y
      obtain ⟨l, hl⟩ := ih (y.updLfo n f)
      exact ⟨l, hl⟩
  exact hstep _ _ x

/-- A tenant whose session begins with the command numbered `q`, its LFOs apart. -/
def TenantSt.fresh (q : BitVec 16) (x : TenantSt) : TenantSt :=
  { x with
    echo := [], seqHigh := q, st := .opened, fault := .none, session := .none, resetBy := none, doneTags := [],
    openedSinceWake := true }

/-- A store that held nothing holds the completion just stored and no other. -/
theorem storeEcho_only {x : TenantSt} (r : Rec) (h : x.echo = []) {q : BitVec 16} (hq : q ≠ r.seq) :
    (x.storeEcho r).echoOf q = none := by
  unfold TenantSt.storeEcho
  split
  · simp only [TenantSt.echoOf, h, bankPut, bankGet]
    split
    · by_cases hn : r.seq.toNat % 128 = q.toNat % 128
      · rw [if_pos hn]
        exact if_neg hq.symm
      · rw [if_neg hn]
    · rfl
  · simp [TenantSt.echoOf, h, bankGet]

/-- The short result of TENANT_OPEN: H of the session before it (R79). -/
def TenantSt.lastHigh (x : TenantSt) : Nat := if x.st = .closed then 0 else x.seqHigh.toNat

theorem newSession_keep {s : State} {t : Tenant} {c : InFlight} (hin : (s.ten t).inflight = [c]) (ht : t ≠ 0) :
    newSession s t c.tag false = okShort
      (((unmute s t).updTen t fun x => startTenLfos (x.fresh c.seq)).writeB (.prop t { kind := .tenBeatReset } 1))
      t c.tag (s.ten t).lastHigh := by
  have hfind : (s.ten t).find c.tag = some c := by simp [TenantSt.find, hin]
  rw [newSession, hfind]
  exact if_neg ht

/-- What the session of a command alone in flight leaves (R65, R76). -/
structure SessionBegun (t : Tenant) (c : InFlight) (s u : State) : Prop where
  own : ∃ l lfos, u.ten t = ({ ((s.ten t).unmuted l).fresh c.seq with lfos := lfos } : TenantSt).answered c .ok
    (.bytes (leBytes 2 (s.ten t).lastHigh)) (c.execAt.getD s.smp)
  beat : u.pendB = s.pendB ++ [.prop t { kind := .tenBeatReset } 1]
  others : ∀ w, w ≠ t → u.ten w = s.ten w
  frame : u = { s with tenants := u.tenants, voices := u.voices, pendL := u.pendL, pendB := u.pendB, ring := u.ring }

@[simp] theorem writeB_ten (s : State) (w : Write) (t : Tenant) : (s.writeB w).ten t = s.ten t := rfl

theorem newSession_begun {s : State} {t : Tenant} {c : InFlight} (hr : s.fw.restarting = false)
    (hin : (s.ten t).inflight = [c]) (hq : c.quiet = false) (hb : ∀ x, c.body ≠ .abort x) (ht : t ≠ 0) :
    SessionBegun t c s (newSession s t c.tag false) := by
  obtain ⟨hframe, hothers, l, hown⟩ := unmute_frame s t
  obtain ⟨lfos, hlfos⟩ := startTenLfos_lfos (((s.ten t).unmuted l).fresh c.seq)
  rw [newSession_keep hin ht]
  generalize hv : ((unmute s t).updTen t fun x => startTenLfos (x.fresh c.seq)).writeB
    (.prop t { kind := .tenBeatReset } 1) = v
  have hten : v.ten t = { ((s.ten t).unmuted l).fresh c.seq with lfos := lfos } := by
    rw [← hlfos, ← hown, ← hv, writeB_ten, updTen_ten_same]
  have hcore : v = { s with
      tenants := v.tenants, voices := v.voices, pendL := v.pendL, ring := v.ring,
      pendB := s.pendB ++ [.prop t { kind := .tenBeatReset } 1] } := by
    rw [← hv]
    unfold State.writeB State.updTen State.setTen
    rw [hframe]
  have hdone : okShort v t c.tag (s.ten t).lastHigh = v.answer t c .ok (.bytes (leBytes 2 (s.ten t).lastHigh)) := by
    refine finish_only .ok _ ?_ (by rw [hten]; exact hin) hq hb
    rw [hcore]
    exact hr
  rw [hdone]
  refine ⟨⟨l, lfos, ?_⟩, ?_, fun w hw => ?_, ?_⟩
  · rw [answer_ten_same, hten, show v.smp = s.smp by rw [hcore]; rfl]
  · rw [hcore]
    rfl
  · rw [answer_ten_other _ _ _ hw, ← hothers w hw, ← hv, writeB_ten, updTen_ten_other _ _ hw]
  · unfold State.answer State.setTen
    rw [hcore]

/-- The tenant of a session that begins: OPEN, with one record more, and with that record alone in its echo store. -/
theorem SessionBegun.opens {s u : State} {t : Tenant} {c : InFlight} (h : SessionBegun t c s u)
    (hin : (s.ten t).inflight = [c]) :
    (u.ten t).st = .opened ∧ (u.ten t).fault = .none ∧ (u.ten t).session = .none ∧ (u.ten t).seqHigh = c.seq ∧
      (u.ten t).inflight = [] ∧ (∀ q, q ≠ c.seq → (u.ten t).echoOf q = none) ∧
      (u.ten t).cq = (s.ten t).cq ++ [.record (c.okRec (.bytes (leBytes 2 (s.ten t).lastHigh)) s.smp)] := by
  obtain ⟨l, lfos, hown⟩ := h.own
  have hecho : ∀ q, q ≠ c.seq → (u.ten t).echoOf q = none := fun q hq => by
    rw [hown]
    exact storeEcho_only _ rfl hq
  have hfresh : ({ ((s.ten t).unmuted l).fresh c.seq with lfos := lfos } : TenantSt).inflight = [c] := hin
  rw [answered_alone hfresh rfl] at hown
  refine ⟨?_, ?_, ?_, ?_, ?_, hecho, ?_⟩ <;> rw [hown] <;> rfl

theorem exec_tenantOpen {s : State} {t : Tenant} {g : Tag} {c : InFlight} {release : Bool}
    (h : Starts s t g c (.tenantOpen release)) : exec (.tenantOpen t g) s = .next (doOpen s t g release) := by
  obtain ⟨-, -, hnone, -⟩ := h.idle
  refine congrArg Host.Outcome.next ?_
  rw [hnone]
  exact h.onCmd _

/-- A tenant that is not CLOSED begins its session once the command executes, which is at once (R76). -/
theorem doOpen_again {s : State} {t : Tenant} {c : InFlight} (release : Bool) (hruns : s.fwRuns = true)
    (hin : (s.ten t).inflight = [c]) (hst : (s.ten t).st ≠ .closed) :
    doOpen s t c.tag release = newSession (s.inSession t c.tag (.opening c.tag release)) t c.tag release := by
  have hses : ((s.inSession t c.tag (.opening c.tag release)).ten t).session = .opening c.tag release := by
    rw [inSession_ten hin]
  have hup : (s.inSession t c.tag (.opening c.tag release)).fwRuns = true := hruns
  rw [doOpen, if_neg hst, settle_alone hin, settleSession, if_pos hup, hses]
  exact if_pos (inSession_only hin _)

/-- Settles O18: from CLOSED the session begins at once, else after the session work of the command itself. -/
theorem tenantOpenStartsASession : Obligations.TenantOpenStartsASession := by
  intro s t g c h ht hin
  obtain rfl := h.tag
  obtain ⟨hruns, hup, -, -⟩ := h.idle
  have hbody : ∀ x, c.body ≠ .abort x := fun x hx => by cases h.body.symm.trans hx
  rw [exec_tenantOpen h]
  by_cases hst : (s.ten t).st = .closed
  · have hopen := newSession_begun hup hin h.loud hbody ht
    obtain ⟨hopened, hfault, hses, hhigh, hnone, hecho, hcq⟩ := hopen.opens hin
    rw [doOpen, if_pos hst]
    exact ⟨_, rfl, hopened, hfault, hses, hhigh, hnone, hopen.beat, hecho, hcq, hopen.others, hopen.frame⟩
  · have hten := inSession_ten hin (.opening c.tag false)
    have hrun : ((s.inSession t c.tag (.opening c.tag false)).ten t).inflight = [c.running] := by rw [hten]
    have hopen := newSession_begun (s := s.inSession t c.tag (.opening c.tag false)) hup hrun h.loud hbody ht
    obtain ⟨hopened, hfault, hses, hhigh, hnone, hecho, hcq⟩ := hopen.opens hrun
    rw [hten] at hcq
    rw [doOpen_again false hruns hin hst]
    refine ⟨_, rfl, hopened, hfault, hses, hhigh, hnone, hopen.beat, hecho, hcq, fun w hw => ?_, hopen.frame⟩
    exact (hopen.others w hw).trans (inSession_ten_other s _ _ hw)

end Sys2Proof.Machine
end

section
/-! SUPPORT. TAKE_ENTRY: the checks of an entry in their order, and what each of them leaves (R69, R72 to R76,
Table 03-4). -/

namespace Sys2Proof.Machine

@[simp] theorem setTen_updTen (s : State) (t : Tenant) (x : TenantSt) (f : TenantSt → TenantSt) :
    (s.setTen t x).updTen t f = s.setTen t (f x) := by
  rw [State.updTen, setTen_ten_same, setTen_setTen]

/-! ## The checks -/

/-- The state whose round robin has gone past tenant `t`, with tenant `t` in its new state (R69). -/
def State.taking (s : State) (t : Tenant) (y : TenantSt) : State :=
  ({ s with fw := { s.fw with rr := t + 1 } } : State).setTen t y

/-- A tenant without the entry that is taken. -/
def TenantSt.popped (x : TenantSt) (e : SqEntry) : TenantSt := { x with sq := x.sq.erase e }

/-- An entry that is not lost leaves its queue and is checked. -/
theorem exec_takeEntry {s : State} {t : Tenant} {e : SqEntry} (hruns : s.fwRuns = true)
    (hnext : s.candidateEntry = some (t, e)) (hlost : e.lost = false) : exec (.takeEntry .clean) s =
      .next (checkTaken (s.taking t ((s.ten t).popped e)) t e .clean) := by
  refine congrArg Host.Outcome.next ?_
  rw [takeEntry, if_pos hruns, hnext]
  simp only [hlost]
  rfl

section
variable {s : State} {t : Tenant} {e : SqEntry}

@[simp] theorem taking_ten (y : TenantSt) : (s.taking t y).ten t = y := setTen_ten_same ..
@[simp] theorem taking_updTen (y : TenantSt) (f : TenantSt → TenantSt) :
    (s.taking t y).updTen t f = s.taking t (f y) := setTen_updTen ..
@[simp] theorem taking_smp (y : TenantSt) : (s.taking t y).smp = s.smp := rfl
@[simp] theorem taking_entryRec (y : TenantSt) (st : Status) (short : BitVec 16) :
    entryRec (s.taking t y) e st short = entryRec s e st short := rfl

/-- An entry under the number of a command in flight is absorbed (R72). -/
theorem checkTaken_flying {y : TenantSt} (h : y.flying e.seq = true) :
    checkTaken (s.taking t y) t e .clean = s.taking t y := by
  simp [checkTaken, h]

/-- A completed number is answered again (R73). -/
theorem checkTaken_echo {y : TenantSt} {r : Rec} (hfly : y.flying e.seq = false) (h : y.echoOf e.seq = some r) :
    checkTaken (s.taking t y) t e .clean =
      s.taking t (y.writeGroup { r with flags := (r.flags &&& 7) ||| 1 } []) := by
  simp [checkTaken, hfly, h, resendEcho]

/-- TENANT_OPEN goes without a check of its number (R76). -/
theorem checkTaken_open {y : TenantSt} (hfly : y.flying e.seq = false) (h : y.echoOf e.seq = none) (hop : e.op = 2) :
    checkTaken (s.taking t y) t e .clean = judge (s.taking t y) t e .clean := by
  simp [checkTaken, hfly, h, hop]

section
variable {y : TenantSt} (hfly : y.flying e.seq = false) (hecho : y.echoOf e.seq = none) (hop : e.op ≠ 2)
include hfly hecho hop

/-- The number of a new entry decides (R74). -/
theorem checkTaken_new : checkTaken (s.taking t y) t e .clean =
    if 129 ≤ (e.seq - y.seqHigh).toNat ∧ (e.seq - y.seqHigh).toNat ≤ 32767 then
      s.taking t (y.writeGroup (entryRec s e .seqGap 0) [])
    else if y.inWindow e.seq = false ∧ ¬(1 ≤ (e.seq - y.seqHigh).toNat ∧ (e.seq - y.seqHigh).toNat ≤ 128) then
      s.taking t (y.writeGroup (entryRec s e .staleSeq 0) [])
    else judge (if 1 ≤ (e.seq - y.seqHigh).toNat ∧ (e.seq - y.seqHigh).toNat ≤ 128 then
      s.taking t (y.setHigh e.seq) else s.taking t y) t e .clean := by
  simp only [checkTaken, taking_ten, taking_updTen, taking_entryRec, hfly, hecho, hop, Bool.false_eq_true, if_false]

/-- A number far ahead is a gap (R74). -/
theorem checkTaken_gap (h1 : 129 ≤ (e.seq - y.seqHigh).toNat) (h2 : (e.seq - y.seqHigh).toNat ≤ 32767) :
    checkTaken (s.taking t y) t e .clean = s.taking t (y.writeGroup (entryRec s e .seqGap 0) []) := by
  rw [checkTaken_new hfly hecho hop, if_pos ⟨h1, h2⟩]

/-- A number behind the window is stale (R74). -/
theorem checkTaken_stale (h1 : 32768 ≤ (e.seq - y.seqHigh).toNat) (h2 : 128 ≤ (y.seqHigh - e.seq).toNat) :
    checkTaken (s.taking t y) t e .clean = s.taking t (y.writeGroup (entryRec s e .staleSeq 0) []) := by
  have hwin : y.inWindow e.seq = false := by
    rw [TenantSt.inWindow, decide_eq_false_iff_not]
    omega
  rw [checkTaken_new hfly hecho hop, if_neg (by omega), if_pos ⟨hwin, by omega⟩]

/-- A number ahead becomes H, and the entry is judged (R74, R75). -/
theorem checkTaken_ahead (h1 : 1 ≤ (e.seq - y.seqHigh).toNat) (h2 : (e.seq - y.seqHigh).toNat ≤ 128) :
    checkTaken (s.taking t y) t e .clean = judge (s.taking t (y.setHigh e.seq)) t e .clean := by
  rw [checkTaken_new hfly hecho hop, if_neg (by omega), if_neg (fun h => h.2 ⟨h1, h2⟩), if_pos ⟨h1, h2⟩]
end

/-! ## The verdict -/

/-- Samples until the timestamp of an entry (R22). -/
def State.untilDue (s : State) (e : SqEntry) : Int := smpDiff (BitVec.ofNat 48 (Machine.field e.header 8 6)) s.smp

/-- The command that an entry becomes: scheduled when its timestamp lies ahead, LATE when it does not (R22, R23). -/
def State.inFlight (s : State) (e : SqEntry) (b : Body) (et : Nat) : InFlight :=
  { tag := e.tag, seq := e.seq, op := BitVec.ofNat 8 e.op, timed := e.flag 0, fence := e.flag 1, quiet := e.flag 2,
    due := BitVec.ofNat 48 (Machine.field e.header 8 6), et := et, late := e.flag 0 && decide (s.untilDue e ≤ 0),
    phase := if e.flag 0 = true ∧ 0 < s.untilDue e then .scheduled else .waiting,
    reserve := opReserve e.op, body := b, execAt := none }

theorem judge_refuses {y : TenantSt} {st : Status} {short : BitVec 16}
    (h : checkEntry (s.taking t y) t e .clean (s.untilDue e) = .refuse st short) :
    judge (s.taking t y) t e .clean =
      s.taking t ((y.writeGroup (entryRec s e st short) []).storeEcho (entryRec s e st short)) := by
  have hv : checkEntry (s.taking t y) t e .clean
      (smpDiff (BitVec.ofNat 48 (field e.header 8 6)) (s.taking t y).smp) = .refuse st short := h
  simp only [judge, hv, refuse, taking_updTen, taking_entryRec]

theorem judge_accepts {y : TenantSt} {b : Body} {et : Nat}
    (h : checkEntry (s.taking t y) t e .clean (s.untilDue e) = .accept b et) :
    judge (s.taking t y) t e .clean = accept (s.taking t y) t e (s.untilDue e) b et := by
  have hv : checkEntry (s.taking t y) t e .clean
      (smpDiff (BitVec.ofNat 48 (field e.header 8 6)) (s.taking t y).smp) = .accept b et := h
  simp only [judge, hv]
  rfl

/-- A timestamp that does not lie ahead makes a command late, and a late command waits. -/
theorem phase_eq (timed : Bool) (d : Int) :
    (if (timed && !(timed && decide (d ≤ 0))) = true then Phase.scheduled else .waiting) =
      if timed = true ∧ 0 < d then .scheduled else .waiting := by
  cases timed <;> simp

/-- An accepted command joins those in flight. -/
def TenantSt.joined (y : TenantSt) (c : InFlight) : TenantSt := { y with inflight := y.inflight ++ [c] }

theorem accept_joins {y : TenantSt} {b : Body} {et : Nat}
    (h : (∀ x, b ≠ .abort x) ∨ (e.flag 0 = true ∧ 0 < s.untilDue e)) :
    accept (s.taking t y) t e (s.untilDue e) b et = s.taking t (y.joined (s.inFlight e b et)) := by
  simp only [accept, phase_eq, taking_updTen]
  split
  next x =>
    have hahead := h.resolve_left fun hb => hb x rfl
    rw [if_pos hahead, if_neg (by simp), TenantSt.joined, State.inFlight, if_pos hahead]
  next => rfl

/-- An ABORT that waits is judged as it is taken (R83). -/
theorem accept_judges {y : TenantSt} {x : Tag} {et : Nat} (h : ¬(e.flag 0 = true ∧ 0 < s.untilDue e)) :
    accept (s.taking t y) t e (s.untilDue e) (.abort x) et =
      judgeAbort (s.taking t (y.joined (s.inFlight e (.abort x) et))) t e.tag x := by
  simp only [accept, phase_eq, taking_updTen]
  rw [if_neg h, if_pos rfl, TenantSt.joined, State.inFlight, if_neg h]

end

/-- Settles O15: the checks in the order of Table 03-4, each by its lemma. -/
theorem takingAnEntryFollowsTheChecks : Obligations.TakingAnEntryFollowsTheChecks := by
  intro s t e hruns hnext hlost x d popped out plain wait inFlight
  rw [exec_takeEntry hruns hnext hlost]
  have hpopped : popped = x.popped e := rfl
  clear_value popped
  subst hpopped
  have hout : out = s.taking t := rfl
  clear_value out
  subst hout
  have hplain : plain = entryRec s e := rfl
  clear_value plain
  subst hplain
  have hjoined : inFlight = fun y b et => y.joined (s.inFlight e b et) := rfl
  clear_value inFlight
  subst hjoined
  have hwait : wait = s.untilDue e := rfl
  clear_value wait
  subst hwait
  have hx : x = s.ten t := rfl
  clear_value x
  subst hx
  let y := (s.ten t).popped e
  refine ⟨fun (hfly : y.flying e.seq = true) => ?absorbed, fun (hfly : y.flying e.seq = false) =>
    ⟨fun r (hr : y.echoOf e.seq = some r) => ?again, fun (hnew : y.echoOf e.seq = none) hop => ⟨fun h1 h2 => ?gap,
      fun h1 h2 => ?stale, fun h1 h2 => ⟨fun st short hv => ?refused, fun b et hv hb => ?accepted,
        fun x et hv hdue => ?judged⟩⟩,
    fun (hnew : y.echoOf e.seq = none) hop b et hv hb => ?opened⟩⟩
  case absorbed => rw [checkTaken_flying hfly]
  case again => rw [checkTaken_echo hfly hr]
  case gap => rw [checkTaken_gap hfly hnew hop h1 h2]
  case stale => rw [checkTaken_stale hfly hnew hop h1 h2]
  case refused => rw [checkTaken_ahead hfly hnew hop h1 h2, judge_refuses hv]
  case accepted => rw [checkTaken_ahead hfly hnew hop h1 h2, judge_accepts hv, accept_joins hb]
  case judged => rw [checkTaken_ahead hfly hnew hop h1 h2, judge_accepts hv, accept_judges hdue]
  case opened => rw [checkTaken_open hfly hnew hop, judge_accepts hv, accept_joins (.inl hb)]

end Sys2Proof.Machine
end

section
/-! SUPPORT. ABORT, judged by the state of its target and settled by what it found (R83, Table 03-7). -/

namespace Sys2Proof.Machine

/-! ## The command on another tag -/

theorem find_updCmd_other {x : TenantSt} {g k : Tag} (f : InFlight → InFlight) (htag : ∀ d, (f d).tag = d.tag)
    (hk : k ≠ g) : (x.updCmd g f).find k = x.find k := by
  have hkeep : ∀ d : InFlight, ((if d.tag = g then f d else d).tag == k) = (d.tag == k) := fun d => by
    split <;> simp [htag]
  simp only [TenantSt.find, TenantSt.updCmd]
  induction x.inflight with
  | nil => rfl
  | cons d l ih =>
    have hhead : d.tag = k → (if d.tag = g then f d else d) = d := fun hd => if_neg (hd ▸ hk)
    rw [List.map_cons, List.find?_cons, List.find?_cons, hkeep, ih]
    by_cases hd : d.tag = k
    · rw [hhead hd]
    · simp only [beq_false_of_ne hd]

theorem storeEcho_updCmd (x : TenantSt) (g : Tag) (f : InFlight → InFlight) (r : Rec) :
    (x.updCmd g f).storeEcho r = (x.storeEcho r).updCmd g f := by
  have hwin : (x.updCmd g f).inWindow r.seq = x.inWindow r.seq := rfl
  simp only [TenantSt.storeEcho, hwin]
  split <;> rfl

/-- A completion keeps the marks of the commands that stay. -/
theorem answered_of_updCmd (x : TenantSt) (g : Tag) (f : InFlight → InFlight) (htag : ∀ d, (f d).tag = d.tag)
    (d : InFlight) (st : Status) (res : Result) (smp : Smp) :
    (x.updCmd g f).answered d st res smp = (x.answered d st res smp).updCmd g f := by
  have hfilter : (x.updCmd g f).inflight.filter (fun e => e.tag != d.tag) =
      (x.inflight.filter fun e => e.tag != d.tag).map fun e => if e.tag = g then f e else e := by
    rw [TenantSt.updCmd, List.filter_map]
    congr 1
    refine List.filter_congr fun e _ => ?_
    simp only [Function.comp]
    split <;> simp [htag]
  simp only [TenantSt.answered, hfilter, ← storeEcho_updCmd]
  rfl

theorem find_answered_other {x : TenantSt} {d : InFlight} {k : Tag} (hk : k ≠ d.tag) (st : Status) (res : Result)
    (smp : Smp) : (x.answered d st res smp).find k = x.find k := by
  rw [TenantSt.find, TenantSt.find, answered_inflight, List.find?_filter]
  congr 1
  funext e
  by_cases he : e.tag = k <;> simp [he, hk]

/-! ## What an ABORT has found -/

/-- A command marked with what it found. -/
def InFlight.aimed (a : Aim) (c : InFlight) : InFlight := { c with aim := a }

theorem aimAt_eq (s : State) (t : Tenant) (g : Tag) (a : Aim) :
    s.aimAt t g a = s.updTen t fun x => x.updCmd g (InFlight.aimed a) := rfl

theorem aimOf_find {x : TenantSt} {g : Tag} {c : InFlight} (h : x.find g = some c) : x.aimOf g = c.aim := by
  rw [TenantSt.aimOf, h]
  rfl

theorem aimAt_aimOf {s : State} {t : Tenant} {g : Tag} {c : InFlight} (h : (s.ten t).find g = some c) (a : Aim) :
    ((s.aimAt t g a).ten t).aimOf g = a := by
  rw [aimAt_eq, updTen_ten_same]
  exact aimOf_find (find_updCmd (InFlight.aimed a) (fun _ => rfl) h)

theorem aimAt_find_other {s : State} {t : Tenant} {g k : Tag} (hk : k ≠ g) (a : Aim) :
    ((s.aimAt t g a).ten t).find k = (s.ten t).find k := by
  rw [aimAt_eq, updTen_ten_same]
  exact find_updCmd_other (InFlight.aimed a) (fun _ => rfl) hk

theorem aimAt_noAbortWaits {s : State} {t : Tenant} (g : Tag) (a : Aim) (h : (s.ten t).noAbortWaits) :
    ((s.aimAt t g a).ten t).noAbortWaits := by
  rw [aimAt_eq, updTen_ten_same]
  exact updCmd_noAbortWaits g (InFlight.aimed a) (fun _ => ⟨rfl, rfl⟩) h

/-! ## The end of an untaken entry -/

/-- A tenant after the record of an entry that never was in flight, which may move H and the echo store. -/
structure Recorded (e : SqEntry) (r : Rec) (x y : TenantSt) : Prop where
  inflight : y.inflight = x.inflight
  sq : y.sq = x.sq
  cq : y.cq = x.cq ++ [.record r]
  doneTags : y.doneTags = bankPut x.doneTags e.tag.val e.seq

theorem Recorded.storeEcho {e : SqEntry} {r : Rec} {x y : TenantSt} (h : Recorded e r x y) (q : Rec) :
    Recorded e r x (y.storeEcho q) := by
  unfold TenantSt.storeEcho
  split
  · exact ⟨h.inflight, h.sq, h.cq, h.doneTags⟩
  · exact h

theorem recordEntry_recorded (s : State) (t : Tenant) (e : SqEntry) (r : Rec) (used : Bool) :
    Recorded e r (s.ten t) ((recordEntry s t e r used).ten t) := by
  have hwritten : ∀ y : TenantSt, y.inflight = (s.ten t).inflight → y.sq = (s.ten t).sq → y.cq = (s.ten t).cq →
      y.doneTags = bankPut (s.ten t).doneTags e.tag.val e.seq → Recorded e r (s.ten t) (y.writeGroup r []) :=
    fun y hin hsq hcq htags => ⟨hin, hsq, congrArg (· ++ [CqSlot.record r]) hcq, htags⟩
  rw [recordEntry, updTen_ten_same]
  dsimp only
  cases used with
  | false => exact hwritten _ rfl rfl rfl rfl
  | true =>
    refine Recorded.storeEcho ?_ r
    split <;> exact hwritten _ rfl rfl rfl rfl

theorem answered_sq (x : TenantSt) (c : InFlight) (st : Status) (res : Result) (smp : Smp) :
    (x.answered c st res smp).sq = x.sq := by
  simp only [TenantSt.answered, TenantSt.storeEcho]; split <;> rfl

theorem answered_doneTags (x : TenantSt) (c : InFlight) (st : Status) (res : Result) (smp : Smp) :
    (x.answered c st res smp).doneTags = bankPut x.doneTags c.tag.val c.seq := by
  simp only [TenantSt.answered, TenantSt.storeEcho]; split <;> rfl

/-- The queue of a tenant whose command completes OK with 2 bytes. -/
theorem answered_ok_cq (x : TenantSt) (c : InFlight) (q : BitVec 16) (smp : Smp) :
    (x.answered c .ok (.bytes (leBytes 2 q.toNat)) smp).cq =
      x.cq ++ [.record (mkRec c.op (lateStatus c.late .ok) c.seq c.tag c.late (.bytes (leBytes 2 q.toNat)) smp)] := by
  have hlate : (c.late && Status.ok != .aborted && Status.ok != .lost) = c.late := by cases c.late <;> rfl
  have hcont : (Result.bytes (leBytes 2 q.toNat)).cont = [] := by simp [Result.cont, Result.data, leBytes_length]
  rw [answered_cq, hlate, hcont]
  rfl

theorem untaken_tag {x : TenantSt} {g : Tag} {e : SqEntry} (h : x.untaken g = some e) : e.tag = g := by
  have := List.find?_some h
  simp only [Bool.and_eq_true, beq_iff_eq] at this
  exact this.1.1

/-- The effect of an untaken target's end: it leaves the queue with its record (R83). -/
theorem judge_untaken {s : State} {t : Tenant} {g x : Tag} {e : SqEntry} (hnone : (s.ten t).find x = none)
    (he : (s.ten t).untaken x = some e) (hroom : (s.ten t).cqFree ≠ 0) : ∃ used, judgeAbort s t g x =
      recordEntry ((s.aimAt t g (.hit e.seq)).updTen t (·.popped e)) t e (entryRec s e .aborted 0) used := by
  simp only [judgeAbort, hnone, he, hroom, if_false]
  exact ⟨_, rfl⟩

section
variable {s : State} {t : Tenant} {g x : Tag} {c : InFlight} (h : Starts s t g c (.abort x))
include h

theorem Starts.found : (s.ten t).find g = some c := (startable_some h.start).2.2.1

theorem Starts.notRestarting : s.fw.restarting = false := (fwRuns_up (startable_some h.start).1).2

theorem Starts.exec_abort : exec (.abort t g) s = .next (doAbort s t g x) := congrArg Host.Outcome.next (h.onCmd _)

/-- A judged ABORT is settled by what it found. -/
theorem Starts.abort_judged {a : Aim} (ha : c.aim = a) (hne : a ≠ .unjudged) :
    exec (.abort t g) s = .next (settleAbort s t g x a) := by
  rw [h.exec_abort, doAbort, aimOf_find h.found, ha, if_neg hne, aimOf_find h.found, ha]

/-- An unjudged ABORT is judged, and settled by what it then has found. -/
theorem Starts.abort_unjudged (ha : c.aim = .unjudged) : exec (.abort t g) s =
    .next (settleAbort (judgeAbort s t g x) t g x (((judgeAbort s t g x).ten t).aimOf g)) := by
  rw [h.exec_abort, doAbort, aimOf_find h.found, ha, if_pos rfl]

/-- An ABORT that has been marked completes as it would unmarked. -/
theorem Starts.finish_aimed (a : Aim) (st : Status) (res : Result) :
    Machine.finish (s.aimAt t g a) t g st res = s.answer t c st res :=
  finish_updCmd (InFlight.aimed a) (fun _ => ⟨rfl, rfl, rfl⟩) h.notRestarting h.found h.loud h.calm st res

/-- A target that waits completes ABORTED, and leaves the ABORT marked with its number. -/
theorem Starts.judge_waiting (hx : x ≠ g) {d : InFlight} (hd : (s.ten t).find x = some d) (hp : d.phase ≠ .executing)
    (hq : d.quiet = false) : judgeAbort s t g x = (s.answer t d .aborted (.note 0)).aimAt t g (.hit d.seq) := by
  rw [judgeAbort, hd]
  simp only [hp, if_false]
  rw [finish_eq (s := s.aimAt t g (.hit d.seq)) .aborted (.note 0) h.notRestarting ((aimAt_find_other hx _).trans hd) hq
    (aimAt_noAbortWaits g _ h.calm)]
  simp only [aimAt_eq, State.answer, updTen_ten_same, setTen_updTen]
  rw [answered_of_updCmd _ _ (InFlight.aimed _) (fun _ => rfl), State.updTen, setTen_setTen]
  rfl

/-- A target that waits: ABORTED, and then ABORT OK (Table 03-7). -/
theorem Starts.abort_waiting (hx : x ≠ g) (ha : c.aim = .unjudged) {d : InFlight} (hd : (s.ten t).find x = some d)
    (hp : d.phase ≠ .executing) (hq : d.quiet = false) : exec (.abort t g) s =
      .next ((s.answer t d .aborted (.note 0)).answer t c .ok (.bytes (leBytes 2 d.seq.toNat))) := by
  have hfind : ((s.answer t d .aborted (.note 0)).ten t).find g = some c := by
    rw [answer_ten_same, find_answered_other (find_tag hd ▸ hx.symm), h.found]
  have hcalm : ((s.answer t d .aborted (.note 0)).ten t).noAbortWaits := by
    rw [answer_ten_same]
    exact answered_noAbortWaits _ _ _ _ h.calm
  rw [h.abort_unjudged ha, h.judge_waiting hx hd hp hq, aimAt_aimOf hfind, settleAbort, okShort]
  exact congrArg _ (finish_updCmd (s := s.answer t d .aborted (.note 0)) (InFlight.aimed (.hit d.seq))
    (fun _ => ⟨rfl, rfl, rfl⟩) h.notRestarting hfind h.loud hcalm _ _)

/-- A target that executes: ABORT waits behind it (Table 03-7). -/
theorem Starts.abort_executing (hx : x ≠ g) (ha : c.aim = .unjudged) {d : InFlight} (hd : (s.ten t).find x = some d)
    (hp : d.phase = .executing) : exec (.abort t g) s = .next (s.updTen t fun y => y.updCmd g fun e =>
      { e with aim := .ran d.seq, phase := .executing }) := by
  have hjudge : judgeAbort s t g x = s.aimAt t g (.ran d.seq) := by
    rw [judgeAbort, hd]
    simp only [hp, if_true]
  have hruns : (((s.aimAt t g (.ran d.seq)).ten t).find x).any
      (fun e => e.seq == d.seq && e.phase == .executing) = true := by
    rw [aimAt_find_other hx, hd]
    simp [hp]
  rw [h.abort_unjudged ha, hjudge, aimAt_aimOf h.found, settleAbort, if_pos hruns, startLong, aimAt_eq]
  simp only [State.updTen, setTen_ten_same, setTen_setTen, TenantSt.updCmd, List.map_map]
  congr 4
  funext e
  by_cases he : e.tag = g <;> simp [he, InFlight.aimed]

section
variable (ha : c.aim = .unjudged) (hnone : (s.ten t).find x = none)
include ha hnone

/-- No room for the record of an untaken target: ABORT waits (Table 03-7). -/
theorem Starts.abort_noRoom {e : SqEntry} (he : (s.ten t).untaken x = some e) (hroom : (s.ten t).cqFree = 0) :
    exec (.abort t g) s = .next s := by
  have hjudge : judgeAbort s t g x = s := by
    simp only [judgeAbort, hnone, he, hroom, if_true]
  rw [h.abort_unjudged ha, hjudge, aimOf_find h.found, ha, settleAbort]

/-- An untaken target: its ABORTED record and then ABORT OK (Table 03-7). -/
theorem Starts.abort_untaken {e : SqEntry} (he : (s.ten t).untaken x = some e)
    (hroom : (s.ten t).cqFree ≠ 0) : ∃ v y, exec (.abort t g) s =
      .next (v.answer t (c.aimed (.hit e.seq)) .ok (.bytes (leBytes 2 e.seq.toNat))) ∧ v = s.setTen t y ∧
      y.sq = (s.ten t).sq.erase e ∧ y.cq = (s.ten t).cq ++ [.record (entryRec s e .aborted 0)] ∧
      bankGet y.doneTags x.val = some e.seq := by
  obtain ⟨used, hjudge⟩ := judge_untaken (g := g) hnone he hroom
  let w := (s.aimAt t g (.hit e.seq)).updTen t (·.popped e)
  let v := recordEntry w t e (entryRec s e .aborted 0) used
  have hw : w.ten t = ((s.aimAt t g (.hit e.seq)).ten t).popped e := updTen_ten_same ..
  have hrec : Recorded e (entryRec s e .aborted 0) (((s.aimAt t g (.hit e.seq)).ten t).popped e) (v.ten t) :=
    hw ▸ recordEntry_recorded ..
  have hin : (v.ten t).inflight = ((s.aimAt t g (.hit e.seq)).ten t).inflight := hrec.inflight
  have hfind : (v.ten t).find g = some (c.aimed (.hit e.seq)) := by
    rw [TenantSt.find, hin, aimAt_eq, updTen_ten_same]
    exact find_updCmd (InFlight.aimed _) (fun _ => rfl) h.found
  have hcalm : (v.ten t).noAbortWaits := by
    intro d hd
    exact aimAt_noAbortWaits g _ h.calm d (hin ▸ hd)
  refine ⟨v, v.ten t, ?_, ?_, ?_, ?_, ?_⟩
  · rw [h.abort_unjudged ha, hjudge, aimOf_find hfind]
    exact congrArg _ (finish_eq (s := v) .ok _ h.notRestarting hfind h.loud hcalm)
  · simp only [v, w, recordEntry, aimAt_eq, State.updTen, setTen_setTen, setTen_ten_same]
  · rw [hrec.sq, aimAt_eq, updTen_ten_same]
    rfl
  · rw [hrec.cq, aimAt_eq, updTen_ten_same]
    rfl
  · rw [hrec.doneTags, untaken_tag he, bankGet_bankPut_same]

/-- A tag whose command has completed: TOO_LATE (Table 03-7). -/
theorem Starts.abort_done (hx : x ≠ g) {q : BitVec 16} (hfresh : (s.ten t).untaken x = none)
    (hq : bankGet (s.ten t).doneTags x.val = some q) : exec (.abort t g) s =
      .next (s.answer t c .tooLate (.bytes (leBytes 2 q.toNat))) := by
  have hjudge : judgeAbort s t g x = s.aimAt t g (.ran q) := by
    simp only [judgeAbort, hnone, hfresh, hq]
  have hgone : ¬(((s.aimAt t g (.ran q)).ten t).find x).any
      (fun e => e.seq == q && e.phase == .executing) = true := by
    rw [aimAt_find_other hx, hnone]
    simp
  rw [h.abort_unjudged ha, hjudge, aimAt_aimOf h.found, settleAbort, if_neg hgone, h.finish_aimed]

/-- An unknown tag: NOT_FOUND (Table 03-7). -/
theorem Starts.abort_unknown (hfresh : (s.ten t).untaken x = none) (hq : bankGet (s.ten t).doneTags x.val = none) :
    exec (.abort t g) s = .next (s.answer t c .notFound (.note 0)) := by
  have hjudge : judgeAbort s t g x = s.aimAt t g .nothing := by
    simp only [judgeAbort, hnone, hfresh, hq]
  rw [h.abort_unjudged ha, hjudge, aimAt_aimOf h.found, settleAbort, h.finish_aimed]
end

/-- An ABORT that found a command executing waits for it, and is TOO_LATE once it has completed (Table 03-7). -/
theorem Starts.settle_ran (q : BitVec 16) : settleAbort s t g x (.ran q) =
    if ((s.ten t).find x).any (fun d => d.seq == q && d.phase == .executing) then s.executing t g
      else s.answer t c .tooLate (.bytes (leBytes 2 q.toNat)) := by
  rw [settleAbort, startLong_eq, h.finish_self]
end

/-- Settles O21: one lemma for each state of the target (Table 03-7), and one for each of the aims. -/
theorem abortFollowsTheTargetsState : Obligations.AbortFollowsTheTargetsState := by
  intro s t g x c h hx
  dsimp only
  refine ⟨fun ha => ⟨fun d hd hp hq => h.abort_waiting hx ha hd hp hq, fun d hd hp => h.abort_executing hx ha hd hp,
    fun hnone => ⟨fun e he hroom => h.abort_noRoom ha hnone he hroom, fun e he hroom => ?untaken,
      fun hfresh q hq => h.abort_done ha hnone hx hfresh hq, fun hfresh hq => h.abort_unknown ha hnone hfresh hq⟩⟩,
    fun q ha => ?hit, fun q ha => ?ran, fun ha => ?nothing⟩
  case untaken =>
    obtain ⟨v, y, hexec, rfl, hsq, hcq, htags⟩ := h.abort_untaken ha hnone he hroom
    refine ⟨_, hexec, ?_, ?_, ?_, fun w hw => ?_, rfl⟩
    · rw [answer_ten_same, answered_sq, setTen_ten_same, hsq]
    · rw [answer_ten_same, answered_ok_cq, setTen_ten_same, hcq, List.append_assoc, ← h.tag]
      rfl
    · rw [answer_ten_same, answered_doneTags, setTen_ten_same, bankGet_bankPut_other, htags]
      exact fun hval => hx (Fin.ext (hval.trans (congrArg Fin.val h.tag)))
    · rw [answer_ten_other _ _ _ hw, setTen_ten_other _ _ hw]
  case hit => rw [h.abort_judged ha (by simp), settleAbort, okShort, h.finish_self]
  case ran => rw [h.abort_judged ha (by simp), h.settle_ran]
  case nothing => rw [h.abort_judged ha (by simp), settleAbort, h.finish_self]

end Sys2Proof.Machine
end

section
/-! SUPPORT. Resets and boots: what each boot step may touch (Table 13-3), and what the resets from outside leave
(Tables 13-4, 13-5, 12-10). -/

namespace Sys2Proof.Machine

/-! ## The boot steps before FW_UP -/

/-- Memories, vault, calibration and what the firmware keeps alone change, and neither FW_UP, a due reset, the life
count nor the cause of the reset among these. -/
structure BootFrame (s u : State) : Prop where
  rest : u = { s with fw := u.fw, power := u.power, mem := u.mem, vault := u.vault, nvm := u.nvm, cal := u.cal }
  up : u.fw.up = s.fw.up
  resetDue : u.fw.resetDue = s.fw.resetDue
  lifeSec : u.cal.lifeSec = s.cal.lifeSec
  lastReset : u.power.lastReset = s.power.lastReset

theorem BootFrame.refl (s : State) : BootFrame s s := ⟨rfl, rfl, rfl, rfl, rfl⟩

theorem BootFrame.trans {a b c : State} (h : BootFrame a b) (k : BootFrame b c) : BootFrame a c :=
  ⟨by rw [k.rest, h.rest], k.up.trans h.up, k.resetDue.trans h.resetDue, k.lifeSec.trans h.lifeSec,
    k.lastReset.trans h.lastReset⟩

/-- A last step after what went before it. -/
theorem BootFrame.after {a b c : State} (k : BootFrame b c) (h : BootFrame a b) : BootFrame a c := h.trans k

/-- A fold of steps that hold while FW_UP is 0. -/
theorem BootFrame.fold {α : Type} {s : State} (hup : s.fw.up = false) (l : List α) (f : State → α → State)
    (h : ∀ u a, u.fw.up = false → BootFrame u (f u a)) : BootFrame s (foldS l s f) :=
  foldS_keeps (BootFrame s) l f (fun u a hu => hu.trans (h u a (hu.up.trans hup))) (BootFrame.refl s)

theorem fwRuns_down {s : State} (hup : s.fw.up = false) : s.fwRuns = false := by simp [State.fwRuns, hup]

theorem holdEv_boot (s : State) (k : Held) : BootFrame s (holdEv s k) := by
  unfold holdEv
  dsimp only
  split <;> exact ⟨rfl, rfl, rfl, rfl, rfl⟩

theorem steward_down {s : State} (hruns : s.fwRuns = false) (e : Event) (arg : BitVec 16) (cont : List Byte) :
    steward s e arg cont = holdEv s ⟨none, e, arg, cont, s.smp⟩ := if_pos hruns

theorem steward_boot {s : State} (hup : s.fw.up = false) (e : Event) (arg : BitVec 16) (cont : List Byte) :
    BootFrame s (steward s e arg cont) := by
  rw [steward_down (fwRuns_down hup)]
  exact holdEv_boot ..

/-- An error in a memory word counts, and its event is held unless it was raised this second. -/
theorem eccEvent_boot {s : State} (hup : s.fw.up = false) (un : Bool) (bank : Nat) :
    BootFrame s (eccEvent s un bank) := by
  by_cases hc : s.fw.eccRaised.contains ((if un then 512 else 256) + bank) = true
  · rw [eccEvent_eq, if_pos hc]
    exact ⟨rfl, rfl, rfl, rfl, rfl⟩
  · rw [eccEvent_eq, if_neg hc]
    refine BootFrame.after (steward_boot ?_ _ _ _) ⟨rfl, rfl, rfl, rfl, rfl⟩
    exact hup

theorem readErrors_boot {s : State} (hup : s.fw.up = false) (rd : BootRead) : BootFrame s (readErrors s rd) :=
  BootFrame.fold hup _ _ fun u e hu =>
    (eccEvent_boot (s := { u with nvm := u.nvm.spoil e }) hu true 64).after ⟨rfl, rfl, rfl, rfl, rfl⟩

theorem tamperRecord_boot (s : State) : BootFrame s (tamperRecord s) := by
  unfold tamperRecord
  split
  · exact ⟨rfl, rfl, rfl, rfl, rfl⟩
  · exact BootFrame.refl s

theorem landSealed_boot (s : State) (l : SealedLoad) (p : Option (List Byte)) : BootFrame s (landSealed s l p) := by
  unfold landSealed
  dsimp only
  split <;> split <;> exact ⟨rfl, rfl, rfl, rfl, rfl⟩

theorem vaultWipe_boot {s : State} (hup : s.fw.up = false) : BootFrame s (vaultWipe s) := by
  have hzero : ∀ (u : State) (r : Region), u.fw.up = false →
      BootFrame u (waveZero u (waveAddr r.bank r.offset) r.length) :=
    fun _ _ _ => ⟨rfl, rfl, rfl, rfl, rfl⟩
  let u : State := { s with vault := { s.vault with keys := [], kek := none }
                            nvm := { s.nvm with vault := s.nvm.vault.wipe } }
  have hu : BootFrame s u := ⟨rfl, rfl, rfl, rfl, rfl⟩
  exact (hu.trans (BootFrame.fold (hu.up.trans hup) u.mem.seals _ hzero)).trans ⟨rfl, rfl, rfl, rfl, rfl⟩

theorem finishAdvance_boot {s : State} (hup : s.fw.up = false) : BootFrame s (finishAdvance s) := by
  unfold finishAdvance
  split
  · exact (vaultWipe_boot hup).trans ⟨rfl, rfl, rfl, rfl, rfl⟩
  · exact BootFrame.refl s

theorem fillVault_boot (s : State) (warm : Bool) : BootFrame s (fillVault s warm) := ⟨rfl, rfl, rfl, rfl, rfl⟩

theorem calSelect_boot {s : State} (hup : s.fw.up = false) : BootFrame s (calSelect s) := by
  let u : State := { s with cal := { s.cal with trims := s.nvm.cal.newest.getD [] } }
  have hu : BootFrame s u := ⟨rfl, rfl, rfl, rfl, rfl⟩
  have hupU : u.fw.up = false := hup
  unfold calSelect
  dsimp only
  split
  · exact hu.trans (eccEvent_boot hupU ..)
  · split
    · exact hu.trans (steward_boot hupU ..)
    · split
      · exact hu.trans (steward_boot hupU ..)
      · exact hu

theorem setFwBanks_boot {s : State} (hup : s.fw.up = false) : BootFrame s (setFwBanks s) :=
  BootFrame.fold hup _ _ fun _ _ _ => ⟨rfl, rfl, rfl, rfl, rfl⟩

/-! ## Steps 4 to 7 (R303, R317, R343) -/

/-- Step 4: the records that cannot be read, and a tamper that waits for its record. -/
def State.recordsRead (s : State) (rd : BootRead) : State := tamperRecord (readErrors s rd)

/-- Steps 5 to 7: the slot's image runs as far as the lane self-test. -/
def State.imageRuns (s : State) (warm : Bool) (n : Nvm) (b : Bool) : State :=
  let u : State := { s with nvm := n, fw := { s.fw with slotB := b, sram := imageBody (n.slotMem b) } }
  let u := calSelect (fillVault (finishAdvance u) warm)
  let u := if warm ∨ u.fw.slotB = true ∨ u.fwHeld 4 then setFwBanks u else u
  { u with fw := { u.fw with boot := .laneTest warm } }

theorem recordsRead_boot {s : State} (hup : s.fw.up = false) (rd : BootRead) : BootFrame s (s.recordsRead rd) :=
  (readErrors_boot hup rd).trans (tamperRecord_boot _)

theorem recordsRead_clean {s : State} {rd : BootRead} (hlatch : s.vault.latched = none) (hbad : rd.bad = []) :
    s.recordsRead rd = s := by
  simp only [State.recordsRead, readErrors, hbad, foldS_nil, tamperRecord, hlatch]

theorem imageRuns_boot {s : State} (hup : s.fw.up = false) (warm : Bool) (n : Nvm) (b : Bool) :
    BootFrame s (s.imageRuns warm n b) := by
  let u : State := { s with nvm := n, fw := { s.fw with slotB := b, sram := imageBody (n.slotMem b) } }
  have hu : BootFrame s u := ⟨rfl, rfl, rfl, rfl, rfl⟩
  have hfill : BootFrame s (fillVault (finishAdvance u) warm) :=
    (hu.trans (finishAdvance_boot (hu.up.trans hup))).trans (fillVault_boot ..)
  have hcal := hfill.trans (calSelect_boot (hfill.up.trans hup))
  unfold State.imageRuns
  dsimp only
  split
  · exact (hcal.trans (setFwBanks_boot (hcal.up.trans hup))).trans ⟨rfl, rfl, rfl, rfl, rfl⟩
  · exact hcal.trans ⟨rfl, rfl, rfl, rfl, rfl⟩

theorem bootRun_waits {s : State} (h : s.supply.nvm = false) (warm : Bool) (rd : BootRead) :
    bootRun s warm rd = { s with fw := { s.fw with boot := .waitNvm warm } } := if_pos h

theorem bootRun_goes {s : State} (h : s.supply.nvm = true) (warm : Bool) (rd : BootRead) :
    bootRun s warm rd = if (slotBoot (s.recordsRead rd).nvm rd).2.2 = false then
        { s.recordsRead rd with nvm := (slotBoot (s.recordsRead rd).nvm rd).1,
                                fw := { (s.recordsRead rd).fw with boot := .stopped warm } }
      else (s.recordsRead rd).imageRuns warm (slotBoot (s.recordsRead rd).nvm rd).1
        (slotBoot (s.recordsRead rd).nvm rd).2.1 := by
  rw [bootRun, if_neg (by simp [h])]
  unfold State.imageRuns
  rw [← State.recordsRead]
  cases hruns : (slotBoot (s.recordsRead rd).nvm rd).2.2 <;> simp [hruns]

theorem bootRun_boot {s : State} (hup : s.fw.up = false) (warm : Bool) (rd : BootRead) :
    BootFrame s (bootRun s warm rd) := by
  have hread := recordsRead_boot hup rd
  cases hnvm : s.supply.nvm with
  | false => rw [bootRun_waits hnvm]; exact ⟨rfl, rfl, rfl, rfl, rfl⟩
  | true =>
    rw [bootRun_goes hnvm]
    split
    · exact hread.trans ⟨rfl, rfl, rfl, rfl, rfl⟩
    · exact hread.trans (imageRuns_boot (hread.up.trans hup) ..)

theorem bootRun_step {s : State} (h : s.supply.nvm = true) (warm : Bool) (rd : BootRead) :
    (bootRun s warm rd).fw.boot =
      if (slotBoot (s.recordsRead rd).nvm rd).2.2 = false then .stopped warm else .laneTest warm := by
  rw [bootRun_goes h]
  split <;> rfl

/-! ## Resets from outside (Table 13-4, Table 13-5, Table 12-10) -/

/-- The unit as a cold reset leaves it. -/
def ResetTo (s : State) (kind : LastReset) (u : State) : Prop :=
  u.link = {} ∧ u.tenants = [] ∧ u.voices = [] ∧ u.core = { ticks := s.core.ticks } ∧ u.power = { lastReset := kind } ∧
    u.fw.up = false ∧ u.fw.boot = .powering ∧ u.fuse = s.fuse ∧ u.cal.lifeSec = s.cal.lifeSec ∧
    u.cal.equivSec = s.cal.equivSec ∧ u.pending = s.pending

theorem coldReset_resetTo (s : State) (kind : LastReset) (keep : Bool) : ResetTo s kind (coldReset s kind keep) :=
  ⟨rfl, rfl, rfl, rfl, rfl, rfl, rfl, rfl, rfl, rfl, rfl⟩

theorem onLow_short {s : State} {ns : Nat} (h : ns ≤ 990) (f : State → State) : s.onLow ns f = s := by
  rw [State.onLow, if_neg (by omega), if_pos h]

theorem onLow_long {s : State} {ns : Nat} (h : 1010 ≤ ns) (f : State → State) : s.onLow ns f = f s := if_pos h

/-- Before the reset a tamper latches its source and empties the vault. -/
def State.tampered (s : State) (src : TamperSrc) : State :=
  { s with vault := { s.vault with keys := [], kek := none, latched := some src } }

theorem tamper_recorded {s : State} (hnvm : s.supply.nvm = true) (hcore : s.power.enCore = true) (src : TamperSrc) :
    tamper s src = coldReset (tamperRecord (s.tampered src)) .tamper true := by
  have hgo : (s.tampered src).supply.nvm = true ∧ (s.tampered src).power.enCore = true := ⟨hnvm, hcore⟩
  exact congrArg (coldReset · .tamper true) (if_pos hgo)

theorem tamper_latched {s : State} (h : s.supply.nvm = false ∨ s.power.enCore = false) (src : TamperSrc) :
    tamper s src = coldReset (s.tampered src) .tamper true := by
  have hstay : ¬((s.tampered src).supply.nvm = true ∧ (s.tampered src).power.enCore = true) := by
    simpa [State.tampered, or_iff_not_imp_left] using h
  exact congrArg (coldReset · .tamper true) (if_neg hstay)

theorem tamper_resetTo (s : State) (src : TamperSrc) : ResetTo s .tamper (tamper s src) := by
  by_cases h : s.supply.nvm = true ∧ s.power.enCore = true
  · rw [tamper_recorded h.1 h.2]
    exact coldReset_resetTo (tamperRecord (s.tampered src)) .tamper true
  · have hlatch : s.supply.nvm = false ∨ s.power.enCore = false := by
      simpa [or_iff_not_imp_left] using h
    rw [tamper_latched hlatch]
    exact coldReset_resetTo (s.tampered src) .tamper true

theorem tamper_keys (s : State) (src : TamperSrc) : (tamper s src).vault.keys = [] := by
  by_cases h : s.supply.nvm = true ∧ s.power.enCore = true
  · rw [tamper_recorded h.1 h.2]
    rfl
  · have hlatch : s.supply.nvm = false ∨ s.power.enCore = false := by
      simpa [or_iff_not_imp_left] using h
    rw [tamper_latched hlatch]
    rfl

/-- With MRAM in range the tamper is recorded, and both images of the vault are gone. -/
theorem tamper_records {s : State} (hnvm : s.supply.nvm = true) (hcore : s.power.enCore = true) (src : TamperSrc) :
    (tamper s src).nvm.tampered = some src ∧ (tamper s src).nvm.vault.newest = none := by
  rw [tamper_recorded hnvm hcore]
  have hrec : (coldReset (tamperRecord (s.tampered src)) .tamper true).nvm =
      { s.nvm with tamperedRec := s.nvm.tamperedRec.put (some src) true, tamperOwed := true
                   vault := s.nvm.vault.wipe } := rfl
  rw [hrec]
  exact ⟨by simp [Nvm.tampered], newest_wipe _⟩

/-- Without it the source stays latched for the next boot. -/
theorem tamper_latches {s : State} (h : s.supply.nvm = false ∨ s.power.enCore = false) (src : TamperSrc) :
    (tamper s src).vault.latched = some src ∧ (tamper s src).nvm = s.nvm := by
  rw [tamper_latched h]
  exact ⟨rfl, rfl⟩

theorem exec_tamperDetect {s : State} {seen : TamperSeen} {src : TamperSrc} (h : s.tamperSrc seen = some src) :
    exec (.tamperDetect seen) s = .next (tamper s src) := by
  have hseen : tamperSeen s seen = tamper s src := by
    unfold tamperSeen
    simp only [h]
  exact congrArg Host.Outcome.next hseen

/-! ## What the tamper monitors see (Table 12-9) -/

theorem tamperSeen_pin_short {s : State} {ns : Nat} (h : ns ≤ 100) : tamperSeen s (.pin ns) = s := by
  have hsrc : s.tamperSrc (.pin ns) = none := if_neg (by omega)
  simp only [tamperSeen, hsrc]
  exact if_neg (by omega)

theorem tamperSeen_temperature {s : State} {c : Int} (h1 : -40 ≤ c) (h2 : c ≤ 125) :
    tamperSeen s (.temperature c) = s := by
  have hsrc : s.tamperSrc (.temperature c) = none := if_neg (by omega)
  simp only [tamperSeen, hsrc]

section
variable {s : State} {eng : Bool} {mv ns us : Nat} {fall : Option Nat}

theorem powered_false (h : us < 100 ∨ (∃ n, fall = some n ∧ 10000 ≤ n) ∨ (eng = true ∧ s.power.enCore = false)) :
    s.powered eng us fall = false := by
  rcases h with hus | ⟨n, rfl, hn⟩ | ⟨rfl, hcore⟩
  · simp [State.powered, show ¬100 ≤ us by omega]
  · simp [State.powered, show ¬n < 10000 by omega]
  · simp [State.powered, hcore]

theorem tamperSeen_glitch_unpowered
    (h : us < 100 ∨ (∃ n, fall = some n ∧ 10000 ≤ n) ∨ (eng = true ∧ s.power.enCore = false)) :
    tamperSeen s (.glitch eng mv ns us fall) = s := by
  have hsrc : s.tamperSrc (.glitch eng mv ns us fall) = none := by
    simp [State.tamperSrc, powered_false h]
  simp only [tamperSeen, hsrc]

theorem powered_true (hus : 100 ≤ us) (hfall : ∀ n, fall = some n → n < 10000)
    (heng : eng = true → s.power.enCore = true) : s.powered eng us fall = true := by
  cases fall <;> cases eng <;> simp_all [State.powered]

theorem tamperSrc_glitch (hns : 20 ≤ ns) (hus : 100 ≤ us) (hfall : ∀ n, fall = some n → n < 10000)
    (heng : eng = true → s.power.enCore = true) (hmv : if eng then mv < 650 ∨ 850 < mv else mv < 700 ∨ 900 < mv) :
    s.tamperSrc (.glitch eng mv ns us fall) = some .glitch := by
  refine if_pos ⟨?_, hns, powered_true hus hfall heng⟩
  cases eng <;> simpa using hmv
end

/-! ## A warm reset (R323 to R325) -/

/-- The unit as a warm reset finds it, before the boot goes on. -/
theorem warmReset_boot (s : State) (rd : BootRead) : ∃ w : State, BootFrame w (warmReset s rd) ∧
    w.link.unitAddr = s.link.unitAddr ∧ w.power.lastReset = .warm ∧ w.fw.up = false ∧ w.fw.resetDue = false ∧
      w.voices = [] ∧ w.fuse = s.fuse ∧ w.cal.lifeSec = s.cal.lifeSec := by
  have hloads : BootFrame s (foldS s.mem.loads s fun s l => landSealed s l none) :=
    foldS_keeps (BootFrame s) _ _ (fun u l hu => hu.trans (landSealed_boot u l none)) (BootFrame.refl s)
  have hlink : (foldS s.mem.loads s fun s l => landSealed s l none).link = s.link := by rw [hloads.rest]
  have hfuse : (foldS s.mem.loads s fun s l => landSealed s l none).fuse = s.fuse := by rw [hloads.rest]
  unfold warmReset
  exact ⟨_, bootRun_boot rfl true rd, by rw [← hlink], rfl, rfl, rfl, rfl, hfuse, hloads.lifeSec⟩

end Sys2Proof.Machine
end

section
/-! SUPPORT. The firmware stops, returns and comes up: every tenant's state, the entries that are lost, the lanes that
failed (R85, R166, R324). -/

namespace Sys2Proof.Machine

/-! ## What leaves every tenant's state -/

/-- FW_UP, the boot, a restart and the state of every tenant are as they were. -/
structure Standing (s u : State) : Prop where
  up : u.fw.up = s.fw.up
  boot : u.fw.boot = s.fw.boot
  restarting : u.fw.restarting = s.fw.restarting
  st : ∀ w, (u.ten w).st = (s.ten w).st

theorem Standing.refl (s : State) : Standing s s := ⟨rfl, rfl, rfl, fun _ => rfl⟩

theorem Standing.trans {a b c : State} (h : Standing a b) (k : Standing b c) : Standing a c :=
  ⟨k.up.trans h.up, k.boot.trans h.boot, k.restarting.trans h.restarting, fun w => (k.st w).trans (h.st w)⟩

theorem Standing.fold {α : Type} (l : List α) (f : State → α → State) (h : ∀ s a, Standing s (f s a)) (s : State) :
    Standing s (foldS l s f) :=
  foldS_keeps (Standing s) l f (fun u a hu => hu.trans (h u a)) (Standing.refl s)

/-- What changes neither the firmware nor a tenant. -/
theorem Standing.of_eq {s u : State} (hfw : u.fw = s.fw) (hten : u.tenants = s.tenants) : Standing s u :=
  ⟨by rw [hfw], by rw [hfw], by rw [hfw], fun w => by rw [State.ten, State.ten, hten]⟩

theorem updTen_standing (s : State) (t : Tenant) (f : TenantSt → TenantSt) (hf : ∀ x, (f x).st = x.st) :
    Standing s (s.updTen t f) := by
  refine ⟨rfl, rfl, rfl, fun w => ?_⟩
  by_cases hw : w = t
  · rw [hw, updTen_ten_same, hf]
  · rw [updTen_ten_other _ _ hw]

theorem raiseEv_st (x : TenantSt) (e : Event) (arg : BitVec 16) (cont : List Byte) (tide : Smp) :
    (x.raiseEv e arg cont tide).st = x.st := by
  unfold TenantSt.raiseEv; split <;> rfl

theorem storeEcho_st (x : TenantSt) (r : Rec) : (x.storeEcho r).st = x.st := by
  unfold TenantSt.storeEcho; split <;> rfl

theorem holdEv_standing (s : State) (k : Held) : Standing s (holdEv s k) := by
  unfold holdEv
  dsimp only
  split <;> exact ⟨rfl, rfl, rfl, fun _ => rfl⟩

theorem stewardAt_standing (s : State) (e : Event) (arg : BitVec 16) (cont : List Byte) (tide : Smp) :
    Standing s (stewardAt s e arg cont tide) := by
  unfold stewardAt
  split
  · exact holdEv_standing ..
  · split
    · exact ⟨rfl, rfl, rfl, fun _ => rfl⟩
    · exact updTen_standing _ _ _ fun _ => raiseEv_st ..

theorem steward_standing (s : State) (e : Event) (arg : BitVec 16) (cont : List Byte) :
    Standing s (steward s e arg cont) := stewardAt_standing ..

theorem raiseToAt_standing (s : State) (t : Tenant) (e : Event) (arg : BitVec 16) (cont : List Byte) (tide : Smp) :
    Standing s (raiseToAt s t e arg cont tide) := by
  unfold raiseToAt
  split
  · exact holdEv_standing ..
  · split
    · exact Standing.refl s
    · exact updTen_standing _ _ _ fun _ => raiseEv_st ..

/-- One kept event is raised. -/
def raiseKept (s : State) (k : Held) : State :=
  match k.dest with
  | some t => raiseToAt s t k.ev k.arg k.cont k.tide
  | none => stewardAt s k.ev k.arg k.cont k.tide

theorem raiseHeld_eq (s : State) :
    raiseHeld s = foldS s.fw.held { s with fw := { s.fw with held := [] } } raiseKept := rfl

theorem raiseKept_standing (s : State) (k : Held) : Standing s (raiseKept s k) := by
  unfold raiseKept
  split
  · exact raiseToAt_standing ..
  · exact stewardAt_standing ..

theorem raiseKept_eventFrame (s : State) (k : Held) : EventFrame s (raiseKept s k) := by
  unfold raiseKept
  split
  · obtain ⟨a, b, p, h⟩ := raiseToAt_frame s _ k.ev k.arg k.cont k.tide
    rw [h]
    rfl
  · obtain ⟨a, b, p, h⟩ := stewardAt_frame s k.ev k.arg k.cont k.tide
    rw [h]
    rfl

theorem raiseHeld_standing (s : State) : Standing s (raiseHeld s) := by
  rw [raiseHeld_eq]
  exact Standing.trans (b := { s with fw := { s.fw with held := [] } }) ⟨rfl, rfl, rfl, fun _ => rfl⟩
    (Standing.fold _ _ raiseKept_standing _)

theorem raiseHeld_eventFrame (s : State) : EventFrame s (raiseHeld s) := by
  rw [raiseHeld_eq]
  exact EventFrame.trans (b := { s with fw := { s.fw with held := [] } }) rfl
    (EventFrame.fold _ _ raiseKept_eventFrame _)

/-- The field die's hold has told what it recorded. -/
def State.holdTold (s : State) : State :=
  { s with field := { s.field with hold := s.field.hold.map fun h => { h with owed := [] } } }

/-- Each fault of the hold is raised. -/
def State.holdFaults (s : State) : State :=
  foldS ((s.field.hold.map (·.owed)).getD []) s.holdTold fun s n => cvFault s n 4

/-- The loss of the hold is known. -/
def State.holdLossKnown (s : State) : State := { s with field := { s.field with holdLost := false } }

theorem holdEvents_eq (s : State) : holdEvents s =
    if s.holdFaults.field.holdLost then steward s.holdFaults.holdLossKnown .fieldFault 1 [] else s.holdFaults := rfl

theorem holdFaults_standing (s : State) : Standing s s.holdFaults :=
  Standing.trans (b := s.holdTold) (Standing.of_eq rfl rfl) (Standing.fold _ _ (fun _ _ => steward_standing ..) _)

theorem holdEvents_standing (s : State) : Standing s (holdEvents s) := by
  rw [holdEvents_eq]
  split
  · exact ((holdFaults_standing s).trans (Standing.of_eq (u := s.holdFaults.holdLossKnown) rfl rfl)).trans
      (steward_standing ..)
  · exact holdFaults_standing s

theorem EventFrame.alloc {s u : State} (h : EventFrame s u) : u.alloc = s.alloc := by
  rw [h]

theorem holdFaults_alloc (s : State) : s.holdFaults.alloc = s.alloc :=
  (EventFrame.fold _ _ (fun _ _ => steward_eventFrame ..) s.holdTold).alloc

theorem holdEvents_alloc (s : State) : (holdEvents s).alloc = s.alloc := by
  rw [holdEvents_eq]
  split
  · exact (steward_eventFrame ..).alloc.trans (holdFaults_alloc s)
  · exact holdFaults_alloc s

/-! ## LOST records (R85, R324) -/

theorem commitOne_standing (s : State) (t : Tenant) (g : Tag) (st : Status) (res : Result) :
    Standing s (commitOne s t g st res) := by
  unfold commitOne
  split
  · exact Standing.refl s
  · refine updTen_standing _ _ _ fun x => ?_
    dsimp only
    rw [storeEcho_st]
    split <;> rfl

theorem loseInFlight_standing (s : State) (t : Tenant) (g : Tag) : Standing s (loseInFlight s t g) :=
  (updTen_standing s t (TenantSt.updCmd · g fun c => { c with execAt := none }) fun _ => rfl).trans
    (commitOne_standing ..)

theorem recordEntry_standing (s : State) (t : Tenant) (e : SqEntry) (r : Rec) (used : Bool) :
    Standing s (recordEntry s t e r used) := by
  refine updTen_standing s t _ fun x => ?_
  cases used with
  | false => rfl
  | true =>
    refine (storeEcho_st ..).trans ?_
    dsimp only [TenantSt.writeGroup]
    split <;> rfl

theorem loseEntry_standing (s : State) (t : Tenant) (e : SqEntry) : Standing s (loseEntry s t e) := by
  unfold loseEntry
  dsimp only
  split
  · exact updTen_standing s t _ fun _ => rfl
  · split
    · exact Standing.refl s
    · exact (updTen_standing s t (·.popped e) fun _ => rfl).trans (recordEntry_standing ..)

theorem loseTag_standing (t : Tenant) (s : State) (g : Nat) : Standing s (loseTag t s g) :=
  (loseInFlight_standing s t _).trans (Standing.fold _ _ (fun _ _ => loseEntry_standing ..) _)

theorem loseAll_standing (s : State) (t : Tenant) : Standing s (loseAll s t) :=
  Standing.fold _ _ (loseTag_standing t) s

/-! ## A change of every tenant's state -/

/-- A walk over tenants that changes the state of each it meets alone, and the same when it meets it again. -/
theorem foldS_tenantSt (f : State → Tenant → State) (F : TState → TState) (hF : ∀ x, F (F x) = F x)
    (h : ∀ s t w, ((f s t).ten w).st = if w = t then F (s.ten w).st else (s.ten w).st) (l : List Tenant) (s : State)
    (w : Tenant) : ((foldS l s f).ten w).st = if w ∈ l then F (s.ten w).st else (s.ten w).st := by
  induction l generalizing s with
  | nil => simp
  | cons t l ih =>
    rw [foldS_cons, ih, h]
    by_cases hw : w = t
    · subst hw; by_cases hl : w ∈ l <;> simp [hl, hF]
    · simp [hw]

/-- The state of a tenant after the firmware has returned (R85). -/
def TState.returned (x : TState) : TState := if x = .closed then .closed else .faulted

theorem returnTenant_st (s : State) (t w : Tenant) :
    ((returnTenant s t).ten w).st = if w = t then (s.ten w).st.returned else (s.ten w).st := by
  unfold returnTenant
  by_cases hc : (s.ten t).st = .closed
  · rw [if_pos hc]
    by_cases hw : w = t
    · simp [hw, hc, TState.returned]
    · simp [hw]
  · rw [if_neg hc]
    dsimp only
    by_cases hw : w = t
    · subst hw
      rw [updTen_ten_same]
      simp [hc, TState.returned]
    · rw [updTen_ten_other _ _ hw, if_neg hw, (loseAll_standing s t).st]

theorem returnTenants_st (s : State) (w : Tenant) :
    ((foldS allTenants s returnTenant).ten w).st = (s.ten w).st.returned := by
  rw [foldS_tenantSt returnTenant TState.returned _ returnTenant_st, if_pos (mem_allTenants w)]
  intro x
  cases x <;> rfl

theorem closeAfterWarm_st (s : State) (t w : Tenant) :
    ((closeAfterWarm s t).ten w).st = if w = t then .closed else (s.ten w).st := by
  unfold closeAfterWarm
  by_cases hc : (s.ten t).st = .closed
  · rw [if_pos hc]
    by_cases hw : w = t
    · simp [hw, hc]
    · simp [hw]
  · rw [if_neg hc]
    dsimp only
    by_cases hw : w = t
    · subst hw
      rw [updTen_ten_same, if_pos rfl]
    · rw [updTen_ten_other _ _ hw, if_neg hw]
      exact (Standing.fold _ _ (fun u g => loseInFlight_standing u t g) s).st w

theorem closeAllAfterWarm_st (s : State) (w : Tenant) : ((foldS allTenants s closeAfterWarm).ten w).st = .closed := by
  rw [foldS_tenantSt closeAfterWarm (fun _ => .closed) (fun _ => rfl) closeAfterWarm_st, if_pos (mem_allTenants w)]

theorem loseInFlight_tenantsOnly (s : State) (t : Tenant) (g : Tag) : TenantsOnly s (loseInFlight s t g) :=
  commitOne_frame ..

theorem updTen_tenantsOnly (s : State) (t : Tenant) (f : TenantSt → TenantSt) : TenantsOnly s (s.updTen t f) := rfl

theorem closeAfterWarm_tenantsOnly (s : State) (t : Tenant) : TenantsOnly s (closeAfterWarm s t) := by
  unfold closeAfterWarm
  split
  · exact TenantsOnly.refl s
  · exact (TenantsOnly.fold _ _ (fun u g => loseInFlight_tenantsOnly u t g) s).trans (updTen_tenantsOnly ..)

/-! ## The control processor stops (R85) -/

/-- Voices, the ring and the field die's gates alone change. -/
def SoundFrame (s u : State) : Prop :=
  u = { s with voices := u.voices, slots := u.slots, ring := u.ring, field := u.field }

theorem SoundFrame.refl (s : State) : SoundFrame s s := rfl

theorem SoundFrame.trans {a b c : State} (h : SoundFrame a b) (k : SoundFrame b c) : SoundFrame a c := by
  unfold SoundFrame at *
  rw [k, h]

theorem SoundFrame.fold {α : Type} (l : List α) (f : State → α → State) (h : ∀ s a, SoundFrame s (f s a)) (s : State) :
    SoundFrame s (foldS l s f) :=
  foldS_keeps (SoundFrame s) l f (fun u a hu => hu.trans (h u a)) (SoundFrame.refl s)

theorem ringEnded_sound (s : State) (o : Nat) (t : Tenant) (id : BitVec 32) (stolen : Bool) :
    SoundFrame s (ringEnded s o t id stolen) := by
  unfold ringEnded
  dsimp only
  split
  · exact SoundFrame.refl s
  · split <;> rfl

theorem dropStart_sound (s : State) (v : Voice) : SoundFrame s (dropStart s v) := by
  have hclear : SoundFrame s (s.clearVoice v) := rfl
  unfold dropStart
  split
  · dsimp only
    split
    · exact hclear
    · exact hclear.trans (ringEnded_sound ..)
  · exact SoundFrame.refl s

theorem dropStarts_sound (s : State) : SoundFrame s (dropStarts s) :=
  (SoundFrame.fold s.voices _ dropStart_sound s).trans rfl

theorem updGt_sound (s : State) (n : Nat) (f : GateOut → GateOut) : SoundFrame s (s.updGt n f) := rfl

theorem lossRelease_sound (s : State) : SoundFrame s (lossRelease s) :=
  SoundFrame.trans (b := { s with voices := s.voices.map fun v => if v.sounds then releaseVoice v 0 else v,
                                  field := { s.field with pendGate := [] } }) rfl
    (SoundFrame.fold _ _ (fun u n => updGt_sound u n _) _)

/-- A tenant whose published entries are to be answered LOST. -/
def TenantSt.entriesLost (x : TenantSt) : TenantSt :=
  if x.st = .closed then x else { x with sq := x.sq.map fun e => { e with lost := true } }

theorem entriesLost_idem (x : TenantSt) : x.entriesLost.entriesLost = x.entriesLost := by
  unfold TenantSt.entriesLost
  by_cases h : x.st = .closed <;> simp [h, Function.comp_def]

theorem entriesLost_spec (x : TenantSt) :
    x.entriesLost.st = x.st ∧ (x.st ≠ .closed → ∀ e ∈ x.entriesLost.sq, e.lost = true) := by
  unfold TenantSt.entriesLost
  by_cases h : x.st = .closed
  · simp [h]
  · rw [if_neg h]
    refine ⟨rfl, fun _ e he => ?_⟩
    obtain ⟨d, _, rfl⟩ := List.mem_map.mp he
    rfl

/-- The firmware has stopped: every published entry is lost. -/
def State.stopped (s : State) : State :=
  foldS allTenants { s with fw := { s.fw with restarting := true } } fun s t => s.updTen t TenantSt.entriesLost

theorem stopped_tenantsOnly (s : State) : TenantsOnly { s with fw := { s.fw with restarting := true } } s.stopped :=
  TenantsOnly.fold _ _ (fun u t => updTen_tenantsOnly u t _) _

theorem stopped_ten (s : State) (w : Tenant) : s.stopped.ten w = (s.ten w).entriesLost := by
  rw [State.stopped, foldS_updTen_ten _ _ entriesLost_idem, if_pos (mem_allTenants w)]
  rfl


theorem watchdog_down {s : State} (h : s.fwRuns = false) : watchdog s = s := if_neg (by simp [h])

/-- A restart: the entries are lost, and the loss action touches sound alone. -/
theorem watchdog_sound {s : State} (h : s.fwRuns = true) : SoundFrame s.stopped (watchdog s) := by
  have hdrop := dropStarts_sound s.stopped
  rw [watchdog, if_pos h]
  change SoundFrame s.stopped (if (dropStarts s.stopped).core.lossHold then dropStarts s.stopped
    else lossRelease (dropStarts s.stopped))
  split
  · exact hdrop
  · exact hdrop.trans (lossRelease_sound _)

/-- The unit after a restart has begun. -/
structure Restarted (s u : State) : Prop where
  restarting : u.fw.restarting = true
  ten : ∀ w, u.ten w = (s.ten w).entriesLost

theorem watchdog_restarted {s : State} (h : s.fwRuns = true) :
    Restarted s (watchdog s) ∧ (watchdog s).mem = s.mem := by
  have hsound := watchdog_sound h
  have hstop := stopped_tenantsOnly s
  have hfw : (watchdog s).fw = s.stopped.fw := by rw [hsound]
  have hten : (watchdog s).tenants = s.stopped.tenants := by rw [hsound]
  have hmem : (watchdog s).mem = s.stopped.mem := by rw [hsound]
  refine ⟨⟨?_, fun w => ?_⟩, ?_⟩
  · rw [hfw, hstop]
  · rw [State.ten, hten]
    exact stopped_ten s w
  · rw [hmem, hstop]

theorem notRuns_of_restarting {s : State} (h : s.fw.restarting = true) : s.fwRuns = false := by
  simp [State.fwRuns, h]

/-- What waits for the firmware changes no tenant. -/
theorem holdEv_restarted {s u : State} (h : Restarted s u) (k : Held) : Restarted s (holdEv u k) := by
  obtain ⟨b, p, hk⟩ := holdEv_frame u k
  refine ⟨(holdEv_standing u k).restarting.trans h.restarting, fun w => ?_⟩
  rw [hk]
  exact h.ten w

theorem steward_restarted {s u : State} (h : Restarted s u) (e : Event) (arg : BitVec 16) (cont : List Byte) :
    Restarted s (steward u e arg cont) := by
  rw [steward_down (notRuns_of_restarting h.restarting)]
  exact holdEv_restarted h _

theorem eccEvent_restarted {s u : State} (h : Restarted s u) (un : Bool) (bank : Nat) :
    Restarted s (eccEvent u un bank) := by
  by_cases hc : u.fw.eccRaised.contains ((if un then 512 else 256) + bank) = true
  · rw [eccEvent_eq, if_pos hc]
    exact ⟨h.restarting, h.ten⟩
  · rw [eccEvent_eq, if_neg hc]
    refine steward_restarted ?_ _ _ _
    exact ⟨h.restarting, h.ten⟩

/-- The state a restart leaves, by what caused it. -/
def restartBy (s : State) (bad : Option (Fin 8)) : State :=
  match bad with
  | some n => if s.fwRuns then eccEvent (watchdog s) true (32 + n.val) else s
  | none => watchdog s

theorem exec_ctlWatchdogRestart (s : State) (bad : Option (Fin 8)) :
    exec (.ctlWatchdogRestart bad) s = .next (restartBy s bad) := rfl

theorem restartBy_down {s : State} (h : s.fwRuns = false) (bad : Option (Fin 8)) : restartBy s bad = s := by
  cases bad with
  | none => exact watchdog_down h
  | some n => exact if_neg (by simp [h])

theorem restartBy_restarted {s : State} (h : s.fwRuns = true) (bad : Option (Fin 8)) :
    Restarted s (restartBy s bad) ∧
      (restartBy s bad).mem.eccUncorrected = s.mem.eccUncorrected + (if bad.isSome then 1 else 0) := by
  obtain ⟨hdog, hmem⟩ := watchdog_restarted h
  cases bad with
  | none => exact ⟨hdog, (congrArg Mem.eccUncorrected hmem).trans (by simp)⟩
  | some n =>
    have hby : restartBy s (some n) = eccEvent (watchdog s) true (32 + n.val) := if_pos h
    rw [hby, eccEvent_eccUncorrected, hmem]
    exact ⟨eccEvent_restarted hdog true _, rfl⟩

/-! ## The firmware returns (R85) -/

/-- What every element of a fold keeps of a state, the fold keeps. -/
theorem foldS_same {α β : Type} (P : State → β) (l : List α) (f : State → α → State) (h : ∀ s a, P (f s a) = P s)
    (s : State) : P (foldS l s f) = P s :=
  foldS_keeps (fun u => P u = P s) l f (fun u a hu => (h u a).trans hu) rfl

theorem landSealed_tenants (s : State) (l : SealedLoad) (p : Option (List Byte)) :
    (landSealed s l p).tenants = s.tenants ∧ (landSealed s l p).fw = s.fw := by
  unfold landSealed
  dsimp only
  split <;> split <;> exact ⟨rfl, rfl⟩

/-- The spilled notes of a tenant forget their commands. -/
def forgetRefs (s : State) (t : Tenant) : State :=
  s.updTen t fun x => { x with spilledOut := x.spilledOut.map fun o => { o with ref := none } }

/-- The loads have ended, and the spilled notes have forgotten their commands. -/
def State.refsForgotten (s : State) : State :=
  foldS allTenants (foldS s.mem.loads s fun s l => landSealed s l none) forgetRefs

theorem refsForgotten_standing (s : State) : Standing s s.refsForgotten :=
  (Standing.fold s.mem.loads _
    (fun u l => Standing.of_eq (landSealed_tenants u l none).2 (landSealed_tenants u l none).1) s).trans
    (Standing.fold allTenants forgetRefs (fun u t => updTen_standing u t _ fun _ => rfl) _)

theorem dropRefs_tenants (s : State) : (dropRefs s).tenants = s.refsForgotten.tenants := by
  unfold dropRefs
  dsimp only
  rw [foldS_same State.tenants, foldS_same State.tenants]
  · rfl
  · exact fun _ _ => rfl
  · exact fun _ _ => rfl

theorem dropRefs_fw (s : State) : (dropRefs s).fw = s.refsForgotten.fw := by
  unfold dropRefs
  dsimp only
  rw [foldS_same State.fw, foldS_same State.fw]
  · rfl
  · exact fun _ _ => rfl
  · exact fun _ _ => rfl

theorem dropRefs_standing (s : State) : Standing s (dropRefs s) :=
  (refsForgotten_standing s).trans (Standing.of_eq (dropRefs_fw s) (dropRefs_tenants s))

theorem firmwareReturn_none {s : State} (h : s.fw.restarting = false) : firmwareReturn s = s := if_neg (by simp [h])

/-- The firmware runs again, FW_READY is set, and the key state is to be seeded again. -/
def State.returning (s : State) : State :=
  { s with fw := { s.fw with restarting := false }, link := { s.link with fwReady := true }
           scan := { s.scan with reseed := true } }

theorem firmwareReturn_eq {s : State} (h : s.fw.restarting = true) :
    firmwareReturn s = raiseHeld (dropRefs (foldS allTenants s.returning returnTenant)) := if_pos h

theorem returnTenant_restarting (s : State) (t : Tenant) :
    (returnTenant s t).fw.restarting = s.fw.restarting := by
  unfold returnTenant
  split
  · rfl
  · dsimp only
    rw [updTen_fw, (loseAll_standing s t).restarting]

theorem firmwareReturn_returns {s : State} (h : s.fw.restarting = true) :
    (firmwareReturn s).fw.restarting = false ∧ (firmwareReturn s).link.fwReady = true ∧
      ∀ w, ((firmwareReturn s).ten w).st = (s.ten w).st.returned := by
  have htold := (dropRefs_standing (foldS allTenants s.returning returnTenant)).trans (raiseHeld_standing _)
  rw [firmwareReturn_eq h]
  refine ⟨?_, ?_, fun w => ?_⟩
  · rw [htold.restarting, foldS_same (fun u => u.fw.restarting) _ _ returnTenant_restarting]
    rfl
  · rw [raiseHeld_link, dropRefs_link, foldS_link returnTenant_link]
    rfl
  · rw [htold.st, returnTenants_st]
    rfl

/-! ## The boot ends (Table 13-3 step 9, R166, R324) -/

theorem updLane_lane_other {s : State} {n m : Nat} (f : Lane → Lane) (h : m ≠ n) :
    (s.updLane n f).alloc.lane m = s.alloc.lane m := by
  simp [Alloc.lane, State.updLane, bankAt_bankPut_other _ _ _ h]

theorem bootLane_same (fails : BitVec 8) (s : State) (n : Nat) :
    fails.getLsbD n = true → ((bootLane fails s n).alloc.lane n).st = .parked := by
  intro hfail
  rw [bootLane, if_pos hfail, (steward_eventFrame ..).alloc, updLane_lane_same]

theorem bootLane_other (fails : BitVec 8) (s : State) (n m : Nat) (h : m ≠ n) :
    (bootLane fails s n).alloc.lane m = s.alloc.lane m := by
  unfold bootLane
  split
  · rw [(steward_eventFrame ..).alloc, updLane_lane_other _ h]
  · rfl

/-- The lanes have been tested: those that fail are parked (R166). -/
theorem lanesTested (fails : BitVec 8) (s : State) (n : Fin 8) (h : fails.getLsbD n.val = true) :
    ((foldS (List.range 8) s (bootLane fails)).alloc.lane n.val).st = .parked :=
  foldS_range_inside (fun u k => u.alloc.lane k) (bootLane fails)
    (fun k _ l => fails.getLsbD k = true → l.st = .parked) (fun u k => bootLane_same fails u k)
    (fun u k m => bootLane_other fails u k m) s n.isLt h

/-- FW_UP is 1. -/
def State.booted (s : State) : State :=
  { s with fw := { s.fw with up := true, boot := .done }, link := { s.link with fwReady := true } }

/-- The end of a boot, once the lanes have been tested. -/
def State.bootEnds (s : State) (rd : BootRead) : State :=
  holdEvents (raiseHeld (foldS allTenants (confirmSlot s.booted rd) closeAfterWarm))

theorem confirmSlot_keeps (s : State) (rd : BootRead) :
    (confirmSlot s rd).fw = s.fw ∧ (confirmSlot s rd).alloc = s.alloc := by
  unfold confirmSlot
  dsimp only
  split <;> exact ⟨rfl, rfl⟩

theorem bootEnds_ends (s : State) (rd : BootRead) :
    (s.bootEnds rd).fw.up = true ∧ (s.bootEnds rd).fw.boot = .done ∧ (s.bootEnds rd).link.fwReady = true ∧
      (∀ w, ((s.bootEnds rd).ten w).st = .closed) ∧ (s.bootEnds rd).alloc = s.alloc := by
  obtain ⟨hfw, halloc⟩ := confirmSlot_keeps s.booted rd
  have hclose := TenantsOnly.fold allTenants closeAfterWarm closeAfterWarm_tenantsOnly (confirmSlot s.booted rd)
  have hclosefw : (foldS allTenants (confirmSlot s.booted rd) closeAfterWarm).fw = s.booted.fw := by
    rw [hclose]
    exact hfw
  have htold := (raiseHeld_standing (foldS allTenants (confirmSlot s.booted rd) closeAfterWarm)).trans
    (holdEvents_standing _)
  refine ⟨?_, ?_, ?_, fun w => ?_, ?_⟩
  · rw [State.bootEnds, htold.up, hclosefw]
    rfl
  · rw [State.bootEnds, htold.boot, hclosefw]
    rfl
  · rw [State.bootEnds, holdEvents_link, raiseHeld_link, hclose.link, confirmSlot_link]
    rfl
  · rw [State.bootEnds, htold.st, closeAllAfterWarm_st]
  · rw [State.bootEnds, holdEvents_alloc, (raiseHeld_eventFrame _).alloc, hclose.eventFrame.alloc, halloc]
    rfl

/-- A boot completes from the state in which its lanes can be tested. -/
def State.toTest (s : State) (rd : BootRead) : State := if s.fw.boot = .powering then coldBoot s rd else s

theorem bootComplete_ends {s : State} {rd : BootRead} {w : Bool} (h : (s.toTest rd).fw.boot = .laneTest w)
    (fails : BitVec 8) :
    bootComplete s fails rd = (foldS (List.range 8) (s.toTest rd) (bootLane fails)).bootEnds rd := by
  unfold bootComplete
  rw [← State.toTest]
  simp only [h]
  rfl

theorem bootComplete_waits {s : State} {rd : BootRead} (h : ∀ w, (s.toTest rd).fw.boot ≠ .laneTest w)
    (fails : BitVec 8) : bootComplete s fails rd = s.toTest rd := by
  unfold bootComplete
  rw [← State.toTest]
  dsimp only
  split
  next w hw => exact absurd hw (h w)
  next => rfl

/-! ## Where a boot gets to (R317, R343) -/

/-- VDD_ENG is in range. -/
def State.coreUp (s : State) : State :=
  { s with power := { s.power with enCore := true }, link := { s.link with up := true } }

theorem toTest_powering {s : State} (h : s.fw.boot = .powering) (rd : BootRead) :
    s.toTest rd = bootRun s.coreUp false rd := if_pos h

theorem toTest_other {s : State} (h : s.fw.boot ≠ .powering) (rd : BootRead) : s.toTest rd = s := if_neg h

theorem bootComplete_over {s : State} {up : Bool} (h : s.fw.boot = .done ∨ s.fw.boot = .stopped up) (fails : BitVec 8)
    (rd : BootRead) : bootComplete s fails rd = s := by
  have hpow : s.fw.boot ≠ .powering := by rcases h with h | h <;> simp [h]
  rw [bootComplete_waits, toTest_other hpow]
  intro w
  rw [toTest_other hpow]
  rcases h with h | h <;> simp [h]

theorem exec_vddNvm_waiting {s : State} {w : Bool} (h : s.fw.boot = .waitNvm w) (rd : BootRead) :
    exec (.vddNvmInRange rd) s =
      .next (bootRun { s with supply := { s.supply with nvm := true } } w rd) := by
  change execVddNvmInRange rd s = _
  simp only [execVddNvmInRange, h]

theorem exec_vddNvm_over {s : State} {up : Bool} (h : s.fw.boot = .done ∨ s.fw.boot = .stopped up) (rd : BootRead) :
    exec (.vddNvmInRange rd) s = .next { s with supply := { s.supply with nvm := true } } := by
  change execVddNvmInRange rd s = _
  rcases h with h | h <;> simp only [execVddNvmInRange, h]

theorem exec_vddEngTimeout_over {s : State} {up : Bool} (h : s.fw.boot = .done ∨ s.fw.boot = .stopped up) :
    exec .vddEngTimeout s = .next s := by
  have hno : ¬(s.fw.boot = .powering ∨ s.fw.boot = .laneTest false) := by rcases h with h | h <;> simp [h]
  exact congrArg Host.Outcome.next (if_neg hno)

/-- VDD_ENG has not come into range: PWR_EN_CORE falls, and the link port is in reset (R317). -/
def State.engTimedOut (s : State) : State :=
  let u := coldReset s s.power.lastReset true
  { u with power := { u.power with enCore := false }, link := { u.link with up := false } }

/-- MRAM is in range, no tamper waits for its record, and every word can be read. -/
structure CleanBoot (s : State) (rd : BootRead) : Prop where
  powering : s.fw.boot = .powering
  nvm : s.supply.nvm = true
  latched : s.vault.latched = none
  bad : rd.bad = []

theorem CleanBoot.goes {s : State} {rd : BootRead} (h : CleanBoot s rd) (hruns : (slotBoot s.nvm rd).2.2 = true) :
    (s.toTest rd).fw.boot = .laneTest false := by
  rw [toTest_powering h.powering, bootRun_step (s := s.coreUp) h.nvm,
    recordsRead_clean (s := s.coreUp) h.latched h.bad]
  exact if_neg (by simp [State.coreUp, hruns])

theorem CleanBoot.stops {s : State} {rd : BootRead} (h : CleanBoot s rd) (hstop : (slotBoot s.nvm rd).2.2 = false) :
    (s.toTest rd).fw.boot = .stopped false ∧ (s.toTest rd).fw.up = s.fw.up := by
  have hslot : (slotBoot s.coreUp.nvm rd).2.2 = false := hstop
  rw [toTest_powering h.powering, bootRun_goes (s := s.coreUp) h.nvm,
    recordsRead_clean (s := s.coreUp) h.latched h.bad, if_pos hslot]
  exact ⟨rfl, rfl⟩

theorem toTest_waits {s : State} (h : s.fw.boot = .powering) (hnvm : s.supply.nvm = false) (rd : BootRead) :
    (s.toTest rd).fw.boot = .waitNvm false ∧ (s.toTest rd).fw.up = s.fw.up := by
  rw [toTest_powering h, bootRun_waits (s := s.coreUp) hnvm]
  exact ⟨rfl, rfl⟩

/-- A boot that does not reach the lane test goes no further. -/
theorem bootComplete_stays {s : State} {rd : BootRead} {b : Boot} (hb : ∀ w, b ≠ .laneTest w)
    (h : (s.toTest rd).fw.boot = b ∧ (s.toTest rd).fw.up = s.fw.up) (fails : BitVec 8) :
    (bootComplete s fails rd).fw.boot = b ∧ (bootComplete s fails rd).fw.up = s.fw.up := by
  rw [bootComplete_waits fun w hw => hb w (h.1.symm.trans hw)]
  exact h

/-- Settles O53: the tables' rows in the order of the statement. -/
theorem resetsAndBootsFollowTheTables : Obligations.ResetsAndBootsFollowTheTables := by
  intro s ms mv ns us up eng fall cel seen src fails rd bad reset
  refine ⟨fun hms => congrArg _ (onLow_short hms _), fun hms => ?resetN, ⟨_, rfl, coldReset_resetTo _ .powerOn false⟩,
    fun hcore => ?engOut, fun hcore => congrArg _ (if_neg (by simp [hcore])), fun hsrc => ?tampered,
    fun hns => if_pos hns, fun hcel => if_pos hcel,
    fun hns hus hfall heng hmv => tamperSrc_glitch hns hus hfall heng hmv,
    fun hns => congrArg _ (tamperSeen_pin_short hns), fun h1 h2 => congrArg _ (tamperSeen_temperature h1 h2),
    fun hpow => congrArg _ (tamperSeen_glitch_unpowered hpow), fun hboot => ?timeout,
    fun hboot => ⟨exec_vddEngTimeout_over hboot, congrArg _ (bootComplete_over hboot fails rd),
      exec_vddNvm_over hboot rd⟩,
    fun w hup hboot => ?nvmInRange, fun hdue => congrArg _ (if_neg (by simp [hdue])), fun hdue => ?warm,
    fun hboot => ?completes, fun hboot => ?powering, fun hruns => congrArg _ (restartBy_down hruns bad),
    fun hruns => ?restarts, fun hno => congrArg _ (firmwareReturn_none hno), fun hrestart => ?returns⟩
  case resetN => exact ⟨_, congrArg Host.Outcome.next (onLow_long hms _), coldReset_resetTo s .resetN true⟩
  case engOut => exact ⟨_, congrArg Host.Outcome.next (if_pos hcore), coldReset_resetTo s .resetN true⟩
  case tampered =>
    refine ⟨⟨_, exec_tamperDetect hsrc, tamper_resetTo s src⟩, _, exec_tamperDetect hsrc, ?_⟩
    exact ⟨tamper_keys s src, fun hnvm hcore => tamper_records hnvm hcore src, fun hlatch => tamper_latches hlatch src⟩
  case timeout =>
    exact ⟨s.engTimedOut, congrArg Host.Outcome.next (if_pos hboot), rfl, rfl, rfl, rfl, rfl, rfl, rfl, rfl⟩
  case nvmInRange =>
    have hframe := bootRun_boot (s := { s with supply := { s.supply with nvm := true } }) hup w rd
    refine ⟨_, exec_vddNvm_waiting hboot rd, ?_, ?_, ?_, ?_⟩
    · rw [hframe.rest]
    · rw [bootRun_step rfl]
      split
      · exact .inr rfl
      · exact .inl rfl
    · rw [hframe.rest]
    · rw [hframe.rest]
  case warm =>
    obtain ⟨w, hframe, haddr, hlast, hup, hwdue, hvoices, hfuse, hlife⟩ := warmReset_boot s rd
    refine ⟨_, congrArg Host.Outcome.next (if_pos hdue), ?_, hframe.lastReset.trans hlast, hframe.up.trans hup,
      hframe.resetDue.trans hwdue, ?_, ?_, hframe.lifeSec.trans hlife⟩
    · rw [hframe.rest]
      exact haddr
    · rw [hframe.rest]
      exact hvoices
    · rw [hframe.rest]
      exact hfuse
  case completes =>
    have htest : ∃ w, (s.toTest rd).fw.boot = .laneTest w := by
      rcases hboot with ⟨w, hw⟩ | ⟨hpow, hnvm, hlatch, hbad, hslot⟩
      · exact ⟨w, by rw [toTest_other (by simp [hw]), hw]⟩
      · exact ⟨false, CleanBoot.goes ⟨hpow, hnvm, hlatch, hbad⟩ hslot⟩
    obtain ⟨w, hw⟩ := htest
    obtain ⟨hup, hdone, hready, hclosed, halloc⟩ :=
      bootEnds_ends (foldS (List.range 8) (s.toTest rd) (bootLane fails)) rd
    refine ⟨_, congrArg Host.Outcome.next (bootComplete_ends hw fails), hup, hdone, hready, hclosed, fun n hn => ?_⟩
    rw [halloc]
    exact lanesTested fails _ n hn
  case powering =>
    exact ⟨_, rfl, fun hnvm => bootComplete_stays (by simp) (toTest_waits hboot hnvm rd) fails,
      fun hnvm hlatch hbad hslot =>
        bootComplete_stays (by simp) (CleanBoot.stops ⟨hboot, hnvm, hlatch, hbad⟩ hslot) fails⟩
  case restarts =>
    obtain ⟨hdog, hecc⟩ := restartBy_restarted hruns bad
    refine ⟨_, exec_ctlWatchdogRestart s bad, hdog.restarting, notRuns_of_restarting hdog.restarting, hecc, fun t => ?_⟩
    rw [hdog.ten]
    exact entriesLost_spec (s.ten t)
  case returns =>
    obtain ⟨hrest, hready, hst⟩ := firmwareReturn_returns hrestart
    exact ⟨_, rfl, hrest, hready, hst⟩

end Sys2Proof.Machine
end

section
/-! SUPPORT. The power commands: the writes that wait for the next tick, and the state that POWER_ENTER asks for. -/

namespace Sys2Proof.Machine

/-- A command that completes after an effect on other parts of the state than its tenant and the firmware. -/
theorem Starts.completes {s u : State} {t : Tenant} {g : Tag} {c : InFlight} {b : Body} (h : Starts s t g c b)
    (st : Status) (res : Result) (hten : u.tenants = s.tenants) (hfw : u.fw = s.fw) :
    Machine.finish u t g st res = u.answer t c st res :=
  h.finish st res (by rw [hfw]) (by simp only [State.ten, hten])

theorem doPolicy_eq (s : State) (t : Tenant) (g : Tag) (a : PolicyArgs) :
    doPolicy s t g a = ok { s with pendL := s.pendL ++
      [.prop 0 { kind := .powerDozeIdleMs } a.dozeMs, .prop 0 { kind := .powerNapIdleMs } a.napMs,
       .prop 0 { kind := .powerHibernateIdleS } a.hibernateS,
       .prop 0 { kind := .powerEntryPolicy } (if a.abandon then 1 else 0)] } t g := by
  simp only [doPolicy, State.writeL, List.append_assoc, List.cons_append, List.nil_append]
  cases a.abandon <;> rfl

/-- POWER_ENTER on the row of its state. -/
theorem powerEnterRow_own {s : State} {t : Tenant} {g : Tag} {c : InFlight} {p : PState}
    (h : Starts s t g c (.powerEnter p)) : powerEnterRow s t g p = doPowerEnter s t g p := by
  simp [powerEnterRow, h.onCmd]

theorem powerEnterRow_other {s : State} {t : Tenant} {g : Tag} {c : InFlight} {p q : PState}
    (h : Starts s t g c (.powerEnter p)) (hne : q ≠ p) : powerEnterRow s t g q = s := by
  simp [powerEnterRow, h.onCmd, hne.symm]

/-- DOZE and NAP are entered as asked. -/
theorem doPowerEnter_asked {s : State} {t : Tenant} {g : Tag} {c : InFlight} {p : PState}
    (h : Starts s t g c (.powerEnter p)) (hp : p = .hibernate → s.ring.role ≠ .keeper ∧ s.ringAwake = false) :
    doPowerEnter s t g p =
      (s.writeL (.powerEnter p)).answer t c .ok (.bytes (leBytes 2 (stateNum p))) := by
  have hkeeper : ¬ (p = .hibernate ∧ s.ring.role = .keeper) := fun ⟨e, hr⟩ => (hp e).1 hr
  have hawake : ¬ (p = .hibernate ∧ s.ringAwake = true) := fun ⟨e, ha⟩ => by simp [(hp e).2] at ha
  rw [doPowerEnter, if_neg hkeeper, if_neg hawake]
  exact h.completes (u := s.writeL _) _ _ rfl rfl

/-- A keeper asked for HIBERNATE is refused, and enters NAP (R292). -/
theorem doPowerEnter_keeper {s : State} {t : Tenant} {g : Tag} {c : InFlight}
    (h : Starts s t g c (.powerEnter .hibernate)) (hr : s.ring.role = .keeper) :
    doPowerEnter s t g .hibernate = (s.writeL (.powerEnter .nap)).answer t c .ringBusy (.bytes (leBytes 2 2)) := by
  rw [doPowerEnter, if_pos ⟨rfl, hr⟩]
  exact h.completes (u := s.writeL _) _ _ rfl rfl

/-- A member without the keeper's grant enters NAP in place of HIBERNATE (R293). -/
theorem doPowerEnter_ungranted {s : State} {t : Tenant} {g : Tag} {c : InFlight}
    (h : Starts s t g c (.powerEnter .hibernate)) (hr : s.ring.role = .member) (hgrant : s.ring.keeperGrant = false) :
    doPowerEnter s t g .hibernate = (s.writeL (.powerEnter .nap)).answer t c .okLimited (.bytes (leBytes 2 2)) := by
  have hawake : s.ringAwake = true := by simp [State.ringAwake, hr, hgrant]
  rw [doPowerEnter, if_neg (by simp [hr]), if_pos ⟨rfl, hawake⟩]
  exact h.completes (u := s.writeL _) _ _ rfl rfl

theorem ringAwake_free {s : State}
    (h : s.ring.role = .standalone ∨ (s.ring.role = .member ∧ s.ring.keeperGrant = true)) :
    s.ring.role ≠ .keeper ∧ s.ringAwake = false := by
  rcases h with h | ⟨h, hgrant⟩
  · simp [State.ringAwake, h]
  · simp [State.ringAwake, h, hgrant]

/-- Settles O51: POWER_ENTER by the law of each answer, the others by the writes they leave. -/
theorem powerCommandsAskForTheirStates : Obligations.PowerCommandsAskForTheirStates := by
  intro s t g c a p m timer later w row
  refine ⟨fun h => ?policy, fun h => ?doze, fun h => ?nap, fun h => ⟨fun hr => ?keeper, fun hr hgrant => ?ungranted,
    fun hr => ?hibernate⟩, fun h q hrun hq => ?other, fun h => ?wake⟩
  case policy =>
    have hrow : exec (.powerPolicy t g) s = .next (doPolicy s t g a) := h.row rfl
    rw [hrow, doPolicy_eq]
    exact congrArg _ (h.completes _ _ rfl rfl)
  case doze => exact congrArg _ ((powerEnterRow_own h).trans (doPowerEnter_asked h (by simp)))
  case nap => exact congrArg _ ((powerEnterRow_own h).trans (doPowerEnter_asked h (by simp)))
  case keeper => exact congrArg _ ((powerEnterRow_own h).trans (doPowerEnter_keeper h hr))
  case ungranted => exact congrArg _ ((powerEnterRow_own h).trans (doPowerEnter_ungranted h hr hgrant))
  case hibernate =>
    exact congrArg _ ((powerEnterRow_own h).trans (doPowerEnter_asked h fun _ => ringAwake_free hr))
  case other =>
    have hother := congrArg (Host.Outcome.next (φ := Fault) (ρ := Refusal)) (powerEnterRow_other h hq)
    cases q with
    | run => exact absurd rfl hrun
    | doze | nap | hibernate => exact hother
  case wake =>
    have hrow : exec (.wakeConfig t g) s = .next (doWakeConfig s t g m timer) := h.row rfl
    exact hrow.trans (congrArg _ (h.completes (u := s.writeL _) _ _ rfl rfl))

end Sys2Proof.Machine
end

section
/-! SUPPORT. Notes: what a command that goes on executing leaves to the allocator, NOTE_ON, the packets of UMP, and the
entries of VOICE_PARAM and PART_PARAM by their class. -/

namespace Sys2Proof.Machine

/-! ## The allocator does not see that a command executes -/

/-- A command that goes on executing changes the commands in flight and no more. -/
theorem startLong_ten (s : State) (t : Tenant) (g : Tag) (w : Tenant) :
    (startLong s t g).ten w = { s.ten w with inflight := ((startLong s t g).ten w).inflight } := by
  by_cases hw : w = t
  · subst hw
    simp only [startLong, updTen_ten_same, TenantSt.updCmd]
  · simp only [startLong, updTen_ten_other _ _ hw]

theorem count_startLong (s : State) (t : Tenant) (g : Tag) (w : Tenant) :
    (startLong s t g).count w = s.count w := by
  rw [State.count, startLong_ten]
  rfl

theorem reserveEffs_startLong (s : State) (t : Tenant) (g : Tag) : (startLong s t g).reserveEffs = s.reserveEffs := by
  have hreserve : (allTenants.map fun w => ((startLong s t g).ten w).reserve) = allTenants.map fun w => (s.ten w).reserve :=
    List.map_congr_left fun w _ => by rw [startLong_ten]
  simp only [State.reserveEffs, State.reserveSum, hreserve]
  rfl

theorem reserveEff_startLong (s : State) (t : Tenant) (g : Tag) (w : Tenant) :
    (startLong s t g).reserveEff w = s.reserveEff w := by rw [State.reserveEff, reserveEffs_startLong, State.reserveEff]

theorem freeFor_startLong (s : State) (t : Tenant) (g : Tag) (w : Option Tenant) :
    (startLong s t g).freeFor w = s.freeFor w := by
  simp only [State.freeFor, State.unmet, reserveEff_startLong, count_startLong]
  rfl

theorem candidate_startLong (s : State) (t : Tenant) (g : Tag) (w : Tenant) :
    (startLong s t g).candidate w = s.candidate w := by
  have hover : ∀ o, (startLong s t g).overReserve o = s.overReserve o := fun o => by
    cases o with
    | tenant u => simp only [State.overReserve, reserveEff_startLong, count_startLong]
    | spilled _ _ => rfl
  funext v
  simp only [State.candidate, hover, count_startLong]
  rw [startLong_ten]
  rfl

theorem victim_startLong (s : State) (t : Tenant) (g : Tag) (w : Tenant) (part key : Nat) :
    (startLong s t g).victim w part key = s.victim w part key := by
  simp only [State.victim, candidate_startLong]
  rw [startLong_ten]
  rfl

/-! ## Placing a note (R157) -/

/-- With room below the ceiling and a free slot, the note starts in the lane with the most free slots. -/
theorem place_room {s : State} {t : Tenant} (n : Succ) (noSpill noSteal : Bool) (hc : s.count t < (s.ten t).ceiling)
    (hf : 1 ≤ s.freeFor (some t)) :
    place s t n noSpill noSteal = some (startIn s s.pickLane ((s.freeOf s.pickLane).headD 0) n none) :=
  if_pos ⟨hc, hf⟩

/-- Without room and without spill, a note takes the steal part of R157. -/
theorem place_full {s : State} {t : Tenant} (n : Succ) (noSpill noSteal : Bool)
    (h : (s.ten t).ceiling ≤ s.count t ∨ s.freeFor (some t) = 0) (hspill : (s.ten t).spill = false) :
    place s t n noSpill noSteal = stealFor s t n noSteal := by
  have hunit : s.spillUnit t noSpill = none := if_neg (by simp [hspill])
  rw [place, if_neg (by omega), hunit, ite_self]

theorem stealFor_none {s : State} {t : Tenant} {n : Succ} {noSteal : Bool}
    (h : noSteal = true ∨ (s.ten t).policy = .never ∨ s.victim t n.part n.key = none) : stealFor s t n noSteal = none := by
  by_cases hp : noSteal = true ∨ (s.ten t).policy = .never
  · exact if_pos hp
  · rw [stealFor, if_neg hp, (or_assoc.mpr h).resolve_left hp]

theorem stealFor_victim {s : State} {t : Tenant} {n : Succ} {v : Voice} (hp : (s.ten t).policy ≠ .never)
    (hv : s.victim t n.part n.key = some v) : stealFor s t n false =
      some (toldStolen (beginFade s v (some { n with latency := n.latency + s.fadeTicks }) .steal) v) := by
  rw [stealFor, if_neg (by simp [hp]), hv]

/-! ## NOTE_ON (R99, R100) -/

theorem retrigger_voice {s : State} {t : Tenant} {id : BitVec 32} {v : Voice} (r : Retrig) (hv : s.note? t id = some v)
    (hr : v.retrig = none) : retrigger s t id r = some (s.setVoice { v with retrig := some r }, true) := by
  simp only [retrigger, hv, hr, Option.bind_none, finishRef]

theorem retrigger_new {s : State} {t : Tenant} {id : BitVec 32} (r : Retrig) (hn : s.note? t id = none)
    (hw : s.waiting? t id = none) (ho : (s.ten t).out? id = none) : retrigger s t id r = none := by
  simp only [retrigger, hn, hw, ho]

theorem doNoteOn_retriggers {s : State} {t : Tenant} (g : Tag) {a : NoteOnArgs} {v : Voice}
    (hv : s.note? t a.noteId = some v) (hr : v.retrig = none) : doNoteOn s t g a = (startLong s t g).setVoice { v with
      retrig := some { key := a.key, vel := a.velocity, detune := a.detune, ref := some (t, g) } } := by
  have hretrig := retrigger_voice (s := startLong s t g)
    { key := a.key, vel := a.velocity, detune := a.detune, ref := some (t, g) } hv hr
  rw [startLong] at hretrig ⊢
  simp only [doNoteOn, hretrig]

/-- A note on under a new ID is placed, or completes NO_VOICE. -/
theorem doNoteOn_places {s : State} {t : Tenant} (g : Tag) {a : NoteOnArgs} (hn : s.note? t a.noteId = none)
    (hw : s.waiting? t a.noteId = none) (ho : (s.ten t).out? a.noteId = none) :
    doNoteOn s t g a = (place (startLong s t g) t
      (newNote s t a.noteId a.part a.key a.velocity a.detune (some (t, g))) a.noSpill a.noSteal).getD
        (fail s t g .noVoice) := by
  have ho' : ((startLong s t g).ten t).out? a.noteId = none := by rw [startLong_ten]; exact ho
  have hretrig := retrigger_new (s := startLong s t g)
    { key := a.key, vel := a.velocity, detune := a.detune, ref := some (t, g) } hn hw ho'
  rw [startLong] at hretrig ⊢
  simp only [doNoteOn, hretrig]
  cases place _ t (newNote s t a.noteId a.part a.key a.velocity a.detune (some (t, g))) a.noSpill a.noSteal <;> rfl

/-- Settles O25: a named note is retriggered; a new one is placed by the law of its case. -/
theorem noteOnPlacesTheNote : Obligations.NoteOnPlacesTheNote := by
  intro s t g c a h run copy
  have hrow : exec (.noteOn t g) s = .next (doNoteOn s t g a) := h.row rfl
  have hrun : run = startLong s t g := rfl
  rw [hrow, hrun]
  refine ⟨fun v hv hr => congrArg _ (doNoteOn_retriggers g hv hr), fun hn hw ho => ?_⟩
  rw [doNoteOn_places g hn hw ho]
  have hten := startLong_ten s t g t
  refine ⟨fun hc hf => ?room, fun hfull hspill => ⟨fun hno => ?noVoice, fun v hsteal hp hv => ?steal⟩⟩
  case room =>
    rw [place_room _ _ _ (by rwa [count_startLong, hten]) (by rwa [freeFor_startLong])]
    rfl
  case noVoice =>
    rw [place_full _ _ _ (by rwa [count_startLong, freeFor_startLong, hten]) (by rwa [hten]),
      stealFor_none (by rw [victim_startLong, hten]; exact hno), Option.getD_none, h.fails]
  case steal =>
    rw [place_full _ _ _ (by rwa [count_startLong, freeFor_startLong, hten]) (by rwa [hten]), hsteal,
      stealFor_victim (v := v) (by rwa [hten]) (by rw [victim_startLong]; exact hv), Option.getD_some]
    simp only [newNote, Nat.zero_add]
    rfl

/-! ## UMP (R98, R114) -/

/-- A UMP command of one packet does what the packet does, and completes OK. -/
theorem Starts.ump {s : State} {t : Tenant} {g : Tag} {c : InFlight} {o : UmpOp} (h : Starts s t g c (.ump [o]))
    (hten : (umpOne t s o).tenants = s.tenants) (hfw : (umpOne t s o).fw = s.fw) :
    exec (.ump t g) s = .next ((umpOne t s o).answer t c .ok (.note 0)) :=
  (h.row (u := doUmp s t g [o]) rfl).trans (congrArg _ (h.completes (u := umpOne t s o) _ _ hten hfw))

/-- A note on under an ID that names no note starts a voice when there is room. -/
theorem umpOn_starts {s : State} {t : Tenant} {p k : Nat} (v : Nat) (hn : s.note? t (umpId p k) = none)
    (hw : s.waiting? t (umpId p k) = none) (ho : (s.ten t).out? (umpId p k) = none)
    (hc : s.count t < (s.ten t).ceiling) (hf : 1 ≤ s.freeFor (some t)) : umpOn s t p k v =
      startIn s s.pickLane ((s.freeOf s.pickLane).headD 0) (newNote s t (umpId p k) p k v 0 none) none := by
  simp only [umpOn, retrigger_new _ hn hw ho, place_room _ _ _ hc hf, Option.getD_some]

theorem umpCmd_voice {s : State} {t : Tenant} {p k : Nat} {w : Voice} (v : Nat) (hv : s.note? t (umpId p k) = some w) :
    umpCmd s t p k (.off v) = s.writeL (.note t w.noteId (.off v)) := by
  simp only [umpCmd, cmdToNote, hv, queueCmd]

/-- Settles O28: each packet by what `umpOne` makes of it. -/
theorem umpPacketsActAsTheTableSays : Obligations.UmpPacketsActAsTheTableSays := by
  intro s t g c p k v full id adds
  refine ⟨fun h hn hw ho hc hf => ?noteOn, fun w h hv => ?noteOff, fun h => h.ump rfl rfl, fun h => h.ump rfl rfl,
    fun h => h.ump rfl rfl, fun h => h.ump rfl rfl, fun h => h.ump rfl rfl⟩
  case noteOn =>
    have hstart : umpOne t s (.noteOn p k v) = _ := umpOn_starts v hn hw ho hc hf
    rw [h.ump (by rw [hstart]; rfl) (by rw [hstart]; rfl), hstart]
    rfl
  case noteOff =>
    have hoff : umpOne t s (.noteOff p k v) = s.writeL (.note t w.noteId (.off v)) := umpCmd_voice v hv
    have hrow := h.ump (by rw [hoff]; rfl) (by rw [hoff]; rfl)
    rwa [hoff] at hrow

/-! ## Entries of VOICE_PARAM and PART_PARAM by their class (R101, R145) -/

theorem foldS_writeB {α : Type} (l : List α) (f : α → Write) (s : State) :
    (foldS l s fun s a => s.writeB (f a)) = { s with pendB := s.pendB ++ l.map f } := by
  induction l generalizing s with
  | nil => simp
  | cons a l ih => rw [foldS_cons, ih]; simp [State.writeB]

/-- Folds whose steps agree on the elements of the list agree. -/
theorem foldS_congr {α : Type} {l : List α} {f k : State → α → State} (h : ∀ a ∈ l, ∀ s, f s a = k s a) (s : State) :
    foldS l s f = foldS l s k := by
  induction l generalizing s with
  | nil => rfl
  | cons a l ih =>
    rw [foldS_cons, foldS_cons, h a List.mem_cons_self, ih fun b hb => h b (List.mem_cons_of_mem a hb)]

theorem queueCmd_params_classL {t : Tenant} {v : Voice} {l : List (Nat × Int)} (hl : ∀ e ∈ l, pcls e.1 = .l) (s : State) :
    queueCmd s t v (.params l) = { s with pendL := s.pendL ++ l.map fun e => .voiceParam t v.noteId e.1 e.2 } := by
  rw [← foldS_writeL]
  exact foldS_congr (fun e he s => by simp only [hl e he]) s

theorem queueCmd_params_classB {t : Tenant} {v : Voice} {l : List (Nat × Int)} (hl : ∀ e ∈ l, pcls e.1 = .b) (s : State) :
    queueCmd s t v (.params l) = { s with pendB := s.pendB ++ l.map fun e => .voiceParam t v.noteId e.1 e.2 } := by
  rw [← foldS_writeB]
  exact foldS_congr (fun e he s => by simp only [hl e he]) s

theorem foldS_partEntry_classL {t : Tenant} {part : Nat} {l : List (Nat × Int)} (hl : ∀ e ∈ l, pcls e.1 = .l) (s : State) :
    foldS l s (partEntry t part) = { s with pendL := s.pendL ++ l.map fun e => .partParam t part e.1 e.2 } := by
  rw [← foldS_writeL]
  exact foldS_congr (fun e he s => by simp only [partEntry, hl e he]) s

theorem foldS_partEntry_classB {t : Tenant} {part : Nat} {l : List (Nat × Int)} (hl : ∀ e ∈ l, pcls e.1 = .b) (s : State) :
    foldS l s (partEntry t part) = { s with pendB := s.pendB ++ l.map fun e => .partParam t part e.1 e.2 } := by
  rw [← foldS_writeB]
  exact foldS_congr (fun e he s => by simp only [partEntry, hl e he]) s

/-- With no note, a class-V entry of PART_PARAM is in the working set and nowhere else. -/
theorem partEntry_classV {s : State} {t : Tenant} {part pid : Nat} {v : Int} (hv : s.voices = []) (hcls : pcls pid = .v) :
    partEntry t part s (pid, v) = s.updTen t fun x => x.updPart part fun q => { q with workset := pset q.workset pid v } := by
  simp only [partEntry, hcls, partV, updTen_voices, hv, List.map_nil]
  rw [← hv]
  rfl

theorem noteCopy_voice {s : State} {t : Tenant} {id : BitVec 32} {v : Voice} (hv : s.note? t id = some v) :
    s.noteCopy t id = some v.copy := by simp only [State.noteCopy, hv]

theorem doVoiceParam_bad {s : State} {t : Tenant} {id : BitVec 32} {v : Voice} {l : List (Nat × Int)} {off : Nat}
    (g : Tag) (hv : s.note? t id = some v) (hbad : badEntry v.copy l 8 = some off) :
    doVoiceParam s t g id l = badField s t g off := by simp only [doVoiceParam, noteCopy_voice hv, hbad]

theorem doVoiceParam_good {s : State} {t : Tenant} {id : BitVec 32} {v : Voice} {l : List (Nat × Int)}
    (g : Tag) (hv : s.note? t id = some v) (hgood : badEntry v.copy l 8 = none) :
    doVoiceParam s t g id l = ok (queueCmd s t v (.params l)) t g := by
  simp only [doVoiceParam, noteCopy_voice hv, hgood, noteCmd, cmdToNote, hv]

theorem doPartParam_good {s : State} {t : Tenant} {part : Nat} {l : List (Nat × Int)} (g : Tag)
    (hgood : badEntry ((s.ten t).part part).workset l 8 = none) :
    doPartParam s t g part l = ok (foldS l s (partEntry t part)) t g := by simp only [doPartParam, hgood]

/-- Settles O29: the checks of the entries, then the fold over entries of one class. -/
theorem parameterEntriesFollowTheirClass : Obligations.ParameterEntriesFollowTheirClass := by
  refine fun s t g c id part l => ⟨fun h => ?voice, fun h => ?part⟩
  case voice =>
    have hrow : exec (.voiceParam t g) s = .next (doVoiceParam s t g id l) := h.row rfl
    rw [hrow]
    refine ⟨fun hnone => ?_, fun v hv => ⟨fun off hbad => ?_, fun hgood hl => ?_, fun hgood hl => ?_⟩⟩
    · simp only [doVoiceParam, hnone, h.fails]
    · rw [doVoiceParam_bad g hv hbad, badField, h.finish_self]
    · rw [doVoiceParam_good g hv hgood, queueCmd_params_classL hl]
      exact congrArg _ (h.completes _ _ rfl rfl)
    · rw [doVoiceParam_good g hv hgood, queueCmd_params_classB hl]
      exact congrArg _ (h.completes _ _ rfl rfl)
  case part =>
    have hrow : exec (.partParam t g) s = .next (doPartParam s t g part l) := h.row rfl
    rw [hrow]
    refine ⟨fun off hbad => ?_, fun hgood hl => ?_, fun hgood hl => ?_, fun pid v hl hfits hcls hvoices => ?_⟩
    · simp only [doPartParam, hbad, badField, h.finish_self]
    · rw [doPartParam_good g hgood, foldS_partEntry_classL hl]
      exact congrArg _ (h.completes _ _ rfl rfl)
    · rw [doPartParam_good g hgood, foldS_partEntry_classB hl]
      exact congrArg _ (h.completes _ _ rfl rfl)
    · subst hl
      rw [doPartParam_good g (by simp [badEntry, hfits]), foldS_cons, foldS_nil, partEntry_classV hvoices hcls]
      exact congrArg _ (h.finish (u := s.updTen t _) _ _ rfl (by rw [updTen_ten_same]; rfl))

end Sys2Proof.Machine
end

section
/-! SUPPORT. The commands of the memories: patch slots, wave memory, and the records that are stored in MRAM. -/

namespace Sys2Proof.Machine

/-! ## Patch slots (R92, R116, R148, Table 04-5) -/

theorem patchOn_iff (s : State) (slot : Nat) : s.patchOn slot = true ↔ s.mem.bankSt .patch (slot / 64) = .on := by
  simp [State.patchOn]

theorem patchOn_false {s : State} {slot : Nat} (h : s.mem.bankSt .patch (slot / 64) ≠ .on) : s.patchOn slot = false := by
  simp [State.patchOn, h]

/-- Who may write a slot: anybody an empty one, its owner and T0 one with an image. -/
theorem patchOwner_false {p : PatchSlot} {t : Tenant} (h : p.image = [] ∨ p.owner = some t ∨ t = 0) :
    (p.image != [] && p.owner != some t && t != 0) = false := by
  rcases h with h | h | h <;> simp [h]

section
variable {s : State} {t : Tenant} {slot : Nat} (g : Tag) (win : Nat)

theorem doPatchWrite_noRights (hi : (s.patch slot).image ≠ []) (ho : (s.patch slot).owner ≠ some t) (ht : t ≠ 0) :
    doPatchWrite s t g slot win = fail s t g .noRights := if_pos (by simp [hi, ho, ht])

theorem doPatchWrite_bankOff (hown : (s.patch slot).image = [] ∨ (s.patch slot).owner = some t ∨ t = 0)
    (hoff : s.mem.bankSt .patch (slot / 64) ≠ .on) : doPatchWrite s t g slot win = fail s t g .bankOff := by
  simp only [doPatchWrite, patchOwner_false hown, patchOn_false hoff]
  rfl

theorem doPatchWrite_selected (hown : (s.patch slot).image = [] ∨ (s.patch slot).owner = some t ∨ t = 0)
    (hon : s.mem.bankSt .patch (slot / 64) = .on) (hsel : s.selected slot = true) :
    doPatchWrite s t g slot win = fail s t g .busyClassX := by
  simp only [doPatchWrite, patchOwner_false hown, (patchOn_iff s slot).mpr hon, hsel]
  rfl

/-- The image that a window holds at an offset, as long as its own header says. -/
def TenantSt.imageAt (x : TenantSt) (win : Nat) : List Byte := x.windowRead win (field (x.windowRead win 8) 6 2)

/-- What PATCH_WRITE asks for before it looks at the image. -/
structure TakesImage (s : State) (t : Tenant) (slot win : Nat) : Prop where
  owned : (s.patch slot).image = [] ∨ (s.patch slot).owner = some t ∨ t = 0
  on : s.mem.bankSt .patch (slot / 64) = .on
  unselected : s.selected slot = false
  settled : (s.patch slot).loading = false
  unsealed : (s.patch slot).sealedTo = none ∨ (s.patch slot).sealedTo = some t
  short : field ((s.ten t).windowRead win 8) 6 2 ≤ 2048
  inside : win + field ((s.ten t).windowRead win 8) 6 2 ≤ (s.ten t).windowKib * 1024

/-- A slot that takes an image: the image decides. -/
theorem doPatchWrite_takes (h : TakesImage s t slot win) : doPatchWrite s t g slot win =
    if !imageSound ((s.ten t).imageAt win) then fail s t g .crcBad
    else match imageBad ((s.ten t).imageAt win) with
      | some off => badField s t g (0x8000 + off)
      | none => ok (s.setPatch slot { image := (s.ten t).imageAt win, owner := some t }) t g := by
  have hseal : ((s.patch slot).sealedTo.isSome && (s.patch slot).sealedTo != some t) = false := by
    rcases h.unsealed with hs | hs <;> simp [hs]
  have hfits : ¬(2048 < field ((s.ten t).windowRead win 8) 6 2 ∨
      (s.ten t).windowBytes < win + field ((s.ten t).windowRead win 8) 6 2) := by
    rw [not_or]; exact ⟨Nat.not_lt.mpr h.short, Nat.not_lt.mpr h.inside⟩
  simp only [doPatchWrite, patchOwner_false h.owned, (patchOn_iff s slot).mpr h.on, h.unselected, h.settled, hseal,
    Bool.or_self, Bool.not_true, Bool.false_eq_true, if_false, if_neg hfits]
  rfl

variable (hw : HwAnswer)

theorem doPatchRead_bankOff (hoff : s.mem.bankSt .patch (slot / 64) ≠ .on) :
    doPatchRead s t g slot win hw = fail s t g .bankOff := by
  simp only [doPatchRead, patchOn_false hoff]
  rfl

/-- PATCH_READ of a slot of a bank that is ON, and that is not being loaded. -/
theorem doPatchRead_on (hon : s.mem.bankSt .patch (slot / 64) = .on) (hload : (s.patch slot).loading = false) :
    doPatchRead s t g slot win hw =
      if (s.patch slot).image == [] then fail s t g .notFound
      else if (s.patch slot).sealedTo.isSome then fail s t g .vaultLocked
      else if hw.eccBad then fail (patchBad s slot) t g .notFound
      else if (s.ten t).windowBytes < win + (s.patch slot).image.length then badField s t g 4
      else okShort (s.updTen t fun x => { x with window := memWriteN x.window win (s.patch slot).image }) t g
        (s.patch slot).image.length := by
  simp only [doPatchRead, (patchOn_iff s slot).mpr hon, hload]
  rfl

variable (part : Nat)

theorem doPatchSelect_bankOff (hoff : s.mem.bankSt .patch (slot / 64) ≠ .on) :
    doPatchSelect s t g part slot hw = fail s t g .bankOff := by
  simp only [doPatchSelect, patchOn_false hoff]
  rfl

theorem doPatchSelect_none (hon : s.mem.bankSt .patch (slot / 64) = .on) (hp : s.voicePatch slot = none) :
    doPatchSelect s t g part slot hw = fail s t g .notFound := by
  simp only [doPatchSelect, (patchOn_iff s slot).mpr hon, hp]
  rfl

theorem doPatchSelect_some {q : PatchSlot} (hon : s.mem.bankSt .patch (slot / 64) = .on)
    (hp : s.voicePatch slot = some q) (hecc : hw.eccBad = false) :
    doPatchSelect s t g part slot hw = ok (selectPatch s t part slot q.image) t g := by
  simp only [doPatchSelect, (patchOn_iff s slot).mpr hon, hp, hecc]
  rfl

end

@[simp] theorem updPart_part_same (x : TenantSt) (p : Nat) (f : Part → Part) : (x.updPart p f).part p = f (x.part p) := by
  simp [TenantSt.updPart, TenantSt.part]

theorem updPart_part_other (x : TenantSt) {p r : Nat} (f : Part → Part) (h : r ≠ p) : (x.updPart p f).part r = x.part r := by
  simp [TenantSt.updPart, TenantSt.part, bankAt_bankPut_other _ _ _ h]

theorem answered_part (x : TenantSt) (c : InFlight) (st : Status) (res : Result) (tide : Smp) (p : Nat) :
    (x.answered c st res tide).part p = x.part p := by
  simp only [TenantSt.answered, TenantSt.storeEcho]; split <;> rfl

/-- The part that a selection leaves: the image's parameters and the slot. -/
def Part.selects (img : List Byte) (slot : Nat) (p : Part) : Part := { p with workset := voiceImage img, slot := some slot }

theorem selectPatch_ten_same (s : State) (t : Tenant) (part slot : Nat) (img : List Byte) :
    (selectPatch s t part slot img).ten t = (s.ten t).updPart part (Part.selects img slot) :=
  updTen_ten_same s t fun x => x.updPart part (Part.selects img slot)

theorem selectPatch_ten_other (s : State) {t w : Tenant} (part slot : Nat) (img : List Byte) (h : w ≠ t) :
    (selectPatch s t part slot img).ten w = s.ten w :=
  updTen_ten_other s (fun x => x.updPart part (Part.selects img slot)) h

/-- Settles O30: a law for each command, case by case in the order of its checks. -/
theorem patchCommandsFollowTheSlot : Obligations.PatchCommandsFollowTheSlot := by
  intro s t g c slot win part hw p len img fails
  refine ⟨fun h => ?write, fun h => ?read, fun h => ?select⟩
  case write =>
    have hrow : exec (.patchWrite t g) s = .next (doPatchWrite s t g slot win) := h.row rfl
    simp only [fails, hrow]
    refine ⟨fun hi ho ht => ?_, fun hown => ⟨fun hoff => ?_, fun hon => ⟨fun hsel => ?_, fun hsel hload hseal hlen hin => ?_⟩⟩⟩
    · rw [doPatchWrite_noRights g win hi ho ht, h.fails]
    · rw [doPatchWrite_bankOff g win hown hoff, h.fails]
    · rw [doPatchWrite_selected g win hown hon hsel, h.fails]
    · rw [doPatchWrite_takes g win ⟨hown, hon, hsel, hload, hseal, hlen, hin⟩]
      refine ⟨fun hbad => ?_, fun hsound hgood => ?_⟩
      · rw [show imageSound ((s.ten t).imageAt win) = false from hbad, h.fails]; rfl
      · rw [show imageSound ((s.ten t).imageAt win) = true from hsound,
          show imageBad ((s.ten t).imageAt win) = none from hgood]
        exact congrArg _ (h.completes (u := s.setPatch slot _) _ _ rfl rfl)
  case read =>
    have hrow : exec (.patchRead t g hw) s = .next (doPatchRead s t g slot win hw) := h.row rfl
    simp only [fails, hrow]
    refine ⟨fun hoff => by rw [doPatchRead_bankOff g win hw hoff, h.fails], fun hon hload => ?_⟩
    rw [doPatchRead_on g win hw hon hload]
    refine ⟨fun hi => ?_, fun hi hseal => ?_, fun hi hseal hecc hin => ?_⟩
    · rw [if_pos (beq_iff_eq.mpr hi), h.fails]
    · rw [if_neg (by simpa using hi), if_pos (Option.isSome_iff_ne_none.mpr hseal), h.fails]
    · have hfits : ¬(s.ten t).windowBytes < win + (s.patch slot).image.length := Nat.not_lt.mpr hin
      rw [if_neg (by simpa using hi), if_neg (by simp [show (s.patch slot).sealedTo = none from hseal]),
        if_neg (by simp [hecc]), if_neg hfits]
      exact congrArg _ (h.finish (u := s.updTen t _) _ _ rfl (by rw [updTen_ten_same]))
  case select =>
    have hrow : exec (.patchSelect t g hw) s = .next (doPatchSelect s t g part slot hw) := h.row rfl
    simp only [fails, hrow]
    refine ⟨fun hoff => ?_, fun hon hp => ?_, fun q hon hp hecc => ⟨_, rfl, ?_⟩⟩
    · rw [doPatchSelect_bankOff g hw part hoff, h.fails]
    · rw [doPatchSelect_none g hw part hon hp, h.fails]
    · have hten := selectPatch_ten_same s t part slot q.image
      have hdone : doPatchSelect s t g part slot hw = (selectPatch s t part slot q.image).answer t c .ok (.note 0) :=
        (doPatchSelect_some g hw part hon hp hecc).trans (h.finish _ _ rfl (by rw [hten]; rfl))
      rw [hdone, answer_ten_same, hten]
      refine ⟨?_, ?_, fun r hr => ?_, fun w hw => ?_, rfl⟩
      · rw [answered_part, updPart_part_same]; rfl
      · rw [answered_part, updPart_part_same]; rfl
      · rw [answered_part, updPart_part_other _ _ hr]
      · rw [answer_ten_other _ _ _ hw, selectPatch_ten_other _ _ _ _ hw]

/-! ## Wave memory (R102, R104, R301, Table 04-6) -/

/-- The range overlaps neither a sealed region nor one that is being loaded. -/
def State.rangeFree (s : State) (bank off n : Nat) : Prop :=
  s.sealedHit bank off n = false ∧ s.loadingHit bank off n = false

section
variable {s : State} {bank off n : Nat} (t : Tenant) (g : Tag) (win : Nat)

theorem doWaveWrite_bankOff (hoff : s.mem.bankSt .wave bank ≠ .on) :
    doWaveWrite s t g bank off win n = fail s t g .bankOff := if_pos hoff

theorem doWaveWrite_locked (hon : s.mem.bankSt .wave bank = .on) (hhit : ¬ s.rangeFree bank off n) :
    doWaveWrite s t g bank off win n = fail s t g .vaultLocked := by
  have hor : (s.sealedHit bank off n || s.loadingHit bank off n) = true := by
    rw [← Bool.not_eq_false, Bool.or_eq_false_iff]; exact hhit
  rw [doWaveWrite, if_neg (not_not.mpr hon), if_pos hor]

theorem doWaveWrite_copies (hon : s.mem.bankSt .wave bank = .on) (hfree : s.rangeFree bank off n) :
    doWaveWrite s t g bank off win n = startLong { s with mem := { s.mem with copies := s.mem.copies ++
      [{ t := t, g := g, bank := bank, offset := off, data := (s.ten t).windowRead win n }] } } t g := by
  rw [doWaveWrite, if_neg (not_not.mpr hon), if_neg (by simp [hfree.1, hfree.2])]

/-- WAVE_READ of a range without a bad word puts its bytes into the window. -/
theorem doWaveRead_clean (hon : s.mem.bankSt .wave bank = .on) (hfree : s.rangeFree bank off n)
    (hbad : s.badIn (waveAddr bank off) n = []) : doWaveRead s t g bank off win n = ok (s.updTen t fun x => { x with
      window := memWriteN x.window win ((List.range n).map fun i => s.waveByte (waveAddr bank off + i)) }) t g := by
  rw [doWaveRead, if_neg (not_not.mpr hon), if_neg (by simp [hfree.1, hfree.2])]
  simp only [hbad]
  rfl

/-- With nothing waiting for a bank, nothing executes when a copy has ended. -/
theorem runBankWaits_none (h : s.mem.bankWaits = []) : runBankWaits s = s := by
  rw [runBankWaits, h, foldS_nil, ← h]

/-- The state in which a copy stands in wave memory and no longer runs. -/
def State.copied (s : State) (t : Tenant) (g : Tag) (w : WaveCopy) : State :=
  { s with mem := { s.mem with
      wave := memWriteN s.mem.wave (waveAddr w.bank w.offset) w.data
      badWords := clearBad s.mem.badWords (waveAddr w.bank w.offset) w.data.length
      copies := s.mem.copies.filter fun d => !(d.t == t && d.g == g) } }

theorem waveWriteDone_copied {w : WaveCopy} (hw : s.mem.copies.find? (fun d => d.t == t && d.g == g) = some w) :
    waveWriteDone s t g = runBankWaits (ok (s.copied t g w) t g) := by
  simp only [waveWriteDone, hw, waveStore, State.copied]

theorem doWaveMap_foreign {a : MapArgs} {m : WaveMap} (hm : bankGet s.mem.maps a.id = some m) (ho : m.owner ≠ t)
    (ht : t ≠ 0) : doWaveMap s t g a = fail s t g .noRights := by
  simp only [doWaveMap, hm]
  exact if_pos (by simp [ho, ht])

/-- The state in which the tenant has set, or with length 0 removed, a map. -/
def State.mapped (s : State) (t : Tenant) (a : MapArgs) : State :=
  let entry : WaveMap :=
    { bank := a.bank, format := a.format, offset := a.offset, length := a.length, loopStart := a.loopStart
      loopEnd := a.loopEnd, loopMode := a.loopMode, rootKey := a.rootKey, owner := t }
  { s with mem := { s.mem with
      maps := if a.length = 0 then bankDel s.mem.maps a.id else bankPut s.mem.maps a.id entry } }

theorem doWaveMap_own {a : MapArgs} (h : ∀ m, bankGet s.mem.maps a.id = some m → m.owner = t ∨ t = 0) :
    doWaveMap s t g a = ok (s.mapped t a) t g := by
  refine if_neg ?_
  cases hm : bankGet s.mem.maps a.id with
  | none => simp
  | some m => rcases h m hm with ho | ho <;> simp [ho]

end

/-- Settles O31: the law of each case of the writes and reads, and the end of a copy with no bank change behind it. -/
theorem waveCommandsMoveTheBytes : Obligations.WaveCommandsMoveTheBytes := by
  intro s t g c bank off win n a data free entry maps
  refine ⟨fun h => ?write, fun w hw hf hq hup hwaits hcalm => ?done, fun h hon hfree hbad => ?read, fun h => ?map⟩
  case write =>
    have hrow : exec (.waveWrite t g) s = .next (doWaveWrite s t g bank off win n) := h.row rfl
    rw [hrow]
    refine ⟨fun hoff => ?_, fun hon hhit => ?_, fun hon hfree => ?_⟩
    · rw [doWaveWrite_bankOff t g win hoff, h.fails]
    · rw [doWaveWrite_locked t g win hon hhit, h.fails]
    · rw [doWaveWrite_copies t g win hon hfree, startLong_eq]
  case done =>
    have hrow : exec (.waveWriteDone t g) s = .next (waveWriteDone s t g) := congrArg Host.Outcome.next (if_pos hup)
    have hdone : ok (s.copied t g w) t g = (s.copied t g w).answer t c .ok (.note 0) :=
      finish_eq _ _ (fwRuns_up hup).2 hf hq hcalm
    rw [hrow, waveWriteDone_copied t g hw, hdone,
      runBankWaits_none (s := (s.copied t g w).answer t c .ok (.note 0)) hwaits]
    rfl
  case read =>
    have hrow : exec (.waveRead t g) s = .next (doWaveRead s t g bank off win n) := h.row rfl
    rw [hrow, doWaveRead_clean t g win hon hfree hbad]
    exact congrArg _ (h.finish (u := s.updTen t _) _ _ rfl (by rw [updTen_ten_same]))
  case map =>
    have hrow : exec (.waveMap t g) s = .next (doWaveMap s t g a) := h.row rfl
    rw [hrow]
    refine ⟨fun m hm ho ht => ?_, fun hown => ?_⟩
    · rw [doWaveMap_foreign t g hm ho ht, h.fails]
    · rw [doWaveMap_own t g hown]
      exact congrArg _ (h.completes (u := s.mapped t a) _ _ rfl rfl)

end Sys2Proof.Machine
end

section
/-! SUPPORT. The records stored in MRAM: the key vault, the life cycle, and the firmware slots. -/

namespace Sys2Proof.Machine

/-! ## The key vault (R109, R307) -/

theorem vaultLocked_iff (s : State) :
    s.vaultLocked = true ↔ s.nvm.life = .blank ∨ s.nvm.life = .ret ∨ s.nvm.tampered ≠ none := by
  simp [State.vaultLocked, Option.isSome_iff_ne_none, or_assoc]

section
variable {s : State} {n : Nat} (t : Tenant) (g : Tag) (w : List Byte) (hw : HwAnswer)

theorem doKeyLoad_locked (hl : s.vaultLocked = true) : doKeyLoad s t g n w hw = fail s t g .vaultLocked := if_pos hl

theorem doKeyLoad_waits (hl : ¬ s.vaultLocked = true) (hu : s.keyInUse n = true) : doKeyLoad s t g n w hw = s := by
  rw [doKeyLoad, if_neg hl, if_pos hu]

theorem doKeyLoad_refused (hl : ¬ s.vaultLocked = true) (hu : s.keyInUse n = false)
    (hk : (s.vault.kek.bind fun k => Config.unwrap k w) = none) :
    doKeyLoad s t g n w hw = fail s t g .signatureBad := by
  rw [doKeyLoad, if_neg hl, if_neg (by simp [hu]), hk]

theorem doKeyLoad_stores {k x : List Byte} (hl : ¬ s.vaultLocked = true) (hu : s.keyInUse n = false)
    (hk : s.vault.kek = some k) (hx : Config.unwrap k w = some x) :
    doKeyLoad s t g n w hw = ok (storeKeys s (bankPut s.vault.keys n x) hw.verify) t g := by
  have hbind : (s.vault.kek.bind fun k => Config.unwrap k w) = some x := by rw [hk, Option.bind_some, hx]
  rw [doKeyLoad, if_neg hl, if_neg (by simp [hu]), hbind]

theorem doKeyErase_locked (hl : s.vaultLocked = true) : doKeyErase s t g n hw = fail s t g .vaultLocked := if_pos hl

theorem doKeyErase_waits (hl : ¬ s.vaultLocked = true) (hu : s.keyInUse n = true) : doKeyErase s t g n hw = s := by
  rw [doKeyErase, if_neg hl, if_pos hu]

theorem doKeyErase_stores (hl : ¬ s.vaultLocked = true) (hu : s.keyInUse n = false) :
    doKeyErase s t g n hw = ok (storeKeys s (bankDel s.vault.keys n) hw.verify) t g := by
  rw [doKeyErase, if_neg hl, if_neg (by simp [hu])]

end

/-- Keys whose image verifies: the vault and its image change, and nothing else. -/
theorem Starts.storesKeys {s : State} {t : Tenant} {g : Tag} {c : InFlight} {b : Body} (h : Starts s t g c b)
    (keys : Bank (List Byte)) : ok (storeKeys s keys true) t g =
      ({ s with vault := { s.vault with keys := keys }
                nvm := { s.nvm with vault := s.nvm.vault.put { under := s.vault.storage, keys := keys } true } } :
        State).answer t c .ok (.note 0) := h.completes _ _ rfl rfl

/-! ## The life cycle (R109, R313) -/

theorem anyOpen_true {s : State} (h : ∃ u : Tenant, u ≠ 0 ∧ (s.ten u).st ≠ .closed) :
    (allTenants.any fun u => u != 0 && (s.ten u).st != .closed) = true := by
  obtain ⟨u, hu, hst⟩ := h
  exact List.any_eq_true.mpr ⟨u, mem_allTenants u, by simp [hu, hst]⟩

theorem anyOpen_false {s : State} (h : ∀ u : Tenant, u ≠ 0 → (s.ten u).st = .closed) :
    (allTenants.any fun u => u != 0 && (s.ten u).st != .closed) = false := by
  refine List.any_eq_false.mpr fun u _ => ?_
  by_cases hu : u = 0
  · simp [hu]
  · simp [h u hu]

/-- The state in which the advance-pending record names a target, when its store verifies. -/
def State.requested (s : State) (l : Life) (key : List Byte) (verify : Bool) : State :=
  { s with nvm := { s.nvm with advanceRec := s.nvm.advanceRec.put (some (l, key)) verify } }

section
variable {s : State} {target : Nat} {die : BitVec 32} (t : Tenant) (g : Tag) (key : List Byte) (hw : HwAnswer)

theorem doLifecycle_busy (h : ∃ u : Tenant, u ≠ 0 ∧ (s.ten u).st ≠ .closed) :
    doLifecycle s t g target die key hw = fail s t g .busyClassX := if_pos (anyOpen_true h)

theorem doLifecycle_return (hclosed : ∀ u : Tenant, u ≠ 0 → (s.ten u).st = .closed) (hl : s.nvm.life = .ret) :
    doLifecycle s t g target die key hw = fail s t g .lifecycleDenied := by
  rw [doLifecycle, if_neg (by simp [anyOpen_false hclosed]), hl]
  rfl

/-- With T1 to T7 CLOSED and a state to advance to, the request is checked, waits for sealed loads, and is carried out. -/
theorem doLifecycle_next (hclosed : ∀ u : Tenant, u ≠ 0 → (s.ten u).st = .closed) {l : Life} (hl : s.nvm.life.next = some l) :
    doLifecycle s t g target die key hw =
      if l.code ≠ target ∨ s.fuse.dieId.setWidth 32 ≠ die then fail s t g .lifecycleDenied
      else if s.mem.loads ≠ [] ∨ (s.ten t).loadsInFlight g ≠ [] then s
      else if hw.verify then
        ok (advanceLife (s.requested l key true) l key) t g
      else fail (s.drew.requested l key ((Config.freeWord s.freeCtr).getLsbD 0)) t g .storeFailed := by
  rw [doLifecycle, if_neg (by simp [anyOpen_false hclosed]), hl]
  rfl

end

/-- The memories of wave and patches, the vault and MRAM alone change. -/
def StoresOnly (s u : State) : Prop := u = { s with mem := u.mem, vault := u.vault, nvm := u.nvm }

theorem vaultWipe_wipes (s : State) : StoresOnly s (vaultWipe s) ∧ (vaultWipe s).mem.seals = [] ∧
    (vaultWipe s).vault.keys = [] ∧ (vaultWipe s).nvm = { s.nvm with vault := s.nvm.vault.wipe } := by
  have hzero : ∀ l : List Region, ∀ v : State,
      foldS l v (fun s r => waveZero s (waveAddr r.bank r.offset) r.length) =
        { v with mem := (foldS l v fun s r => waveZero s (waveAddr r.bank r.offset) r.length).mem } := fun l v =>
    foldS_keeps (fun u => u = { v with mem := u.mem }) l _ (fun u r hu => by rw [hu]; rfl) rfl
  unfold vaultWipe StoresOnly
  dsimp only
  rw [hzero]
  exact ⟨rfl, rfl, rfl, rfl⟩

/-- A command completes after the stores. -/
theorem StoresOnly.finished {s v u : State} (h : StoresOnly s v) (k : TenantsOnly v u) :
    u.nvm = v.nvm ∧ u.vault = v.vault ∧ u.mem = v.mem ∧
      u = { s with tenants := u.tenants, nvm := v.nvm, vault := v.vault, mem := v.mem } := by
  unfold StoresOnly TenantsOnly at *
  rw [k, h]
  exact ⟨rfl, rfl, rfl, rfl⟩

/-- The maker key record in the life-cycle state that is entered (R313). -/
def Nvm.makerOf (m : Nvm) (l : Life) (key : List Byte) : AB (Option (List Byte)) :=
  match l with
  | .maker => m.makerRec.put (some key) true
  | .ret => m.makerRec.put none true
  | _ => m.makerRec

theorem advanceLife_nvm (s : State) (l : Life) (key : List Byte) : (advanceLife s l key).nvm =
    { s.nvm with
      vault := s.nvm.vault.wipe, makerRec := s.nvm.makerOf l key, lifeRec := s.nvm.lifeRec.put l true
      advanceRec := s.nvm.advanceRec.put none true } := by
  obtain ⟨-, -, -, hnvm⟩ := vaultWipe_wipes s
  unfold advanceLife
  dsimp only
  rw [hnvm]
  cases l <;> rfl

theorem advanceLife_rest (s : State) (l : Life) (key : List Byte) : StoresOnly s (advanceLife s l key) ∧
    (advanceLife s l key).mem.seals = [] ∧ (advanceLife s l key).vault.keys = [] := by
  obtain ⟨hframe, hseals, hkeys, -⟩ := vaultWipe_wipes s
  refine ⟨?_, hseals, hkeys⟩
  unfold StoresOnly advanceLife at *
  dsimp only
  rw [hframe]

/-- A life-cycle record that verifies is the one in effect; the request is cleared, the maker key follows the state. -/
theorem advanceLife_records (s : State) (l : Life) (key : List Byte) :
    (advanceLife s l key).nvm.life = l ∧ (advanceLife s l key).nvm.advance = none ∧
      (l = .maker → (advanceLife s l key).nvm.makerKey = some key) ∧
      (l = .ret → (advanceLife s l key).nvm.makerKey = none) := by
  rw [advanceLife_nvm]
  refine ⟨?_, ?_, fun hl => ?_, fun hl => ?_⟩
  · simp only [Nvm.life, newest_put_true, Option.getD_some]
  · simp only [Nvm.advance, newest_put_true, Option.getD_some]
  · simp only [Nvm.makerKey, hl, Nvm.makerOf, newest_put_true, Option.getD_some]
  · simp only [Nvm.makerKey, hl, Nvm.makerOf, newest_put_true, Option.getD_some]

/-! ## Firmware slots (R111, R342) -/

theorem unmark_verified (m : Nvm) : m.unmark.verified = false := by
  unfold Nvm.unmark
  split
  next => simp only [Nvm.verified, slot_putSlot_true]
  next h => simpa using h

theorem unmark_activeB (m : Nvm) : m.unmark.activeB = m.activeB := by
  unfold Nvm.unmark
  split
  next => simp only [Nvm.activeB, slot_putSlot_true]
  next => rfl

theorem setInactive_activeB (m : Nvm) (x : Memory) : (m.setInactive x).activeB = m.activeB := by
  unfold Nvm.setInactive
  split <;> rfl

/-- What is staged leaves the active slot as it is. -/
theorem staged_active (m : Nvm) (x : Memory) :
    (m.setInactive x).unmark.slotMem (m.setInactive x).unmark.activeB = m.slotMem m.activeB := by
  rw [unmark_activeB, setInactive_activeB]
  cases h : m.activeB <;> simp [Nvm.slotMem, h]

/-- The state in which the inactive slot holds what a store that verifies has left. -/
def State.staged (s : State) (m : Memory) : State := { s with nvm := (s.nvm.setInactive m).unmark }

/-- The state in which the inactive slot is marked verified. -/
def State.slotVerified (s : State) : State :=
  { s with nvm := s.nvm.putSlot { s.nvm.slot with verified := true } true }

section
variable {s : State} {hw : HwAnswer} (t : Tenant) (g : Tag) (off win n : Nat)

/-- The inactive slot with the window's bytes in it. -/
def State.stageInto (s : State) (t : Tenant) (off win n : Nat) : Memory :=
  memWriteN (s.nvm.slotMem (!s.nvm.activeB)) off ((s.ten t).windowRead win n)

theorem doFwStage_verified (hv : hw.verify = true) (final : Bool) : doFwStage s t g off win n final hw =
    if !final then ok (s.staged (s.stageInto t off win n)) t g
    else if (s.staged (s.stageInto t off win n)).nvm.imagePasses (s.stageInto t off win n) then
      ok (s.staged (s.stageInto t off win n)).slotVerified t g
    else fail (s.staged (s.stageInto t off win n)) t g .signatureBad := by
  simp only [doFwStage, hv]
  rfl

/-- A store that does not verify leaves words of both contents in the inactive slot. -/
theorem doFwStage_failed (hv : hw.verify = false) (final : Bool) : ∃ m, doFwStage s t g off win n final hw =
    fail { s with nvm := (s.nvm.setInactive m).unmark, freeCtr := s.freeCtr + n / 4 } t g .storeFailed := by
  refine ⟨stagedPart s (s.nvm.slotMem (!s.nvm.activeB)) off 0 ((s.ten t).windowRead win n), ?_⟩
  simp only [doFwStage, hv]
  rfl

end

theorem doFwActivate_unverified {s : State} (t : Tenant) (g : Tag) (hw : HwAnswer) (h : s.nvm.verified = false) :
    doFwActivate s t g hw = fail s t g .notFound := if_pos (by simp [h])

/-- The active-slot record names the other slot, on trial. -/
def State.switched (s : State) (verify : Bool) : State :=
  { s with nvm := s.nvm.putSlot { activeB := !s.nvm.activeB, trial := true } verify }

/-- The warm reset is under way. -/
def State.resets (s : State) : State := { s with fw := { s.fw with resetDue := true } }

/-- FW_ACTIVATE of a verified slot: the new record is stored, and with it the warm reset is under way. -/
theorem doFwActivate_verified {s : State} (t : Tenant) (g : Tag) (hw : HwAnswer) (h : s.nvm.verified = true) :
    doFwActivate s t g hw =
      if !hw.verify then fail (s.switched hw.verify) t g .storeFailed
      else { ok s t g with nvm := (s.switched hw.verify).nvm, fw := (ok s t g).resets.fw } := by
  rw [doFwActivate, if_neg (by simp [h])]
  rfl

/-- Settles O48: each command by the law of its case. -/
theorem storedRecordsFollowTheirCommands : Obligations.StoredRecordsFollowTheirCommands := by
  intro s t g c n w key target off win len die final hw answers locked stored m staged active
  have hlocked := vaultLocked_iff s
  refine ⟨fun h => ?load, fun h => ?erase, fun h => ?life, fun h => ?stage, fun h => ?activate, fun h => ?reset⟩
  case load =>
    have hrow : exec (.vaultKeyLoad t g hw) s = .next (doKeyLoad s t g n w hw) := h.row rfl
    simp only [answers, locked, stored, hrow, ← hlocked]
    refine ⟨fun hl => ?_, fun hl hu => ?_, fun hl hu => ⟨fun hk => ?_, fun k x hk hx hv => ?_⟩⟩
    · rw [doKeyLoad_locked t g w hw hl, h.fails]
    · rw [doKeyLoad_waits t g w hw hl hu]
    · have hnone : (s.vault.kek.bind fun k => Config.unwrap k w) = none := by
        cases hkek : s.vault.kek with
        | none => rfl
        | some k => exact (hk.resolve_left (by simp [hkek])) k hkek
      rw [doKeyLoad_refused t g w hw hl hu hnone, h.fails]
    · rw [doKeyLoad_stores t g w hw hl hu hk hx, hv, h.storesKeys]
  case erase =>
    have hrow : exec (.vaultKeyErase t g hw) s = .next (doKeyErase s t g n hw) := h.row rfl
    simp only [answers, locked, stored, hrow, ← hlocked]
    refine ⟨fun hl => ?_, fun hl hu => ?_, fun hl hu hv => ?_⟩
    · rw [doKeyErase_locked t g hw hl, h.fails]
    · rw [doKeyErase_waits t g hw hl hu]
    · rw [doKeyErase_stores t g hw hl hu, hv, h.storesKeys]
  case life =>
    have hrow : exec (.lifecycleAdvance t g hw) s = .next (doLifecycle s t g target die key hw) := h.row rfl
    simp only [answers, hrow]
    refine ⟨fun hopen => ?_, fun hclosed => ⟨fun hret => ?_, fun l hl => ?_⟩⟩
    · rw [doLifecycle_busy t g key hw hopen, h.fails]
    · rw [doLifecycle_return t g key hw hclosed hret, h.fails]
    · rw [doLifecycle_next t g key hw hclosed hl]
      refine ⟨fun hbad => ?_, fun htarget hdie hloads => ?_, fun htarget hdie hmem hfly hv => ⟨_, rfl, ?_⟩⟩
      · rw [if_pos hbad, h.fails]
      · rw [if_neg (by simp [htarget, hdie]), if_pos hloads]
      · obtain ⟨hframe, hseals, hkeys⟩ := advanceLife_rest (s.requested l key true) l key
        obtain ⟨hlife, hadvance, hmaker, hret⟩ := advanceLife_records (s.requested l key true) l key
        rw [if_neg (by simp [htarget, hdie]), if_neg (by simp [hmem, hfly]), if_pos hv]
        obtain ⟨hnvm, hvault, hwave, hrest⟩ := StoresOnly.finished
          (show StoresOnly s (advanceLife (s.requested l key true) l key) from hframe)
          (finish_tenantsOnly _ t g .ok (.note 0))
        rw [ok, hnvm, hvault, hwave]
        exact ⟨hlife, hadvance, hkeys, hmaker, hret, hseals, hrest⟩
  case stage =>
    have hrow : exec (.fwStage t g hw) s = .next (doFwStage s t g off win len final hw) := h.row rfl
    have hstaged : staged = s.staged (s.stageInto t off win len) := rfl
    simp only [hrow, hstaged]
    refine ⟨fun hv hf => ?_, fun hv hf hpass => ?_, fun hv hf hpass => ?_, fun hv => ?_⟩
    · rw [doFwStage_verified t g off win len hv, hf]
      exact congrArg _ (h.completes (u := s.staged _) _ _ rfl rfl)
    · rw [doFwStage_verified t g off win len hv, hf,
        show (s.staged (s.stageInto t off win len)).nvm.imagePasses (s.stageInto t off win len) = true from hpass]
      exact congrArg _ (h.completes (u := (s.staged _).slotVerified) _ _ rfl rfl)
    · rw [doFwStage_verified t g off win len hv, hf,
        show (s.staged (s.stageInto t off win len)).nvm.imagePasses (s.stageInto t off win len) = false from hpass]
      exact congrArg _ (h.completes (u := s.staged _) _ _ rfl rfl)
    · obtain ⟨x, hx⟩ := doFwStage_failed t g off win len hv final (s := s)
      rw [hx]
      exact ⟨{ s with nvm := (s.nvm.setInactive x).unmark, freeCtr := s.freeCtr + len / 4 },
        congrArg _ (h.completes _ _ rfl rfl), unmark_verified _, staged_active s.nvm x, rfl⟩
  case activate =>
    have hrow : exec (.fwActivate t g hw) s = .next (doFwActivate s t g hw) := h.row rfl
    simp only [answers, hrow]
    refine ⟨fun hm => ?_, fun hm hv => ⟨slot_putSlot_false .., ?_⟩, fun hm hv => ?_⟩
    · rw [doFwActivate_unverified t g hw hm, h.fails]
    · rw [doFwActivate_verified t g hw hm, hv, if_pos (by rfl)]
      exact congrArg _ (h.completes (u := s.switched false) _ _ rfl rfl)
    · rw [doFwActivate_verified t g hw hm, hv, if_neg (by simp), show ok s t g = _ from h.finish_self .ok (.note 0)]
      rfl
  case reset =>
    have hrow : exec (.deviceReset t g) s = .next (doDeviceReset s t g) := h.row rfl
    rw [hrow, doDeviceReset, show ok s t g = _ from h.finish_self .ok (.note 0)]
    rfl

end Sys2Proof.Machine
end

section
/-! SUPPORT. Coefficient loads and switches: the banks of the named buses, what a switch waits for, and the end of a fade. -/

namespace Sys2Proof.Machine

/-! ## The buses of a mask -/

theorem mem_busesOf {m : BitVec 32} {k : Nat} : k ∈ busesOf m ↔ k < 32 ∧ m.getLsbD k = true := by
  simp [busesOf, allBuses]

theorem fadesIn_iff (s : State) (m : BitVec 32) :
    s.fadesIn m = true ↔ ∃ k, k < 32 ∧ m.getLsbD k = true ∧ (s.bus k).fade ≠ none := by
  simp [State.fadesIn, mem_busesOf, Option.isSome_iff_ne_none, and_assoc]

/-- A change of several buses that does no more when it is done twice. -/
theorem foldS_updBus_bus (l : List Nat) (f : Bus → Bus) (hf : ∀ b, f (f b) = f b) (s : State) (k : Nat) :
    (foldS l s fun s n => s.updBus n f).bus k = if k ∈ l then f (s.bus k) else s.bus k := by
  induction l generalizing s with
  | nil => simp
  | cons n l ih =>
    rw [foldS_cons, ih]
    by_cases hk : k = n
    · subst hk; by_cases hl : k ∈ l <;> simp [hl, hf]
    · simp [hk, updBus_bus_other _ _ hk]

theorem foldS_updBus_mix (l : List Nat) (f : Bus → Bus) (s : State) :
    (foldS l s fun s n => s.updBus n f) = { s with mix := (foldS l s fun s n => s.updBus n f).mix } :=
  foldS_keeps (fun u => u = { s with mix := u.mix }) l _ (fun u n hu => by rw [hu]; rfl) rfl

/-! ## COEF_LOAD (R105, R177) -/

@[simp] theorem load_inactive (b : Bus) (c : List Int) : (b.load c).inactive = c := by
  unfold Bus.load Bus.inactive
  split <;> simp [*]

@[simp] theorem load_active (b : Bus) (c : List Int) : (b.load c).active = b.active := by
  unfold Bus.load Bus.active
  split <;> simp [*]

theorem load_load (b : Bus) (c : List Int) : (b.load c).load c = b.load c := by
  unfold Bus.load
  split <;> simp [*]

theorem loadBanks_bus (s : State) (m : BitVec 32) (c : List Int) (k : Nat) :
    (loadBanks s m c).bus k = if k ∈ busesOf m then (s.bus k).load c else s.bus k :=
  foldS_updBus_bus (busesOf m) (fun b => b.load c) (fun b => load_load b c) s k

theorem loadBanks_mix (s : State) (m : BitVec 32) (c : List Int) :
    loadBanks s m c = { s with mix := (loadBanks s m c).mix } := foldS_updBus_mix (busesOf m) (fun b => b.load c) s

theorem doCoefLoad_loads {s : State} (t : Tenant) (g : Tag) {m : BitVec 32} (c : List Int)
    (h : ∀ k, m.getLsbD k = true → (s.bus k).fade = none) : doCoefLoad s t g m c = ok (loadBanks s m c) t g := by
  refine if_neg fun hf => ?_
  obtain ⟨k, -, hk, hfade⟩ := (fadesIn_iff s m).mp hf
  exact hfade (h k hk)

theorem doCoefLoad_waits {s : State} (t : Tenant) (g : Tag) {m : BitVec 32} (c : List Int)
    (h : ∃ k, k < 32 ∧ m.getLsbD k = true ∧ (s.bus k).fade ≠ none) : doCoefLoad s t g m c = startLong { s with mix :=
      { s.mix with coefWaits := s.mix.coefWaits ++ [{ t := t, g := g, mask := m, coefs := c }] } } t g :=
  if_pos ((fadesIn_iff s m).mpr h)

/-! ## COEF_SWITCH (R105) -/

/-- The switch has started or is about to. -/
def CoefSw.runs (w : CoefSw) : Prop := w.phase = .landing ∨ w.phase = .fading

theorem sharesBus_iff (a b : BitVec 32) : sharesBus a b = true ↔ a &&& b ≠ 0 := by simp [sharesBus]

/-- The switches that share a bus with a mask. -/
def State.sharing (s : State) (m : BitVec 32) : List CoefSw := s.mix.switches.filter fun w => sharesBus w.mask m

theorem mem_sharing {s : State} {m : BitVec 32} {w : CoefSw} :
    w ∈ s.sharing m ↔ w ∈ s.mix.switches ∧ w.mask &&& m ≠ 0 := by
  rw [State.sharing, List.mem_filter, sharesBus_iff]

theorem sharing_eq_nil {s : State} {m : BitVec 32} :
    s.sharing m = [] ↔ ∀ w ∈ s.mix.switches, w.mask &&& m = 0 := by
  simp [State.sharing, sharesBus]

/-- A switch that shares a bus is queued or put off. -/
theorem anyQueued_iff {s : State} {m : BitVec 32} :
    ((s.sharing m).any fun w => w.phase != .landing && w.phase != .fading) = true ↔
      ∃ w ∈ s.mix.switches, w.mask &&& m ≠ 0 ∧ ¬ w.runs := by
  simp [List.any_eq_true, mem_sharing, CoefSw.runs, not_or, and_assoc]

/-- The state with one more switch, in a phase. -/
def State.addSwitch (s : State) (t : Tenant) (g : Tag) (m : BitVec 32) (p : SwPhase) : State :=
  { s with mix := { s.mix with switches := s.mix.switches ++ [{ ref := some (t, g), mask := m, phase := p }] } }

section
variable {s : State} {m : BitVec 32} (t : Tenant) (g : Tag)

theorem doCoefSwitch_pending (h : ∃ w ∈ s.mix.switches, w.mask &&& m ≠ 0 ∧ ¬ w.runs) :
    doCoefSwitch s t g m = fail s t g .fadePending := if_pos (anyQueued_iff.mpr h)

/-- A switch of some bus whose switches all run, if any, lands at the next boundary or queues. -/
theorem doCoefSwitch_starts (h : ∀ w ∈ s.mix.switches, w.mask &&& m ≠ 0 → w.runs) (hm : m ≠ 0) : doCoefSwitch s t g m =
    if s.sharing m = [] then ((startLong s t g).addSwitch t g m .landing).writeB (.coefSwitch m t g)
    else (startLong s t g).addSwitch t g m .queued := by
  have hrun : ¬((s.sharing m).any fun w => w.phase != .landing && w.phase != .fading) = true := fun ha =>
    have ⟨w, hw, hs, hr⟩ := anyQueued_iff.mp ha
    hr (h w hw hs)
  exact (if_neg hrun).trans (if_neg hm)

theorem doCoefSwitch_empty (hm : m = 0) : doCoefSwitch s t g m = ok s t g := by
  have hnone : s.sharing m = [] := sharing_eq_nil.mpr fun w _ => by simp [hm]
  have hrun : ¬((s.sharing m).any fun w => w.phase != .landing && w.phase != .fading) = true := by simp [hnone]
  exact (if_neg hrun).trans (if_pos hm)

end

/-! ## The end of a fade (R178, R179) -/

/-- The banks of a bus exchange roles. -/
def Bus.exchanged (b : Bus) : Bus := { b with activeB := !b.activeB, fade := none }

@[simp] theorem exchanged_active (b : Bus) : b.exchanged.active = b.inactive := by
  cases h : b.activeB <;> simp [Bus.exchanged, Bus.active, Bus.inactive, h]

@[simp] theorem exchanged_inactive (b : Bus) : b.exchanged.inactive = b.active := by
  cases h : b.activeB <;> simp [Bus.exchanged, Bus.active, Bus.inactive, h]

/-- With one fade that is due, the list of those is that bus alone. -/
theorem dueFades_one {s : State} {n : Nat} (hn : n < 32) (hdue : (s.bus n).fade = some 256)
    (hother : ∀ k, k < 32 → k ≠ n → (s.bus k).fade ≠ some 256) : s.dueFades = [n] := by
  have hpred : ∀ k ∈ allBuses, ((s.bus k).fade == some 256) = (k == n) := fun k hk => by
    by_cases hkn : k = n
    · simp [hkn, hdue]
    · simp [hkn, hother k (by simpa [allBuses] using hk) hkn]
  rw [State.dueFades, List.filter_congr hpred]
  rw [allBuses, List.filter_beq, List.count_eq_one_of_mem List.nodup_range (List.mem_range.mpr hn), List.replicate_one]

theorem switchesDone_one {s : State} {w : CoefSw} (h : s.mix.switches = [w]) (hp : w.phase = .fading)
    (hf : s.fadesIn w.mask = false) :
    switchesDone s = finishRef { s with mix := { s.mix with switches := [] } } w.ref .ok (.note 0) := by
  simp [switchesDone, h, hp, hf]

theorem applyWaits_none {s : State} (h : s.mix.coefWaits = []) : applyWaits s = s := by
  rw [applyWaits, h, foldS_nil, ← h]

theorem startQueued_none {s : State} (h : s.mix.switches = []) : startQueued s false = s := by
  simp only [startQueued, h, List.filter_nil, List.map_nil, Bool.false_eq_true, if_false, foldS_nil]
  rw [← h]

/-- A bus whose fade is over fades in no mask that names it alone. -/
theorem fadesIn_exchanged (s : State) {n : Nat} : (s.updBus n Bus.exchanged).fadesIn (BitVec.twoPow 32 n) = false := by
  rw [← Bool.not_eq_true, fadesIn_iff]
  rintro ⟨k, hk, hbit, hfade⟩
  have hkn : k = n := by simpa [BitVec.getLsbD_twoPow, hk] using hbit
  subst hkn
  rw [updBus_bus_same] at hfade
  exact hfade rfl

/-- The state in which bus n has exchanged its banks and no switch is left. -/
def State.switchOver (s : State) (n : Nat) : State :=
  { s.updBus n Bus.exchanged with mix := { (s.updBus n Bus.exchanged).mix with switches := [] } }

theorem endFades_one {s : State} {t : Tenant} {g : Tag} {c : InFlight} {n : Nat}
    (hsw : s.mix.switches = [{ ref := some (t, g), mask := BitVec.twoPow 32 n, phase := .fading }])
    (hwaits : s.mix.coefWaits = []) (hf : (s.ten t).find g = some c) (hq : c.quiet = false)
    (hr : s.fw.restarting = false) (hcalm : (s.ten t).noAbortWaits) :
    endFades s [n] false = (s.switchOver n).answer t c .ok (.note 0) := by
  have hdone : switchesDone (s.updBus n Bus.exchanged) = (s.switchOver n).answer t c .ok (.note 0) :=
    (switchesDone_one (s := s.updBus n Bus.exchanged) hsw rfl (fadesIn_exchanged s)).trans
      (finish_eq (s := s.switchOver n) _ _ hr hf hq hcalm)
  have hstep : endFades s [n] false = startQueued (applyWaits (switchesDone (s.updBus n Bus.exchanged))) false := rfl
  rw [hstep, hdone, applyWaits_none (s := (s.switchOver n).answer t c .ok (.note 0)) hwaits, startQueued_none rfl]

/-- Settles O35: the loads by the banks they write, the switches by what shares their buses, the end of a fade by its steps. -/
theorem coefficientsSwitchWithoutAStep : Obligations.CoefficientsSwitchWithoutAStep := by
  intro s t g c m l n runs begun
  refine ⟨fun h => ?load, fun h => ?switch, fun hfade => ?early, fun hfade hother hsw hwaits hf hq hr hcalm => ?ends⟩
  case load =>
    have hrow : exec (.coefLoad t g) s = .next (doCoefLoad s t g m l) := h.row rfl
    rw [hrow]
    refine ⟨fun hidle => ⟨loadBanks s m l, ?_, fun k hk hbit => ?_, fun k hbit => ?_, loadBanks_mix s m l⟩, fun hbusy => ?_⟩
    · rw [doCoefLoad_loads t g l hidle]
      exact congrArg _ (h.completes _ _ (by rw [loadBanks_mix]) (by rw [loadBanks_mix]))
    · rw [loadBanks_bus, if_pos (mem_busesOf.mpr ⟨hk, hbit⟩)]
      exact ⟨load_inactive .., load_active ..⟩
    · rw [loadBanks_bus, if_neg (by simp [mem_busesOf, hbit])]
    · rw [doCoefLoad_waits t g l hbusy, startLong_eq]
  case switch =>
    have hrow : exec (.coefSwitch t g) s = .next (doCoefSwitch s t g m) := h.row rfl
    rw [hrow]
    refine ⟨fun hpending => ?_, fun ⟨w, hw, hshare⟩ hrun => ?_, fun hfree hm => ?_, fun hm => ?_⟩
    · rw [doCoefSwitch_pending t g hpending, h.fails]
    · have hm : m ≠ 0 := fun hm => hshare (by simp [hm])
      have hne : s.sharing m ≠ [] := List.ne_nil_of_mem (mem_sharing.mpr ⟨hw, hshare⟩)
      rw [doCoefSwitch_starts t g hrun hm, if_neg hne, startLong_eq]
      rfl
    · rw [doCoefSwitch_starts t g (fun w hw hs => absurd (hfree w hw) hs) hm, if_pos (sharing_eq_nil.mpr hfree),
        startLong_eq]
      rfl
    · rw [doCoefSwitch_empty t g hm]
      exact congrArg _ (h.finish_self _ _)
  case early => exact congrArg Host.Outcome.next (if_neg hfade)
  case ends =>
    have hdue := dueFades_one n.isLt hfade hother
    have hend : exec (.coefFadeEnd n) s = .next ((s.switchOver n.val).answer t c .ok (.note 0)) := by
      rw [← endFades_one hsw hwaits hf hq hr hcalm]
      refine congrArg Host.Outcome.next ((if_pos hfade).trans ?_)
      rw [endDueFades, hdue, if_neg (List.cons_ne_nil _ _)]
    have hbus : ∀ k, ((s.switchOver n.val).answer t c .ok (.note 0)).bus k = (s.updBus n.val Bus.exchanged).bus k :=
      fun _ => rfl
    rw [hend]
    refine ⟨_, rfl, rfl, ?_, ?_, ?_, rfl, ?_, fun k hk => ?_, rfl⟩
    · rw [hbus, updBus_bus_same, exchanged_active]
    · rw [hbus, updBus_bus_same, exchanged_inactive]
    · rw [hbus, updBus_bus_same]; rfl
    · rw [hbus, updBus_bus_same]; rfl
    · rw [hbus, updBus_bus_other _ _ hk]

end Sys2Proof.Machine
end

section
/-! SUPPORT. The commands of the ring: the two reports, the start and the leave. -/

namespace Sys2Proof.Machine

/-! ## The reports (Table 04-11) -/

theorem chainInfo_length (s : State) : s.chainInfo.length = 48 := by
  simp [State.chainInfo, leBytes_length, Function.comp_def]

theorem chainInfo_take (s : State) : s.chainInfo.take 12 = [BitVec.ofNat 8 s.ring.role.code,
    BitVec.ofNat 8 s.ring.st.code, BitVec.ofNat 8 s.ring.units, BitVec.ofNat 8 s.ring.position] ++
      leBytes 8 s.ring.keeperId.toNat := by
  rw [State.chainInfo, List.append_assoc, List.append_assoc]
  exact List.take_left' (by simp [leBytes_length])

theorem ringStatus_length (s : State) : s.ringStatus.length = 32 := by simp [State.ringStatus, leBytes_length]

theorem ringStatus_take (s : State) : s.ringStatus.take 4 = [BitVec.ofNat 8 s.ring.laneA.code,
    BitVec.ofNat 8 s.ring.laneB.code] ++ leBytes 2 s.ring.heals.toNat := by
  simp only [State.ringStatus, List.append_assoc]
  rw [← List.append_assoc]
  exact List.take_left' (by simp [leBytes_length])

/-! ## RING_START and RING_LEAVE (R108, R274, R278, R290) -/

/-- A bus without a contribution to the ring. -/
def Bus.contribOff (b : Bus) : Bus := { b with contrib := false, contribRamp := { origin := 0, target := 0 } }

theorem contribsOff_bus (s : State) {n : Nat} (hn : n < 32) : ((contribsOff s).bus n).contrib = false := by
  have hbus : (contribsOff s).bus n = if n ∈ allBuses then (s.bus n).contribOff else s.bus n :=
    foldS_updBus_bus allBuses Bus.contribOff (fun _ => rfl) s n
  rw [hbus, if_pos (by simpa [allBuses] using hn)]
  rfl

theorem contribsOff_mix (s : State) : contribsOff s = { s with mix := (contribsOff s).mix } :=
  foldS_updBus_mix allBuses Bus.contribOff s

theorem contribsOff_ring (s : State) : (contribsOff s).ring = s.ring := by rw [contribsOff_mix]

theorem doRingStart_busy {s : State} (t : Tenant) (g : Tag)
    (h : s.ring.role ≠ .standalone ∨ s.ring.electing ≠ none ∨ s.ring.joining ≠ none) :
    doRingStart s t g = fail s t g .ringBusy := if_pos (by simpa [State.onRing, Option.isSome_iff_ne_none] using h)

@[simp] theorem setRing_bus (s : State) (r : Ring) (n : Nat) : (s.setRing r).bus n = s.bus n := rfl

theorem setRing_frame {s u : State} (h : u = { s with mix := u.mix }) (r : Ring) :
    u.setRing r = { s with ring := (u.setRing r).ring, mix := (u.setRing r).mix } := congrArg (State.setRing · r) h

/-- The ring's part of a unit whose election opens. -/
def Ring.opened (r : Ring) (t : Tenant) (g : Tag) : Ring :=
  { r with
    txOn := true, electing := some (t, g), higher := none, starts := 0, heals := 0, keeperId := 0, unhealed := false
    out := [], acks := [], acksOut := [], seen := [] }

theorem doRingStart_opens {s : State} (t : Tenant) (g : Tag) (hr : s.ring.role = .standalone)
    (he : s.ring.electing = none) (hj : s.ring.joining = none) : doRingStart s t g =
      (contribsOff (s.executing t g)).setRing ((contribsOff (s.executing t g)).ring.opened t g) := by
  rw [doRingStart, if_neg (by simp [not_onRing_of_role hr, he, hj]), startLong_eq]
  rfl

/-- The ring's part of a unit that has announced its leave. -/
def Ring.leaves (r : Ring) (t : Tenant) (g : Tag) (ticks : Nat) (die : BitVec 64) : Ring :=
  { r with
    leaving := true, leaveRef := some (t, g), leaveAt := ticks, seq := r.seq + 1
    out := r.out ++ [{ seq := r.seq, item := .leave die }] }

section
variable {s : State} (t : Tenant) (g : Tag)

theorem doRingLeave_off (hr : s.ring.role = .standalone) : doRingLeave s t g = fail s t g .notInRing :=
  if_pos (not_onRing_of_role hr)

theorem doRingLeave_again (hr : s.ring.role ≠ .standalone) (hl : s.ring.leaving = true) : doRingLeave s t g = s := by
  rw [doRingLeave, if_neg (by simp [onRing_of_role hr]), if_pos hl]

theorem doRingLeave_announces (hr : s.ring.role ≠ .standalone) (hl : s.ring.leaving = false) : doRingLeave s t g =
    (s.setRing (s.ring.leaves t g s.core.ticks s.fuse.dieId)).executing t g := by
  rw [doRingLeave, if_neg (by simp [onRing_of_role hr]), if_neg (by simp [hl]), startLong_eq]
  rfl

end

/-- Settles O55: the reports by their bytes, the start and the leave by the law of each case. -/
theorem ringCommandsStartAndLeave : Obligations.RingCommandsStartAndLeave := by
  intro s t g c r put
  refine ⟨fun h => (h.row rfl).trans (congrArg _ (h.finish_self _ _)), ⟨chainInfo_length s, chainInfo_take s⟩,
    fun h => (h.row rfl).trans (congrArg _ (h.finish_self _ _)), ⟨ringStatus_length s, ringStatus_take s⟩,
    fun h => ?start, fun h => ?leave⟩
  case start =>
    have hrow : exec (.ringStart t g) s = .next (doRingStart s t g) := h.row rfl
    rw [hrow]
    refine ⟨fun hbusy => ?_, fun hr he hj => ⟨_, congrArg _ (doRingStart_opens t g hr he hj), ?_, fun n hn => ?_, ?_⟩⟩
    · rw [doRingStart_busy t g hbusy, h.fails]
    · exact congrArg (Ring.opened · t g) (contribsOff_ring (s.executing t g))
    · rw [setRing_bus]; exact contribsOff_bus (s.executing t g) hn
    · exact setRing_frame (contribsOff_mix (s.executing t g)) _
  case leave =>
    have hrow : exec (.ringLeave t g) s = .next (doRingLeave s t g) := h.row rfl
    rw [hrow]
    refine ⟨fun hr => ?_, fun hr hl => ?_, fun hr hl => ?_⟩
    · rw [doRingLeave_off t g hr, h.fails]
    · rw [doRingLeave_again t g hr hl]
    · rw [doRingLeave_announces t g hr hl]
      rfl

end Sys2Proof.Machine
end

section
/-! SUPPORT. The card session: its commands, the steps of its activation, its characters, and how it ends. -/

namespace Sys2Proof.Machine

/-! ## The commands (R92, R93, R107) -/

theorem active_iff (k : Card) : k.active = true ↔ k.phase ≠ .idle := by simp [Card.active]

theorem cardOwner_some {s : State} {n : Nat} (h : s.cardCh = some n) : s.cardOwner = (s.sc n).owner := by
  simp only [State.cardOwner, h]

section
variable {s : State} {t : Tenant} {g : Tag} {c : InFlight} {b : Body} {n : Nat} {f : State → State}

theorem cardCmd_free (hch : s.cardCh = some n) (ho : (s.sc n).owner = t) (href : s.card.ref = none) :
    cardCmd s t g f = f s := by simp [cardCmd, hch, ho, href]

theorem cardCmd_noChannel (h : Starts s t g c b) (hch : s.cardCh = none) :
    cardCmd s t g f = s.answer t c .badField (.note 0) := by
  rw [cardCmd, hch]
  exact h.finish_self _ _

theorem cardCmd_foreign (h : Starts s t g c b) (hch : s.cardCh = some n) (ho : (s.sc n).owner ≠ t) :
    cardCmd s t g f = s.answer t c .noRights (.note 0) := by
  simp only [cardCmd, hch, if_pos ho, h.fails]

theorem cardCmd_waits (hch : s.cardCh = some n) (ho : (s.sc n).owner = t) (href : s.card.ref ≠ none) :
    cardCmd s t g f = s := by
  simp only [cardCmd, hch, ho, ne_eq, not_true_eq_false, if_false, if_pos (Option.isSome_iff_ne_none.mpr href)]

end

/-! ## Deactivation (R265) -/

/-- The card's channel drops what it sends. -/
def State.txDropped (s : State) : State :=
  match s.cardCh with
  | some n => s.updSc n fun c => { c with tx := [], txLast := none, txWave := none }
  | none => s

theorem txDropped_frame (s : State) : CardFrame s s.txDropped ∧ s.txDropped.card = s.card := by
  unfold State.txDropped
  split <;> exact ⟨rfl, rfl⟩

/-- The contacts of a card that is deactivated. -/
def Card.off (k : Card) : Card :=
  { k with en := false, clk := false, rst := false, ioLow := true, phase := .idle, errSignal := false, repeats := 0 }

theorem deactivate_idle {s : State} (h : s.card.phase = .idle) : deactivate s = s := if_neg (by simp [Card.active, h])

theorem deactivate_off {s : State} (h : s.card.phase ≠ .idle) : (deactivate s).card = s.card.off := by
  have hd : deactivate s = cardEvent { s.txDropped with card := s.txDropped.card.off } 2 :=
    if_pos ((active_iff _).mpr h)
  rw [hd, (cardEvent_cardFrame _ 2).2, (txDropped_frame s).2]

/-! ## Card detect (R261) -/

theorem cardEvent_eventFrame (s : State) (v : Nat) : EventFrame s (cardEvent s v) := raiseTo_eventFrame ..

theorem cardDetect_noChannel {s : State} (present : Bool) (h : s.cardCh = none) : cardDetect s present = s :=
  if_pos (.inl (by simp [h]))

/-- The state in which card detect shows a level. -/
def State.detected (s : State) (present : Bool) : State := { s with card := { s.card with present := present } }

theorem cardDetect_inserted {s : State} {n : Nat} (hch : s.cardCh = some n) (hp : s.card.present = false) :
    cardDetect s true = raiseTo (s.detected true) (s.sc n).owner .cardState (arg2 0 1) [] := by
  have howner : (s.detected true).cardOwner = (s.sc n).owner := cardOwner_some hch
  rw [cardDetect, if_neg (by simp [hch, hp]), ← howner]
  rfl

/-- The state of the session once the card is gone, before what an active card becomes. -/
def State.cardGone (s : State) : State :=
  cardEvent (finishRef { s with card := { s.card with present := false, ref := none } } s.card.ref .cardAbsent (.note 0)) 0

theorem cardDetect_removed {s : State} {n : Nat} (hch : s.cardCh = some n) (hp : s.card.present = true) :
    cardDetect s false = deactivate s.cardGone := by
  rw [cardDetect, if_neg (by simp [hch, hp])]
  rfl

theorem cardGone_frame (s : State) :
    EventFrame { s with card := { s.card with present := false, ref := none } } s.cardGone :=
  (finishRef_tenantsOnly _ _ _ _).eventFrame.trans (cardEvent_eventFrame _ 0)

/-! ## Activation (R262, Table 10-5) -/

section
variable {s : State} {m : List Bool} {t3 n : Nat}

/-- The session that TS has taken to its ATR, by the clock divider. -/
def Card.inAtr (k : Card) (inverse : Bool) (first : Byte) : Card :=
  { k with phase := .atr, inverse := inverse, etuN := 372 * k.clkDiv, etuF := 0, atr := [first] }

theorem cardTs_direct (hp : s.card.phase = .waitTs) (href : s.card.ref ≠ none) (hch : s.cardCh = some n)
    (hauto : (s.sc n).autobaud = false) :
    cardTs s tsDirect t3 = { s with card := s.card.inAtr false 0x3B } := by
  rw [cardTs, if_pos ⟨hp, Option.isSome_iff_ne_none.mpr href⟩, if_pos (.inl rfl)]
  simp only [hch, hauto]
  rfl

theorem cardTs_inverse (hp : s.card.phase = .waitTs) (href : s.card.ref ≠ none) (hch : s.cardCh = some n)
    (hauto : (s.sc n).autobaud = false) :
    cardTs s tsInverse t3 = { s with card := s.card.inAtr true 0x3F } := by
  rw [cardTs, if_pos ⟨hp, Option.isSome_iff_ne_none.mpr href⟩, if_pos (.inr rfl)]
  simp only [hch, hauto]
  rfl

theorem cardTs_other (hp : s.card.phase = .waitTs) (href : s.card.ref ≠ none) (hd : m ≠ tsDirect) (hi : m ≠ tsInverse) :
    cardTs s m t3 = cardFail s .cardProtocol := by
  rw [cardTs, if_pos ⟨hp, Option.isSome_iff_ne_none.mpr href⟩, if_neg (by simp [hd, hi])]

theorem cardTs_unasked (hp : s.card.phase ≠ .waitTs) : cardTs s m t3 = s := if_neg fun h => hp h.1

end

theorem cardTimer_powered {s : State} (hp : s.card.phase = .powered) :
    cardTimer s = { s with card := { s.card with clk := true, ioLow := false, phase := .clocked } } := by
  simp only [cardTimer, hp]

theorem cardTimer_clocked {s : State} (hp : s.card.phase = .clocked) :
    cardTimer s = { s with card := { s.card with rst := true, phase := .waitTs } } := by
  simp only [cardTimer, hp]

theorem cardTimer_other {s : State} (hp : s.card.phase ≠ .powered) (hc : s.card.phase ≠ .clocked) : cardTimer s = s := by
  unfold cardTimer
  split
  next h => exact absurd h hp
  next h => exact absurd h hc
  next => rfl

/-! ## Characters (R263) -/

/-- The place in the byte of a data bit on I/O. -/
def bitPlace (inverse : Bool) (i : Nat) : Nat := if inverse then 7 - i else i

/-- A byte is the sum of its bits, in either order. -/
theorem byte_of_bits : ∀ (inverse : Bool) (b : Byte), BitVec.ofNat 8 (((List.range 8).map fun i =>
    if b.getLsbD (bitPlace inverse i) then 2 ^ bitPlace inverse i else 0).sum) = b := by decide +kernel

/-- A parity bit makes the number of ones even. -/
theorem parity_even (l : List Bool) : ((l ++ [(l.filter id).length % 2 == 1]).filter id).length % 2 = 0 := by
  rw [List.filter_append, List.length_append]
  rcases Nat.mod_two_eq_zero_or_one (l.filter id).length with h | h
  · simp [h]
  · simp [h]; omega

/-- The data bits on I/O, as levels of the direct convention. -/
def dataBits (inverse : Bool) (b : Byte) : List Bool := (List.range 8).map fun i => b.getLsbD (bitPlace inverse i)

/-- The moments, read in their convention, are the data bits and their parity. -/
theorem cardMoments_read (inverse : Bool) (b : Byte) :
    ((List.range 9).map fun i => (cardMoments inverse b).getD i false != inverse) =
      dataBits inverse b ++ [((dataBits inverse b).filter id).length % 2 == 1] := by
  cases inverse <;> simp [cardMoments, dataBits, bitPlace, List.range_succ]

/-- A character sent in a convention and read in it is the byte, with even parity. -/
theorem cardByte_moments {inverse : Bool} {b : Byte} {w : BitVec 9}
    (h : ∀ i, i < 9 → w.getLsbD i = (cardMoments inverse b).getD i false) : cardByte inverse w = (b, true) := by
  have hread : ((List.range 9).map fun i => w.getLsbD i != inverse) =
      dataBits inverse b ++ [((dataBits inverse b).filter id).length % 2 == 1] := by
    rw [← cardMoments_read]
    exact List.map_congr_left fun i hi => by rw [h i (List.mem_range.mp hi)]
  have hbits : ∀ i ∈ List.range 8, (if (dataBits inverse b ++ [((dataBits inverse b).filter id).length % 2 == 1]).getD i
      false = true then 2 ^ (if inverse = true then 7 - i else i) else 0) =
        if b.getLsbD (bitPlace inverse i) then 2 ^ bitPlace inverse i else 0 := fun i hi => by
    rw [List.getD_append _ _ _ _ (by simpa [dataBits] using hi)]
    simp [dataBits, bitPlace, List.mem_range.mp hi]
  simp only [cardByte, hread, List.map_congr_left hbits, byte_of_bits, parity_even]
  rfl

section
variable {s : State} {n : Nat} {w : BitVec 9}

/-- A character that nobody awaits is not read. -/
theorem cardChar_unasked (href : s.card.ref = none) : cardChar s w = s := by simp [cardChar, href]

/-- The card after a sound character. -/
def Card.sound (k : Card) : Card := { k with errSignal := false, repeats := 0 }

/-- What a sound character does in the phases that await one. -/
theorem cardChar_sound {b : Byte} (href : s.card.ref ≠ none) (hch : s.cardCh = some n) (htx : (s.sc n).tx = [])
    (hb : cardByte s.card.inverse w = (b, true)) :
    (s.card.phase = .data true → cardChar s w = { s with card := { s.card.sound with
      got := s.card.got ++ [b], expect := s.card.expect - 1, phase := .procedure } }) ∧
    ∀ sw1, s.card.phase = .sw2 sw1 →
      cardChar s w = cardOk { s with card := s.card.sound } (s.card.got ++ [sw1, b]) := by
  refine ⟨fun hp => ?_, fun sw1 hp => ?_⟩
  · simp [cardChar, hb, href, hch, htx, hp, Card.sound]
  · simp [cardChar, hb, href, hch, htx, hp, Card.sound]

/-- A wrong parity where a procedure byte is awaited asks for the character again, at most 3 times (R263). -/
theorem cardChar_parity (href : s.card.ref ≠ none) (hch : s.cardCh = some n) (htx : (s.sc n).tx = [])
    (hb : (cardByte s.card.inverse w).2 = false) (hp : s.card.phase = .procedure) : cardChar s w =
      if 3 ≤ s.card.repeats then cardFail s .cardProtocol
      else { s with card := { s.card with errSignal := true, repeats := s.card.repeats + 1 } } := by
  simp [cardChar, hb, href, hch, htx, hp]

/-- The end of a session that succeeds with a result. -/
theorem cardOk_result (k : Card) {l : List Byte} (hl : l ≠ []) : cardOk { s with card := k } l =
    finishRef { s with card := { k with ref := none, phase := .ready, repeats := 0 } } k.ref .ok (.bytes l) := by
  rw [cardOk, if_neg hl]

theorem exec_cardWaitTimeout_unasked (href : s.card.ref = none) : exec .cardWaitTimeout s = .next s := by
  refine congrArg Host.Outcome.next ?_
  split <;> simp [href]

theorem exec_cardWaitTimeout (href : s.card.ref ≠ none) (hp : s.card.phase = .procedure) :
    exec .cardWaitTimeout s = .next (cardFail s .cardTimeout) := by
  refine congrArg Host.Outcome.next ?_
  rw [hp]
  exact if_pos (Option.isSome_iff_ne_none.mpr href)

end

/-- Settles O47: the commands by their common check, the steps of the session by the law of each. -/
theorem cardSessionsRunTheirSteps : Obligations.CardSessionsRunTheirSteps := by
  intro s t g c d h l n m t3 w k free turned failed
  have hturned : ∀ {b f row}, Starts s t g c b → exec row s = .next (cardCmd s t g f) → turned row := fun hs hrow => by
    simp only [turned, hrow]
    exact ⟨fun hch => congrArg _ (cardCmd_noChannel hs hch), fun hch ho => congrArg _ (cardCmd_foreign hs hch ho),
      fun hch ho href => congrArg _ (cardCmd_waits hch ho href)⟩
  refine ⟨fun hs => ?start, fun hs => ?exchange, fun hs => ?stop, ?deactivate, fun hch => ?noChannel,
    fun hch hp => ?inserted, fun hch hp => ?removed, fun hp => ?powered, fun hp => ?clocked, fun hp hc => ?noTimer,
    fun hp href hch hauto => ?ts, fun hp => ?noTs, fun hp => ?tsTimeout, fun inverse b hw => cardByte_moments hw,
    fun b href hch htx hb => ?character, fun href hch htx hb hp => ?parity, fun href => ?unasked, fun href hp => ?timeout⟩
  case start =>
    have hrow : exec (.cardSessionStart t g) s = .next (doCardStart s t g) := hs.row rfl
    refine ⟨hturned hs hrow, fun ⟨hch, ho, href⟩ hp => ?_, fun ⟨hch, ho, href⟩ hp => ?_⟩
    · rw [hrow, doCardStart, cardCmd_free hch ho href, if_pos hp, startLong_eq]
    · rw [hrow, doCardStart, cardCmd_free hch ho href, if_neg (by simp [show s.card.present = false from hp]), hs.fails]
  case exchange =>
    have hrow : exec (.cardSessionExchange t g) s = .next (doCardExchange s t g d h l) := hs.row rfl
    refine ⟨hturned hs hrow, fun ⟨hch, ho, href⟩ hp => ?_, fun ⟨hch, ho, href⟩ hp => ?_⟩
    · rw [hrow, doCardExchange, cardCmd_free hch ho href, if_pos ((active_iff _).mpr hp)]
      simp only [hch, startLong_eq]
      rfl
    · rw [hrow, doCardExchange, cardCmd_free hch ho href, if_neg (fun ha => (active_iff _).mp ha hp), hs.fails]
  case stop =>
    have hrow : exec (.cardSessionStop t g) s = .next (doCardStop s t g) := hs.row rfl
    refine ⟨hturned hs hrow, fun ⟨hch, ho, href⟩ hp => ?_, fun ⟨hch, ho, href⟩ hp => ?_⟩
    · rw [hrow, doCardStop, cardCmd_free hch ho href, if_pos ((active_iff _).mpr hp)]
    · rw [hrow, doCardStop, cardCmd_free hch ho href, if_neg (fun ha => (active_iff _).mp ha hp), hs.fails]
  case deactivate =>
    obtain ⟨hframe, hphase, -⟩ := deactivate_card s
    refine ⟨_, rfl, hphase, fun hp => ?_, deactivate_idle, hframe⟩
    rw [deactivate_off hp]
    exact ⟨rfl, rfl, rfl, rfl⟩
  case noChannel =>
    exact ⟨congrArg Host.Outcome.next (cardDetect_noChannel true hch),
      congrArg Host.Outcome.next (cardDetect_noChannel false hch)⟩
  case inserted => exact congrArg Host.Outcome.next (cardDetect_inserted hch hp)
  case removed =>
    have hgone : EventFrame _ s.cardGone := cardGone_frame s
    unfold EventFrame at hgone
    exact ⟨s.cardGone, congrArg Host.Outcome.next (cardDetect_removed hch hp), by rw [hgone], by rw [hgone]⟩
  case powered => exact congrArg Host.Outcome.next (cardTimer_powered hp)
  case clocked => exact congrArg Host.Outcome.next (cardTimer_clocked hp)
  case noTimer => exact congrArg Host.Outcome.next (cardTimer_other hp hc)
  case ts =>
    exact ⟨congrArg Host.Outcome.next (cardTs_direct hp href hch hauto),
      congrArg Host.Outcome.next (cardTs_inverse hp href hch hauto),
      fun hd hi => congrArg Host.Outcome.next (cardTs_other hp href hd hi)⟩
  case noTs => exact ⟨congrArg Host.Outcome.next (cardTs_unasked hp), congrArg Host.Outcome.next (if_neg hp)⟩
  case tsTimeout => exact congrArg Host.Outcome.next (if_pos hp)
  case character =>
    obtain ⟨hdata, hsw2⟩ := cardChar_sound href hch htx hb
    refine ⟨fun hp => congrArg Host.Outcome.next (hdata hp), fun sw1 hp => congrArg Host.Outcome.next ?_⟩
    rw [hsw2 sw1 hp, cardOk_result _ (by simp)]
    rfl
  case parity =>
    have hchar := cardChar_parity href hch htx hb hp
    exact ⟨fun hr => congrArg Host.Outcome.next (hchar.trans (if_neg (Nat.not_le.mpr hr))),
      fun hr => congrArg Host.Outcome.next (hchar.trans (if_pos hr))⟩
  case unasked => exact ⟨congrArg Host.Outcome.next (cardChar_unasked href), exec_cardWaitTimeout_unasked href⟩
  case timeout => exact exec_cardWaitTimeout href hp

end Sys2Proof.Machine
end

section
/-! SUPPORT. Spilled notes: the records that act once, the arrival, the start and the steal part of a spilled note, and the
reports at its origin. -/

namespace Sys2Proof.Machine

/-! ## Records act once, on a ring, while the firmware runs (R10, R268, R273) -/

/-- A record's effect, which the unit takes only on a ring and while its firmware runs. -/
def State.whenOn (s u : State) : State := if s.onRing && s.fwRuns then u else s

section
variable {s : State}

theorem whenOn_off (h : ¬ (s.ring.role ≠ .standalone ∧ s.fwRuns = true)) (u : State) : s.whenOn u = s :=
  if_neg fun hon => h (by simpa [State.onRing] using hon)

theorem whenOn_on (h : s.ring.role ≠ .standalone ∧ s.fwRuns = true) (u : State) : s.whenOn u = u :=
  if_pos (by simp [onRing_of_role h.1, h.2])

theorem whenOn_eq (s u : State) : (if s.onRing = false ∨ s.fwRuns = false then s else u) = s.whenOn u := by
  unfold State.whenOn
  cases s.onRing <;> cases s.fwRuns <;> rfl

theorem onceOnly_on (h : s.ring.role ≠ .standalone ∧ s.fwRuns = true) (k : RingHead) (f : State → State)
    (hnew : (k.unit, k.seq) ∉ s.ring.seen) :
    s.whenOn (onceOnly s k f) = f (s.setRing (s.ring.took (k.unit, k.seq))) :=
  (whenOn_on h _).trans (onceOnly_new k f hnew)

theorem onceOnly_on_seen (h : s.ring.role ≠ .standalone ∧ s.fwRuns = true) (k : RingHead) (f : State → State)
    (hseen : (k.unit, k.seq) ∈ s.ring.seen) :
    s.whenOn (onceOnly s k f) = s.setRing { s.ring with acks := s.ring.acks ++ [(k.unit, k.seq)] } :=
  (whenOn_on h _).trans (onceOnly_seen k f hseen)

end

section
variable (s : State) (h : RingHead) (t : Tenant) (id : BitVec 32)

theorem exec_startReport : exec (.spillStartReport h t id) s =
    .next (s.whenOn (onceOnly s h fun s => startReportIn s t id)) := rfl

theorem exec_refusal : exec (.spillRefusal h t id) s = .next (s.whenOn (onceOnly s h fun s => refusalIn s t id)) := rfl

theorem exec_endRecord (stolen : Bool) : exec (.spillEndRecord h t id stolen) s =
    .next (s.whenOn (onceOnly s h fun s => endRecord s t id stolen)) := rfl

/-- The loss of a bank at the receiving unit, as the origin tells it to the owner of the note. -/
def bankOffIn (t : Tenant) (id : BitVec 32) (bank : Nat) (s : State) : State :=
  if ((s.ten t).out? id).isSome then raiseTo s t .bankOff (BitVec.ofNat 16 bank) (leBytes 4 id.toNat) else s

theorem exec_bankOff (bank : Nat) : exec (.spillCommandRecord (.bankOff h t id bank)) s =
    .next (s.whenOn (onceOnly s h (bankOffIn t id bank))) := by
  rw [← whenOn_eq]
  exact congrArg _ (if_neg (by simp))

theorem exec_report (g : Tag) (found late : Bool) (landed : Smp) :
    exec (.spillCommandRecord (.report h t g id found late landed)) s =
      .next (s.whenOn (onceOnly s h fun s => reportIn s t g id found late landed)) := by
  rw [← whenOn_eq]
  exact congrArg _ (if_neg (by simp))

theorem exec_endOrder : exec (.spillCommandRecord (.endOrder h t id)) s =
    .next (s.whenOn (onceOnly s h fun s => endOrderIn s h t id)) := by
  rw [← whenOn_eq]
  exact congrArg _ (if_neg (by simp))

end

/-- A command on its way to the tick at which it lands. -/
def State.dueAt (s : State) (c : SpillCommand) : RingDue :=
  let d := plus32 c.at_ c.et s.core.osr
  { c := { c with et := d.et }, land := d.smp, late := decide (d.num < s.core.tide.num) }

/-- A command reaches the unit that plays its note: it waits for its tick, or the note has ended. -/
def commandIn (c : SpillCommand) (s : State) : State :=
  match s.spilled? c.origin c.tenant c.noteId with
  | none => reportTo s c false false
  | some _ => s.setRing { s.ring with due := s.ring.due ++ [s.dueAt c] }

theorem exec_command (s : State) (c : SpillCommand) : exec (.spillCommandRecord (.command c)) s =
    .next (s.whenOn (onceOnly s ⟨c.origin, c.seq⟩ (commandIn c))) := by
  rw [← whenOn_eq]
  exact congrArg _ (if_neg (by simp))

/-- Each row of a record acts once, on a ring, while the firmware runs. -/
theorem exec_record {h : RingHead} {t : Tenant} {g : Tag} {id : BitVec 32} {stolen found late : Bool} {at_ : Smp}
    {bank : Nat} {row : Instr} (hrow : row ∈ [Instr.spillStartReport h t id, .spillRefusal h t id,
      .spillEndRecord h t id stolen, .spillCommandRecord (.report h t g id found late at_),
      .spillCommandRecord (.bankOff h t id bank), .spillCommandRecord (.endOrder h t id)]) (s : State) :
    ∃ f, exec row s = .next (s.whenOn (onceOnly s h f)) := by
  simp only [List.mem_cons, List.not_mem_nil, or_false] at hrow
  rcases hrow with rfl | rfl | rfl | rfl | rfl | rfl
  · exact ⟨_, exec_startReport ..⟩
  · exact ⟨_, exec_refusal ..⟩
  · exact ⟨_, exec_endRecord ..⟩
  · exact ⟨_, exec_report ..⟩
  · exact ⟨_, exec_bankOff ..⟩
  · exact ⟨_, exec_endOrder ..⟩

/-- The ring's part with one more discarded section on the lane it came on. -/
def Ring.miscoded (r : Ring) : Ring :=
  { r with
    codeA := if r.laneA = .folded then r.codeA else r.codeA + 1
    codeB := if r.laneA = .folded then r.codeB + 1 else r.codeB }

theorem codeError_eq (s : State) : codeError s = s.setRing s.ring.miscoded := by
  unfold codeError Ring.miscoded
  split <;> rfl

theorem exec_crcBad (s : State) : exec (.spillCommandRecord .crcBad) s =
    .next (if s.onRing = true then s.setRing s.ring.miscoded else s) := by
  have hcrc : commandRecord s .crcBad = if s.onRing = true then s.setRing s.ring.miscoded else s := by
    cases hon : s.onRing <;> simp [commandRecord, hon, codeError_eq]
  exact congrArg _ hcrc

/-! ## A note from another unit (R164, R282) -/

/-- A note that is taken: it waits in a free slot for its tick, or it is refused. -/
def arriveNew (n : RingNote) (s : State) : State :=
  let d := plus32 n.start n.et s.core.osr
  if s.core.tide.num ≤ d.num ∧ s.takesSpill = true then
    let u := startIn s s.pickLane ((s.freeOf s.pickLane).headD 0)
      { owner := .spilled n.origin n.tenant, noteId := n.noteId, part := n.part, key := n.key, vel := n.velocity,
        detune := n.detune, copy := n.copy } (some (d.smp, d.et))
    u.setRing { u.ring with spillsIn := u.ring.spillsIn + 1 }
  else ringSend s (.refusal n.origin n.tenant n.noteId)

section
variable {s : State} {n : RingNote}

theorem exec_arrival : exec (.spilledNoteArrival n) s = .next (noteArrives s n) := rfl

theorem noteArrives_bad (hcrc : n.crcOk = false) :
    noteArrives s n = if s.onRing = true then s.setRing s.ring.miscoded else s := by
  cases hon : s.onRing <;> simp [noteArrives, hon, hcrc, codeError_eq]

theorem noteArrives_good (hcrc : n.crcOk = true) :
    noteArrives s n = s.whenOn (onceOnly s ⟨n.origin, n.seq⟩ (arriveNew n)) := by
  rw [← whenOn_eq, noteArrives, if_neg (by simp [hcrc])]
  congr 1
  cases hseen : s.ring.seen.contains (n.origin, n.seq) <;> simp only [onceOnly, takeItem, hseen] <;> rfl

theorem arriveNew_placed (hd : s.core.tide.num ≤ (plus32 n.start n.et s.core.osr).num) (hfree : s.takesSpill = true) :
    arriveNew n s = { s with
      voices := (arriveNew n s).voices
      ring := { s.ring with spillsIn := s.ring.spillsIn + 1 } } ∧
    ∃ v, (arriveNew n s).voices = s.voices ++ [v] ∧ v.owner = .spilled n.origin n.tenant ∧ v.noteId = n.noteId ∧
      v.life = .starting (some ((plus32 n.start n.et s.core.osr).smp, (plus32 n.start n.et s.core.osr).et)) := by
  rw [arriveNew, if_pos ⟨hd, hfree⟩]
  exact ⟨rfl, _, rfl, rfl, rfl, rfl⟩

theorem arriveNew_refused (h : (plus32 n.start n.et s.core.osr).num < s.core.tide.num ∨ s.takesSpill = false) :
    arriveNew n s = ringSend s (.refusal n.origin n.tenant n.noteId) :=
  if_neg fun hok => h.elim (fun hlt => absurd hok.1 (Nat.not_le.mpr hlt)) fun hf => by simp [hok.2] at hf

theorem takesSpill_took (s : State) (p : Nat × BitVec 16) : (s.setRing (s.ring.took p)).takesSpill = s.takesSpill := rfl

end

/-! ## Start, steal part and end of a spilled note (R100, R282, R283) -/

theorem startArrived_eq {s : State} {v : Voice} {a : Smp} {e o : Nat} {t : Tenant}
    (hlife : v.life = .starting (some (a, e))) (hown : v.owner = .spilled o t) : startArrived s v =
      if ({ smp := a, et := e } : Tide).num ≤ s.core.tide.num then
        ringSend (s.setVoice { v with life := .starting none }) (.startReport o t v.noteId) else s := by
  simp only [startArrived, hlife, hown]

theorem exec_noteStart {s : State} {o : Fin 16} {t : Tenant} {id : BitVec 32} : exec (.spilledNoteStart o t id) s =
    .next (match s.arrived? o.val t id with
      | some v => startArrived s v
      | none => s) := rfl

/-- Every tenant has the spilled notes it had. -/
def KeepsOut (s u : State) : Prop := ∀ w, (u.ten w).spilledOut = (s.ten w).spilledOut

theorem KeepsOut.refl (s : State) : KeepsOut s s := fun _ => rfl

theorem KeepsOut.trans {a b c : State} (h : KeepsOut a b) (k : KeepsOut b c) : KeepsOut a c := fun w => (k w).trans (h w)

theorem KeepsOut.out {s u : State} (h : KeepsOut s u) (t : Tenant) (id : BitVec 32) :
    (u.ten t).out? id = (s.ten t).out? id := by rw [TenantSt.out?, h t, TenantSt.out?]

theorem commitOne_keepsOut (s : State) (t : Tenant) (g : Tag) (st : Status) (res : Result) :
    KeepsOut s (commitOne s t g st res) := by
  intro w
  by_cases hw : w = t
  · subst hw
    unfold commitOne
    split
    · rfl
    · rw [updTen_ten_same]
      dsimp only
      unfold TenantSt.storeEcho
      split <;> split <;> rfl
  · rw [commitOne_ten_other g st res hw]

theorem finish_keepsOut (s : State) (t : Tenant) (g : Tag) (st : Status) (res : Result) :
    KeepsOut s (finish s t g st res) := by
  refine repeatN_keeps (KeepsOut s) _ (fun u hu => hu.trans ?_) _ (commitOne_keepsOut s t g st res)
  exact foldS_keeps (KeepsOut u) _ _ (fun v _ hv => hv.trans (commitOne_keepsOut v t _ _ _)) (KeepsOut.refl u)

theorem finishRef_keepsOut (s : State) (r : Option (Tenant × Tag)) (st : Status) (res : Result) :
    KeepsOut s (finishRef s r st res) := by
  cases r with
  | none => exact KeepsOut.refl s
  | some p => exact finish_keepsOut s p.1 p.2 st res

theorem raiseTo_keepsOut (s : State) (t : Tenant) (e : Event) (arg : BitVec 16) (cont : List Byte) :
    KeepsOut s (raiseTo s t e arg cont) := fun w => by
  obtain ⟨q, n, a, b, hten⟩ := raiseTo_ten s t w e arg cont
  rw [hten]

/-- The end of a spilled-in note goes to its origin, or is kept, or goes to nobody. -/
theorem ringEnded_ring (s : State) (o : Nat) (t : Tenant) (id : BitVec 32) (stolen : Bool) :
    ∃ r, ringEnded s o t id stolen = s.setRing r ∧ r.due = s.ring.due := by
  unfold ringEnded
  dsimp only
  split
  · exact ⟨s.ring, rfl, rfl⟩
  · split
    · exact ⟨_, rfl, rfl⟩
    · exact ⟨_, rfl, rfl⟩

theorem toldStolen_keepsOut (s : State) (v : Voice) : KeepsOut s (toldStolen s v) := by
  unfold toldStolen
  split
  · exact raiseTo_keepsOut s _ _ _ _
  next o t _ =>
    obtain ⟨r, hr, -⟩ := ringEnded_ring s o t v.noteId true
    rw [hr]
    exact fun _ => rfl

theorem beginFade_keepsOut (s : State) (v : Voice) (n : Option Succ) (k : FadeKind) : KeepsOut s (beginFade s v n k) :=
  finishRef_keepsOut s (v.retrig.bind (·.ref)) .ok (.note 0)

/-- A note that steals leaves the spilled notes and the engine as they are. -/
theorem stealFor_keeps {s u : State} {t : Tenant} {n : Succ} {noSteal : Bool} (h : stealFor s t n noSteal = some u) :
    KeepsOut s u ∧ SpillFrame s u := by
  unfold stealFor at h
  split at h
  · cases h
  · split at h
    · cases h
    · cases h
      exact ⟨(beginFade_keepsOut s _ _ _).trans (toldStolen_keepsOut _ _), (beginFade_spill ..).trans (toldStolen_spill ..)⟩

theorem freeSpill_out (s : State) (t : Tenant) (id : BitVec 32) : ((freeSpill s t id).ten t).out? id = none := by
  simp [freeSpill, TenantSt.out?, List.find?_eq_none]

/-- The steal part frees the spilled note and leaves the engine; under the policy NEVER it leaves every voice. -/
theorem fallback_frees (s : State) (t : Tenant) (o : SpilledOut) :
    ((fallback s t o).ten t).out? o.noteId = none ∧ (fallback s t o).core = s.core ∧
      ((s.ten t).policy = .never → (fallback s t o).voices = s.voices) := by
  have hpol : ((freeSpill s t o.noteId).ten t).policy = (s.ten t).policy := by simp [freeSpill]
  unfold fallback
  dsimp only
  split
  next u hu =>
    obtain ⟨hout, hframe⟩ := stealFor_keeps hu
    unfold SpillFrame at hframe
    refine ⟨(hout.out t o.noteId).trans (freeSpill_out s t o.noteId), ?_, fun hnever => ?_⟩
    · rw [hframe]; rfl
    · rw [stealFor_none (.inr (.inl (hpol.trans hnever)))] at hu
      cases hu
  next =>
    have hframe := finishRef_tenantsOnly (freeSpill s t o.noteId) o.ref .noVoice (.note 0)
    refine ⟨((finishRef_keepsOut _ _ _ _).out t o.noteId).trans (freeSpill_out s t o.noteId), hframe.core, fun _ => ?_⟩
    unfold TenantsOnly at hframe
    rw [hframe]
    rfl

theorem exec_fallback (s : State) (t : Tenant) (id : BitVec 32) : exec (.spillFallbackSteal t id) s =
    .next (if s.fwRuns then fallbackOf s t id else s) := rfl

theorem out_id {x : TenantSt} {id : BitVec 32} {o : SpilledOut} (h : x.out? id = some o) : o.noteId = id := by
  simpa using List.find?_some h

section
variable {s : State} {t : Tenant} {id : BitVec 32} {x : SpilledOut}

theorem fallbackOf_none (h : (s.ten t).out? id = none) : fallbackOf s t id = s := by rw [fallbackOf, h]

theorem fallbackOf_some (h : (s.ten t).out? id = some x) :
    fallbackOf s t id = if s.fallbackDue x then fallback s t x else s := by rw [fallbackOf, h]

theorem startReportIn_none (h : (s.ten t).out? id = none) : startReportIn s t id = s := by rw [startReportIn, h]

theorem startReportIn_told (h : (s.ten t).out? id = some x) (htold : x.reported = true ∨ x.refused = true) :
    startReportIn s t id = s := by
  rw [startReportIn, h]
  exact if_pos (by simpa using htold)

/-- The origin marks the note as reported, and its NOTE_ON as executed 32 samples after the note. -/
def noteReported (s : State) (t : Tenant) (id : BitVec 32) (x : SpilledOut) : State :=
  let u := s.updTen t fun y => y.updOut id fun e => { e with reported := true, ref := none }
  match x.ref with
  | some (v, k) => u.updTen v fun y => y.updCmd k fun e => { e with execAt := some (Smp.plus x.start 32) }
  | none => u

theorem startReportIn_new (h : (s.ten t).out? id = some x) (hrep : x.reported = false) (href : x.refused = false) :
    startReportIn s t id =
      finishRef (noteReported s t id x) x.ref .ok (.bytes (leBytes 2 (32768 + 32 * s.core.osr))) := by
  rw [startReportIn, h]
  refine (if_neg (by simp [hrep, href])).trans ?_
  unfold noteReported
  cases x.ref <;> rfl

theorem startReportIn_tenantsOnly (s : State) (t : Tenant) (id : BitVec 32) : TenantsOnly s (startReportIn s t id) := by
  unfold startReportIn
  split
  · split
    · exact TenantsOnly.refl s
    · refine TenantsOnly.trans ?_ (finishRef_tenantsOnly ..)
      split <;> rfl
  · exact TenantsOnly.refl s

theorem endRecord_none (h : (s.ten t).out? id = none) (stolen : Bool) : endRecord s t id stolen = s := by
  rw [endRecord, h]

theorem endRecord_frees (h : (s.ten t).out? id = some x) (stolen : Bool) :
    ((endRecord s t id stolen).ten t).out? id = none ∧ EventFrame s (endRecord s t id stolen) := by
  have hfreed : EventFrame s (freeSpill (startReportIn s t id) t id) :=
    (startReportIn_tenantsOnly s t id).eventFrame.trans rfl
  have hout := freeSpill_out (startReportIn s t id) t id
  rw [endRecord, h]
  dsimp only
  split
  · exact ⟨((raiseTo_keepsOut _ _ _ _ _).out t id).trans hout, hfreed.trans (raiseTo_eventFrame ..)⟩
  · exact ⟨hout, hfreed⟩

theorem bankOffIn_none (h : (s.ten t).out? id = none) (bank : Nat) : bankOffIn t id bank s = s :=
  if_neg (by simp [h])

theorem bankOffIn_some (h : (s.ten t).out? id = some x) (bank : Nat) :
    bankOffIn t id bank s = raiseTo s t .bankOff (BitVec.ofNat 16 bank) (leBytes 4 id.toNat) := if_pos (by simp [h])

/-! ## Reports and end orders (R284, R285) -/

theorem reportIn_nobody {g : Tag} (found late : Bool) (landed : Smp)
    (h : ∀ v ∈ s.ring.waits, v.t = t → v.g = g → v.noteId ≠ id) : reportIn s t g id found late landed = s := by
  have hnone : s.ring.waits.find? (fun w => w.t == t && w.g == g && w.noteId == id) = none :=
    List.find?_eq_none.mpr fun v hv => by simpa using h v hv
  rw [reportIn, hnone]

/-- The command that waited takes the sample at which its change landed. -/
def reportTaken (s : State) (t : Tenant) (g : Tag) (w : RingWait) (late : Bool) (landed : Smp) : State :=
  (s.setRing { s.ring with waits := s.ring.waits.erase w }).updTen t fun x =>
    x.updCmd g fun c => { c with late := c.late || late, execAt := some landed }

theorem reportIn_one {g : Tag} {w : RingWait} (found late : Bool) (landed : Smp)
    (hw : s.ring.waits.find? (fun w => w.t == t && w.g == g && w.noteId == id) = some w) (ha : w.affected = none) :
    reportIn s t g id found late landed =
      finish (reportTaken s t g w late landed) t g (if found then .ok else .notFound) (.note 0) := by
  rw [reportIn, hw]
  dsimp only
  rw [ha]
  cases found <;> rfl

end

/-- A NOTE_OFF at the first tick from now on. -/
def State.offNow (s : State) (h : RingHead) (t : Tenant) (id : BitVec 32) : RingDue :=
  { c := { origin := h.unit, tenant := t, tag := none, noteId := id, cmd := .off 0, at_ := s.smp, et := s.core.tide.et
           seq := h.seq }
    land := s.smp, late := false }

theorem endOrderIn_none {s : State} {h : RingHead} {t : Tenant} {id : BitVec 32} (hn : s.spilled? h.unit t id = none) :
    endOrderIn s h t id = ringEnded s h.unit t id false := by rw [endOrderIn, hn]

theorem endOrderIn_some {s : State} {h : RingHead} {t : Tenant} {id : BitVec 32} (hn : s.spilled? h.unit t id ≠ none) :
    endOrderIn s h t id = s.setRing { s.ring with due := s.ring.due ++ [s.offNow h t id] } := by
  obtain ⟨v, hv⟩ := Option.ne_none_iff_exists'.mp hn
  rw [endOrderIn, hv]
  rfl

theorem commandIn_some {s : State} {c : SpillCommand} (hn : s.spilled? c.origin c.tenant c.noteId ≠ none) :
    commandIn c s = s.setRing { s.ring with due := s.ring.due ++ [s.dueAt c] } := by
  obtain ⟨v, hv⟩ := Option.ne_none_iff_exists'.mp hn
  rw [commandIn, hv]

theorem commandIn_none {s : State} {c : SpillCommand} {g : Tag} (hn : s.spilled? c.origin c.tenant c.noteId = none)
    (hg : c.tag = some g) :
    commandIn c s = ringSend s (.report c.origin c.tenant g c.noteId false false s.smp) := by
  rw [commandIn, hn]
  dsimp only
  rw [reportTo, hg]

end Sys2Proof.Machine
end

section
/-! SUPPORT. Commands that are lost: what the end of a wait for a report leaves, and the statement about spilled notes. -/

namespace Sys2Proof.Machine

/-! ## No command is left under a tag -/

/-- No command of the tenant is in flight under the tag. -/
def Freed (s : State) (t : Tenant) (g : Tag) : Prop := ∀ d ∈ (s.ten t).inflight, d.tag ≠ g

/-- Nothing of the command is left: it is not in flight and waits for no report. -/
def Gone (s : State) (t : Tenant) (g : Tag) : Prop := (∀ v ∈ s.ring.waits, ¬ (v.t = t ∧ v.g = g)) ∧ Freed s t g

/-- Two states of which the second has lost commands: waits and commands in flight have only become fewer. -/
structure Loses (s u : State) : Prop where
  frame : u = { s with ring := u.ring, tenants := u.tenants }
  shrinks : Shrinks s u
  waits : ∀ v ∈ u.ring.waits, v ∈ s.ring.waits
  lost : u.ring.spillsLost = s.ring.spillsLost

section
variable {s u v : State} {t : Tenant} {g : Tag}

theorem Freed.find_none (h : Freed s t g) : (s.ten t).find g = none :=
  List.find?_eq_none.mpr fun d hd => by simpa using h d hd

theorem Freed.shrinks (h : Freed s t g) (k : Shrinks s u) : Freed u t g := fun d hd => h d (k t d hd)

theorem Loses.refl (s : State) : Loses s s := ⟨rfl, Shrinks.refl s, fun _ h => h, rfl⟩

theorem Loses.trans (h : Loses s u) (k : Loses u v) : Loses s v where
  frame := by rw [k.frame, h.frame]
  shrinks := h.shrinks.trans k.shrinks
  waits := fun w hw => h.waits w (k.waits w hw)
  lost := k.lost.trans h.lost

theorem Loses.fold {α : Type} (l : List α) (f : State → α → State) (h : ∀ s a, Loses s (f s a)) (s : State) :
    Loses s (foldS l s f) :=
  foldS_keeps (Loses s) l f (fun u a hu => hu.trans (h u a)) (Loses.refl s)

theorem Loses.fw (h : Loses s u) : u.fw = s.fw := by rw [h.frame]

theorem Gone.loses (h : Gone s t g) (k : Loses s u) : Gone u t g :=
  ⟨fun v hv => h.1 v (k.waits v hv), h.2.shrinks k.shrinks⟩

end

theorem finish_ring (s : State) (t : Tenant) (g : Tag) (st : Status) (res : Result) :
    (finish s t g st res).ring = s.ring := by rw [finish_frame]

theorem finishRef_ring (s : State) (r : Option (Tenant × Tag)) (st : Status) (res : Result) :
    (finishRef s r st res).ring = s.ring := by
  cases r with
  | none => rfl
  | some p => exact finish_ring s p.1 p.2 st res

theorem finish_loses (s : State) (t : Tenant) (g : Tag) (st : Status) (res : Result) :
    Loses s (finish s t g st res) where
  frame := by rw [finish_frame]
  shrinks := finish_shrinks s t g st res
  waits := by rw [finish_ring]; exact fun _ h => h
  lost := by rw [finish_ring]

theorem finishRef_loses (s : State) (r : Option (Tenant × Tag)) (st : Status) (res : Result) :
    Loses s (finishRef s r st res) := by
  cases r with
  | none => exact Loses.refl s
  | some p => exact finish_loses s p.1 p.2 st res

theorem ringSend_loses (s : State) (i : RingItem) : Loses s (ringSend s i) := ⟨rfl, fun _ _ h => h, fun _ h => h, rfl⟩

theorem freeSpill_loses (s : State) (t : Tenant) (id : BitVec 32) : Loses s (freeSpill s t id) where
  frame := rfl
  shrinks := fun w d hd => by
    by_cases hw : w = t
    · subst hw
      rwa [freeSpill, updTen_ten_same] at hd
    · rwa [freeSpill, updTen_ten_other _ _ hw] at hd
  waits := fun _ h => h
  lost := rfl

/-! ## Waits for a report that are lost (R285) -/

/-- Only the waits that meet a condition are kept. -/
def State.keepWaits (s : State) (p : RingWait → Bool) : State := s.setRing { s.ring with waits := s.ring.waits.filter p }

/-- A command that waits for reports completes LOST. -/
def loseWait (s : State) (w : RingWait) : State :=
  fail (s.keepWaits fun v => !(v.t == w.t && v.g == w.g)) w.t w.g .lost

theorem loseWaits_eq (s : State) (p : RingWait → Bool) :
    loseWaits s p = foldS (s.ring.waits.filter p) (s.keepWaits fun w => !p w) loseWait := rfl

theorem keepWaits_loses (s : State) (p : RingWait → Bool) : Loses s (s.keepWaits p) :=
  ⟨rfl, fun _ _ h => h, fun _ h => List.mem_of_mem_filter h, rfl⟩

theorem loseWait_loses (s : State) (w : RingWait) : Loses s (loseWait s w) :=
  (keepWaits_loses s _).trans (finish_loses ..)

theorem loseWaits_loses (s : State) (p : RingWait → Bool) : Loses s (loseWaits s p) :=
  (keepWaits_loses s _).trans (Loses.fold _ _ loseWait_loses _)

section
variable {s : State}

theorem loseWait_waits (s : State) (w : RingWait) : (loseWait s w).ring.waits =
    s.ring.waits.filter fun v => !(v.t == w.t && v.g == w.g) := by
  rw [loseWait, fail, finish_ring]
  rfl

theorem loseWait_gone (hr : s.fw.restarting = false) (w : RingWait) : Gone (loseWait s w) w.t w.g := by
  refine ⟨fun v hv hsame => ?_, finish_frees_tag .lost (.note 0) hr⟩
  rw [loseWait_waits] at hv
  have hother := List.of_mem_filter hv
  simp [hsame.1, hsame.2] at hother

/-- Of the commands that end one after another nothing is left, and another one waits on or goes with them. -/
theorem loseEach_gone (l : List RingWait) {s : State} (hr : s.fw.restarting = false) :
    (∀ w ∈ l, Gone (foldS l s loseWait) w.t w.g) ∧
      ∀ v ∈ s.ring.waits, v ∈ (foldS l s loseWait).ring.waits ∨ Gone (foldS l s loseWait) v.t v.g := by
  induction l generalizing s with
  | nil => exact ⟨fun _ h => (List.not_mem_nil h).elim, fun _ h => .inl h⟩
  | cons w l ih =>
    have hlater : Loses (loseWait s w) (foldS l (loseWait s w) loseWait) := Loses.fold l _ loseWait_loses _
    have hgone := (loseWait_gone hr w).loses hlater
    obtain ⟨heach, hkeep⟩ := ih (s := loseWait s w) (by rw [(loseWait_loses s w).fw]; exact hr)
    rw [foldS_cons]
    refine ⟨fun v hv => ?_, fun v hv => ?_⟩
    · rcases List.mem_cons.mp hv with rfl | hv
      · exact hgone
      · exact heach v hv
    · by_cases hsame : v.t = w.t ∧ v.g = w.g
      · rw [hsame.1, hsame.2]
        exact .inr hgone
      · refine hkeep v ?_
        rw [loseWait_waits]
        exact List.mem_filter.mpr ⟨hv, by simpa [-not_and, not_and_or] using hsame⟩

/-- Of a command whose waits are lost nothing is left. -/
theorem loseWaits_gone (hr : s.fw.restarting = false) (p : RingWait → Bool) {w : RingWait} (hw : w ∈ s.ring.waits)
    (hp : p w = true) : Gone (loseWaits s p) w.t w.g :=
  (loseEach_gone _ (s := s.keepWaits _) hr).1 w (List.mem_filter.mpr ⟨hw, hp⟩)

/-- A command waits on, or nothing of it is left. -/
theorem loseWaits_keeps (hr : s.fw.restarting = false) (p : RingWait → Bool) {w : RingWait} (hw : w ∈ s.ring.waits) :
    w ∈ (loseWaits s p).ring.waits ∨ Gone (loseWaits s p) w.t w.g := by
  cases hp : p w with
  | true => exact .inr (loseWaits_gone hr p hw hp)
  | false =>
    exact (loseEach_gone _ (s := s.keepWaits _) hr).2 w (List.mem_filter.mpr ⟨hw, by simp [hp]⟩)

/-! ## A spilled note that is lost (R283) -/

/-- What ends with a spilled note, but for the count. -/
def endLost (s : State) (t : Tenant) (o : SpilledOut) : State :=
  finishRef (loseWaits (freeSpill s t o.noteId) fun w => w.t == t && w.noteId == o.noteId) o.ref .lost (.note 0)

theorem loseNote_eq (s : State) (t : Tenant) (o : SpilledOut) : loseNote s t o = countLost (endLost s t o) := rfl

theorem endLost_loses (s : State) (t : Tenant) (o : SpilledOut) : Loses s (endLost s t o) :=
  ((freeSpill_loses ..).trans (loseWaits_loses ..)).trans (finishRef_loses ..)

theorem endLost_keeps (hr : s.fw.restarting = false) (t : Tenant) (o : SpilledOut) {w : RingWait}
    (hw : w ∈ s.ring.waits) : w ∈ (endLost s t o).ring.waits ∨ Gone (endLost s t o) w.t w.g := by
  rcases loseWaits_keeps (s := freeSpill s t o.noteId) hr _ hw with hkeep | hgone
  · exact .inl (by rw [endLost, finishRef_ring]; exact hkeep)
  · exact .inr (hgone.loses (finishRef_loses ..))

/-- The NOTE_ON of a lost note is in flight no more. -/
theorem endLost_freed (hr : s.fw.restarting = false) {t v : Tenant} {g : Tag} {o : SpilledOut} (href : o.ref = some (v, g)) :
    Freed (endLost s t o) v g := by
  rw [endLost, href]
  refine finish_frees_tag .lost (.note 0) ?_
  rw [((freeSpill_loses s t o.noteId).trans (loseWaits_loses ..)).fw]
  exact hr

/-! ## SPILL_REPORT_TIMEOUT -/

/-- The spilled note whose NOTE_ON has waited for six frames. -/
def State.lateNote? (s : State) (t : Tenant) (g : Tag) : Option SpilledOut :=
  (s.ten t).spilledOut.find? fun o => o.ref == some (t, g) && !o.reported && !o.refused && decide (6 ≤ o.frames)

/-- A NOTE_ON without start report ends with its note. -/
def loseLateNote (s : State) (t : Tenant) (g : Tag) : State :=
  match s.lateNote? t g with
  | some o => loseNote s t o
  | none => s

/-- The waits of a command that have lasted six frames. -/
def State.lateWaits (s : State) (t : Tenant) (g : Tag) : List RingWait :=
  s.ring.waits.filter fun w => w.t == t && w.g == g && decide (6 ≤ w.frames)

/-- An end record goes to the note of a command that is lost. -/
def orderEnd (t : Tenant) (s : State) (w : RingWait) : State :=
  match (s.ten t).out? w.noteId with
  | some o => ringSend s (.endOrder o.unit t w.noteId)
  | none => s

/-- A command without reports ends. -/
def loseLateReports (s : State) (t : Tenant) (g : Tag) : State :=
  if s.lateWaits t g = [] then s
  else foldS (s.lateWaits t g) (loseWaits s fun w => w.t == t && w.g == g) (orderEnd t)

theorem reportTimeout_eq (s : State) (t : Tenant) (g : Tag) :
    reportTimeout s t g = loseLateReports (loseLateNote s t g) t g := rfl

theorem orderEnd_loses (t : Tenant) (s : State) (w : RingWait) : Loses s (orderEnd t s w) := by
  unfold orderEnd
  split
  · exact ringSend_loses ..
  · exact Loses.refl s

theorem loseLateReports_loses (s : State) (t : Tenant) (g : Tag) : Loses s (loseLateReports s t g) := by
  unfold loseLateReports
  split
  · exact Loses.refl s
  · exact (loseWaits_loses ..).trans (Loses.fold _ _ (orderEnd_loses t) _)

theorem loseLateReports_gone (hr : s.fw.restarting = false) {w : RingWait} (hw : w ∈ s.ring.waits) (hf : 6 ≤ w.frames) :
    Gone (loseLateReports s w.t w.g) w.t w.g := by
  have hlate : s.lateWaits w.t w.g ≠ [] := List.ne_nil_of_mem (List.mem_filter.mpr ⟨hw, by simp [hf]⟩)
  rw [loseLateReports, if_neg hlate]
  exact (loseWaits_gone hr _ hw (by simp)).loses (Loses.fold _ _ (orderEnd_loses w.t) _)

theorem reportTimeout_early {t : Tenant} {g : Tag}
    (hwaits : ∀ v ∈ s.ring.waits, v.t = t → v.g = g → v.frames < 6)
    (hnotes : ∀ y ∈ (s.ten t).spilledOut, y.ref = some (t, g) → y.reported = false → y.refused = false → y.frames < 6) :
    reportTimeout s t g = s := by
  have hnote : s.lateNote? t g = none := List.find?_eq_none.mpr fun y hy => by
    simpa [and_assoc] using hnotes y hy
  have hwait : s.lateWaits t g = [] := List.filter_eq_nil_iff.mpr fun v hv => by simpa [and_assoc] using hwaits v hv
  rw [reportTimeout_eq, loseLateNote, hnote]
  exact if_pos hwait

theorem countLost_gone {t : Tenant} {g : Tag} (h : Gone s t g) : Gone (countLost s) t g := h

/-- The first stage leaves the frame; a command waits on in it, or nothing of it is left. -/
theorem loseLateNote_keeps (hr : s.fw.restarting = false) (t : Tenant) (g : Tag) :
    loseLateNote s t g = { s with ring := (loseLateNote s t g).ring, tenants := (loseLateNote s t g).tenants } ∧
      ∀ w ∈ s.ring.waits, w ∈ (loseLateNote s t g).ring.waits ∨ Gone (loseLateNote s t g) w.t w.g := by
  unfold loseLateNote
  split
  next o _ =>
    refine ⟨?_, fun w hw => (endLost_keeps hr t o hw).imp id countLost_gone⟩
    have hframe := (endLost_loses s t o).frame
    rw [loseNote_eq]
    generalize endLost s t o = u at hframe ⊢
    rw [countLost, hframe]
  next => exact ⟨rfl, fun _ hw => .inl hw⟩

theorem loseLateNote_restarting (hr : s.fw.restarting = false) (t : Tenant) (g : Tag) :
    (loseLateNote s t g).fw.restarting = false := by
  rw [(loseLateNote_keeps hr t g).1]
  exact hr

theorem reportTimeout_frame (hr : s.fw.restarting = false) (t : Tenant) (g : Tag) :
    reportTimeout s t g = { s with ring := (reportTimeout s t g).ring, tenants := (reportTimeout s t g).tenants } := by
  have hfirst := (loseLateNote_keeps hr t g).1
  have hthen := (loseLateReports_loses (loseLateNote s t g) t g).frame
  rw [reportTimeout_eq]
  generalize loseLateReports (loseLateNote s t g) t g = u at hthen ⊢
  rw [hthen, hfirst]

/-- Nothing is left of a command that has waited for six frames. -/
theorem reportTimeout_gone (hr : s.fw.restarting = false) {w : RingWait} (hw : w ∈ s.ring.waits) (hf : 6 ≤ w.frames) :
    Gone (reportTimeout s w.t w.g) w.t w.g := by
  rw [reportTimeout_eq]
  rcases (loseLateNote_keeps hr w.t w.g).2 w hw with hkeep | hgone
  · exact loseLateReports_gone (loseLateNote_restarting hr w.t w.g) hkeep hf
  · exact hgone.loses (loseLateReports_loses ..)

/-- A NOTE_ON that has waited for six frames is counted lost and is in flight no more. -/
theorem reportTimeout_note (hr : s.fw.restarting = false) {t : Tenant} {g : Tag} {x : SpilledOut}
    (hx : x ∈ (s.ten t).spilledOut) (href : x.ref = some (t, g)) (hrep : x.reported = false) (hrefused : x.refused = false)
    (hf : 6 ≤ x.frames) :
    (reportTimeout s t g).ring.spillsLost = s.ring.spillsLost + 1 ∧ Freed (reportTimeout s t g) t g := by
  obtain ⟨o, ho⟩ : ∃ o, s.lateNote? t g = some o := by
    have hsome : (s.lateNote? t g).isSome = true :=
      List.find?_isSome.mpr ⟨x, hx, by simp [href, hrep, hrefused, hf]⟩
    exact Option.isSome_iff_exists.mp hsome
  have hoRef : o.ref = some (t, g) := by
    have hsat := List.find?_some ho
    simp only [Bool.and_eq_true, beq_iff_eq] at hsat
    exact hsat.1.1.1
  have hfirst : loseLateNote s t g = countLost (endLost s t o) := by rw [loseLateNote, ho]; rfl
  have hthen := loseLateReports_loses (loseLateNote s t g) t g
  have hfreed : Freed (countLost (endLost s t o)) t g := endLost_freed hr hoRef
  have hcount : (countLost (endLost s t o)).ring.spillsLost = s.ring.spillsLost + 1 :=
    congrArg (· + 1) (endLost_loses s t o).lost
  rw [reportTimeout_eq]
  rw [hfirst] at hthen ⊢
  exact ⟨hthen.lost.trans hcount, hfreed.shrinks hthen.shrinks⟩

end

theorem exec_reportTimeout (s : State) (t : Tenant) (g : Tag) : exec (.spillReportTimeout t g) s =
    .next (if s.fwRuns then reportTimeout s t g else s) := rfl

end Sys2Proof.Machine
end

section
/-! SUPPORT. The statement about spilled notes. -/

namespace Sys2Proof.Machine

section
variable {s : State} (hon : s.ring.role ≠ .standalone ∧ s.fwRuns = true)
include hon

/-- What arrives anew is placed or refused. -/
theorem arrival_acts {n : RingNote} (hcrc : n.crcOk = true) (hnew : (n.origin, n.seq) ∉ s.ring.seen) :
    exec (.spilledNoteArrival n) s = .next (arriveNew n (s.setRing (s.ring.took (n.origin, n.seq)))) :=
  congrArg _ ((noteArrives_good hcrc).trans (onceOnly_on hon ⟨n.origin, n.seq⟩ (arriveNew n) hnew))

theorem command_acts {c : SpillCommand} (hnew : (c.origin, c.seq) ∉ s.ring.seen) :
    exec (.spillCommandRecord (.command c)) s = .next (commandIn c (s.setRing (s.ring.took (c.origin, c.seq)))) :=
  (exec_command s c).trans (congrArg _ (onceOnly_on hon ⟨c.origin, c.seq⟩ (commandIn c) hnew))

variable {h : RingHead} (hnew : (h.unit, h.seq) ∉ s.ring.seen) (t : Tenant) (id : BitVec 32)
include hnew

theorem startReport_acts : exec (.spillStartReport h t id) s =
    .next (startReportIn (s.setRing (s.ring.took (h.unit, h.seq))) t id) := by
  rw [exec_startReport, onceOnly_on hon h _ hnew]

theorem refusal_acts : exec (.spillRefusal h t id) s =
    .next (refusalIn (s.setRing (s.ring.took (h.unit, h.seq))) t id) := by
  rw [exec_refusal, onceOnly_on hon h _ hnew]

theorem endRecord_acts (stolen : Bool) : exec (.spillEndRecord h t id stolen) s =
    .next (endRecord (s.setRing (s.ring.took (h.unit, h.seq))) t id stolen) := by
  rw [exec_endRecord, onceOnly_on hon h _ hnew]

theorem bankOff_acts (bank : Nat) : exec (.spillCommandRecord (.bankOff h t id bank)) s =
    .next (bankOffIn t id bank (s.setRing (s.ring.took (h.unit, h.seq)))) := by
  rw [exec_bankOff, onceOnly_on hon h _ hnew]

theorem report_acts (g : Tag) (found late : Bool) (landed : Smp) :
    exec (.spillCommandRecord (.report h t g id found late landed)) s =
      .next (reportIn (s.setRing (s.ring.took (h.unit, h.seq))) t g id found late landed) := by
  rw [exec_report, onceOnly_on hon h _ hnew]

theorem endOrder_acts : exec (.spillCommandRecord (.endOrder h t id)) s =
    .next (endOrderIn (s.setRing (s.ring.took (h.unit, h.seq))) h t id) := by
  rw [exec_endOrder, onceOnly_on hon h _ hnew]

end

/-- Settles O58: each row acts once, on a ring, while the firmware runs, and what it then does is the law of its record; the
rows of a tick and of six frames without report by the laws of the steal part and of lost commands. -/
theorem spilledNotesFollowTheRing : Obligations.SpilledNotesFollowTheRing := by
  intro s n o h t g id c x w stolen found late at_ bank r on known acked p taken due mine told report counted reported executed
  refine ⟨fun hr => ?bad, fun hr => ?alone, fun hoff => ?off, fun row hrow => ?rows, fun hon hcrc hseen => ?arrivalSeen,
    fun hon hcrc hnew => ?arrival, fun hnone => ?noteStartNone, fun v a e hv hlife hown hid => ?noteStart, ?fallbackOff,
    fun hup hmine => ?fallbackDue, fun hon hnew => ?records, fun hon hseen => ?commandSeen,
    fun hon hnew hplays => ?commandDue, fun hon hnew hgone hg => ?commandReported, fun hno => ?early,
    fun hup hw ht hg hf => ?lostReport, fun hup hx href hrep hrefused hf => ?lostNote⟩
  case bad =>
    have hring := onRing_of_role hr
    refine ⟨(exec_crcBad s).trans (congrArg _ (if_pos hring)), fun hcrc => ?_⟩
    exact congrArg _ ((noteArrives_bad hcrc).trans (if_pos hring))
  case alone =>
    have hring : ¬ s.onRing = true := by simp [not_onRing_of_role hr]
    have harrive : noteArrives s n = s := by
      cases hcrc : n.crcOk with
      | false => exact (noteArrives_bad hcrc).trans (if_neg hring)
      | true => exact (noteArrives_good hcrc).trans (whenOn_off (fun hon => hon.1 hr) _)
    exact ⟨(exec_crcBad s).trans (congrArg _ (if_neg hring)), congrArg Host.Outcome.next harrive⟩
  case off =>
    exact ⟨fun hcrc => congrArg _ ((noteArrives_good hcrc).trans (whenOn_off hoff _)),
      (exec_command s c).trans (congrArg _ (whenOn_off hoff _))⟩
  case rows =>
    obtain ⟨f, hf⟩ := exec_record hrow s
    exact ⟨fun hoff => hf.trans (congrArg _ (whenOn_off hoff _)),
      fun hon hseen => hf.trans (congrArg _ (onceOnly_on_seen hon h f hseen))⟩
  case arrivalSeen =>
    exact congrArg _ ((noteArrives_good hcrc).trans (onceOnly_on_seen hon ⟨n.origin, n.seq⟩ _ hseen))
  case arrival =>
    rw [arrival_acts hon hcrc hnew]
    generalize hu : s.setRing (s.ring.took (n.origin, n.seq)) = u
    refine ⟨fun hdue hfree => ?_, fun hno => ?_⟩
    · obtain ⟨hframe, v, hvoices, hown, hid, hlife⟩ := arriveNew_placed (s := u) (n := n) (by subst hu; exact hdue)
        (by subst hu; exact hfree)
      refine ⟨arriveNew n u, rfl, ?_, ?_, ?_, ?_, ⟨v, ?_, hown, hid, ?_⟩, ?_⟩
      all_goals subst hu
      · rw [hframe]; rfl
      · rw [hframe]; rfl
      · rw [hvoices]; exact List.length_append
      · rw [hvoices]; exact fun w hw => List.mem_append_left _ hw
      · rw [hvoices]; exact List.mem_append_right _ (List.mem_singleton_self v)
      · exact hlife
      · rw [hframe]; rfl
    · rw [arriveNew_refused (s := u) (n := n) (by subst hu; exact hno)]
      subst hu
      exact ⟨_, rfl, rfl, rfl⟩
  case noteStartNone => rw [exec_noteStart, hnone]
  case noteStart =>
    rw [exec_noteStart, hv]
    dsimp only
    rw [startArrived_eq hlife hown, hid]
    split <;> rfl
  case fallbackOff =>
    rintro (hdown | hnone)
    · rw [exec_fallback, hdown]; rfl
    · rw [exec_fallback, fallbackOf_none hnone, ite_self]
  case fallbackDue =>
    rw [exec_fallback, if_pos hup, fallbackOf_some hmine]
    refine ⟨fun hno => by rw [hno]; rfl, fun hdue => ⟨fallback s t x, by rw [if_pos hdue], ?_⟩⟩
    have hfrees := fallback_frees s t x
    rwa [out_id hmine] at hfrees
  case records =>
    rw [startReport_acts hon hnew, refusal_acts hon hnew, endRecord_acts hon hnew]
    have hbank : told (.bankOff h t id bank) = .next (bankOffIn t id bank taken) := bankOff_acts hon hnew t id bank
    have hreport : told report = .next (reportIn taken t g id found late at_) := report_acts hon hnew t id g found late at_
    have horder : told (.endOrder h t id) = .next (endOrderIn taken h t id) := endOrder_acts hon hnew t id
    rw [hbank, hreport, horder]
    refine ⟨rfl, fun hnone => ⟨?_, ?_, ?_⟩, fun hmine => ⟨fun htold => ?_, fun hrep hrefused => ?_, ?_, ?_⟩, fun hnobody => ?_,
      fun hw ha => ?_, fun hnone => ?_, fun hplays => ?_⟩
    · exact congrArg _ (startReportIn_none (s := taken) hnone)
    · exact congrArg _ (endRecord_none (s := taken) hnone stolen)
    · exact congrArg _ (bankOffIn_none (s := taken) hnone bank)
    · exact congrArg _ (startReportIn_told (s := taken) hmine htold)
    · exact congrArg _ (startReportIn_new (s := taken) hmine hrep hrefused)
    · exact ⟨_, rfl, endRecord_frees (s := taken) hmine stolen⟩
    · exact congrArg _ (bankOffIn_some (s := taken) hmine bank)
    · exact congrArg _ (reportIn_nobody found late at_ hnobody)
    · exact ⟨reportTaken taken t g w late at_, congrArg _ (reportIn_one found late at_ hw ha), rfl, rfl, rfl⟩
    · obtain ⟨q, hq, hdue⟩ := ringEnded_ring taken h.unit t id false
      rw [endOrderIn_none (s := taken) hnone, hq]
      exact ⟨_, rfl, rfl, hdue⟩
    · exact ⟨taken.offNow h t id, congrArg _ (endOrderIn_some (s := taken) hplays), rfl, rfl, rfl, rfl, rfl⟩
  case commandSeen => exact (exec_command s c).trans (congrArg _ (onceOnly_on_seen hon ⟨c.origin, c.seq⟩ _ hseen))
  case commandDue =>
    refine ⟨_, (command_acts hon hnew).trans (congrArg _ (commandIn_some hplays)), ?_, rfl⟩
    exact List.length_append
  case commandReported =>
    exact ⟨_, (command_acts hon hnew).trans (congrArg _ (commandIn_none hgone hg)), rfl, rfl⟩
  case early =>
    rw [exec_reportTimeout]
    rcases hno with hdown | ⟨hwaits, hnotes⟩
    · rw [hdown]; rfl
    · rw [reportTimeout_early hwaits hnotes, ite_self]
  case lostReport =>
    subst ht hg
    have hr := (fwRuns_up hup).2
    obtain ⟨hwaits, hfreed⟩ := reportTimeout_gone hr hw hf
    rw [exec_reportTimeout, if_pos hup]
    exact ⟨_, rfl, hwaits, hfreed.find_none, reportTimeout_frame hr w.t w.g⟩
  case lostNote =>
    have hr := (fwRuns_up hup).2
    obtain ⟨hlost, hfreed⟩ := reportTimeout_note hr hx href hrep hrefused hf
    rw [exec_reportTimeout, if_pos hup]
    exact ⟨_, rfl, hlost, hfreed.find_none, reportTimeout_frame hr t g⟩

end Sys2Proof.Machine
end

section
/-! SUPPORT. ALL_RELEASE: the voices it reaches, and the write that each of them gets. -/

namespace Sys2Proof.Machine

/-- The voices that bear a note ID of the tenant, in a part or in all parts. -/
def State.bearers (s : State) (t : Tenant) (part : Option Nat) : List Voice :=
  s.voices.filter fun v => v.named && v.owner == .tenant t && (part == none || part == some v.part)

/-- With no note behind a fade, the IDs of the tenant's notes are those that its voices bear. -/
theorem localIds_noSucc {s : State} (hsucc : ∀ v ∈ s.voices, v.named = false → v.succ = none) (t : Tenant)
    (part : Option Nat) : s.localIds t part = (s.bearers t part).map (·.noteId) := by
  rw [State.localIds, State.bearers, ← List.filterMap_eq_filter, List.map_filterMap]
  refine List.filterMap_congr fun v hv => ?_
  cases hn : v.named with
  | true =>
    simp only [if_true, Option.guard, hn, Bool.true_and, Bool.and_eq_true, Bool.or_eq_true, beq_iff_eq]
    split <;> rfl
  | false => simp [Option.guard, hn, hsucc v hv hn]

/-- The ID that a voice bears finds a voice with this ID, the same or one before it. -/
theorem note?_of_bearer {s : State} {t : Tenant} {part : Option Nat} {v : Voice} (hv : v ∈ s.bearers t part) :
    ∃ w, s.note? t v.noteId = some w ∧ w.noteId = v.noteId := by
  simp only [State.bearers, List.mem_filter, Bool.and_eq_true] at hv
  obtain ⟨hmem, ⟨hnamed, howner⟩, -⟩ := hv
  have hfound : (s.note? t v.noteId).isSome := List.find?_isSome.mpr ⟨v, hmem, by simp [hnamed, howner]⟩
  obtain ⟨w, hw⟩ := Option.isSome_iff_exists.mp hfound
  have hid := List.find?_some hw
  simp only [Bool.and_eq_true, beq_iff_eq] at hid
  exact ⟨w, hw, hid.2⟩

/-- The release of a sounding note waits for the next tick, and no report is awaited. -/
theorem cmdToNote_allRelease {s : State} {t : Tenant} {id : BitVec 32} {v : Voice} (g : Option Tag)
    (part : Option Nat) (fade : Bool) (n : Option Nat) (hv : s.note? t id = some v) :
    cmdToNote s t g id (.allRelease part fade) n = some (s.writeL (.note t v.noteId (.allRelease part fade)), false) := by
  simp only [cmdToNote, hv, queueCmd]

/-- A walk whose every step adds one class-L write and awaits no report, while the voices stay as they are. -/
theorem foldl_writeL {α : Type} {l : List α} {f : State × Bool → α → State × Bool} {w : α → Write} {s : State}
    (hf : ∀ u : State, u.voices = s.voices → ∀ a ∈ l, f (u, false) a = (u.writeL (w a), false)) :
    l.foldl f (s, false) = ({ s with pendL := s.pendL ++ l.map w }, false) := by
  induction l generalizing s with
  | nil => simp
  | cons a l ih =>
    have hrest := ih (s := s.writeL (w a)) fun u hu b hb => hf u hu b (List.mem_cons_of_mem a hb)
    rw [List.foldl_cons, hf s rfl a List.mem_cons_self, hrest]
    simp [State.writeL]

/-- With all notes of the tenant in voices that bear their IDs, each gets its write, and SHORT counts them. -/
theorem doAllRelease_voices {s : State} {t : Tenant} (g : Tag) {part : Option Nat} (fade : Bool)
    (hout : (s.ten t).outIds part = []) (hsucc : ∀ v ∈ s.voices, v.named = false → v.succ = none) :
    doAllRelease s t g part fade = okShort { s with
      pendL := s.pendL ++ (s.bearers t part).map fun v => .note t v.noteId (.allRelease part fade) } t g
        (s.bearers t part).length := by
  simp only [doAllRelease, hout, localIds_noSucc hsucc, List.append_nil, List.length_map, List.length_nil, Nat.add_zero,
    List.foldl_map]
  rw [foldl_writeL (w := fun v : Voice => .note t v.noteId (.allRelease part fade))]
  · rfl
  · intro u hu v hv
    obtain ⟨w, hw, hid⟩ := note?_of_bearer hv
    have hnote : u.note? t v.noteId = some w := by rw [State.note?, hu]; exact hw
    simp only [cmdToNote_allRelease _ _ _ _ hnote, hid, Bool.or_false]

/-- The rows of ALL_RELEASE: each runs the command in its mode. -/
theorem allRelease_row {s : State} {t : Tenant} {g : Tag} {c : InFlight} {part : Option Nat} {fade : Bool} {row : Instr}
    (hrow : row = .allRelease t g ∧ fade = false ∨ row = .allReleaseFade t g ∧ fade = true)
    (h : Starts s t g c (.allRelease part fade)) : exec row s = .next (doAllRelease s t g part fade) := by
  rcases hrow with ⟨rfl, rfl⟩ | ⟨rfl, rfl⟩ <;> exact h.row rfl

/-- Settles O27: the walk over the voices leaves one write for each, and the command completes with their number. -/
theorem allReleaseReachesEveryVoice : Obligations.AllReleaseReachesEveryVoice := by
  intro s t g c part fade row hrow h hout hsucc mine
  rw [allRelease_row hrow h, doAllRelease_voices g fade hout hsucc]
  exact congrArg _ (h.completes _ _ rfl rfl)

end Sys2Proof.Machine
end

section
/-! SUPPORT. Lane service (R166, R167, Table 06-3): what LANE_SERVICE does by the state of its lane, the end of a lane's
self-test, and the voices at the drain limit. -/

namespace Sys2Proof.Machine

/-! ## LANE_SERVICE (R166) -/

/-- A lane on which no LANE_SERVICE runs. -/
theorem Lane.busy_eq_false_iff {l : Lane} :
    l.busy = false ↔ l.ref = none ∧ l.joining = false ∧ l.st ≠ .draining ∧ l.st ≠ .testing := by
  simp [Lane.busy, and_assoc]

/-- The state a lane has once a LANE_SERVICE in this direction is over: it has nothing left to do there. -/
def servedSt (inward : Bool) : LaneSt := if inward then .inService else .parked

/-- The write that a LANE_SERVICE leaves for the next boundary. -/
def laneWrite (n : Nat) (t : Tenant) (g : Tag) (inward : Bool) : Write := if inward then .laneIn n t g else .laneOut n t g

section
variable {s : State} {n : Nat} (t : Tenant) (g : Tag) (inward : Bool)

/-- A lane on which a service runs makes the command wait. -/
theorem doLaneService_busy (h : (s.alloc.lane n).busy = true) : doLaneService s t g n inward = s := if_pos h

/-- A lane that is where the command would bring it: the command completes, OUT with 0 voices released. -/
theorem doLaneService_served (hidle : (s.alloc.lane n).busy = false) (hst : (s.alloc.lane n).st = servedSt inward) :
    doLaneService s t g n inward = finish s t g .ok (if inward then .note 0 else .bytes [0, 0]) := by
  cases inward <;> simp only [doLaneService, hidle, hst, servedSt] <;> rfl

/-- Otherwise the lane is reserved for the command, which executes while its change waits for the next boundary. -/
theorem doLaneService_starts (hidle : (s.alloc.lane n).busy = false) (hst : (s.alloc.lane n).st = servedSt (!inward)) :
    doLaneService s t g n inward =
      ((s.updLane n fun l => { l with ref := some (t, g) }).writeB (laneWrite n t g inward)).executing t g := by
  cases inward <;> simp only [doLaneService, hidle, hst, servedSt, startLong_eq] <;> rfl

end

/-! ## The self-test of a lane (R167) -/

theorem laneTestDone_passed {s : State} {n : Nat} (htest : (s.alloc.lane n).st = .testing)
    (hjoin : (s.alloc.lane n).joining = false) :
    laneTestDone s n true = s.updLane n fun l => { l with joining := true } := if_pos ⟨htest, hjoin⟩

theorem laneTestDone_failed {s : State} {n : Nat} (htest : (s.alloc.lane n).st = .testing)
    (hjoin : (s.alloc.lane n).joining = false) :
    laneTestDone s n false = finishRef (steward (s.updLane n fun l => { l with st := .parked, ref := none }) .laneFault
      (BitVec.ofNat 16 n) []) (s.alloc.lane n).ref .selftestFailed (.note 0) := if_pos ⟨htest, hjoin⟩

/-- The row of a self-test's end while the firmware runs. -/
theorem exec_laneSelftestDone {s : State} (h : s.fwRuns = true) (n : Fin 8) (pass : Bool) :
    exec (.laneSelftestDone n pass) s = .next (laneTestDone s n.val pass) := congrArg Host.Outcome.next (if_pos h)

/-- The row of a self-test's end on a lane that does not test, or without the firmware, changes nothing: the model's choice
(log entry 2). -/
theorem exec_laneSelftestDone_idle {s : State} {n : Fin 8}
    (h : s.fwRuns = false ∨ (s.alloc.lane n.val).st ≠ .testing ∨ (s.alloc.lane n.val).joining = true) (pass : Bool) :
    exec (.laneSelftestDone n pass) s = .next s := by
  refine congrArg Host.Outcome.next ?_
  rcases h with hdown | h
  · exact if_neg (by simp [hdown])
  · have hidle : laneTestDone s n.val pass = s :=
      if_neg fun ⟨htest, hjoin⟩ => h.elim (· htest) (Bool.eq_false_iff.mp hjoin)
    rw [hidle, ite_self]

/-! ## The drain limit (Table 06-3 step 3) -/

theorem EventFrame.voices {s u : State} (h : EventFrame s u) : u.voices = s.voices := (congrArg State.voices h).trans rfl

theorem TenantsOnly.fadeTicks {s u : State} (h : TenantsOnly s u) : u.fadeTicks = s.fadeTicks :=
  (congrArg State.fadeTicks h).trans rfl

/-- What the owner of a stolen voice hears leaves the voices as they are. -/
theorem toldStolen_voices (s : State) (v : Voice) : (toldStolen s v).voices = s.voices := by
  unfold toldStolen
  split
  next t _ => exact (raiseTo_eventFrame s t .noteStolen 0 _).voices
  next o t _ =>
    obtain ⟨r, hr, -⟩ := ringEnded_ring s o t v.noteId true
    rw [hr]
    rfl

/-- The voice that fades in the slot of a voice which the drain limit finds on its lane. -/
def State.drainFade (s : State) (v : Voice) : Voice :=
  { v with life := .fading 0 s.fadeTicks, fade := .drain, succ := none, retrig := none }

theorem beginFade_drain_voices {s u : State} (h : TenantsOnly s u) (v : Voice) :
    (beginFade u v none .drain).voices = (s.setVoice (s.drainFade v)).voices := by
  have hdone := h.trans (finishRef_tenantsOnly u (v.retrig.bind (·.ref)) .ok (.note 0))
  simp only [beginFade, hdone.fadeTicks]
  exact congrArg (List.map _) hdone.voices

/-- A voice that fades out changes the voices of its slot alone. -/
theorem fadeOut_voices (s : State) (v : Voice) : (fadeOut s v).voices = (s.setVoice (s.drainFade v)).voices := by
  unfold fadeOut
  rw [toldStolen_voices]
  split
  · exact beginFade_drain_voices (finishRef_tenantsOnly ..) v
  · exact beginFade_drain_voices (TenantsOnly.refl s) v

/-- From `s` on, fades have begun on lane `n`, and of its voices only those of `rest` do not fade yet. -/
structure DrainedTo (n : Nat) (s u : State) (rest : List Voice) : Prop where
  length : u.voices.length = s.voices.length
  fading : ∀ v ∈ u.voices, v.lane = n → v.fading = true ∨ v ∈ rest
  others : ∀ v ∈ s.voices, v.lane ≠ n → v ∈ u.voices

/-- Before the first fade, every voice of the lane that does not fade is still to come. -/
theorem DrainedTo.start (n : Nat) (s : State) : DrainedTo n s s (s.voices.filter fun v => v.lane == n && !v.fading) := by
  refine ⟨rfl, fun v hv hlane => ?_, fun v hv _ => hv⟩
  cases hf : v.fading
  · exact .inr (List.mem_filter.mpr ⟨hv, by simp [hlane, hf]⟩)
  · exact .inl rfl

/-- A voice of the lane fades out: the voices that have its slot fade, and no other changes. -/
theorem DrainedTo.fadeOut {n : Nat} {s u : State} {v : Voice} {rest : List Voice} (h : DrainedTo n s u (v :: rest))
    (hv : v.lane = n) : DrainedTo n s (fadeOut u v) rest := by
  refine ⟨?length, fun w hw hlane => ?fading, fun w hw hlane => ?others⟩
  case length => rw [fadeOut_voices, State.setVoice, List.length_map, h.length]
  case fading =>
    rw [fadeOut_voices] at hw
    obtain ⟨x, hx, rfl⟩ := List.mem_map.mp hw
    split at hlane
    next hslot => rw [if_pos hslot]; exact .inl rfl
    next hslot =>
      rw [if_neg hslot]
      refine (h.fading x hx hlane).imp_right fun hmem => (List.mem_cons.mp hmem).resolve_left ?_
      rintro rfl
      exact hslot ⟨rfl, rfl⟩
  case others =>
    rw [fadeOut_voices]
    exact List.mem_map.mpr ⟨w, h.others w hw hlane, if_neg fun hslot => hlane (hslot.1.trans hv)⟩

/-- When all of them have begun to fade, none is left. -/
theorem DrainedTo.all {n : Nat} {s u : State} {rest : List Voice} (h : DrainedTo n s u rest)
    (hrest : ∀ v ∈ rest, v.lane = n) : DrainedTo n s (foldS rest u Machine.fadeOut) [] := by
  induction rest generalizing u with
  | nil => exact h
  | cons v rest ih =>
    exact ih (h.fadeOut (hrest v List.mem_cons_self)) fun w hw => hrest w (List.mem_cons_of_mem v hw)

/-- At its limit, every voice of a draining lane fades. -/
theorem drainLimit_drained {s : State} {n ms : Nat} (hst : (s.alloc.lane n).st = .draining) (hms : s.alloc.drainMs ≤ ms) :
    DrainedTo n s (drainLimit s n ms) [] := by
  rw [drainLimit, if_pos ⟨hst, hms⟩]
  refine (DrainedTo.start n s).all fun v hv => ?_
  have hfound : v.lane = n ∧ v.fading = false := by simpa using (List.mem_filter.mp hv).2
  exact hfound.1

/-- The row of the drain limit before its time, on a lane that does not drain, or without the firmware, changes nothing:
the model's choice (log entry 2). -/
theorem exec_laneDrainLimit_early {s : State} {n : Fin 8} {ms : Nat}
    (h : s.fwRuns = false ∨ (s.alloc.lane n.val).st ≠ .draining ∨ ms < s.alloc.drainMs) :
    exec (.laneDrainLimit n ms) s = .next s := by
  refine congrArg Host.Outcome.next ?_
  rcases h with hdown | h
  · exact if_neg (by simp [hdown])
  · have hearly : drainLimit s n.val ms = s := if_neg fun ⟨hst, hms⟩ => h.elim (· hst) (Nat.not_lt.mpr hms)
    rw [hearly, ite_self]

/-- Settles O50: LANE_SERVICE by whether its lane is busy, there already, or to change at the boundary; the self-test by its
result; the drain limit by the walk over the lane's voices. -/
theorem laneServiceFollowsItsSteps : Obligations.LaneServiceFollowsItsSteps := by
  intro s t g c n ms l idle put onWay
  have hidle : idle ↔ l.busy = false := Lane.busy_eq_false_iff.symm
  rw [hidle, Bool.not_eq_false]
  refine ⟨fun h => ?out, fun h => ?inward, fun hup htest hjoin => ?tested,
    fun h => exec_laneSelftestDone_idle h true, fun hup hst hms => ?drained, exec_laneDrainLimit_early⟩
  case out =>
    rw [show exec (.laneServiceOut t g) s = .next (doLaneService s t g n.val false) from h.row rfl]
    refine ⟨fun hb => ?_, fun hi hst => ?_, fun hi hst => ?_⟩
    · rw [doLaneService_busy t g false hb]
    · rw [doLaneService_served t g false hi hst, h.finish_self]; rfl
    · rw [doLaneService_starts t g false hi hst]; rfl
  case inward =>
    rw [show exec (.laneServiceIn t g) s = .next (doLaneService s t g n.val true) from h.row rfl]
    refine ⟨fun hb => ?_, fun hi hst => ?_, fun hi hst => ?_⟩
    · rw [doLaneService_busy t g true hb]
    · rw [doLaneService_served t g true hi hst, h.finish_self]; rfl
    · rw [doLaneService_starts t g true hi hst]; rfl
  case tested =>
    rw [exec_laneSelftestDone hup, exec_laneSelftestDone hup, laneTestDone_passed htest hjoin,
      laneTestDone_failed htest hjoin]
    exact ⟨rfl, rfl⟩
  case drained =>
    have h := drainLimit_drained hst hms
    refine ⟨drainLimit s n.val ms, congrArg Host.Outcome.next (if_pos hup), h.length, fun v hv hlane => ?_, h.others⟩
    exact (h.fading v hv hlane).resolve_right List.not_mem_nil

end Sys2Proof.Machine
end

section
/-! SUPPORT. The bus commands that leave a write or only answer, and a TDM slave port at its frames and without its clock. -/

namespace Sys2Proof.Machine

/-! ## BUS_CONFIG (R171, R180, R278) -/

/-- An operation leaves one class-B write for each named bus, and the command completes. -/
theorem doBusWrite_eq (s : State) (t : Tenant) (g : Tag) (n : Option Nat) (w : Nat → Write) :
    doBusWrite s t g n w = ok { s with pendB := s.pendB ++ (busList n).map w } t g := by
  rw [doBusWrite, foldS_writeB]

/-- The rows of BUS_CONFIG: each leaves the writes of its operation. -/
theorem busConfig_row {s : State} {t : Tenant} {g : Tag} {c : InFlight} {n : Option Nat} {row : Instr} {b : Body}
    {w : Nat → Write} (hrow : (∃ x, row = .busConfigGain t g ∧ b = .busGain n x ∧ w = fun k => .busGain k x) ∨
      (∃ x, row = .busConfigEnable t g ∧ b = .busEnable n x ∧ w = fun k => .busEnable k x) ∨
      (row = .busConfigResync t g ∧ b = .busResync n ∧ w = fun k => .busResync k) ∨
      (∃ x, row = .busConfigRing t g ∧ b = .busRing n x ∧ w = fun k => .busRing k x)) (h : Starts s t g c b) :
    exec row s = .next (doBusWrite s t g n w) := by
  rcases hrow with ⟨x, rfl, rfl, rfl⟩ | ⟨x, rfl, rfl, rfl⟩ | ⟨rfl, rfl, rfl⟩ | ⟨x, rfl, rfl, rfl⟩ <;> exact h.row rfl

/-! ## DECIM_CONFIG (R174) -/

theorem doDecim_running {s : State} (t : Tenant) (g : Tag) (p : Preset) (h : s.core.run ≠ .stopped) :
    doDecim s t g p = fail s t g .busyClassX := if_neg (by simpa [State.engStopped] using h)

theorem doDecim_stopped {s : State} (t : Tenant) (g : Tag) (p : Preset) (h : s.core.run = .stopped) :
    doDecim s t g p = ok { s with mix := { s.mix with presetNext := p } } t g := if_pos (by simp [State.engStopped, h])

/-! ## DETECT_READ of a note (R156, R186) -/

theorem doDetectNote_unknown {s : State} {t : Tenant} (g : Tag) {id : BitVec 32} (h : s.note? t id = none) :
    doDetectNote s t g id = fail s t g .notFound := by
  rw [State.note?] at h
  rw [doDetectNote, h]

theorem doDetectNote_found {s : State} {t : Tenant} (g : Tag) {id : BitVec 32} {v : Voice} (h : s.note? t id = some v) :
    doDetectNote s t g id =
      okBytes s t g (leInt 2 (dbFs (voiceRms s v)) ++ leInt 2 v.score ++ [0, 0, 0, 0]) := by
  rw [State.note?] at h
  rw [doDetectNote, h]

/-- Settles O34: the operations by the writes they leave, the preset by the engine's state, the readings as completions that
touch nothing else. -/
theorem busOperationsWaitForTheBoundary : Obligations.BusOperationsWaitForTheBoundary := by
  intro s t g c n row b w named
  refine ⟨fun hrow h => ?config, fun p h => ?decim, fun d m h => ?buses, fun d id h => ?note⟩
  case config =>
    rw [busConfig_row hrow h, doBusWrite_eq]
    exact congrArg _ (h.completes _ _ rfl rfl)
  case decim =>
    rw [show exec (.decimConfig t g) s = .next (doDecim s t g p) from h.row rfl]
    refine ⟨fun hrun => ?_, fun hstop => ?_⟩
    · rw [doDecim_running t g p hrun, h.fails]
    · rw [doDecim_stopped t g p hstop]
      exact congrArg _ (h.completes _ _ rfl rfl)
  case buses =>
    rw [show exec (.detectRead t g) s = .next (doDetectBuses s t g d m) from h.row rfl]
    exact congrArg _ (h.finish_self _ _)
  case note =>
    rw [show exec (.detectRead t g) s = .next (doDetectNote s t g id) from h.row rfl]
    refine ⟨fun hnone => ?_, fun v hv => ⟨dbFs (voiceRms s v), leBytes_length 2 _, ?_⟩⟩
    · rw [doDetectNote_unknown g hnone, h.fails]
    · rw [doDetectNote_found g hv]
      exact congrArg _ (h.finish_self _ _)

/-! ## TDM slave ports (R190) -/

/-- The words of a frame as a port takes them in (R191). -/
def Port.frameOf (p : Port) (words : List Int) : List Int :=
  (List.range p.frameSlots).map fun k => inWord p.wordBits (words.getD k 0)

/-- A port that has lost its frames: an input keeps its last words. -/
def Port.lost (p : Port) (st : TpState) : Port :=
  { p with st := st, good := 0, words := if p.isIn then p.words else [] }

/-- A good frame at a port that does not run: the second in a row centres the FIFO. -/
def Port.locking (p : Port) (w : List Int) : Port :=
  if p.good = 0 then { p with good := 1 }
  else { p with good := 2, st := .running, fifo := if p.isIn then [p.words, w] else [[], []] }

/-- A good frame at a running input. -/
def Port.takesIn (p : Port) (w : List Int) : Port :=
  if p.fifo.length < 4 then { p with fifo := p.fifo ++ [w] } else { p with slips := p.slips + 1 }

/-- A good frame at a running output. -/
def Port.givesOut (p : Port) : Port :=
  match p.fifo with
  | f :: r => { p with fifo := r, words := f }
  | [] => { p with slips := p.slips + 1 }

/-- A good frame: it counts towards the lock, or passes through the FIFO in the port's direction. -/
def Port.goodFrame (p : Port) (w : List Int) : Port :=
  if p.st ≠ .running then p.locking w else if p.isIn then p.takesIn w else p.givesOut

section
variable {p : Port} (w : List Int)

theorem goodFrame_first (hst : p.st ≠ .running) (hgood : p.good = 0) : p.goodFrame w = { p with good := 1 } :=
  (if_pos hst).trans (if_pos hgood)

theorem goodFrame_second (hst : p.st ≠ .running) (hgood : p.good ≠ 0) : p.goodFrame w =
    { p with good := 2, st := .running, fifo := if p.isIn then [p.words, w] else [[], []] } :=
  (if_pos hst).trans (if_neg hgood)

theorem goodFrame_in (hst : p.st = .running) (hin : p.isIn = true) : p.goodFrame w = p.takesIn w :=
  (if_neg (not_not_intro hst)).trans (if_pos hin)

theorem goodFrame_out (hst : p.st = .running) (hout : p.isIn = false) : p.goodFrame w = p.givesOut :=
  (if_neg (not_not_intro hst)).trans (if_neg (by simp [hout]))

theorem givesOut_cons {f : List Int} {r : List (List Int)} (h : p.fifo = f :: r) :
    p.givesOut = { p with fifo := r, words := f } := by rw [Port.givesOut, h]

theorem givesOut_empty (h : p.fifo = []) : p.givesOut = { p with slips := p.slips + 1 } := by rw [Port.givesOut, h]

end

theorem slaveFrame_ignored {s : State} {i : Nat} (bclks : Nat) (words : List Int)
    (h : (s.port i).enable = false ∨ (s.port i).slave = false) : slaveFrame s i bclks words = s := if_pos h

theorem noClock_ignored {s : State} {i : Nat} (h : (s.port i).enable = false ∨ (s.port i).slave = false) :
    noClock s i = s := if_neg (by rcases h with h | h <;> simp [h])

section
variable {s : State} {i : Nat} (hen : (s.port i).enable = true) (hsl : (s.port i).slave = true)
include hen hsl

theorem noClock_slave : noClock s i = s.updPort i fun p => p.lost .noClock := if_pos (by simp [hen, hsl])

variable {bclks : Nat} (words : List Int)

theorem slaveFrame_short (hb : bclks / (s.port i).frameSlots < (s.port i).wordBits) :
    slaveFrame s i bclks words = s.updPort i fun p => p.lost .badSlot :=
  (if_neg (by simp [hen, hsl])).trans (if_pos hb)

variable (hb : (s.port i).wordBits ≤ bclks / (s.port i).frameSlots)
include hb

theorem slaveFrame_good :
    slaveFrame s i bclks words = s.updPort i fun p => p.goodFrame ((s.port i).frameOf words) := by
  refine (if_neg (by simp [hen, hsl])).trans ((if_neg (Nat.not_lt.mpr hb)).trans ?_)
  by_cases hst : (s.port i).st = .running
  · cases hin : (s.port i).isIn with
    | true =>
      by_cases hroom : (s.port i).fifo.length < 4 <;>
        simp [State.updPort, Port.frameOf, Port.takesIn, goodFrame_in _ hst hin, hst, hin, hroom]
    | false =>
      cases hf : (s.port i).fifo <;> simp [State.updPort, Port.givesOut, goodFrame_out _ hst hin, hst, hin, hf]
  · by_cases hgood : (s.port i).good = 0 <;>
      simp [State.updPort, Port.frameOf, Port.goodFrame, Port.locking, hst, hgood]

end

/-- Settles O36: a frame that is too short and a missing clock lose the port's frames, a good frame is counted or passes. -/
theorem slavePortsFollowTheirClock : Obligations.SlavePortsFollowTheirClock := by
  intro s i bclks words p w becomes run
  refine ⟨fun hidle => ⟨?_, ?_⟩, fun hen hsl => ⟨?_, fun hb => ?_, fun hb => ?_⟩⟩
  · exact congrArg Host.Outcome.next (slaveFrame_ignored bclks words hidle)
  · exact congrArg Host.Outcome.next (noClock_ignored hidle)
  · exact congrArg Host.Outcome.next (noClock_slave hen hsl)
  · exact congrArg Host.Outcome.next (slaveFrame_short hen hsl words hb)
  · have hrun : ∀ {q}, p.goodFrame w = q → run (becomes q) := fun hq =>
      hq ▸ congrArg Host.Outcome.next (slaveFrame_good hen hsl words hb)
    exact ⟨fun hst hgood => hrun (goodFrame_first w hst hgood), fun hst hgood => hrun (goodFrame_second w hst hgood),
      fun hst hin hroom => hrun ((goodFrame_in w hst hin).trans (if_pos hroom)),
      fun hst hin hfull => hrun ((goodFrame_in w hst hin).trans (if_neg (Nat.not_lt.mpr hfull))),
      fun f r hst hout hf => hrun ((goodFrame_out w hst hout).trans (givesOut_cons hf)),
      fun hst hout hf => hrun ((goodFrame_out w hst hout).trans (givesOut_empty hf))⟩

end Sys2Proof.Machine
end

section
/-! SUPPORT. The limits of the field outputs, PAIR_SUSPECT, remote sense, and the end of SAFE and of a disable: what each row
leaves (R198 to R200, R206, R207, R210, R212, Table 08-4). -/

namespace Sys2Proof.Machine

/-! ## One output changes -/

/-- Only what a change makes of the output as it is counts. -/
theorem updCv_congr {s : State} {n : Nat} {f g : CvOut → CvOut} (h : f (s.cv n) = g (s.cv n)) :
    s.updCv n f = s.updCv n g := by simp only [State.updCv, h]

theorem updLo_congr {s : State} {n : Nat} {f g : LineOut → LineOut} (h : f (s.lo n) = g (s.lo n)) :
    s.updLo n f = s.updLo n g := by simp only [State.updLo, h]

theorem fieldHeld_eq_false {s : State} (h : s.field.hold = none) : s.fieldHeld = false := by rw [State.fieldHeld, h]; rfl

/-! ## When an output is at its limit -/

theorem limits_of_safe {s : State} {n : Fin 16} (h : (s.cv n.val).st = .safe) :
    s.limits (.cv n) = (s.cv n.val).limiting := by simp [State.limits, h]

/-- An output at its limit is in LIMIT, or it is a CV output at the 0 V of SAFE. -/
theorem outSt_of_limits {s : State} {o : OutRef} (h : s.limits o = true) : s.outSt o = .limit ∨ s.outSt o = .safe := by
  cases o with
  | cv n =>
    rw [State.limits, Bool.or_eq_true, Bool.and_eq_true, beq_iff_eq, beq_iff_eq] at h
    exact h.imp_right And.left
  | gt n => exact .inl (beq_iff_eq.mp h)

/-! ## A limit begins (R210) -/

/-- The state as a limit begins on an output: SC is set and the episode runs. -/
def State.limitBegun (s : State) (o : OutRef) (positive : Bool) : State :=
  match o with
  | .cv n => s.updCv n.val fun c => { c with
      st := if c.st = .driven then .limit else c.st, limiting := true, flags := c.flags ||| 1, episode := true,
      positive := positive }
  | .gt n => s.updGt n.val fun g => { g with st := .limit, flags := g.flags ||| 1, episode := true, positive := positive }

/-- CV_FAULT SC is raised once an episode: by a limit that begins outside of one. -/
theorem limitBegin_begins {s : State} {o : OutRef} (positive : Bool)
    (h : s.outSt o = .driven ∨ (s.outSt o = .safe ∧ s.limits o = false)) : limitBegin s o positive =
      if s.inEpisode o then s.limitBegun o positive else cvFault (s.limitBegun o positive) (outNum o) 1 := by
  refine (if_pos h).trans ?_
  cases s.inEpisode o <;> rfl

/-- A CV output that limits at the 0 V of SAFE stays in SAFE. -/
theorem limitBegun_cv {s : State} {n : Fin 16} (positive : Bool)
    (h : (s.cv n.val).st = .driven ∨ (s.cv n.val).st = .safe) :
    s.limitBegun (.cv n) positive = s.updCv n.val fun c => { c with
      st := if (s.cv n.val).st = .driven then .limit else .safe, limiting := true, flags := c.flags ||| 1,
      episode := true, positive := positive } := by
  unfold State.limitBegun
  refine updCv_congr ?_
  rcases h with hst | hst <;> simp [hst]

/-- No limit begins on an output that is not driven and not at 0 V, or that limits already. -/
theorem limitBegin_idle {s : State} {o : OutRef} (positive : Bool) (hd : s.outSt o ≠ .driven)
    (h : s.outSt o ≠ .safe ∨ s.limits o = true) : limitBegin s o positive = s := by
  refine if_neg fun hmoment => ?_
  obtain ⟨hsafe, hlim⟩ := hmoment.resolve_left hd
  exact h.elim (absurd hsafe) fun htrue => Bool.noConfusion (htrue.symm.trans hlim)

/-! ## A limit ends, or lasts 5 ms (Table 08-4) -/

/-- A limit that ends by itself leaves a driven output, or one at the 0 V of SAFE. -/
theorem exec_limitExit_out {s : State} {o : OutRef} (h : s.limits o = true) :
    exec (.limitExit (.out o)) s = .next (s.setOut o (if s.outSt o = .limit then .driven else .safe)) := by
  refine congrArg Host.Outcome.next ((if_pos h).trans (congrArg (s.setOut o) ?_))
  rcases outSt_of_limits h with hst | hst <;> simp [hst]

theorem exec_limitExit_out_idle {s : State} {o : OutRef} (h : s.limits o = false) :
    exec (.limitExit (.out o)) s = .next s := congrArg Host.Outcome.next (if_neg (Bool.eq_false_iff.mp h))

/-- Without a hold, a limit that lasts is dealt with by the policy of the output. -/
theorem limitTimeout_free {s : State} {o : OutRef} (hhold : s.field.hold = none) : limitTimeout s o =
    if s.limits o then
      if s.latches o then cvFault (s.setOut o .hizLatched) (outNum o) 4 else cvFault (s.setOut o .hizRetrying) (outNum o) 3
    else s := by rw [limitTimeout, hhold]

section
variable {s : State} {o : OutRef} (hhold : s.field.hold = none)
include hhold

theorem limitTimeout_latches (h : s.limits o = true) (hp : s.latches o = true) :
    limitTimeout s o = cvFault (s.setOut o .hizLatched) (outNum o) 4 :=
  (limitTimeout_free hhold).trans ((if_pos h).trans (if_pos hp))

theorem limitTimeout_retries (h : s.limits o = true) (hp : s.latches o = false) :
    limitTimeout s o = cvFault (s.setOut o .hizRetrying) (outNum o) 3 :=
  (limitTimeout_free hhold).trans ((if_pos h).trans (if_neg (Bool.eq_false_iff.mp hp)))

theorem limitTimeout_idle (h : s.limits o = false) : limitTimeout s o = s :=
  (limitTimeout_free hhold).trans (if_neg (Bool.eq_false_iff.mp h))

end

/-! ## A retry, and the end of an episode (Table 08-4, R210) -/

section
variable {s : State} {o : OutRef} (hst : s.outSt o = .hizRetrying)
include hst

theorem retryBegin_waiting (hhold : s.field.hold = none) : retryBegin s o = match o with
    | .cv n => s.updCv n.val fun c => { c with retrying := true }
    | .gt n => s.updGt n.val fun c => { c with retrying := true } := by
  cases o <;> exact if_pos ⟨hst, fieldHeld_eq_false hhold⟩

variable (hr : s.retries o = true)
include hr

/-- A retry that limits again is counted, and the output waits for the next one. -/
theorem retryEnd_limited : retryEnd s o true = match o with
    | .cv n => s.updCv n.val fun c => { c with retrying := false, retries := c.retries + 1 }
    | .gt n => s.updGt n.val fun c => { c with retrying := false, retries := c.retries + 1 } := by
  cases o <;> exact if_pos ⟨hst, hr⟩

theorem retryEnd_free : retryEnd s o false = cvCleared (s.setOut o .driven) (outNum o) := if_pos ⟨hst, hr⟩

end

theorem episodeEnd_free {s : State} {o : OutRef} (h : s.limits o = false) : episodeEnd s o = match o with
    | .cv n => s.updCv n.val fun c => { c with episode := false }
    | .gt n => s.updGt n.val fun c => { c with episode := false } := by
  cases o <;> exact if_neg (Bool.eq_false_iff.mp h)

/-- Settles O39: each row by the state of the output it finds, the limit that begins as CV output and as gate. A limit at the
0 V of SAFE is the model's reading (log entry 31), as is a row out of its moment that changes nothing (log entry 2). -/
theorem limitsLatchOrRetry : Obligations.LimitsLatchOrRetry := by
  intro s o pos hhold
  refine ⟨?beginCv, ?beginGt, fun hd h => ?beginIdle, fun h => ⟨?exit, ?latch, ?retry⟩, fun h => ⟨?exitIdle, ?timeoutIdle⟩,
    ?retryCv, ?retryGt, ?episodeCv, ?episodeGt⟩
  case beginCv =>
    rintro n rfl h
    have hmoment := h.imp_right fun ⟨hst, hlim⟩ => And.intro hst ((limits_of_safe hst).trans hlim)
    rw [← limitBegun_cv pos (h.imp_right And.left)]
    exact congrArg Host.Outcome.next (limitBegin_begins pos hmoment)
  case beginGt => rintro n rfl h; exact congrArg Host.Outcome.next (limitBegin_begins pos (.inl h))
  case beginIdle => exact congrArg Host.Outcome.next (limitBegin_idle pos hd h)
  case exit => exact exec_limitExit_out h
  case latch => exact fun hp => congrArg Host.Outcome.next (limitTimeout_latches hhold h hp)
  case retry => exact fun hp => congrArg Host.Outcome.next (limitTimeout_retries hhold h hp)
  case exitIdle => exact exec_limitExit_out_idle h
  case timeoutIdle => exact congrArg Host.Outcome.next (limitTimeout_idle hhold h)
  case retryCv =>
    rintro n rfl hst
    exact ⟨congrArg Host.Outcome.next (retryBegin_waiting hst hhold), fun hr =>
      ⟨congrArg Host.Outcome.next (retryEnd_limited hst hr), congrArg Host.Outcome.next (retryEnd_free hst hr)⟩⟩
  case retryGt =>
    rintro n rfl hst
    exact ⟨congrArg Host.Outcome.next (retryBegin_waiting hst hhold), fun hr =>
      congrArg Host.Outcome.next (retryEnd_limited hst hr)⟩
  case episodeCv => rintro n rfl h; exact congrArg Host.Outcome.next (episodeEnd_free h)
  case episodeGt => rintro n rfl h; exact congrArg Host.Outcome.next (episodeEnd_free h)

/-! ## PAIR_SUSPECT (R212) -/

/-- Two outputs that limit with opposite signs, given lower number first, are flagged, named and reported. -/
theorem pairSuspectOf_named {s : State} {a b : OutRef} (hab : outNum a ≤ outNum b) (ha : s.limits a = true)
    (hb : s.limits b = true) (hsign : s.limitSign a ≠ s.limitSign b)
    (hnew : ∀ p ∈ s.field.pairs, ¬ (p.1 = outNum a ∧ p.2.1 = outNum b)) :
    pairSuspectOf s a b =
      let flagged := (s.setPair a).setPair b
      steward { flagged with field := { flagged.field with
        pairs := flagged.field.pairs ++ [(outNum a, outNum b, [outNum a, outNum b])] } }
        .pairSuspect (arg2 (outNum b) (outNum a)) [] := by
  have hall : (s.field.pairs.all fun p => !(p.1 == outNum a && p.2.1 == outNum b)) = true := by
    simpa [imp_iff_not_or] using hnew
  have hlo : Nat.min (outNum a) (outNum b) = outNum a := Nat.min_eq_left hab
  have hhi : Nat.max (outNum a) (outNum b) = outNum b := Nat.max_eq_right hab
  rw [pairSuspectOf, hlo, hhi]
  exact if_pos ⟨ha, hb, hsign, hall⟩

theorem pairSuspectOf_idle {s : State} {a : OutRef} (b : OutRef) (h : s.limits a = false) : pairSuspectOf s a b = s :=
  if_neg fun hpair => Bool.noConfusion (hpair.1.symm.trans h)

/-! ## Remote sense (R206, R207) -/

section
variable {s : State} {n mv : Nat}

theorem senseOpen_local (h : (s.cv n).remote = false) : senseOpen s n mv = s := if_neg (by simp [h])

theorem senseInject_local (h : (s.cv n).remote = false) : senseInject s n mv = s := if_neg (by simp [h])

variable (hrem : (s.cv n).remote = true) (hready : s.field.ready = true) (hhold : s.field.hold = none)
include hrem hready hhold

theorem senseOpen_opens (hfb : (s.cv n).fallback = false) (hmv : 50 < mv) : senseOpen s n mv =
    cvFault (s.updCv n fun c => { c with fallback := true, flags := c.flags ||| 2 }) n 2 :=
  if_pos ⟨hrem, hready, fieldHeld_eq_false hhold, hfb, hmv⟩

theorem senseInject_clears (hfb : (s.cv n).fallback = true) (hmv : mv < 25) : senseInject s n mv =
    cvCleared (s.updCv n fun c => { c with fallback := false }) n :=
  if_pos ⟨hrem, hready, fieldHeld_eq_false hhold, hfb, hmv⟩

end

/-- Settles O40: the two rows of remote sense and PAIR_SUSPECT, each where its conditions hold and where they fail. -/
theorem pairsAndSenseAreReported : Obligations.PairsAndSenseAreReported := by
  intro s n m mv
  refine ⟨fun hnm hn hm hsign hnew => ?named, fun hn => ?unlimited, fun hrem hready hhold => ⟨?opens, ?clears⟩,
    fun hloc => ?loc⟩
  case named => exact congrArg Host.Outcome.next (pairSuspectOf_named (Nat.le_of_lt hnm) hn hm hsign hnew)
  case unlimited => exact congrArg Host.Outcome.next (pairSuspectOf_idle _ hn)
  case opens => exact fun hfb hmv => congrArg Host.Outcome.next (senseOpen_opens hrem hready hhold hfb hmv)
  case clears => exact fun hfb hmv => congrArg Host.Outcome.next (senseInject_clears hrem hready hhold hfb hmv)
  case loc => exact ⟨congrArg Host.Outcome.next (senseOpen_local hloc), congrArg Host.Outcome.next (senseInject_local hloc)⟩

/-! ## The end of SAFE and of a disable (R198, R200) -/

theorem exec_cvSafeEnd {s : State} {n : Fin 16} (het : s.core.tide.et = 0) (hst : (s.cv n.val).st = .safe)
    (hleft : (s.cv n.val).safeLeft = 0) : exec (.cvSafeEnd n) s = .next (s.updCv n.val CvOut.endSafe) :=
  congrArg Host.Outcome.next (if_pos ⟨het, hst, hleft⟩)

theorem exec_cvSafeEnd_early {s : State} {n : Fin 16} (h : (s.cv n.val).st ≠ .safe ∨ (s.cv n.val).safeLeft ≠ 0) :
    exec (.cvSafeEnd n) s = .next s :=
  congrArg Host.Outcome.next (if_neg fun ⟨_, hst, hleft⟩ => h.elim (absurd hst) (absurd hleft))

section
variable {s : State} {k : Fin 4}

/-- A line output whose SAFE has run out drives, in LIMIT when it limits, and its samples carry the bus. -/
theorem lineSafeStep_ends {o : LineOut} (hst : o.st = .safe) (hleft : o.safeLeft = 0) (hdis : o.disabling = false) :
    o.safeStep = { o with st := if o.limiting then .limit else .driven, carries := true } := by
  cases hlim : o.limiting <;> simp [LineOut.safeStep, hst, hleft, hdis, hlim]

theorem exec_lineSafeEnd (het : s.core.tide.et = 0) (hst : (s.lo k.val).st = .safe) (hleft : (s.lo k.val).safeLeft = 0)
    (hdis : (s.lo k.val).disabling = false) : exec (.lineSafeEnd k) s =
      .next (s.updLo k.val fun o => { o with st := if o.limiting then .limit else .driven, carries := true }) :=
  congrArg Host.Outcome.next ((if_pos ⟨het, hst, hleft⟩).trans (updLo_congr (lineSafeStep_ends hst hleft hdis)))

theorem exec_lineDisableEnd (h : (s.lo k.val).disabling = true) : exec (.lineDisableEnd k) s =
    .next (s.updLo k.val fun o => { o with st := .hiz, disabling := false, limiting := false }) :=
  congrArg Host.Outcome.next (if_pos h)

theorem exec_lineDisableEnd_idle (h : (s.lo k.val).disabling = false) : exec (.lineDisableEnd k) s = .next s :=
  congrArg Host.Outcome.next (if_neg (Bool.eq_false_iff.mp h))

/-! ## The limits of a line output (R199) -/

/-- SHORT is raised each time limiting begins; a driven output goes on in LIMIT, one in SAFE stays at its 0 V. -/
theorem exec_lineLimitBegin (hlim : (s.lo k.val).limiting = false)
    (hst : (s.lo k.val).st = .driven ∨ (s.lo k.val).st = .safe) : exec (.lineLimitBegin k) s =
      .next (steward (s.updLo k.val fun o => { o with
        st := if o.st = .driven then .limit else .safe, limiting := true, flags := o.flags ||| 1, episode := true })
        .lineFault (arg2 1 k.val) []) := by
  refine congrArg Host.Outcome.next ((if_pos ⟨hlim, hst⟩).trans ?_)
  refine congrArg (fun u => steward u .lineFault (arg2 1 k.val) []) (updLo_congr ?_)
  rcases hst with hst | hst <;> simp [hst]

theorem exec_lineLimitBegin_again (h : (s.lo k.val).limiting = true) : exec (.lineLimitBegin k) s = .next s :=
  congrArg Host.Outcome.next (if_neg fun hbegin => Bool.noConfusion (h.symm.trans hbegin.1))

theorem exec_limitExit_line : exec (.limitExit (.line k)) s = .next (s.updLo k.val fun o =>
    { o with st := if o.st = .limit then .driven else o.st, limiting := false }) := rfl

theorem exec_lineLimitClear (hep : (s.lo k.val).episode = true) (hlim : (s.lo k.val).limiting = false) :
    exec (.lineLimitClear k) s =
      .next (steward (s.updLo k.val fun o => { o with episode := false }) .lineFault (arg2 2 k.val) []) :=
  congrArg Host.Outcome.next (if_pos ⟨hep, hlim⟩)

end

/-- Settles O41: SAFE and a disable end where they have run out, and a line output's limit at each of its rows. A limit that
runs on at the end of SAFE is the model's reading (log entry 31), as is an early row that changes nothing (log entry 2). -/
theorem safeEndsInADrivenOutput : Obligations.SafeEndsInADrivenOutput := by
  intro s n k
  refine ⟨exec_cvSafeEnd, exec_cvSafeEnd_early, exec_lineSafeEnd, exec_lineDisableEnd, exec_lineDisableEnd_idle,
    exec_lineLimitBegin, exec_lineLimitBegin_again, fun hst => ?limited, fun hst => ?unlimited, exec_lineLimitClear⟩
  case limited => rw [exec_limitExit_line, updLo_congr]; rw [if_pos hst]
  case unlimited => rw [exec_limitExit_line, updLo_congr]; rw [if_neg hst]

end Sys2Proof.Machine
end

section
/-! SUPPORT. A CV-input sample: the word that the trimmed value gives, and the overload of a word that saturates (R220 to
R224). -/

namespace Sys2Proof.Machine

/-! ## The limits of a channel word (R223) -/

theorem clampI_of_mem {lo hi x : Int} (hlo : lo ≤ x) (hhi : x ≤ hi) : clampI lo hi x = x := by
  rw [clampI_eq (hlo.trans hhi), max_eq_right hlo, min_eq_right hhi]

theorem clampI_of_outside {lo hi x sat : Int} (hle : lo ≤ hi) (h : x < lo ∧ sat = lo ∨ hi < x ∧ sat = hi) :
    clampI lo hi x = sat ∧ sat ≠ x := by
  rw [clampI_eq hle]
  omega

/-! ## A word enters the rank filter, saturated (R224) -/

/-- The input after a word that saturated. -/
def CvIn.overloaded (c : CvIn) : CvIn :=
  { c with flags := c.flags ||| 1, overloads := c.overloads + 1, episode := true }

/-- The state after input `n`, at `c`, has given a code. -/
def State.takeCode (s : State) (n : Nat) (c : CvIn) (code : Int) : State :=
  let w := clampI (-8388608) 8388607 code
  let d := c.word24 w
  let u := s.updCi n fun _ => d.overloaded
  if w = code then s.updCi n fun _ => d
  else if !d.episode then steward u .ciOverload (arg2 0 n) [] else u

/-- While no trim runs, a sample gives the code of its trimmed value. -/
theorem ciSample_untrimmed {s : State} (n : Nat) (bits : BitVec 128) (h : s.cal.trim = none) :
    ciSample s n bits =
      let c := [0, 32, 64, 96].foldl (fun c k => CvIn.cic c bits k) (s.ci n)
      s.takeCode n c (channelCode ((bankAt s.cal.trims (16 + n) {}).apply c.volts)) := by
  simp only [ciSample, State.takeCode, h, Option.any_none, Bool.false_eq_true, if_false, CvIn.overloaded]

section
variable {s : State} (n : Nat) (c : CvIn) {code sat : Int}

theorem takeCode_fits (hlo : -8388608 ≤ code) (hhi : code ≤ 8388607) :
    s.takeCode n c code = s.updCi n fun _ => c.word24 code := by
  simp only [State.takeCode, clampI_of_mem hlo hhi, if_true]

/-- CI_OVERLOAD is raised at the first saturated word of an episode. -/
theorem takeCode_saturates (h : code < -8388608 ∧ sat = -8388608 ∨ 8388607 < code ∧ sat = 8388607) :
    s.takeCode n c code =
      let d := c.word24 sat
      let u := s.updCi n fun _ => d.overloaded
      if d.episode then u else steward u .ciOverload (arg2 0 n) [] := by
  obtain ⟨hclamp, hne⟩ := clampI_of_outside (by decide) h
  simp only [State.takeCode, hclamp, if_neg hne]
  cases (c.word24 sat).episode <;> rfl

end

/-- Settles O43: the code of a sample within the limits of a word and beyond them. The trim's formula and the order of the
modulator bits are the model's reading (log entry 33), as are halves that round up (log entry 5). -/
theorem inputSamplesSaturateAndReport : Obligations.InputSamplesSaturateAndReport := by
  intro s n bits c code
  refine ⟨fun hdown => ?down, fun hruns htrim => ?runs, rfl⟩
  case down => exact congrArg Host.Outcome.next (if_neg (Bool.eq_false_iff.mp hdown))
  case runs =>
    have hsample : exec (.ciSample n bits) s = .next (s.takeCode n.val c code) :=
      congrArg Host.Outcome.next ((if_pos hruns).trans (ciSample_untrimmed n.val bits htrim))
    rw [hsample]
    exact ⟨fun hlo hhi => congrArg Host.Outcome.next (takeCode_fits n.val c hlo hhi),
      fun sat hsat => congrArg Host.Outcome.next (takeCode_saturates n.val c hsat)⟩

end Sys2Proof.Machine
end

section
/-! SUPPORT. The key scanner: the edges of a contact key, what a scan leaves alone, the capture of the rest codes, and a cell
fault that clears (R228 to R231, R235). -/

namespace Sys2Proof.Machine

/-! ## Contact keys (R230) -/

section
variable {k : Key} (fast slow e no : Nat)

/-- The second contact closes while the first is closed. -/
theorem contact_secondCloses (hoff : k.on = false) (hwait : k.waitRelease = false) :
    k.contact fast slow false true false true true e no =
      ({ k with on := true }, [⟨1, no, .known (keyVelocity fast slow (e - k.t1))⟩], false) := by
  simp [Key.contact, hoff, hwait]

/-- The first contact opens after the second. -/
theorem contact_firstOpens (hon : k.on = true) : k.contact fast slow false true false false false e no =
    ({ k with on := false, waitRelease := false }, [⟨0, no, .known (keyVelocity fast slow (e - k.t2))⟩], false) := by
  simp [Key.contact, hon]

variable {fast slow dt : Nat}

theorem keyVelocity_fast (h : dt ≤ fast) : keyVelocity fast slow dt = 65535 := if_pos h

theorem keyVelocity_slow (hlt : fast < slow) (h : slow ≤ dt) : keyVelocity fast slow dt = 1 := by
  rw [keyVelocity, if_neg (by omega), if_pos h]

end

/-! ## A scanner at work keeps its mode and counts its scans at their end only (R228) -/

/-- The mode of a scanner, and the number of its coming scan. -/
def Scanner.clock (x : Scanner) : Nat × Nat := (x.mode, x.scan)

/-- A fold whose steps leave the clock leaves it. -/
theorem foldl_clock {α β : Type} (get : β → Scanner) {f : β → α → β} (l : List α) (b : β)
    (h : ∀ b a, (get (f b a)).clock = (get b).clock) : (get (l.foldl f b)).clock = (get b).clock :=
  List.foldlRecOn l f (motive := fun d => (get d).clock = (get b).clock) rfl fun d hd a _ => (h d a).trans hd

theorem setCells_clock (x : Scanner) (b : Bank Cell) : ({ x with cells := b } : Scanner).clock = x.clock := rfl

theorem setKeys_clock (x : Scanner) (b : Bank Key) (n : Word) :
    ({ x with keys := b, orderErrors := n } : Scanner).clock = x.clock := rfl

theorem rangeScan_clock (x : Scanner) (passes : List (List Nat)) : (x.rangeScan passes).clock = x.clock := by
  simp only [Scanner.rangeScan, Scanner.clock]

theorem reseedKeys_clock (x : Scanner) (l : List Nat) : (l.foldl Scanner.reseedKey x).clock = x.clock :=
  foldl_clock id l x (f := Scanner.reseedKey) fun _ _ => rfl

theorem seedCells_clock (x : Scanner) (passes : List (List Nat)) (l : List Nat) :
    (l.foldl (fun x c => x.seedCell passes c) x).clock = x.clock :=
  foldl_clock id l x (f := fun x c => x.seedCell passes c) fun _ _ => rfl

theorem reseedAll_clock (x : Scanner) (passes : List (List Nat)) : (x.reseedAll passes).clock = x.clock := by
  unfold Scanner.reseedAll
  exact (reseedKeys_clock ..).trans (seedCells_clock ..)

theorem pass_clock (x : Scanner) (p : Nat) (codes : List Nat) : (x.pass p codes).1.clock = x.clock := by
  simp only [Scanner.pass]
  refine (foldl_clock Prod.fst _ _ fun _ _ => ?_).trans (setCells_clock ..)
  exact setKeys_clock ..

theorem passes_clock (x : Scanner) (p : Nat) (l : List (List Nat)) : (x.passes p l).1.clock = x.clock := by
  induction l generalizing x p with
  | nil => rfl
  | cons codes l ih =>
    simp only [Scanner.passes]
    exact (ih (x.pass p codes).1 (p + 1)).trans (pass_clock x p codes)

theorem analogScan_clock (x : Scanner) (codes : List Nat) : (x.analogScan codes).1.clock = x.clock := by
  unfold Scanner.analogScan
  refine foldl_clock Prod.fst _ _ fun a c => ?_
  dsimp only
  split <;> rfl

theorem silence_clock (x : Scanner) : x.silence.1.clock = x.clock := by
  unfold Scanner.silence
  refine foldl_clock Prod.fst _ _ fun a k => ?_
  dsimp only
  split <;> rfl

theorem senseCheck_clock (r : ScanReadings) (a : Scanner × List (BitVec 16)) (n : Nat) :
    (senseCheck r a n).1.clock = a.1.clock := by
  unfold senseCheck
  dsimp only
  split
  · split
    · exact reseedKeys_clock ..
    · rfl
  · split
    · split <;> rfl
    · rfl

theorem driveCheck_clock (r : ScanReadings) (a : Scanner × List (BitVec 16)) (d : Nat) :
    (driveCheck r a d).1.clock = a.1.clock := by
  unfold driveCheck
  dsimp only
  split
  · split
    · exact reseedKeys_clock ..
    · rfl
  · split
    · split <;> rfl
    · rfl

theorem cellCheck_clock (r : ScanReadings) (a : Scanner × List (BitVec 16)) (c : Nat) :
    (cellCheck r a c).1.clock = a.1.clock := by
  unfold cellCheck
  dsimp only
  split <;> rfl

theorem diagnose_clock (x : Scanner) (r : ScanReadings) : (x.diagnose r).1.clock = x.clock := by
  unfold Scanner.diagnose
  refine (setCells_clock ..).trans ?_
  exact (foldl_clock Prod.fst _ _ (cellCheck_clock r)).trans ((foldl_clock Prod.fst _ _ (driveCheck_clock r)).trans
    (foldl_clock Prod.fst _ _ (senseCheck_clock r)))

/-! ## Cell faults (R235) -/

theorem reseedKeys_cells (x : Scanner) (l : List Nat) : (l.foldl Scanner.reseedKey x).cells = x.cells :=
  List.foldlRecOn l _ (motive := fun y : Scanner => y.cells = x.cells) rfl fun _ hy _ _ => hy

/-- The scanner after the fault of a cell has cleared, its keys re-seeded. -/
def Scanner.cleared (x : Scanner) (c : Nat) : Scanner :=
  let y := { x with cells := bankPut x.cells c { x.cell c with faulty := false } }
  (y.keysOn [c]).foldl Scanner.reseedKey y

theorem cleared_clock (x : Scanner) (c : Nat) : (x.cleared c).clock = x.clock := reseedKeys_clock ..

theorem cleared_cell (x : Scanner) (c : Nat) : (x.cleared c).cell c = { x.cell c with faulty := false } := by
  rw [Scanner.cell, Scanner.cleared, reseedKeys_cells]
  exact bankAt_bankPut_same ..

theorem clearCell_clears {s : State} {c : Nat} (hf : (s.scan.cell c).faulty = true) (hin : 64 ≤ (s.scan.cell c).inScans) :
    clearCell s c = steward { s with scan := s.scan.cleared c } .keyFault (arg2 0x83 c) [] := if_pos ⟨hf, hin⟩

theorem clearCell_stays {s : State} {c : Nat} (h : ¬((s.scan.cell c).faulty = true ∧ 64 ≤ (s.scan.cell c).inScans)) :
    clearCell s c = s := if_neg h

/-! ## What a scan leaves alone (R232, R234) -/

/-- The scanner at the same clock, what the tenants hear, and free values differ at most. -/
structure ScanFrame (s u : State) : Prop where
  frame : u = { s with scan := u.scan, tenants := u.tenants, fw := u.fw, power := u.power, freeCtr := u.freeCtr }
  clock : u.scan.clock = s.scan.clock

theorem ScanFrame.refl (s : State) : ScanFrame s s := ⟨rfl, rfl⟩

theorem ScanFrame.trans {a b c : State} (h : ScanFrame a b) (k : ScanFrame b c) : ScanFrame a c :=
  ⟨by rw [k.frame, h.frame], k.clock.trans h.clock⟩

theorem ScanFrame.fold {α : Type} (l : List α) (f : State → α → State) (h : ∀ s a, ScanFrame s (f s a)) (s : State) :
    ScanFrame s (foldS l s f) :=
  foldS_keeps (ScanFrame s) l f (fun u a hu => hu.trans (h u a)) (ScanFrame.refl s)

theorem ScanFrame.setScan (s : State) {x : Scanner} (h : x.clock = s.scan.clock) : ScanFrame s { s with scan := x } :=
  ⟨rfl, h⟩

theorem EventFrame.scanFrame {s u : State} (h : EventFrame s u) : ScanFrame s u := by
  unfold EventFrame at h
  rw [h]
  exact ⟨rfl, rfl⟩

theorem raiseKey_scanFrame (s : State) (e : KeyEv) : ScanFrame s (raiseKey s e) := by
  unfold raiseKey
  dsimp only
  split
  · split
    · exact (raiseTo_eventFrame ..).scanFrame
    · exact ScanFrame.trans (b := s.drew) ⟨rfl, rfl⟩ (raiseTo_eventFrame ..).scanFrame
  · exact ScanFrame.refl s

theorem putScan_scanFrame (s : State) {a : Scanner × List KeyEv} (h : a.1.clock = s.scan.clock) :
    ScanFrame s (s.putScan a) :=
  (ScanFrame.setScan s h).trans (ScanFrame.fold _ _ raiseKey_scanFrame _)

theorem clearCell_scanFrame (s : State) (c : Nat) : ScanFrame s (clearCell s c) := by
  by_cases h : (s.scan.cell c).faulty = true ∧ 64 ≤ (s.scan.cell c).inScans
  · rw [clearCell_clears h.1 h.2]
    exact (ScanFrame.setScan s (cleared_clock ..)).trans (steward_eventFrame ..).scanFrame
  · rw [clearCell_stays h]
    exact ScanFrame.refl s

theorem captureRest_scanFrame (s : State) : ScanFrame s (captureRest s) := by
  unfold captureRest
  split
  · exact ScanFrame.setScan s rfl
  · exact ScanFrame.refl s

/-- The readings of a scan are used: for the diagnostics in an injection scan, else for the keys (R228). -/
def State.useReadings (s : State) (r : ScanReadings) : State :=
  let x := s.scan.rangeScan r.passes
  if isInjection s.scan.scan then
    foldS (x.diagnose r).2 { s with scan := (x.diagnose r).1 } fun s f => steward s .keyFault f []
  else if x.reseed then { s with scan := x.reseedAll r.passes }
  else ({ s with scan := x } : State).putScan (if x.mode = 1 then x.passes 0 r.passes else x.analogScan (r.passes.headD []))

theorem useReadings_scanFrame (s : State) (r : ScanReadings) : ScanFrame s (s.useReadings r) := by
  have hrange := rangeScan_clock s.scan r.passes
  unfold State.useReadings
  generalize s.scan.rangeScan r.passes = x at hrange ⊢
  dsimp only
  split
  · exact (ScanFrame.setScan s ((diagnose_clock x r).trans hrange)).trans
      (ScanFrame.fold _ _ (fun _ _ => (steward_eventFrame ..).scanFrame) _)
  · split
    · exact ScanFrame.setScan s ((reseedAll_clock x r.passes).trans hrange)
    · refine (ScanFrame.setScan s hrange).trans (putScan_scanFrame _ ?_)
      split
      · exact passes_clock ..
      · exact analogScan_clock ..

/-- The state of a scan before it is counted. -/
def State.scanned (s : State) (r : ScanReadings) : State :=
  let v := (foldS (List.range 128) (captureRest s) clearCell).useReadings r
  v.putScan v.scan.silence

theorem scanned_scanFrame (s : State) (r : ScanReadings) : ScanFrame s (s.scanned r) :=
  (captureRest_scanFrame s).trans ((ScanFrame.fold _ _ clearCell_scanFrame _).trans
    ((useReadings_scanFrame _ r).trans (putScan_scanFrame _ (silence_clock _))))

/-- The scan is counted. -/
def State.scanCounted (s : State) : State := { s with scan := { s.scan with scan := s.scan.scan + 1 } }

theorem keyScan_eq (s : State) (r : ScanReadings) : keyScan s r = (s.scanned r).scanCounted := by
  unfold keyScan State.scanned State.useReadings State.scanCounted
  with_reducible rfl

theorem ScanFrame.counted {s v : State} (h : ScanFrame s v) : let u := v.scanCounted
    u.scan.scan = s.scan.scan + 1 ∧ u.scan.mode = s.scan.mode ∧
      u = { s with scan := u.scan, tenants := u.tenants, fw := u.fw, power := u.power, freeCtr := u.freeCtr } := by
  obtain ⟨hmode, hscan⟩ := Prod.mk.inj h.clock
  refine ⟨congrArg (· + 1) hscan, hmode, ?_⟩
  rw [h.frame]
  rfl

/-! ## Rest codes (R231) -/

/-- Each entry that is written in turn stands in the bank. -/
theorem bankAt_foldl_bankPut {α : Type} (f : Nat → α) (b : Bank α) (d : α) {n c : Nat} (h : c < n) :
    bankAt ((List.range n).foldl (fun b c => bankPut b c (f c)) b) c d = f c := by
  induction n with
  | zero => exact absurd h (Nat.not_lt_zero c)
  | succ n ih =>
    rw [List.range_succ, List.foldl_append, List.foldl_cons, List.foldl_nil]
    by_cases hc : c = n
    · rw [hc, bankAt_bankPut_same]
    · rw [bankAt_bankPut_other _ _ _ hc, ih (by omega)]

theorem capture_cell (x : Scanner) {c : Nat} (h : c < 128) :
    x.capture.cell c = { x.cell c with rest := mkRat (x.cell c).sum 63 } := by
  simp only [Scanner.capture, Scanner.cell, bankAt_foldl_bankPut _ x.cells _ h]

theorem capture_captured (x : Scanner) : x.capture.captured = true := by rw [Scanner.capture]

theorem captureRest_captures {s : State} (hmode : s.scan.mode = 2) (hnew : s.scan.captured = false)
    (hlast : s.scan.scan = 64) : captureRest s = { s with scan := s.scan.capture } := if_pos ⟨hmode, hnew, hlast⟩

theorem captureRest_stays {s : State} (h : s.scan.mode ≠ 2 ∨ s.scan.captured = true ∨ s.scan.scan ≠ 64) :
    captureRest s = s := if_neg fun ⟨hmode, hnew, hlast⟩ => by simp [hmode, hnew, hlast] at h

/-- Settles O44: the two edges of a contact key, the limits of its velocity, a scan, the capture of the rest codes, and a
cell fault. A mean over scans 0 to 62 is the model's reading (log entry 34), as is a row out of its moment that changes nothing
(log entry 2). -/
theorem keysGoOnAndOff : Obligations.KeysGoOnAndOff := by
  intro s r cell k fast slow e no
  refine ⟨contact_secondCloses fast slow e no, contact_firstOpens fast slow e no,
    fun dt => ⟨keyVelocity_fast, keyVelocity_slow⟩, fun h => ?rests, fun h => ?scans, fun hmode hnew hlast => ?captures,
    fun h => ?noCapture, fun hf hin => ?clears, fun h => ?stays⟩
  case rests => exact congrArg Host.Outcome.next (if_neg (Bool.eq_false_iff.mp h))
  case scans =>
    exact ⟨_, congrArg Host.Outcome.next ((if_pos h).trans (keyScan_eq s r)), (scanned_scanFrame s r).counted⟩
  case captures =>
    exact ⟨_, congrArg Host.Outcome.next (captureRest_captures hmode hnew hlast), capture_captured s.scan,
      fun c hc => congrArg Cell.rest (capture_cell s.scan hc), rfl⟩
  case noCapture => exact congrArg Host.Outcome.next (captureRest_stays h)
  case clears =>
    exact ⟨_, congrArg Host.Outcome.next (clearCell_clears hf hin), congrArg Cell.faulty (cleared_cell s.scan cell.val), rfl⟩
  case stays => exact congrArg Host.Outcome.next (clearCell_stays fun hfault => Bool.noConfusion (h.symm.trans hfault.1))

end Sys2Proof.Machine
end

section
/-! SUPPORT. Start-stop characters on a line: the level that a character's edges give at the sample points, and the character
that is sampled from them (R239 to R242). -/

namespace Sys2Proof.Machine

/-! ## Bit times (R242) -/

theorem bitStart_mono (n f : Nat) : Monotone (bitStart n f) := fun _ _ h =>
  Nat.add_le_add (Nat.mul_le_mul_right n h) (Nat.div_le_div_right (Nat.mul_le_mul_right f h))

theorem bitStart_lt_succ {n : Nat} (hn : 0 < n) (f i : Nat) : bitStart n f i < bitStart n f (i + 1) := by
  have hwhole : (i + 1) * n = i * n + n := Nat.succ_mul i n
  have hfrac : i * f / 16 ≤ (i + 1) * f / 16 := Nat.div_le_div_right (Nat.mul_le_mul_right f (Nat.le_succ i))
  simp only [bitStart]
  omega

theorem bitStart_le_samplePoint (n f i : Nat) : bitStart n f i ≤ samplePoint n f i := Nat.le_add_right ..

theorem samplePoint_lt_bitStart {n : Nat} (hn : 0 < n) (f i : Nat) : samplePoint n f i < bitStart n f (i + 1) := by
  have h := bitStart_lt_succ hn f i
  simp only [samplePoint, bitLen]
  omega

/-! ## The level of a line (R239) -/

theorem lineLevel_append (a b : List Nat) (t : Nat) : lineLevel (a ++ b) t = (lineLevel a t ^^ lineLevel b t) := by
  simp only [lineLevel, List.filter_append, List.length_append]
  generalize (a.filter _).length = m, (b.filter _).length = n
  rcases Nat.mod_two_eq_zero_or_one m with hm | hm <;> rcases Nat.mod_two_eq_zero_or_one n with hn | hn <;>
    simp [Nat.add_mod, hm, hn]

/-- The change that bit `i + 1` of a character makes on the line, at the time it starts. -/
def bitChange (start : Nat → Nat) (l : List Bool) (i : Nat) : Option Nat :=
  if l.getD i false = (false :: l).getD i false then none else some (start (i + 1))

theorem sentEdges_eq (fr : Frame) (b : Byte) : sentEdges fr b =
    (List.range (sentBits fr b).length).filterMap (bitChange (bitStart fr.n fr.f) (sentBits fr b)) := by
  refine List.filterMap_congr fun i _ => ?_
  cases i <;> rfl

theorem lineLevel_bitChange (start : Nat → Nat) (l : List Bool) (i t : Nat) :
    lineLevel ([i].filterMap (bitChange start l)) t =
      (decide (start (i + 1) ≤ t) && (l.getD i false != (false :: l).getD i false)) := by
  rw [List.filterMap_cons, bitChange]
  by_cases hsame : l.getD i false = (false :: l).getD i false
  · rw [if_pos hsame, bne_eq_false_iff_eq.mpr hsame, Bool.and_false]
    rfl
  · rw [if_neg hsame, bne_iff_ne.mpr hsame, Bool.and_true]
    by_cases hpast : start (i + 1) ≤ t <;> simp [lineLevel, hpast]

/-- The changes of the first `m` bits give a line the level of the bit that is under way, or of the last of them. -/
theorem lineLevel_bitChanges {start : Nat → Nat} (hmono : Monotone start) (l : List Bool) {k t : Nat} (hk : start k ≤ t)
    (ht : t < start (k + 1)) (m : Nat) :
    lineLevel ((List.range m).filterMap (bitChange start l)) t = (false :: l).getD (min m k) false := by
  induction m with
  | zero => simp [lineLevel]
  | succ m ih =>
    rw [List.range_succ, List.filterMap_append, lineLevel_append, ih, lineLevel_bitChange]
    rcases Nat.lt_or_ge m k with h | h
    · have hpast : start (m + 1) ≤ t := (hmono h).trans hk
      rw [Nat.min_eq_left h.le, Nat.min_eq_left h, List.getD_cons_succ, decide_eq_true hpast, Bool.true_and]
      cases l.getD m false <;> cases (false :: l).getD m false <;> rfl
    · have hcoming : ¬start (m + 1) ≤ t := Nat.not_le.mpr (ht.trans_le (hmono (Nat.succ_le_succ h)))
      rw [decide_eq_false hcoming, Bool.false_and, Bool.xor_false, Nat.min_eq_right h,
        Nat.min_eq_right (Nat.le_succ_of_le h)]

/-- At the sample point of each bit the line shows that bit, behind the start bit. -/
theorem lineLevel_sentEdges {fr : Frame} (hn : 0 < fr.n) (b : Byte) {i : Nat} (hi : i ≤ (sentBits fr b).length) :
    lineLevel (sentEdges fr b) (samplePoint fr.n fr.f i) = (false :: sentBits fr b).getD i false := by
  rw [sentEdges_eq, lineLevel_bitChanges (bitStart_mono fr.n fr.f) _ (bitStart_le_samplePoint ..)
    (samplePoint_lt_bitStart hn ..), Nat.min_eq_right hi]

/-! ## What is sampled (R240, R241) -/

/-- The data bits of a character, LSB first. -/
def Frame.data (fr : Frame) (b : Byte) : List Bool := (List.range fr.bits).map fun i => b.getLsbD i

/-- The parity bit of a character, if the frame has one: even or odd. -/
def Frame.parityBits (fr : Frame) (b : Byte) : List Bool :=
  if fr.parity = 0 then []
  else [if fr.parity = 1 then ((fr.data b).filter id).length % 2 == 1 else ((fr.data b).filter id).length % 2 == 0]

theorem sentBits_eq (fr : Frame) (b : Byte) : sentBits fr b = fr.data b ++ fr.parityBits b ++ [true] := rfl

@[simp] theorem length_data (fr : Frame) (b : Byte) : (fr.data b).length = fr.bits := by simp [Frame.data]

/-- A number is the sum of its bits. -/
theorem sum_testBits (v n : Nat) : ((List.range n).map fun i => if v.testBit i then 2 ^ i else 0).sum = v % 2 ^ n := by
  induction n with
  | zero => simp [Nat.mod_one]
  | succ n ih =>
    rw [List.range_succ, List.map_append, List.sum_append, ih, pow_succ, Nat.mod_mul, List.map_singleton,
      List.sum_singleton, Nat.testBit_eq_decide_div_mod_eq]
    rcases Nat.mod_two_eq_zero_or_one (v / 2 ^ n) with h | h <;> simp [h]

/-- The data bits are those of a byte that fits in them. -/
theorem sum_data {fr : Frame} {b : Byte} (hb : b.toNat < 2 ^ fr.bits) :
    ((List.range fr.bits).map fun i => if (fr.data b).getD i false then 2 ^ i else 0).sum = b.toNat := by
  rw [← Nat.mod_eq_of_lt hb, ← sum_testBits]
  refine congrArg List.sum (List.map_congr_left fun i hi => ?_)
  simp [Frame.data, List.mem_range.mp hi, BitVec.testBit_toNat]

theorem length_sentBits (fr : Frame) (b : Byte) :
    (sentBits fr b).length = fr.bits + (if fr.parity = 0 then 0 else 1) + 1 := by
  rw [sentBits_eq, List.length_append, List.length_append, length_data, Frame.parityBits]
  split <;> rfl

/-- The parity that a character is sent with is the one that its frame asks for. -/
theorem parity_sound (fr : Frame) (b : Byte) (ones : Nat)
    (h : ones = ((fr.data b).filter id).length + if (fr.parityBits b).getD 0 false then 1 else 0) :
    (if fr.parity = 1 then ones % 2 == 1 else if fr.parity = 2 then ones % 2 == 0 else false) = false := by
  subst h
  by_cases heven : fr.parity = 1
  · rw [if_pos heven]
    rcases Nat.mod_two_eq_zero_or_one ((fr.data b).filter id).length with h | h <;>
      simp [Frame.parityBits, heven, Nat.add_mod, h]
  · rw [if_neg heven]
    rcases Nat.mod_two_eq_zero_or_one ((fr.data b).filter id).length with h | h <;>
      simp +contextual [Frame.parityBits, Nat.add_mod, h]

section
variable {fr : Frame} {b : Byte} {level : Nat → Bool}
  (h : ∀ i ≤ (sentBits fr b).length, level (samplePoint fr.n fr.f i) = (false :: sentBits fr b).getD i false)
include h

theorem sampled_start : level (samplePoint fr.n fr.f 0) = false := h 0 (Nat.zero_le _)

theorem sampled_data : (List.range fr.bits).map (fun i => level (samplePoint fr.n fr.f (i + 1))) = fr.data b := by
  refine List.map_congr_left fun i hi => ?_
  have hi : i < fr.bits := List.mem_range.mp hi
  rw [h (i + 1) (by rw [length_sentBits]; omega), List.getD_cons_succ, sentBits_eq, List.append_assoc,
    List.getD_append _ _ _ _ (by rwa [length_data])]
  simp [Frame.data, hi]

theorem sampled_parity : (if fr.parity = 0 then false else level (samplePoint fr.n fr.f (fr.bits + 1))) =
    (fr.parityBits b).getD 0 false := by
  by_cases hp : fr.parity = 0
  · simp [Frame.parityBits, hp]
  · rw [if_neg hp, h (fr.bits + 1) (by rw [length_sentBits]; omega), List.getD_cons_succ, sentBits_eq, List.append_assoc,
      List.getD_append_right _ _ _ _ (length_data fr b).le, length_data, Nat.sub_self]
    simp [Frame.parityBits, hp]

theorem sampled_stop :
    level (samplePoint fr.n fr.f (fr.bits + 1 + if fr.parity = 0 then 0 else 1)) = true := by
  have hlast : fr.bits + 1 + (if fr.parity = 0 then 0 else 1) = (fr.data b ++ fr.parityBits b).length + 1 := by
    rw [Nat.add_right_comm, List.length_append, length_data, Frame.parityBits]
    split <;> rfl
  rw [h _ (by rw [length_sentBits]; omega), hlast, List.getD_cons_succ, sentBits_eq,
    List.getD_append_right _ _ _ _ le_rfl, Nat.sub_self]
  rfl

/-- A line that shows the bits of a character at its sample points gives that character, without an error. -/
theorem sampleChar_of_sampled (hb : b.toNat < 2 ^ fr.bits) : sampleChar fr level = .char b false false := by
  simp only [sampleChar, sampled_start h, sampled_data h, sampled_parity h, sampled_stop h, sum_data hb]
  rw [parity_sound fr b _ rfl, BitVec.ofNat_toNat, BitVec.setWidth_eq]
  simp

end

/-- A character that is sent on a line with a frame is received with it. -/
theorem sampleChar_sentEdges {fr : Frame} {b : Byte} (hn : 0 < fr.n) (hb : b.toNat < 2 ^ fr.bits) :
    sampleChar fr (lineLevel (sentEdges fr b)) = .char b false false :=
  sampleChar_of_sampled (fun _ hi => lineLevel_sentEdges hn b hi) hb

end Sys2Proof.Machine
end

section
/-! SUPPORT. The rows of the serial lines: a character at a decoding channel, breaks, the delivery of what was received, the
transmitter, echo and the wake edge (R240 to R260). -/

namespace Sys2Proof.Machine

/-! ## One channel changes -/

/-- Only what a change makes of the channel as it is counts. -/
theorem updSc_congr {s : State} {n : Nat} {f g : Serial → Serial} (h : f (s.sc n) = g (s.sc n)) :
    s.updSc n f = s.updSc n g := by simp only [State.updSc, h]

/-- Two changes of one channel are one change. -/
theorem updSc_updSc (s : State) (n : Nat) (f g : Serial → Serial) :
    (s.updSc n f).updSc n g = s.updSc n fun c => g (f c) := by
  simp only [State.updSc, State.sc, bankPut_bankPut_same, bankAt_bankPut_same]

theorem EventFrame.sc {s u : State} (h : EventFrame s u) (n : Nat) : u.sc n = s.sc n := by
  unfold EventFrame at h
  rw [h]
  rfl

theorem EventFrame.updSc {s u : State} (h : EventFrame s u) (n : Nat) (f : Serial → Serial) :
    EventFrame (s.updSc n f) (u.updSc n f) := by
  unfold EventFrame at h ⊢
  rw [h]
  rfl

theorem scLine_eventFrame (s : State) (ch kind : Nat) (cont : List Byte) : EventFrame s (scLine s ch kind cont) :=
  raiseTo_eventFrame ..

/-- What a channel tells after a change that leaves its owner. -/
theorem scLine_updSc {s : State} {n : Nat} {f : Serial → Serial} (kind : Nat) (cont : List Byte)
    (h : (f (s.sc n)).owner = (s.sc n).owner) : scLine (s.updSc n f) n kind cont =
      raiseTo (s.updSc n f) (s.sc n).owner .scLine (arg2 n kind) cont := by rw [scLine, updSc_sc_same, h]

/-! ## A decoding channel takes a character (R240, R241, R243, R250) -/

/-- The end of a character: the wake it made is over, and a loop has carried what was sent. -/
def Serial.charEnded (c : Serial) : Serial :=
  { c with waking := false, txLast := if c.loopback then none else c.txLast }

theorem charEnded_line {c : Serial} (h : c.loopback = false) : c.charEnded = { c with waking := false } := by
  simp [Serial.charEnded, h]

/-- A character on the line of a GENERAL channel while the unit is awake: it is echoed, then measured or decoded. -/
theorem scChar_general {s : State} {ch : Nat} {edges : List Nat} (cts : Bool) (hmode : (s.sc ch).mode = .general)
    (hloop : (s.sc ch).loopback = false) (hbrk : (s.sc ch).brk = .none) (hawake : s.asleep = false) :
    scChar s ch edges cts =
      let u := echoChar s ch edges (lineLevel edges) cts
      (if (s.sc ch).autobaud ∧ (s.sc ch).locked = false then measureChar u ch edges
        else decodeChar u ch edges (lineLevel edges)).updSc ch Serial.charEnded := by
  simp only [scChar, hmode, reduceCtorEq, hbrk, ne_eq, not_true_eq_false, hawake, Bool.false_eq_true, false_and, or_self,
    ↓reduceIte, not_false_eq_true, and_true, hloop]
  rfl

theorem scChar_idle {s : State} {ch : Nat} {edges : List Nat} (cts : Bool) (h : (s.sc ch).mode = .off ∨
    (s.sc ch).mode = .card ∨ (s.sc ch).brk ≠ .none ∨ (s.asleep = true ∧ s.scWakes ch = false)) :
    scChar s ch edges cts = s := if_pos h

section
variable {s : State} {ch : Nat} (edges : List Nat) {level : Nat → Bool} {b : Byte}

theorem decodeChar_glitch (h : sampleChar (s.sc ch).frame level = .glitch) : decodeChar s ch edges level = s := by
  rw [decodeChar, h]

theorem decodeChar_brk (h : sampleChar (s.sc ch).frame level = .brk) (hwake : (s.sc ch).waking = false)
    (hauto : (s.sc ch).autobaud = false) :
    decodeChar s ch edges level = s.updSc ch fun c => { c with brk := .counting, brkL16 := c.l16 } := by
  rw [decodeChar, h]
  refine Eq.trans ?_ (updSc_congr (f := fun c => { c with
    brk := .counting, brkL16 := c.l16, locked := if c.autobaud then false else c.locked }) (by simp [hauto]))
  simp [breakBegin, disarm, hwake]

theorem decodeChar_byte (h : sampleChar (s.sc ch).frame level = .char b false false) (hmode : (s.sc ch).mode ≠ .midi) :
    decodeChar s ch edges level = scByte s ch b := by
  simp [decodeChar, h, hmode]

theorem decodeChar_parity (h : sampleChar (s.sc ch).frame level = .char b false true) :
    decodeChar s ch edges level = scError s ch false true := by
  simp [decodeChar, h]

/-- An awake unit queues a byte that finds room. -/
theorem scByte_queued (hawake : s.asleep = false) (htakes : s.scDiscards ch = false) (hroom : (s.sc ch).rx.length < 256) :
    scByte s ch b = s.updSc ch fun c => ({ c with rx := c.rx ++ [b], overrunArmed := true } : Serial).rts := by
  simp [scByte, rxPut, hawake, htakes, Nat.not_le.mpr hroom]

/-- A byte that overruns the queue again is counted and not told. -/
theorem scByte_overrun (hawake : s.asleep = false) (htakes : s.scDiscards ch = false)
    (hfull : 256 ≤ (s.sc ch).rx.length) (hold : (s.sc ch).overrunArmed = false) :
    scByte s ch b = s.updSc ch fun c => { c with overruns := c.overruns + 1, overrunArmed := false } := by
  simp [scByte, rxPut, hawake, htakes, hfull, hold]

end

/-- The counters of a channel after a framing or parity error, and its time. -/
def Serial.erred (c : Serial) (framing parity : Bool) (now : Nat) : Serial :=
  { c with
    framing := if framing then c.framing + 1 else c.framing,
    parityErr := if parity then c.parityErr + 1 else c.parityErr,
    errAt := some now }

theorem scError_eventFrame (s : State) (ch : Nat) (framing parity : Bool) :
    EventFrame (s.updSc ch fun c => c.erred framing parity s.core.ticks) (scError s ch framing parity) := by
  unfold scError
  dsimp only
  split
  · exact scLine_eventFrame ..
  · exact EventFrame.refl _

theorem rts_loopback (c : Serial) : c.rts.loopback = c.loopback := by
  unfold Serial.rts
  (repeat' split) <;> rfl

/-! ## Echo (R256, R257) -/

/-- One channel changes, but not what it drives nor its count of ignored CTS_N; what an event may touch differs too. -/
structure EchoKept (ch : Nat) (s u : State) : Prop where
  frame : u = { s with serials := u.serials, tenants := u.tenants, fw := u.fw, power := u.power }
  wave : (u.sc ch).txWave = (s.sc ch).txWave
  ignored : (u.sc ch).ctsIgnored = (s.sc ch).ctsIgnored

theorem EchoKept.refl (ch : Nat) (s : State) : EchoKept ch s s := ⟨rfl, rfl, rfl⟩

theorem EchoKept.trans {ch : Nat} {a b c : State} (h : EchoKept ch a b) (k : EchoKept ch b c) : EchoKept ch a c :=
  ⟨by rw [k.frame, h.frame], k.wave.trans h.wave, k.ignored.trans h.ignored⟩

theorem EventFrame.echoKept {s u : State} (h : EventFrame s u) (ch : Nat) : EchoKept ch s u := by
  unfold EventFrame at h
  rw [h]
  exact ⟨rfl, rfl, rfl⟩

/-- A change of the channel that leaves its wave and that count. -/
theorem updSc_echoKept (s : State) (ch : Nat) {f : Serial → Serial} (hwave : (f (s.sc ch)).txWave = (s.sc ch).txWave)
    (hignored : (f (s.sc ch)).ctsIgnored = (s.sc ch).ctsIgnored) : EchoKept ch s (s.updSc ch f) :=
  ⟨rfl, by rw [updSc_sc_same, hwave], by rw [updSc_sc_same, hignored]⟩

theorem rts_txWave (c : Serial) : c.rts.txWave = c.txWave := by
  unfold Serial.rts
  (repeat' split) <;> rfl

theorem rts_ctsIgnored (c : Serial) : c.rts.ctsIgnored = c.ctsIgnored := by
  unfold Serial.rts
  (repeat' split) <;> rfl

theorem rxPut_echoKept (s : State) (ch : Nat) (b : Byte) : EchoKept ch s (rxPut s ch b) := by
  unfold rxPut
  dsimp only
  split
  · exact updSc_echoKept s ch rfl rfl
  · split
    · split
      · exact (updSc_echoKept s ch (by rfl) (by rfl)).trans ((scLine_eventFrame ..).echoKept ch)
      · exact updSc_echoKept s ch rfl rfl
    · exact updSc_echoKept s ch (rts_txWave _) (rts_ctsIgnored _)

theorem scByte_echoKept (s : State) (ch : Nat) (b : Byte) : EchoKept ch s (scByte s ch b) := by
  unfold scByte
  dsimp only
  split
  · split <;> exact updSc_echoKept s ch rfl rfl
  · exact rxPut_echoKept s ch b

theorem scError_echoKept (s : State) (ch : Nat) (framing parity : Bool) : EchoKept ch s (scError s ch framing parity) :=
  (updSc_echoKept s ch rfl rfl).trans ((scError_eventFrame s ch framing parity).echoKept ch)

theorem disarm_echoKept (s : State) (ch : Nat) : EchoKept ch s (disarm s ch) := by
  unfold disarm
  split
  · exact updSc_echoKept s ch rfl rfl
  · exact EchoKept.refl ch s

theorem breakBegin_echoKept (s : State) (ch : Nat) : EchoKept ch s (breakBegin s ch) := updSc_echoKept s ch rfl rfl

theorem decodeChar_echoKept (s : State) (ch : Nat) (edges : List Nat) (level : Nat → Bool) :
    EchoKept ch s (decodeChar s ch edges level) := by
  unfold decodeChar
  dsimp only
  split
  next => exact EchoKept.refl ch s
  next => exact (disarm_echoKept s ch).trans (breakBegin_echoKept _ ch)
  next b framing parity _ =>
    split
    · refine EchoKept.trans ?_ (scError_echoKept _ ch framing parity)
      split
      · exact disarm_echoKept s ch
      · exact EchoKept.refl ch s
    · split
      · split
        · exact EchoKept.refl ch s
        · split
          · exact (updSc_echoKept s ch (by rfl) (by rfl)).trans (scByte_echoKept _ ch b)
          · exact (scLine_eventFrame ..).echoKept ch
      · exact scByte_echoKept s ch b

theorem measureChar_echoKept (s : State) (ch : Nat) (edges : List Nat) : EchoKept ch s (measureChar s ch edges) := by
  unfold measureChar
  exact iteInduction (motive := EchoKept ch s) (fun _ => updSc_echoKept s ch rfl rfl)
    fun _ => (scLine_eventFrame ..).echoKept ch

/-- The channel once it has echoed a character. -/
def Serial.echoed (c : Serial) (edges : List Nat) (cts : Bool) : Serial :=
  { c with
    txWave := some (c.echoWave edges (lineLevel edges)), ctsIgnored := if cts then c.ctsIgnored + 1 else c.ctsIgnored }

theorem echoChar_echoes {s : State} {ch : Nat} (edges : List Nat) (cts : Bool) (hecho : (s.sc ch).echo = true)
    (hpads : s.power.pads = none) :
    echoChar s ch edges (lineLevel edges) cts = s.updSc ch fun c => c.echoed edges cts := if_pos ⟨hecho, hpads⟩

theorem echoChar_silent {s : State} {ch : Nat} (edges : List Nat) (level : Nat → Bool) (cts : Bool)
    (hecho : (s.sc ch).echo = false) : echoChar s ch edges level cts = s :=
  if_neg fun h => Bool.noConfusion (hecho.symm.trans h.1)

/-- After the echo, whatever the channel does with the character keeps the echo. -/
theorem scChar_echoKept {s : State} {ch : Nat} (edges : List Nat) (cts : Bool) (hmode : (s.sc ch).mode = .general)
    (hloop : (s.sc ch).loopback = false) (hbrk : (s.sc ch).brk = .none) (hawake : s.asleep = false)
    (hecho : (s.sc ch).echo = true) (hpads : s.power.pads = none) :
    EchoKept ch (s.updSc ch fun c => c.echoed edges cts) (scChar s ch edges cts) := by
  rw [scChar_general cts hmode hloop hbrk hawake, echoChar_echoes edges cts hecho hpads]
  refine EchoKept.trans ?_ (updSc_echoKept _ ch rfl rfl)
  split
  · exact measureChar_echoKept ..
  · exact decodeChar_echoKept ..

/-! ## A character of a GENERAL channel -/

/-- A GENERAL channel that neither measures, loops nor echoes, out of a break, while the unit is awake. -/
structure PlainChannel (s : State) (ch : Nat) : Prop where
  mode : (s.sc ch).mode = .general
  autobaud : (s.sc ch).autobaud = false
  loopback : (s.sc ch).loopback = false
  echo : (s.sc ch).echo = false
  brk : (s.sc ch).brk = .none
  awake : s.asleep = false

namespace PlainChannel

variable {s : State} {ch : Nat} (h : PlainChannel s ch) {edges : List Nat} (cts : Bool) {b : Byte}
include h

theorem notMidi : (s.sc ch).mode ≠ .midi := by simp [h.mode]

theorem scChar_eq : scChar s ch edges cts = (decodeChar s ch edges (lineLevel edges)).updSc ch Serial.charEnded := by
  rw [scChar_general cts h.mode h.loopback h.brk h.awake, echoChar_silent _ _ _ h.echo]
  simp [h.autobaud]

/-- What decoding makes of the channel stands, and the wake of the character is over. -/
theorem scChar_of_decoded {f : Serial → Serial} (hd : decodeChar s ch edges (lineLevel edges) = s.updSc ch f)
    (hf : (f (s.sc ch)).loopback = (s.sc ch).loopback) :
    scChar s ch edges cts = s.updSc ch fun c => { f c with waking := false } := by
  rw [h.scChar_eq, hd, updSc_updSc]
  exact updSc_congr (charEnded_line (hf.trans h.loopback))

theorem glitch (hc : sampleChar (s.sc ch).frame (lineLevel edges) = .glitch) :
    scChar s ch edges cts = s.updSc ch fun c => { c with waking := false } := by
  rw [h.scChar_eq, decodeChar_glitch _ hc]
  exact updSc_congr (charEnded_line h.loopback)

/-- A break begins; a character that has not woken the unit disarms nothing. -/
theorem breaks (hc : sampleChar (s.sc ch).frame (lineLevel edges) = .brk) (hwake : (s.sc ch).waking = false) :
    scChar s ch edges cts = s.updSc ch fun c => { c with brk := .counting, brkL16 := c.l16 } := by
  rw [h.scChar_of_decoded cts (decodeChar_brk edges hc hwake h.autobaud) rfl]
  exact updSc_congr (by rw [hwake])

theorem queued (hc : sampleChar (s.sc ch).frame (lineLevel edges) = .char b false false)
    (htakes : s.scDiscards ch = false) (hroom : (s.sc ch).rx.length < 256) : scChar s ch edges cts =
      s.updSc ch fun c => { ({ c with rx := c.rx ++ [b], overrunArmed := true } : Serial).rts with waking := false } :=
  h.scChar_of_decoded cts ((decodeChar_byte edges hc h.notMidi).trans (scByte_queued h.awake htakes hroom))
    (rts_loopback _)

theorem overruns (hc : sampleChar (s.sc ch).frame (lineLevel edges) = .char b false false)
    (htakes : s.scDiscards ch = false) (hfull : 256 ≤ (s.sc ch).rx.length) (hold : (s.sc ch).overrunArmed = false) :
    scChar s ch edges cts = s.updSc ch fun c => { c with overruns := c.overruns + 1, waking := false } := by
  rw [h.scChar_of_decoded cts
    ((decodeChar_byte edges hc h.notMidi).trans (scByte_overrun h.awake htakes hfull hold)) rfl]
  exact updSc_congr (by rw [hold])

theorem parityError (hc : sampleChar (s.sc ch).frame (lineLevel edges) = .char b false true) :
    EventFrame (s.updSc ch fun c => { c.erred false true s.core.ticks with waking := false }) (scChar s ch edges cts) := by
  have hend : (s.updSc ch fun c => (c.erred false true s.core.ticks).charEnded) =
      s.updSc ch fun c => { c.erred false true s.core.ticks with waking := false } := updSc_congr (charEnded_line h.loopback)
  rw [← hend, ← updSc_updSc, h.scChar_eq, decodeChar_parity edges hc]
  exact (scError_eventFrame s ch false true).updSc ch Serial.charEnded

end PlainChannel

/-! ## Breaks (R250, R251) -/

section
variable {s : State} {ch : Nat}

theorem lineRise_idle (low : Nat) (h : (s.sc ch).brk = .none) : lineRise s ch low = s := by rw [lineRise, h]

/-- The rise of the line ends a break that is counted, with its whole bit times. -/
theorem lineRise_counting (low : Nat) (h : (s.sc ch).brk = .counting) : lineRise s ch low =
    raiseTo (s.updSc ch fun c => { c with brk := .none }) (s.sc ch).owner .scLine (arg2 ch 1)
      (leBytes 4 (min 0xFFFFFF (low * 16 / max 1 (s.sc ch).brkL16))) := by
  rw [lineRise, h]
  exact scLine_updSc 1 _ rfl

theorem lineRise_saturated (low : Nat) (h : (s.sc ch).brk = .saturated) : lineRise s ch low =
    raiseTo (s.updSc ch fun c => { c with brk := .none }) (s.sc ch).owner .scLine (arg2 ch 6) [] := by
  rw [lineRise, h]
  exact scLine_updSc 6 _ rfl

theorem breakSaturate_counting (h : (s.sc ch).brk = .counting) : breakSaturate s ch =
    raiseTo (s.updSc ch fun c => { c with brk := .saturated }) (s.sc ch).owner .scLine (arg2 ch 2) [] :=
  (if_pos h).trans (scLine_updSc 2 _ rfl)

theorem breakSaturate_idle (h : (s.sc ch).brk ≠ .counting) : breakSaturate s ch = s := if_neg h

/-! ## Delivery (R243) -/

theorem rxDeliver_delivers {ms : Nat} (hruns : s.fwRuns = true) (hopen : (s.ten (s.sc ch).owner).st = .opened)
    (hev : (s.ten (s.sc ch).owner).events.getLsbD 16 = true) (hrx : (s.sc ch).rx ≠ [])
    (hdue : 64 ≤ (s.sc ch).rx.length ∨ 1 ≤ ms)
    (hroom : evSlots ((s.sc ch).rx.take 64) ≤ (s.ten (s.sc ch).owner).cqFree) : rxDeliver s ch ms =
      raiseTo (s.updSc ch fun c => ({ c with rx := c.rx.drop 64, overrunArmed := true } : Serial).rts) (s.sc ch).owner
        .scRx (arg2 ch ((s.sc ch).rx.take 64).length) ((s.sc ch).rx.take 64) := by
  have hsome : (s.sc ch).rx.take 64 ≠ [] := by simpa using hrx
  exact if_pos ⟨hruns, hopen, hev, hsome, hdue, hroom⟩

theorem rxDeliver_waits {ms : Nat} (hfew : (s.sc ch).rx.length < 64) (hnew : ms = 0) : rxDeliver s ch ms = s :=
  if_neg fun ⟨_, _, _, _, hdue, _⟩ => by omega

/-! ## The transmitter (R244, R252, R254 to R257) -/

theorem txReady_notCard (h : s.txReady ch = true) : (s.sc ch).mode ≠ .card := by
  intro hcard
  simp [State.txReady, hcard] at h

theorem exec_scTxCharacter {ch : Fin 4} (cts : Bool) (h : (s.sc ch.val).mode ≠ .card) :
    exec (.scTxCharacter ch cts) s = .next (txChar s ch.val cts) := congrArg Host.Outcome.next (if_neg h)

theorem drive_eq (c : Serial) (w : TxWave) :
    c.drive w = { c with txWave := if c.loopback then c.txWave else some w } := by
  unfold Serial.drive
  split <;> rfl

/-- The transmitter takes the byte at the head of its queue, and a line that does not loop drives its character. -/
theorem txChar_sends {cts : Bool} {b : Byte} {r : List TxItem} (hready : s.txReady ch = true)
    (hecho : (s.sc ch).echo = false) (hheld : (s.sc ch).held cts = false) (htx : (s.sc ch).tx = .byte b :: r) :
    txChar s ch cts = s.updSc ch fun c => { c with
      tx := r, txLast := some b, txWave := if c.loopback then c.txWave else some (c.charWave b) } := by
  refine (if_pos ⟨hready, hecho, hheld⟩).trans ?_
  rw [htx]
  exact updSc_congr (drive_eq ..)

theorem txBreakStart_sends {cts : Bool} {n : Nat} {r : Option (Tenant × Tag)} {l : List TxItem}
    (hready : s.txReady ch = true) (hheld : (s.sc ch).held cts = false) (htx : (s.sc ch).tx = .brk n r :: l) :
    txBreakStart s ch cts = s.updSc ch fun c => { c with
      tx := l, txBreak := some (n, r), txWave := if c.loopback then c.txWave else some (c.breakWave n) } := by
  refine (if_pos ⟨hready, hheld⟩).trans ?_
  rw [htx]
  exact updSc_congr (drive_eq ..)

theorem txChar_held {cts : Bool} (h : (s.sc ch).held cts = true) : txChar s ch cts = s :=
  if_neg fun ⟨_, _, hfree⟩ => Bool.noConfusion (h.symm.trans hfree)

theorem txBreakStart_held {cts : Bool} (h : (s.sc ch).held cts = true) : txBreakStart s ch cts = s :=
  if_neg fun ⟨_, hfree⟩ => Bool.noConfusion (h.symm.trans hfree)

theorem txChar_echoing (cts : Bool) (h : (s.sc ch).echo = true) : txChar s ch cts = s :=
  if_neg fun ⟨_, hnone, _⟩ => Bool.noConfusion (h.symm.trans hnone)

theorem txBreakEnd_sending {n : Nat} {r : Option (Tenant × Tag)} (h : (s.sc ch).txBreak = some (n, r)) :
    txBreakEnd s ch = finishRef (s.updSc ch fun c => { c with txBreak := none }) r .ok (.note 0) := by
  rw [txBreakEnd, h]

theorem txBreakEnd_idle (h : (s.sc ch).txBreak = none) : txBreakEnd s ch = s := by rw [txBreakEnd, h]

/-! ## Wake (R258, R260) -/

theorem exec_scWakeEdge_wakes {ch : Fin 4} (hwakes : s.scWakes ch.val = true) (harmed : (s.sc ch.val).disarmed = false)
    (hasleep : s.asleep = true) : exec (.scWakeEdge ch) s =
      .next (noteWake (s.updSc ch.val fun c => { c with waking := true }) (.sc ch)) :=
  congrArg Host.Outcome.next (if_pos (by simp [hwakes, harmed, hasleep]))

theorem exec_scWakeEdge_idle {ch : Fin 4} (h : s.scWakes ch.val = false ∨ (s.sc ch.val).disarmed = true) :
    exec (.scWakeEdge ch) s = .next s :=
  congrArg Host.Outcome.next (if_neg (by rcases h with h | h <;> simp [h]))

end

/-! ## The rows together -/

/-- Settles O46: a character is the one its sender's bits make on the line, and each row by the law of its case. Where a
CTS_N that is ignored counts is the model's reading (log entry 35), as is a row out of its moment that changes nothing
(log entry 2). -/
theorem serialLinesFollowTheFrames : Obligations.SerialLinesFollowTheFrames := by
  intro s ch edges low ms cts c put tell sampled dead plain
  have hplain : plain → PlainChannel s ch.val := fun ⟨hmode, hauto, hloop, hecho, hbrk, hawake⟩ =>
    ⟨hmode, hauto, hloop, hecho, hbrk, hawake⟩
  refine ⟨fun b => sampleChar_sentEdges (by decide) b.isLt, fun h => ?dead, fun h hc => ?glitch, fun h hc hw => ?breaks,
    fun h b hc ht => ⟨fun hroom => ?queued, fun hfull hold => ?overruns⟩, fun h b p hc hp => ?parity,
    fun h => ?noRise, fun h => ?rise, fun h => ?riseLate, fun h => ?saturate, fun h => ?noSaturate,
    fun hfw ho hev hrx hdue hroom => ?deliver, fun hfew hnew => ?noDeliver,
    fun hready hecho hheld => ⟨fun b r htx => ?send, fun n r l htx => ?sendBreak⟩,
    fun hcard _ hheld => ⟨?heldChar, ?heldBreak⟩,
    fun hmode hecho => ⟨?echoing, fun hloop hbrk hawake hpads => ?echo⟩,
    fun n r h => ?breakEnd, fun h => ?noBreakEnd, fun hw ha hs => ?wake, fun h => ?noWake, rfl⟩
  case dead => exact congrArg Host.Outcome.next (scChar_idle cts h)
  case glitch => exact congrArg Host.Outcome.next ((hplain h).glitch cts hc)
  case breaks => exact congrArg Host.Outcome.next ((hplain h).breaks cts hc hw)
  case queued => exact congrArg Host.Outcome.next ((hplain h).queued cts hc ht hroom)
  case overruns => exact congrArg Host.Outcome.next ((hplain h).overruns cts hc ht hfull hold)
  case parity =>
    subst hp
    exact ⟨_, rfl, (hplain h).parityError cts hc⟩
  case noRise => exact congrArg Host.Outcome.next (lineRise_idle low h)
  case rise => exact congrArg Host.Outcome.next (lineRise_counting low h)
  case riseLate => exact congrArg Host.Outcome.next (lineRise_saturated low h)
  case saturate => exact congrArg Host.Outcome.next (breakSaturate_counting h)
  case noSaturate => exact congrArg Host.Outcome.next (breakSaturate_idle h)
  case deliver => exact congrArg Host.Outcome.next (rxDeliver_delivers hfw ho hev hrx hdue hroom)
  case noDeliver => exact congrArg Host.Outcome.next (rxDeliver_waits hfew hnew)
  case send =>
    exact (exec_scTxCharacter cts (txReady_notCard hready)).trans
      (congrArg Host.Outcome.next (txChar_sends hready hecho hheld htx))
  case sendBreak => exact congrArg Host.Outcome.next (txBreakStart_sends hready hheld htx)
  case heldChar => exact (exec_scTxCharacter cts hcard).trans (congrArg Host.Outcome.next (txChar_held hheld))
  case heldBreak => exact congrArg Host.Outcome.next (txBreakStart_held hheld)
  case echoing =>
    have hcard : c.mode ≠ .card := by simp [hmode]
    exact (exec_scTxCharacter cts hcard).trans (congrArg Host.Outcome.next (txChar_echoing cts hecho))
  case echo =>
    obtain ⟨hframe, hwave, hignored⟩ := scChar_echoKept edges cts hmode hloop hbrk hawake hecho hpads
    rw [updSc_sc_same] at hwave hignored
    exact ⟨_, rfl, hwave, hignored, hframe⟩
  case breakEnd => exact congrArg Host.Outcome.next (txBreakEnd_sending h)
  case noBreakEnd => exact congrArg Host.Outcome.next (txBreakEnd_idle h)
  case wake => exact exec_scWakeEdge_wakes hw ha hs
  case noWake => exact exec_scWakeEdge_idle h

end Sys2Proof.Machine
end

section
/-! SUPPORT. The queue of the block, and the values that reset leaves. -/

namespace Sys2Proof.Machine

/-- Settles O1: the two cases of a step. The queue, and the block that idles without one, are the model's (log entry 1). -/
theorem stepRunsTheFrontCommand : Obligations.StepRunsTheFrontCommand := ⟨step_cons, step_nil⟩

/-- At reset every tenant is at its defaults (Table 03-9). -/
theorem reset_ten (t : Tenant) : State.reset.ten t = {} := rfl

/-- At reset the link's counters are 0 (Table 02-9). -/
theorem reset_linkCounters : ∀ n, n < 6 → State.reset.readReg (0x20 + 4 * n) = 0 := by decide

/-- Settles O3: the registers, the tenants and each block of the state are evaluated. That ENUM_IN is 0 is the model's choice
(log entry 8), as are the empty queue of commands (log entry 1) and the step of the boot that reset leaves (log entry
47). -/
theorem resetLeavesTheStatedValues : Obligations.ResetLeavesTheStatedValues := by
  unfold Obligations.ResetLeavesTheStatedValues
  intro s
  refine ⟨rfl, rfl, rfl, rfl, rfl, reset_linkCounters, fun t => ?tenant, rfl, rfl, rfl, rfl,
    fun n => ⟨rfl, rfl, rfl, rfl⟩, rfl, rfl, rfl, fun a => rfl, rfl⟩
  case tenant =>
    rw [reset_ten]
    exact ⟨rfl, rfl, rfl, rfl, rfl, fun a => rfl, rfl⟩

end Sys2Proof.Machine
end

section
/-! SUPPORT. What an event may touch while the unit is awake, and what the wake from HIBERNATE leaves alone
(Table 13-9). -/

namespace Sys2Proof.Machine

/-! ## Events outside NAP: no wake is noted -/

/-- Tenants and what the firmware keeps alone change. -/
def AwakeFrame (s u : State) : Prop := u = { s with tenants := u.tenants, fw := u.fw }

theorem AwakeFrame.refl (s : State) : AwakeFrame s s := rfl

theorem AwakeFrame.trans {a b c : State} (h : AwakeFrame a b) (k : AwakeFrame b c) : AwakeFrame a c := by
  unfold AwakeFrame at *
  rw [k, h]

theorem AwakeFrame.power {s u : State} (h : AwakeFrame s u) : u.power = s.power := by rw [h]

section
variable {s : State} (hawake : s.power.st ≠ .nap)
include hawake

theorem holdEv_awake (k : Held) : AwakeFrame s (holdEv s k) := by
  unfold holdEv
  dsimp only
  rw [if_neg fun h => hawake h.1]
  rfl

theorem stewardAt_awake (e : Event) (arg : BitVec 16) (cont : List Byte) (tide : Smp) :
    AwakeFrame s (stewardAt s e arg cont tide) := by
  unfold stewardAt
  split
  · exact holdEv_awake hawake _
  · split <;> rfl

theorem steward_awake (e : Event) (arg : BitVec 16) (cont : List Byte) : AwakeFrame s (steward s e arg cont) :=
  stewardAt_awake hawake ..

/-- An ECC error that is counted. -/
theorem eccEvent_awake (uncorrected : Bool) (bank : Nat) :
    AwakeFrame (s.eccCounted uncorrected) (eccEvent s uncorrected bank) := by
  by_cases hc : s.fw.eccRaised.contains ((if uncorrected then 512 else 256) + bank) = true
  · rw [eccEvent_eq, if_pos hc]
    rfl
  · rw [eccEvent_eq, if_neg hc]
    exact AwakeFrame.trans (b := { s.eccCounted uncorrected with fw := _ }) rfl
      (steward_awake (s := { s.eccCounted uncorrected with fw := _ }) hawake ..)

theorem raiseToAt_awake (t : Tenant) (e : Event) (arg : BitVec 16) (cont : List Byte) (tide : Smp) :
    AwakeFrame s (raiseToAt s t e arg cont tide) := by
  unfold raiseToAt
  split
  · exact holdEv_awake hawake _
  · split <;> rfl

theorem raiseKept_awake (k : Held) : AwakeFrame s (raiseKept s k) := by
  unfold raiseKept
  split
  · exact raiseToAt_awake hawake ..
  · exact stewardAt_awake hawake ..

theorem raiseHeld_awake : AwakeFrame s (raiseHeld s) := by
  rw [raiseHeld_eq]
  exact foldS_keeps (AwakeFrame s) _ _ (fun u k hu => hu.trans (raiseKept_awake (by rwa [hu.power]) k)) rfl

end

/-! ## Wake buffers reach their queues (R259) -/

/-- Serial channels differ too. -/
def DrainFrame (s u : State) : Prop := u = { s with tenants := u.tenants, fw := u.fw, serials := u.serials }

theorem DrainFrame.trans {a b c : State} (h : DrainFrame a b) (k : DrainFrame b c) : DrainFrame a c := by
  unfold DrainFrame at *
  rw [k, h]

theorem DrainFrame.power {s u : State} (h : DrainFrame s u) : u.power = s.power := by rw [h]

theorem AwakeFrame.drain {s u : State} (h : AwakeFrame s u) : DrainFrame s u := by
  unfold AwakeFrame at h
  rw [h]
  rfl

theorem DrainFrame.fold {α : Type} {s : State} (hawake : s.power.st ≠ .nap) (l : List α) (f : State → α → State)
    (h : ∀ u a, u.power.st ≠ .nap → DrainFrame u (f u a)) : DrainFrame s (foldS l s f) :=
  foldS_keeps (DrainFrame s) l f (fun u a hu => hu.trans (h u a (by rwa [hu.power]))) rfl

theorem rxPut_drain {s : State} (hawake : s.power.st ≠ .nap) (ch : Nat) (b : Byte) : DrainFrame s (rxPut s ch b) := by
  have htold : ∀ f, DrainFrame s (scLine (s.updSc ch f) ch 4 []) := fun f =>
    DrainFrame.trans (b := s.updSc ch f) rfl (raiseToAt_awake (s := s.updSc ch f) hawake ..).drain
  unfold rxPut
  dsimp only
  split
  · rfl
  · split
    · split
      · exact htold _
      · rfl
    · rfl

theorem drainWake_drain {s : State} (hawake : s.power.st ≠ .nap) (ch : Nat) : DrainFrame s (drainWake s ch) :=
  DrainFrame.trans (b := s.updSc ch fun c => { c with wakeBuf := [] }) rfl
    (DrainFrame.fold (s := s.updSc ch fun c => { c with wakeBuf := [] }) hawake _ _ fun _ b hu => rxPut_drain hu ch b)

theorem rxPut_standing (s : State) (ch : Nat) (b : Byte) : Standing s (rxPut s ch b) := by
  have hsc : ∀ f, Standing s (s.updSc ch f) := fun f => Standing.of_eq rfl rfl
  unfold rxPut
  dsimp only
  split
  · exact hsc _
  · split
    · split
      · exact (hsc _).trans (raiseToAt_standing ..)
      · exact hsc _
    · exact hsc _

theorem drainWake_standing (s : State) (ch : Nat) : Standing s (drainWake s ch) :=
  Standing.trans (b := s.updSc ch fun c => { c with wakeBuf := [] }) (Standing.of_eq rfl rfl)
    (Standing.fold _ _ (fun u b => rxPut_standing u ch b) _)

/-! ## The wake from HIBERNATE (Table 13-9 step 8) -/

/-- The ranks refill, the firmware's banks are powered, the ports start. -/
def State.restarted (s : State) : State := foldS (List.range 6) (setFwBanks (refillRanks s)) portStart

/-- FW_UP is 1 after a wake. -/
def State.wokenUp (s : State) : State :=
  { s.restarted with fw := { s.restarted.fw with up := true }, link := { s.restarted.link with fwReady := true } }

theorem setFwBanks_frame (s : State) : setFwBanks s = { s with mem := (setFwBanks s).mem } := rfl

theorem restarted_frame (s : State) : ∃ c m p, s.restarted = { s with cis := c, mem := m, ports := p } := by
  obtain ⟨c, hc⟩ := refillRanks_frame s
  refine ⟨c, (setFwBanks { s with cis := c }).mem, s.restarted.ports, ?_⟩
  have hports : ∀ u : State, foldS (List.range 6) u portStart =
      { u with ports := (foldS (List.range 6) u portStart).ports } := fun u =>
    foldS_keeps (fun v => v = { u with ports := v.ports }) _ _ (fun v n hv => by rw [hv]; rfl) rfl
  unfold State.restarted
  rw [hc, hports, setFwBanks_frame]

/-- Field die, tenants and what the firmware keeps alone change. -/
theorem holdEvents_awake {s : State} (hawake : s.power.st ≠ .nap) :
    ∃ f, AwakeFrame { s with field := f } (holdEvents s) := by
  have hfaults : AwakeFrame s.holdTold s.holdFaults :=
    foldS_keeps (AwakeFrame s.holdTold) _ _
      (fun u n hu => hu.trans (steward_awake (by rw [hu.power]; exact hawake) ..)) rfl
  rw [holdEvents_eq]
  split
  · have hknown : AwakeFrame { s with field := s.holdFaults.holdLossKnown.field } s.holdFaults.holdLossKnown := by
      unfold State.holdLossKnown
      rw [hfaults]
      rfl
    exact ⟨_, hknown.trans (steward_awake (by rw [hknown.power]; exact hawake) ..)⟩
  · exact ⟨s.holdTold.field, hfaults⟩

/-- What a wake from HIBERNATE leaves: all but the memories' power, ports, inputs, field die, channels, tenants and what the
firmware keeps. -/
structure WakeKept (s u : State) : Prop where
  power : u.power = s.power
  core : u.core = s.core
  voices : u.voices = s.voices
  nvm : u.nvm = s.nvm
  vault : u.vault = s.vault
  cal : u.cal = s.cal

theorem WakeKept.trans {a b c : State} (h : WakeKept a b) (k : WakeKept b c) : WakeKept a c :=
  ⟨k.power.trans h.power, k.core.trans h.core, k.voices.trans h.voices, k.nvm.trans h.nvm, k.vault.trans h.vault,
    k.cal.trans h.cal⟩

theorem DrainFrame.kept {s u : State} (h : DrainFrame s u) : WakeKept s u := by
  unfold DrainFrame at h
  rw [h]
  exact ⟨rfl, rfl, rfl, rfl, rfl, rfl⟩

theorem wokenUp_kept (s : State) : WakeKept s s.wokenUp := by
  obtain ⟨c, m, p, hrest⟩ := restarted_frame s
  have hkept : WakeKept s s.restarted := by rw [hrest]; exact ⟨rfl, rfl, rfl, rfl, rfl, rfl⟩
  exact hkept.trans ⟨rfl, rfl, rfl, rfl, rfl, rfl⟩

theorem holdEvents_kept {s : State} (hawake : s.power.st ≠ .nap) : WakeKept s (holdEvents s) := by
  obtain ⟨f, hhold⟩ := holdEvents_awake hawake
  exact WakeKept.trans (b := { s with field := f }) ⟨rfl, rfl, rfl, rfl, rfl, rfl⟩ hhold.drain.kept

theorem wakeDone_kept {s : State} (hawake : s.power.st ≠ .nap) : WakeKept s (wakeDone s) := by
  have hup := wokenUp_kept s
  have hnap : s.wokenUp.power.st ≠ .nap := by rwa [hup.power]
  have htold := hup.trans (steward_awake hnap .powerState (arg2 2 3) []).drain.kept
  have hhold := htold.trans (holdEvents_kept (by rwa [htold.power]))
  exact hhold.trans (DrainFrame.fold (by rwa [hhold.power]) _ _ fun _ ch hu => drainWake_drain hu ch).kept

/-- After a wake from HIBERNATE FW_UP is 1, and every tenant is what it was. -/
theorem wakeDone_standing (s : State) : (wakeDone s).fw.up = true ∧ ∀ w, ((wakeDone s).ten w).st = (s.ten w).st := by
  obtain ⟨c, m, p, hrest⟩ := restarted_frame s
  have htold : Standing s.wokenUp (wakeDone s) :=
    ((steward_standing ..).trans (holdEvents_standing _)).trans (Standing.fold _ _ drainWake_standing _)
  refine ⟨htold.up, fun w => (htold.st w).trans ?_⟩
  unfold State.wokenUp
  rw [hrest]
  rfl

end Sys2Proof.Machine
end

section
/-! SUPPORT. The counts of the service life through every reset and every wake (R354). -/

namespace Sys2Proof.Machine

/-- Hours and equivalent hours, both in seconds. -/
def State.lifeCounts (s : State) : Nat × Rat := (s.cal.lifeSec, s.cal.equivSec)

theorem foldS_lifeCounts {α : Type} (l : List α) (f : State → α → State)
    (h : ∀ u a, (f u a).lifeCounts = u.lifeCounts) (s : State) : (foldS l s f).lifeCounts = s.lifeCounts :=
  foldS_keeps (fun u => u.lifeCounts = s.lifeCounts) l f (fun u a hu => (h u a).trans hu) rfl

theorem EventFrame.lifeCounts {s u : State} (h : EventFrame s u) : u.lifeCounts = s.lifeCounts := by
  unfold EventFrame at h
  rw [h]
  rfl

theorem eccEvent_lifeCounts (s : State) (uncorrected : Bool) (bank : Nat) :
    (eccEvent s uncorrected bank).lifeCounts = s.lifeCounts := by
  rw [State.lifeCounts, eccEvent_cal, State.lifeCounts]

/-! ## The boot steps (Table 13-3) -/

theorem recordsRead_lifeCounts (s : State) (rd : BootRead) : (s.recordsRead rd).lifeCounts = s.lifeCounts := by
  have hread : (readErrors s rd).lifeCounts = s.lifeCounts :=
    foldS_lifeCounts _ _ (fun u e => eccEvent_lifeCounts { u with nvm := u.nvm.spoil e } true 64) s
  unfold State.recordsRead tamperRecord
  split
  · exact hread
  · exact hread

theorem landSealed_lifeCounts (s : State) (l : SealedLoad) (p : Option (List Byte)) :
    (landSealed s l p).lifeCounts = s.lifeCounts := by
  unfold landSealed
  dsimp only
  split <;> split <;> rfl

theorem finishAdvance_lifeCounts (s : State) : (finishAdvance s).lifeCounts = s.lifeCounts := by
  unfold finishAdvance
  split
  next l k _ =>
    obtain ⟨hframe, -⟩ := advanceLife_rest s l k
    unfold StoresOnly at hframe
    rw [hframe]
    rfl
  next => rfl

theorem calSelect_lifeCounts (s : State) : (calSelect s).lifeCounts = s.lifeCounts := by
  have htrims : ∀ t, State.lifeCounts { s with cal := { s.cal with trims := t } } = s.lifeCounts := fun _ => rfl
  unfold calSelect
  dsimp only
  split
  · exact (eccEvent_lifeCounts ..).trans (htrims _)
  · split
    · exact (steward_eventFrame ..).lifeCounts.trans (htrims _)
    · split
      · exact (steward_eventFrame ..).lifeCounts.trans (htrims _)
      · exact htrims _

theorem imageRuns_lifeCounts (s : State) (warm : Bool) (n : Nvm) (b : Bool) :
    (s.imageRuns warm n b).lifeCounts = s.lifeCounts := by
  unfold State.imageRuns
  extract_lets fw u v w fw'
  have hv : v.lifeCounts = s.lifeCounts := (calSelect_lifeCounts _).trans (finishAdvance_lifeCounts u)
  have hw : w.lifeCounts = v.lifeCounts := by
    clear_value v
    change State.lifeCounts (ite _ _ _) = _
    split <;> rfl
  exact hw.trans hv

theorem bootRun_lifeCounts (s : State) (warm : Bool) (rd : BootRead) : (bootRun s warm rd).lifeCounts = s.lifeCounts := by
  cases hnvm : s.supply.nvm with
  | false => rw [bootRun_waits hnvm]; rfl
  | true =>
    rw [bootRun_goes hnvm]
    split
    · exact recordsRead_lifeCounts s rd
    · exact (imageRuns_lifeCounts ..).trans (recordsRead_lifeCounts s rd)

/-! ## Resets and wakes (Table 13-5) -/

theorem warmReset_lifeCounts (s : State) (rd : BootRead) : (warmReset s rd).lifeCounts = s.lifeCounts :=
  (bootRun_lifeCounts ..).trans (foldS_lifeCounts s.mem.loads _ (fun u l => landSealed_lifeCounts u l none) s)

theorem onLow_lifeCounts (s : State) (ns : Nat) {f : State → State} (h : ∀ u, (f u).lifeCounts = u.lifeCounts) :
    (s.onLow ns f).lifeCounts = s.lifeCounts := by
  unfold State.onLow
  split
  · exact h s
  · split
    · rfl
    · split
      · exact h s.drew
      · rfl

theorem tamper_lifeCounts (s : State) (src : TamperSrc) : (tamper s src).lifeCounts = s.lifeCounts := by
  obtain ⟨-, -, -, -, -, -, -, -, hlife, hequiv, -⟩ := tamper_resetTo s src
  exact congrArg₂ Prod.mk hlife hequiv

theorem tamperSeen_lifeCounts (s : State) (seen : TamperSeen) : (tamperSeen s seen).lifeCounts = s.lifeCounts := by
  unfold tamperSeen
  split
  · exact tamper_lifeCounts ..
  · split
    · split
      · exact tamper_lifeCounts s.drew .pin
      · rfl
    · rfl
  · rfl

theorem hibernateWake_lifeCounts (s : State) (src : WakeSrc) (saveBad digestBad : Bool) (rd : BootRead) :
    (hibernateWake s src saveBad digestBad rd).lifeCounts = s.lifeCounts := by
  have hwarm : (warmReset (wakeState s src) rd).lifeCounts = s.lifeCounts := warmReset_lifeCounts (wakeState s src) rd
  have hwoken : WakeKept (wakeState s src) (wakeDone (wakeState s src)) := wakeDone_kept (s := wakeState s src) PState.noConfusion
  unfold hibernateWake
  dsimp only
  split
  · split
    · exact (eccEvent_lifeCounts ..).trans hwarm
    · split
      · exact hwarm
      · rw [State.lifeCounts, hwoken.cal]
        rfl
  · rfl

/-- Every reset and every wake keeps both counts. -/
theorem exec_reset_lifeCounts {s : State} {ms : Nat} {up bad worse : Bool} {seen : TamperSeen} {w : WakeSrc} {rd : BootRead}
    {row : Instr} (hrow : row ∈ [.powerOnReset up, .resetNAssert ms, .vddEngOutOfRange, .vddEngTimeout,
      .tamperDetect seen, .warmReset rd, .hibernateWake w bad worse rd]) :
    ∃ u : State, exec row s = .next u ∧ u.lifeCounts = s.lifeCounts := by
  simp only [List.mem_cons, List.not_mem_nil, or_false] at hrow
  rcases hrow with rfl | rfl | rfl | rfl | rfl | rfl | rfl
  · exact ⟨_, rfl, rfl⟩
  · exact ⟨_, rfl, onLow_lifeCounts s ms fun _ => rfl⟩
  · exact ⟨_, rfl, by split <;> rfl⟩
  · exact ⟨_, rfl, by split <;> rfl⟩
  · exact ⟨_, rfl, tamperSeen_lifeCounts s seen⟩
  · refine ⟨_, rfl, ?_⟩
    split
    · exact warmReset_lifeCounts s rd
    · rfl
  · exact ⟨_, rfl, hibernateWake_lifeCounts s w bad worse rd⟩

/-! ## The hourly store (R337, R354) -/

/-- The counts are written as the newest record, if the store verifies. -/
def State.countsStored (s : State) (verify : Bool) : State :=
  { s with nvm := { s.nvm with countRec := s.nvm.countRec.put s.lifeCounts verify } }

theorem lifeStore_down {s : State} (hw : HwAnswer) (h : s.fwRuns = false) : lifeStore s hw = s := if_neg (by simp [h])

theorem lifeStore_runs {s : State} (hw : HwAnswer) (h : s.fwRuns = true) : lifeStore s hw =
    if hw.verify then s.countsStored hw.verify else eccEvent (s.countsStored hw.verify) true 64 := if_pos h

/-- Settles O60: the law of each count, and the counts through every reset. That ECC_ERROR may be raised again each second
is the model's reading (log entry 39), as are what a failed store leaves (log entry 23) and a store without firmware that
changes nothing (log entry 2). -/
theorem lifeCountsRunAndSurvive : Obligations.LifeCountsRunAndSurvive := by
  intro s hw row ms up bad worse seen w rd
  refine ⟨rfl, fun hdown => congrArg _ (lifeStore_down hw hdown), fun hruns hok => ?stored, fun hruns hbad => ?failed,
    fun hrow => ?kept⟩
  case stored => exact congrArg Host.Outcome.next ((lifeStore_runs hw hruns).trans (by rw [hok]; rfl))
  case failed =>
    have hecc : AwakeFrame ((s.countsStored false).eccCounted true) (eccEvent (s.countsStored false) true 64) :=
      eccEvent_awake (s := s.countsStored false) (fwRuns_not_nap hruns) true 64
    have hstore : lifeStore s hw = eccEvent (s.countsStored false) true 64 := by
      rw [lifeStore_runs hw hruns, hbad]
      rfl
    refine ⟨_, congrArg Host.Outcome.next (hstore.trans hecc), rfl, newest_put_false s.nvm.countRec s.lifeCounts, rfl, rfl⟩
  case kept =>
    obtain ⟨u, hexec, hcounts⟩ := exec_reset_lifeCounts hrow
    exact ⟨u, hexec, congrArg Prod.fst hcounts, congrArg Prod.snd hcounts⟩

end Sys2Proof.Machine
end

section
/-! SUPPORT. The power states of the memory banks: what a command asks for, what the end of a transition leaves, what the
commands that waited then do (R294 to R298, Table 12-3). -/

namespace Sys2Proof.Machine

/-! ## MEM_BANK_STATE -/

theorem bankBusy_iff (s : State) (k : BankKind) (n : Nat) :
    s.bankBusy k n = true ↔ s.bankWritten k n = true ∨ ∃ m ∈ s.mem.moves, m.kind = k ∧ m.bank = n := by
  simp [State.bankBusy]

/-- Nothing writes or changes the bank, and no command waits for it. -/
structure BankFree (s : State) (k : BankKind) (n : Nat) : Prop where
  idle : s.bankBusy k n = false
  unawaited : ∀ w ∈ s.mem.bankWaits, w.kind = k → w.bank ≠ n

section
variable {s : State} {k : BankKind} {n : Nat} {st : BankSt} (t : Tenant) (g : Tag)

theorem doBankState_firmware (hk : k = .firmware) (hheld : s.fwHeld n = true) :
    doBankState s t g k n st = badField s t g 1 := if_pos ⟨hk, hheld⟩

theorem doBankState_waits (hfree : ¬(k = .firmware ∧ s.fwHeld n = true)) (hbusy : s.bankBusy k n = true) :
    doBankState s t g k n st = startLong { s with mem := { s.mem with bankWaits := s.mem.bankWaits ++ [{
      t := t, g := g, kind := k, bank := n, target := st }] } } t g := by
  rw [doBankState, if_neg hfree, if_pos (by simp [hbusy])]

theorem doBankState_acts (hfree : ¬(k = .firmware ∧ s.fwHeld n = true)) (h : BankFree s k n) :
    doBankState s t g k n st = changeBank s t g k n st := by
  have hnone : (s.mem.bankWaits.any fun w => w.kind == k && w.bank == n) = false := by
    simpa [List.any_eq_false] using h.unawaited
  rw [doBankState, if_neg hfree, if_neg (by simp [h.idle, hnone])]

theorem changeBank_there (h : s.mem.bankSt k n = st) : changeBank s t g k n st = okShort s t g st.code := by
  rw [changeBank, if_pos h, h]

theorem changeBank_starts (h : s.mem.bankSt k n ≠ st) :
    changeBank s t g k n st = startLong { s with mem := { s.mem with moves := s.mem.moves ++ [{
      kind := k, bank := n, target := st, ref := some (t, g), prev := s.mem.bankSt k n }] } } t g := if_neg h

end

/-! ## The end of a transition -/

theorem memRead_memClear (m : Memory) (a n adr : Nat) :
    memRead (memClear m a n) adr = if adr < a ∨ a + n ≤ adr then memRead m adr else 0 := by
  rw [memRead, memClear, bankGet_filter m (fun k => decide (k < a) || decide (a + n ≤ k)) adr]
  by_cases h : adr < a ∨ a + n ≤ adr
  · simp [h, memRead]
  · rw [if_neg (by simpa using h), if_neg h]
    rfl

/-- An address outside the 2 MiB of a wave bank. -/
theorem outside_waveBank (n adr : Nat) :
    (adr < waveAddr n 0 ∨ waveAddr n 0 + 0x200000 ≤ adr) ↔ adr / 0x200000 ≠ n := by
  unfold waveAddr
  omega

/-- The contents of a wave bank that goes OFF, or leaves OFF, are lost. -/
theorem clearBank_read (s : State) (n adr : Nat) : memRead (clearBank s .wave n).mem.wave adr =
    if adr / 0x200000 = n then 0 else memRead s.mem.wave adr := by
  refine (memRead_memClear s.mem.wave (waveAddr n 0) 0x200000 adr).trans ?_
  simp only [outside_waveBank, ite_not]

/-- The state in which a wave bank has reached what its transition led to. -/
def State.bankMoved (s : State) (m : BankMove) : State :=
  let u : State := { s with mem := { s.mem with
    moves := s.mem.moves.filter fun d => !(d.kind == m.kind && d.bank == m.bank) } }
  let u := if m.target = .off ∨ m.prev = .off then clearBank u m.kind m.bank else u
  { u with mem := u.mem.setBank m.kind m.bank m.target }

theorem landMove_eq (s : State) (m : BankMove) :
    landMove s m = runBankWaits (finishRef (s.bankMoved m) m.ref .ok (.bytes (leBytes 2 m.prev.code))) := rfl

/-- What the end of a transition leaves of the memories, and that it changes nothing else. -/
structure BankLanded (s u : State) (m : BankMove) : Prop where
  own : u.mem.bankSt .wave m.bank = m.target
  others : ∀ j, j ≠ m.bank → u.mem.bankSt .wave j = s.mem.bankSt .wave j
  wave : ∀ adr, memRead u.mem.wave adr =
    if (m.target = .off ∨ m.prev = .off) ∧ adr / 0x200000 = m.bank then 0 else memRead s.mem.wave adr
  waits : u.mem.bankWaits = s.mem.bankWaits
  frame : u = { s with mem := u.mem }

theorem setBank_landed {s u : State} {m : BankMove} (hbanks : u.mem.waveBanks = s.mem.waveBanks)
    (hwave : ∀ adr, memRead u.mem.wave adr =
      if (m.target = .off ∨ m.prev = .off) ∧ adr / 0x200000 = m.bank then 0 else memRead s.mem.wave adr)
    (hwaits : u.mem.bankWaits = s.mem.bankWaits) (hframe : u = { s with mem := u.mem }) :
    BankLanded s { u with mem := u.mem.setBank .wave m.bank m.target } m where
  own := bankAt_bankPut_same ..
  others := fun j hj => (bankAt_bankPut_other u.mem.waveBanks m.target .on hj).trans (by rw [hbanks]; rfl)
  wave := hwave
  waits := hwaits
  frame := by rw [hframe]

theorem bankMoved_landed (s : State) {m : BankMove} (hk : m.kind = .wave) : BankLanded s (s.bankMoved m) m := by
  unfold State.bankMoved
  rw [hk]
  dsimp only
  by_cases hoff : m.target = .off ∨ m.prev = .off
  · rw [if_pos hoff]
    refine setBank_landed rfl (fun adr => ?_) rfl rfl
    rw [clearBank_read]
    simp only [hoff, true_and]
  · rw [if_neg hoff]
    exact setBank_landed rfl (fun adr => by rw [if_neg fun h => hoff h.1]) rfl rfl

theorem bankDone_found {s : State} {k : BankKind} {n : Nat} {m : BankMove}
    (hm : s.mem.moves.find? (fun m => m.kind == k && m.bank == n) = some m) : bankDone s k n = landMove s m := by
  rw [bankDone, hm]

theorem exec_bankTransitionDone {s : State} (hup : s.fwRuns = true) (k : BankKind) (n : Fin 16) :
    exec (.bankTransitionDone k n) s = .next (bankDone s k n.val) := congrArg Host.Outcome.next (if_pos hup)

/-! ## A command that waited (R298) -/

/-- No command waits for a bank. -/
def State.unawaited (s : State) : State := { s with mem := { s.mem with bankWaits := [] } }

/-- The one command that waited executes when its bank is neither written nor changed. -/
theorem runBankWaits_one {s : State} {w : BankWait} (hw : s.mem.bankWaits = [w])
    (hidle : s.bankBusy w.kind w.bank = false) :
    runBankWaits s = changeBank s.unawaited w.t w.g w.kind w.bank w.target := by
  have hidle' : s.unawaited.bankBusy w.kind w.bank = false := hidle
  have hfree : (s.unawaited.bankBusy w.kind w.bank ||
      s.unawaited.mem.bankWaits.any fun v => v.kind == w.kind && v.bank == w.bank) = false := by rw [hidle']; rfl
  rw [runBankWaits, hw, foldS_cons, foldS_nil]
  exact if_neg fun hbusy => Bool.noConfusion (hfree.symm.trans hbusy)

/-- Settles O33: the command by what its bank is doing, the end of a transition by what it leaves of the memories, a command
that waited by the bank it finds. That it waits for a bank that still changes, and executes when that has ended, is the
model's reading of R298 (log entry 22). -/
theorem bankTransitionsEndInTheirState : Obligations.BankTransitionsEndInTheirState := by
  intro s t g c k n st
  refine ⟨fun h => ?asked, fun m hm href hfind hloud hup hwaits hcalm => ?lands,
    fun hwaits hidle hst hfind hloud hrun hcalm => ?waited⟩
  case asked =>
    have hrow : exec (.memBankState t g) s = .next (doBankState s t g k n.val st) := h.row rfl
    have hfree : k ≠ .firmware ∨ s.fwHeld n.val = false → ¬(k = .firmware ∧ s.fwHeld n.val = true) := by
      rintro (hk | hheld) ⟨hfw, hfull⟩
      · exact hk hfw
      · rw [hheld] at hfull; cases hfull
    rw [hrow]
    refine ⟨fun hk hheld => ?_, fun hok hbusy => ?_, fun hok hwritten hmoves hwait => ⟨fun hst => ?_, fun hst => ?_⟩⟩
    · rw [doBankState_firmware t g hk hheld, badField, h.finish_self]
      rfl
    · rw [doBankState_waits t g (hfree hok) ((bankBusy_iff ..).mpr hbusy), startLong_eq]
    all_goals
      have hidle : s.bankBusy k n.val = false := by
        rw [← Bool.not_eq_true, bankBusy_iff]
        rintro (hw | ⟨m, hm, hk, hb⟩)
        · rw [hwritten] at hw; cases hw
        · exact hmoves m hm hk hb
      rw [doBankState_acts t g (hfree hok) ⟨hidle, hwait⟩]
    · rw [changeBank_there t g hst, okShort, h.finish_self]
    · rw [changeBank_starts t g hst, startLong_eq]
  case lands =>
    have hfound : m.kind = .wave ∧ m.bank = n.val := by simpa using List.find?_some hm
    obtain ⟨hk, hb⟩ := hfound
    have hland := bankMoved_landed s hk
    have hfin : finishRef (s.bankMoved m) m.ref .ok (.bytes (leBytes 2 m.prev.code)) =
        (s.bankMoved m).answer t c .ok (.bytes (leBytes 2 m.prev.code)) := by
      rw [href, hland.frame]
      exact finish_eq _ _ (fwRuns_up hup).2 hfind hloud hcalm
    have hlast : (s.bankMoved m).mem.bankWaits = [] := hland.waits.trans hwaits
    refine ⟨s.bankMoved m, ?_, hb ▸ hland.own, hb ▸ hland.others, hb ▸ hland.wave, hland.frame⟩
    rw [exec_bankTransitionDone hup, bankDone_found hm, landMove_eq, hfin]
    exact congrArg Host.Outcome.next (runBankWaits_none (s := (s.bankMoved m).answer t c .ok _) hlast)
  case waited =>
    rw [runBankWaits_one hwaits hidle, changeBank_there t g (s := s.unawaited) hst]
    exact finish_eq _ _ hrun hfind hloud hcalm

end Sys2Proof.Machine
end

section
/-! SUPPORT. Idleness and its timers, the entries to DOZE, NAP and HIBERNATE, and the wakes from them (R326 to R336,
Tables 13-6 to 13-10). -/

namespace Sys2Proof.Machine

/-- The power part of the state replaced. -/
def State.setPower (s : State) (p : Power) : State := { s with power := p }

/-! ## Idleness (R326, R327) -/

section
variable {s : State} {ms : Nat}

/-- The timer of HIBERNATE has run out, and nothing is scheduled. -/
def State.hibernateDue (s : State) (ms : Nat) : Prop :=
  s.power.hibS ≠ 0 ∧ s.power.hibS * 1000 * s.engineRate + s.power.schedTicks * 1000 ≤ ms * s.engineRate ∧
    s.anySchedule = false

theorem expired_hibernate (h : s.hibernateDue ms) : s.expired ms = some .hibernate := if_pos h

theorem expired_shallow (h : ¬ s.hibernateDue ms) : s.expired ms =
    if s.power.napMs ≠ 0 ∧ s.power.napMs ≤ ms then some .nap
    else if s.power.dozeMs ≠ 0 ∧ s.power.dozeMs ≤ ms then some .doze else none := if_neg h

/-- Idleness of the set length asks for the deepest state whose timer has run out. -/
theorem idleExpiry_asks {st : PState} (hidle : s.idle = true) (hentry : s.power.entry = none) (hup : s.fw.up = true)
    (hrun : s.fw.restarting = false) (hst : s.power.st = .run) (hexp : s.expired ms = some st) (hdeep : 0 < stateNum st) :
    idleExpiry s ms = s.setPower { s.power with timerEntry := some st } := by
  have hopen : (s.idle && s.power.entry.isNone && s.fw.up && !s.fw.restarting && s.power.st != .hibernate) = true := by
    rw [hidle, hentry, hup, hrun, hst]
    rfl
  rw [idleExpiry, if_pos hopen, hexp]
  exact if_pos (by rw [hst]; exact hdeep)

theorem idleExpiry_stays (h : s.idle = false ∨ ∀ p, s.expired ms = some p → stateNum p ≤ stateNum s.power.st) :
    idleExpiry s ms = s := by
  rcases h with hidle | hshallow
  · exact if_neg (by simp [hidle])
  · unfold idleExpiry
    split
    · split
      next p hp => exact if_neg (Nat.not_lt.mpr (hshallow p hp))
      next => rfl
    · rfl

theorem idlenessEnd_doze (hst : s.power.st = .doze) (hidle : s.idle = false) : idlenessEnd s =
    s.setPower { s.power with st := .run, wake := none, timerEntry := none, schedTicks := 0 } := by
  rw [idlenessEnd, if_pos (by simp [hidle]), if_pos hst, if_pos hst]
  rfl

theorem idlenessEnd_stays (hst : s.power.st ≠ .doze) (hidle : s.idle = true) : idlenessEnd s = s :=
  if_neg (by simp [hidle, hst])

/-! ## The entry at a block boundary (R327, R328) -/

theorem exec_powerEntryBegin (s : State) :
    exec .powerEntryBegin s = .next (if s.core.tide.isBoundary then powerBoundary s else s) := rfl

theorem exec_hibernateEntry_step {e : EntryStep} (h : s.power.entry = some e) :
    exec .hibernateEntry s = .next (entryStep s) := congrArg Host.Outcome.next (if_pos (by rw [h]; rfl))

/-- No entry is under way, and the firmware runs. -/
structure EntryFree (s : State) : Prop where
  entry : s.power.entry = none
  runs : s.fwRuns = true

/-- The entry that is due begins; where none is, work ends what a timer asked for. -/
def State.enterAt (s : State) (e : Option PState) : State :=
  match e with
  | some .doze => enterDoze s (s.power.request.isSome && s.entryDue == s.power.request)
  | some .nap => enterNap s
  | some .hibernate => startHibernate s (s.power.request == some .hibernate)
  | _ => if s.fwRuns && !s.idle then s.setPower { s.power with timerEntry := none } else s

theorem EntryFree.powerBoundary (h : EntryFree s) : Machine.powerBoundary s = s.enterAt s.entryNow := by
  rw [Machine.powerBoundary, if_neg (by simp [h.entry]), if_neg (fwRuns_not_nap h.runs)]
  rfl

theorem EntryFree.barred (h : EntryFree s) : (s.power.entry.isSome || !s.fwRuns) = false := by simp [h.entry, h.runs]

theorem EntryFree.entryNow_request (h : EntryFree s) (hreq : s.power.request = some .hibernate) :
    s.entryNow = some .hibernate := by
  rw [State.entryNow, h.barred]
  exact if_pos hreq

theorem EntryFree.entryNow_work (h : EntryFree s) (hreq : s.power.request = none) (hidle : s.idle = false) :
    s.entryNow = none := by
  rw [State.entryNow, h.barred, hreq, hidle]
  rfl

/-- Without a request the timer's own entry is due. -/
theorem EntryFree.entryNow_timer (h : EntryFree s) (hreq : s.power.request = none) (hidle : s.idle = true) {st : PState}
    (htimer : s.power.timerEntry = some st) (hst : st = .doze ∨ st = .nap) : s.entryNow = some st := by
  have hdue : s.entryDue = some st := by rw [State.entryDue, hreq, htimer]; rfl
  rw [State.entryNow, h.barred, hreq, hidle, hdue]
  rcases hst with rfl | rfl <;> rfl

theorem EntryFree.boundary_work (h : EntryFree s) (hreq : s.power.request = none) (hidle : s.idle = false) :
    Machine.powerBoundary s = s.setPower { s.power with timerEntry := none } := by
  rw [h.powerBoundary, h.entryNow_work hreq hidle]
  exact if_pos (by simp [h.runs, hidle])

theorem stopsAt_false (h : s.power.abandon = false) : s.stopsAt = false := by simp [State.stopsAt, h]

theorem EntryFree.boundary_doze (h : EntryFree s) (hreq : s.power.request = none) (hidle : s.idle = true)
    (habandon : s.power.abandon = false) (htimer : s.power.timerEntry = some .doze) :
    Machine.powerBoundary s = s.enters .doze := by
  rw [h.powerBoundary, h.entryNow_timer hreq hidle htimer (.inl rfl), State.enterAt, enterDoze, stopsAt_false habandon,
    hreq]
  rfl

theorem EntryFree.boundary_nap (h : EntryFree s) (hreq : s.power.request = none) (hidle : s.idle = true)
    (htimer : s.power.timerEntry = some .nap) : Machine.powerBoundary s = enterNap s := by
  rw [h.powerBoundary, h.entryNow_timer hreq hidle htimer (.inr rfl), State.enterAt]

theorem EntryFree.boundary_hibernate (h : EntryFree s) (hreq : s.power.request = some .hibernate) :
    Machine.powerBoundary s = startHibernate s true := by
  rw [h.powerBoundary, h.entryNow_request hreq, State.enterAt, hreq]
  rfl

/-- A request for HIBERNATE is the deepest entry there is. -/
theorem entryDue_hibernate (hreq : s.power.request = some .hibernate) : s.entryDue = some .hibernate := by
  rw [State.entryDue, hreq]
  rcases s.power.timerEntry with _ | (_ | _ | _ | _) <;> rfl

theorem exec_hibernateEntry_begins (hentry : s.power.entry = none) (hb : s.core.tide.isBoundary = true)
    (hreq : s.power.request = some .hibernate) : exec .hibernateEntry s = .next (Machine.powerBoundary s) := by
  refine congrArg Host.Outcome.next ((if_neg (by simp [hentry])).trans (if_pos ?_))
  rw [hb, entryDue_hibernate hreq]
  rfl

theorem exec_hibernateEntry_waits (hentry : s.power.entry = none) (hb : s.core.tide.isBoundary = false) :
    exec .hibernateEntry s = .next s :=
  congrArg Host.Outcome.next ((if_neg (by simp [hentry])).trans (if_neg (by simp [hb])))

end

/-! ## NAP (R329, R330) -/

theorem raiseEv_inflight (x : TenantSt) (e : Event) (arg : BitVec 16) (cont : List Byte) (tide : Smp) :
    (x.raiseEv e arg cont tide).inflight = x.inflight := by
  unfold TenantSt.raiseEv
  split <;> rfl

/-- An event of the steward leaves every tenant's commands in flight. -/
theorem steward_inflight (s : State) (e : Event) (arg : BitVec 16) (cont : List Byte) (w : Tenant) :
    ((steward s e arg cont).ten w).inflight = (s.ten w).inflight := by
  unfold steward stewardAt holdEv
  dsimp only
  split
  · split <;> rfl
  · split
    · rfl
    · by_cases hw : w = 0
      · rw [hw, updTen_ten_same, raiseEv_inflight]
      · rw [updTen_ten_other _ _ hw]

theorem anySchedule_congr {s u : State} (h : ∀ w, (u.ten w).inflight = (s.ten w).inflight) :
    u.anySchedule = s.anySchedule := by
  unfold State.anySchedule TenantSt.hasSchedule
  simp only [h]

/-- A due tick that is near as the entry to NAP begins is a wake that has come. -/
def State.nearNoted (s : State) : State := if s.scheduleNear then noteWake s .schedule else s

theorem nearNoted_eq (s : State) : s.nearNoted =
    s.setPower { s.power with
      wake := if s.scheduleNear then some (s.power.wake.getD .schedule) else s.power.wake } := by
  unfold State.nearNoted
  split <;> rfl

/-- Of what the firmware hears and notes, NAP changes the power part alone. -/
theorem enterNap_sleeps {s : State} (hawake : s.power.st ≠ .nap) (habandon : s.power.abandon = false) :
    (enterNap s).power = { s.power with
      st := .nap, request := none, timerEntry := none, napIrq := (enterNap s).power.napIrq, comparator := s.anySchedule
      wake := if s.scheduleNear then some (s.power.wake.getD .schedule) else s.power.wake } ∧
    enterNap s = { s with power := (enterNap s).power, tenants := (enterNap s).tenants, fw := (enterNap s).fw } := by
  have hnoted := nearNoted_eq s
  have hstop : s.nearNoted.stopsAt = false := stopsAt_false (by rw [hnoted]; exact habandon)
  have hnap : enterNap s = (powerEvent s.nearNoted 1 2).setPower { (powerEvent s.nearNoted 1 2).power with
      st := .nap, request := none, timerEntry := none, napIrq := some (powerEvent s.nearNoted 1 2).irqPin
      comparator := (powerEvent s.nearNoted 1 2).anySchedule } := if_neg (by rw [← State.nearNoted, hstop]; simp)
  have htold : AwakeFrame s.nearNoted (powerEvent s.nearNoted 1 2) :=
    steward_awake (by rw [hnoted]; exact hawake) ..
  have hsched : (powerEvent s.nearNoted 1 2).anySchedule = s.anySchedule :=
    (anySchedule_congr (steward_inflight s.nearNoted _ _ _)).trans (by rw [hnoted]; rfl)
  rw [hsched, htold.power, hnoted] at hnap
  rw [hnap]
  refine ⟨rfl, ?_⟩
  rw [hnoted] at htold
  unfold State.setPower at *
  rw [htold]

/-! ## HIBERNATE, step 1 (Table 13-10) -/

/-- The step of the entry, FW_UP and MRAM are as they were. -/
structure EntryKept (s u : State) : Prop where
  entry : u.power.entry = s.power.entry
  up : u.fw.up = s.fw.up
  nvm : u.nvm = s.nvm

theorem EntryKept.refl (s : State) : EntryKept s s := ⟨rfl, rfl, rfl⟩

theorem EntryKept.trans {a b c : State} (h : EntryKept a b) (k : EntryKept b c) : EntryKept a c :=
  ⟨k.entry.trans h.entry, k.up.trans h.up, k.nvm.trans h.nvm⟩

theorem EntryKept.fold {α : Type} (l : List α) (f : State → α → State) (h : ∀ s a, EntryKept s (f s a)) (s : State) :
    EntryKept s (foldS l s f) :=
  foldS_keeps (EntryKept s) l f (fun u a hu => hu.trans (h u a)) (EntryKept.refl s)

theorem TenantsOnly.entryKept {s u : State} (h : TenantsOnly s u) : EntryKept s u := by
  unfold TenantsOnly at h
  rw [h]
  exact ⟨rfl, rfl, rfl⟩

theorem raiseTo_entryKept (s : State) (t : Tenant) (e : Event) (arg : BitVec 16) (cont : List Byte) :
    EntryKept s (raiseTo s t e arg cont) := by
  unfold raiseTo raiseToAt holdEv
  dsimp only
  split
  · split <;> exact ⟨rfl, rfl, rfl⟩
  · split <;> exact ⟨rfl, rfl, rfl⟩

theorem deactivate_entryKept (s : State) : EntryKept s (deactivate s) := by
  unfold deactivate
  split
  · dsimp only
    refine EntryKept.trans ?_ (raiseTo_entryKept ..)
    split <;> exact ⟨rfl, rfl, rfl⟩
  · exact EntryKept.refl s

theorem cardFail_entryKept (s : State) (st : Status) : EntryKept s (cardFail s st) := by
  have hfree : EntryKept s { s with card := { s.card with ref := none } } := ⟨rfl, rfl, rfl⟩
  exact (hfree.trans (finishRef_tenantsOnly _ s.card.ref st (.note 0)).entryKept).trans (deactivate_entryKept _)

theorem dropTx_entryKept (s : State) (n : Nat) : EntryKept s (dropTx s n) :=
  EntryKept.trans (b := s.updSc n fun c => { c with tx := [] }) ⟨rfl, rfl, rfl⟩
    (EntryKept.fold _ _ (fun _ _ => (finish_tenantsOnly ..).entryKept) _)

/-- The entry to HIBERNATE begins with the quiesce, with FW_UP 0 and MRAM as it was. -/
theorem startHibernate_begins (s : State) (byCommand : Bool) : (startHibernate s byCommand).power.entry = some .quiesce ∧
    (startHibernate s byCommand).fw.up = false ∧ (startHibernate s byCommand).nvm = s.nvm := by
  have hleave : ∀ (u : State) (b : Bool), EntryKept u (if b then announceLeave u none else u) := fun u b => by
    cases b <;> exact ⟨rfl, rfl, rfl⟩
  have hcard : ∀ u : State, EntryKept u
      (if u.card.active then (if u.card.ref.isSome then cardFail u .cardAbsent else deactivate u) else u) := fun u => by
    split
    · split
      · exact cardFail_entryKept ..
      · exact deactivate_entryKept u
    · exact EntryKept.refl u
  unfold startHibernate
  extract_lets fw pw v1 v2 v3 v4 v5
  have h1 : v1.power.entry = some .quiesce ∧ v1.fw.up = false ∧ v1.nvm = s.nvm := ⟨rfl, rfl, rfl⟩
  have h5 : EntryKept v1 v5 :=
    (((hleave v1 (v1.onRing && !v1.ring.leaving)).trans
      (EntryKept.fold allTenants abortWaiting (fun u t => (abortWaiting_tenantsOnly u t).entryKept) v2)).trans
      (hcard v3)).trans (EntryKept.fold (List.range 4) dropTx dropTx_entryKept v4)
  clear_value v1 v2 v3 v4 v5
  obtain ⟨hentry, hup, hnvm⟩ := h1
  split <;> exact ⟨h5.entry.trans hentry, h5.up.trans hup, h5.nvm.trans hnvm⟩

/-! ## HIBERNATE, the steps that follow (Table 13-10) -/

theorem passPoint_goes {s : State} (h : s.power.abandon = false) (n : Nat) (next : State → State) :
    passPoint s n next = next s := if_neg (by simp [stopsAt_false h])

section
variable {s : State}

theorem entryStep_gated (hentry : s.power.entry = some .gated) : entryStep s = passPoint s 2 fun u =>
    u.setPower { u.power with save := u.saveList, entry := some .saved } := by
  rw [entryStep, hentry]
  rfl

theorem entryStep_saved (hentry : s.power.entry = some .saved) : entryStep s = passPoint s 3 latchPads := by
  rw [entryStep, hentry]

theorem entryStep_latched (hentry : s.power.entry = some .latched) (habandon : s.power.abandon = false) :
    entryStep s = powerOff s := by
  rw [entryStep, hentry]
  exact if_neg (by simp [stopsAt_false habandon])

/-- The field die's hold changes the field die alone. -/
theorem holdField_frame (s : State) : holdField s = s.setField (holdField s).field := by
  have hout : ∀ u : State, OutputsOnly s u → ∀ f, u.setField f = s.setField f := fun u hu f => by rw [hu.frame]; rfl
  unfold holdField
  split
  · refine hout _ ?_ _
    exact ((OutputsOnly.fold _ _ (fun _ _ => updLo_outputsOnly ..) s).trans
      (OutputsOnly.fold _ _ (fun _ _ => updCv_outputsOnly ..) _)).trans
      (OutputsOnly.fold _ _ (fun _ _ => updGt_outputsOnly ..) _)
  · rfl

/-- Step 4: the engine die's pads are latched, and the field die holds. -/
theorem latchPads_latches (s : State) : (latchPads s).power.entry = some .latched ∧
    (latchPads s).power.pads.isSome = true ∧
    latchPads s = { s with power := (latchPads s).power, field := (latchPads s).field } := by
  unfold latchPads
  extract_lets h
  rw [holdField_frame]
  exact ⟨rfl, rfl, rfl⟩

/-- FW_UP is 1 again, and no entry is under way. -/
def State.backUp (s : State) : State :=
  { s with fw := { s.fw with up := true }, power := { s.power with entry := none } }

/-- The unit returns to RUN from an abort point (R334). -/
theorem abandonEntry_returns (s : State) (n : Nat) : (abandonEntry s n).power.entry = none ∧
    (abandonEntry s n).fw.up = true ∧ (abandonEntry s n).power.wake = none ∧
    abandonEntry s n = { s with power := (abandonEntry s n).power, fw := (abandonEntry s n).fw,
                                tenants := (abandonEntry s n).tenants } := by
  have hawake : (clearEntry s.backUp).power.st ≠ .nap := PState.noConfusion
  have htold : AwakeFrame (clearEntry s.backUp) (powerEvent (clearEntry s.backUp) 3 n) := steward_awake hawake ..
  have hframe : AwakeFrame (clearEntry s.backUp) (abandonEntry s n) :=
    htold.trans (raiseHeld_awake (by rw [htold.power]; exact hawake))
  have hstand : Standing (clearEntry s.backUp) (abandonEntry s n) :=
    (steward_standing ..).trans (raiseHeld_standing _)
  refine ⟨by rw [hframe.power]; rfl, hstand.up, by rw [hframe.power]; rfl, ?_⟩
  unfold AwakeFrame at hframe
  generalize abandonEntry s n = u at hframe
  rw [hframe]
  rfl

theorem passPoint_stops (habandon : s.power.abandon = true) (hwake : s.power.wake ≠ none) (n : Nat)
    (next : State → State) : passPoint s n next = abandonEntry s n :=
  if_pos (by simp [State.stopsAt, habandon, Option.isSome_iff_ne_none, hwake])

theorem quiesceDone_waits (h : s.power.entry ≠ some .quiesce ∨ s.ring.leaving = true) : quiesceDone s = s := if_pos h

/-- With nothing that sounds the quiesce is over at once. -/
theorem quiesceDone_silent (hentry : s.power.entry = some .quiesce) (hleave : s.ring.leaving = false)
    (hfade : s.power.quiesceFade = false) (hvoices : s.voices = []) (hrun : s.core.run ≠ .stopping)
    (habandon : s.power.abandon = false) :
    quiesceDone s = s.setPower { s.power with entry := some .gated } := by
  have hover : ((s.power.quiesceFade && s.stopDue) ||
      (!s.power.quiesceFade && s.voices.isEmpty && s.core.run != .stopping)) = true := by simp [hfade, hvoices, hrun]
  rw [quiesceDone, if_neg (by simp [hentry, hleave])]
  refine (if_pos hover).trans ?_
  dsimp only
  rw [if_neg (by simp [hfade])]
  exact passPoint_goes habandon 1 _

/-! ## Wake sources (Table 13-7, R333) -/

theorem wakeBy_entry (hentry : s.power.entry ≠ none) (src : WakeSrc) :
    wakeBy s src = if s.wakeOn .hibernate src then noteWake s src else s := by
  rw [wakeBy, State.sleepTarget, if_pos (Option.isSome_iff_ne_none.mpr hentry)]

theorem wakeBy_nap (hentry : s.power.entry = none) (hnap : s.power.st = .nap) {src : WakeSrc}
    (hon : s.wakeOn .nap src = true) : wakeBy s src = noteWake s src := by
  rw [wakeBy, State.sleepTarget, if_neg (by simp [hentry]), if_pos hnap]
  exact if_pos hon

theorem wakeBy_awake (hentry : s.power.entry = none) (hnap : s.power.st ≠ .nap) (hhib : s.power.st ≠ .hibernate)
    (src : WakeSrc) : wakeBy s src = s := by
  rw [wakeBy, State.sleepTarget, if_neg (by simp [hentry]), if_neg hnap, if_neg hhib]

theorem exec_wakeDuringEntry_entry (hentry : s.power.entry ≠ none) (src : WakeSrc) :
    exec (.wakeDuringEntry src) s = .next (wakeBy s src) :=
  congrArg Host.Outcome.next (if_pos (Option.isSome_iff_ne_none.mpr hentry))

theorem exec_wakeDuringEntry_idle (hentry : s.power.entry = none) (hb : s.core.tide.isBoundary = false) (src : WakeSrc) :
    exec (.wakeDuringEntry src) s = .next s := by
  refine congrArg Host.Outcome.next ?_
  rw [wakeInEntry, if_neg (by simp [hentry]), hb]
  rfl

theorem exec_wakeNEdge {ms : Nat} (h : 1010 ≤ ms) : exec (.wakeNEdge ms) s = .next (wakeBy s .wakeN) :=
  congrArg Host.Outcome.next (onLow_long h _)

theorem exec_aonTimerWake (ms : Nat) : exec (.aonTimerWake ms) s =
    .next (if s.power.wakeTimer ≤ ms then wakeBy s .timer else s) := rfl

theorem scheduleNear_some {due : Nat} (h : s.earliest = some due) :
    s.scheduleNear = decide (due ≤ s.smp.toNat + 32 + s.wakeSamples) := by rw [State.scheduleNear, h]; rfl

theorem tideComparator_armed {due : Nat} (hnap : s.power.st = .nap) (harmed : s.power.comparator = true)
    (h : s.earliest = some due) :
    tideComparator s = if due ≤ s.smp.toNat + 32 + s.wakeSamples then noteWake s .schedule else s := by
  unfold tideComparator
  simp only [hnap, harmed, scheduleNear_some h, decide_eq_true_eq, true_and]

theorem tideComparator_idle (h : s.power.st ≠ .nap ∨ s.power.comparator = false) : tideComparator s = s :=
  if_neg fun hon => h.elim (fun hst => hst hon.1) fun hoff => Bool.noConfusion (hoff.symm.trans hon.2.1)

/-! ## The wake from NAP (R330, R358) -/

/-- The unit is in RUN, with the source in `power.last_wake`. -/
def State.napLeft (s : State) (src : WakeSrc) : State :=
  s.setPower { s.power with
    st := .run, lastWake := src, wake := none, timerEntry := none, napIrq := none, comparator := false, schedTicks := 0 }

/-- The watchdogs have restarted, and the wake buffers have reached their queues. -/
def State.drained (s : State) : State := foldS (List.range 4) (restartWatchdogs s) drainWake

theorem drained_frame (h : s.power.st ≠ .nap) : DrainFrame s s.drained := by
  have hdogs : TenantsOnly s (restartWatchdogs s) := TenantsOnly.fold _ _ (fun _ _ => updTen_tenantsOnly ..) s
  have hdrain : DrainFrame s (restartWatchdogs s) := by
    unfold TenantsOnly at hdogs
    rw [hdogs]
    rfl
  exact hdrain.trans (DrainFrame.fold (by rwa [hdrain.power]) _ _ fun _ ch hu => drainWake_drain hu ch)

theorem napWake_wakes {src : WakeSrc} (hst : s.power.st = .nap) (hwake : s.power.wake = some src) :
    DrainFrame (s.napLeft src) (napWake s src) := by
  have hawake : (s.napLeft src).power.st ≠ .nap := PState.noConfusion
  have hdrained := drained_frame hawake
  have htold := hdrained.trans (steward_awake (s := (s.napLeft src).drained) (by rwa [hdrained.power]) .powerState (arg2 2 2)
    []).drain
  have heq : napWake s src = raiseHeld (powerEvent (s.napLeft src).drained 2 2) := if_pos ⟨hst, hwake⟩
  rw [heq]
  exact htold.trans (raiseHeld_awake (by rw [htold.power]; exact hawake)).drain

theorem DrainFrame.of_power {s u : State} {p : Power} (h : DrainFrame (s.setPower p) u) : u.power = p ∧
    u = { s with power := u.power, fw := u.fw, tenants := u.tenants, serials := u.serials } := by
  unfold DrainFrame at h
  rw [h]
  exact ⟨rfl, rfl⟩

theorem napWake_idle {src : WakeSrc} (h : s.power.st ≠ .nap ∨ s.power.wake ≠ some src) : napWake s src = s :=
  if_neg fun hon => h.elim (fun hst => hst hon.1) fun hw => hw hon.2

/-! ## The wake from HIBERNATE (Table 13-9) -/

theorem hibernateWake_wakes {src : WakeSrc} (hst : s.power.st = .hibernate) (hwake : s.power.wake = some src)
    (rd : BootRead) : hibernateWake s src false false rd = wakeDone (wakeState s src) := if_pos ⟨hst, hwake⟩

theorem hibernateWake_idle {src : WakeSrc} (h : s.power.st ≠ .hibernate ∨ s.power.wake ≠ some src) (rd : BootRead) :
    hibernateWake s src false false rd = s :=
  if_neg fun hon => h.elim (fun hst => hst hon.1) fun hw => hw hon.2

/-- After HIBERNATE every tenant is CLOSED. -/
theorem wakeState_closed (s : State) (src : WakeSrc) : ∀ t, ((wakeState s src).ten t).st = .closed :=
  have hclosed : ∀ t : Tenant, (bankAt (allTenants.map fun u => (u.val, ({ openedSinceWake := false } : TenantSt)))
      t.val {}).st = .closed := by decide
  hclosed

theorem wakeDone_fwReady (s : State) : (wakeDone s).link = { s.link with fwReady := true } := by
  simp [wakeDone]

end

/-- Settles O52: the timers by the deepest that has run out, each entry by the step it finds, each wake source by the state the
unit sleeps in. What a boundary does for a request and for a timer, what a wake resets and keeps, and the ticks the timer of
HIBERNATE stands still are the model's reading (log entries 3 and 20); rows out of their moment change nothing (log
entry 2). -/
theorem sleepAndWakeFollowTheTables : Obligations.SleepAndWakeFollowTheTables := by
  intro s ms src rd p pow noted awake naps may hib nap doze ask
  refine ⟨fun hmay hst => ?asks, fun h => congrArg _ (idleExpiry_stays ?stays),
    fun hst hidle => congrArg _ (idlenessEnd_doze hst hidle), fun hidle hst => congrArg _ (idlenessEnd_stays hst hidle),
    fun hb => ⟨?noBegin, fun hentry => exec_hibernateEntry_waits hentry hb⟩,
    fun hb hentry hruns hreq => ?boundary, fun hb hentry hruns hreq => ?begins,
    fun habandon => ⟨fun he => ?gated, fun he => ?saved, fun he => ?latched⟩,
    fun hst habandon hwake he => ?abandoned, fun h => congrArg _ (quiesceDone_waits h),
    fun he hleave hfade hvoices hrun habandon => congrArg _ (quiesceDone_silent he hleave hfade hvoices hrun habandon),
    fun he => ?during, fun he hb => exec_wakeDuringEntry_idle he hb src, fun hst harmed due hdue => ?comparator,
    fun h => congrArg _ (tideComparator_idle h), fun hst hwake => ?napWake, fun h => congrArg _ (napWake_idle h),
    fun hms => congrArg _ (onLow_short hms _), fun hms => congrArg _ (if_neg (Nat.not_le.mpr hms)), fun h => ?awake,
    fun h hms hmask => ?wakeN, fun h hms hmask htimer => ?timer, fun h hmask hfield hmode => ?key,
    fun hst hwake => ?hibWake, fun h => congrArg _ (hibernateWake_idle h rd)⟩
  case asks =>
    obtain ⟨hidle, hentry, hup, hrun⟩ := hmay
    have hask : ∀ st, s.expired ms = some st → 0 < stateNum st → ask st := fun st hexp hdeep =>
      congrArg Host.Outcome.next (idleExpiry_asks hidle hentry hup hrun hst hexp hdeep)
    refine ⟨fun hh => hask .hibernate (expired_hibernate hh) (by decide),
      fun hh hn => hask .nap ((expired_shallow hh).trans (if_pos hn)) (by decide),
      fun hh hn hd => hask .doze ((expired_shallow hh).trans ((if_neg hn).trans (if_pos hd))) (by decide)⟩
  case stays =>
    rcases h with hidle | ⟨hh, hn, hd⟩ | ⟨hst, hh⟩
    · exact .inl hidle
    · have hnone : s.expired ms = none := (expired_shallow hh).trans ((if_neg hn).trans (if_neg hd))
      exact .inr fun q hq => by rw [hnone] at hq; cases hq
    · refine .inr fun q hq => ?_
      have hst' : s.power.st = .nap := hst
      rw [expired_shallow hh] at hq
      rw [hst']
      split at hq
      · cases hq; exact Nat.le_refl _
      · split at hq <;> cases hq
        decide
  case noBegin => rw [exec_powerEntryBegin, hb]; rfl
  case boundary =>
    have hfree : EntryFree s := ⟨hentry, hruns⟩
    have hrow : exec .powerEntryBegin s = .next (powerBoundary s) := by rw [exec_powerEntryBegin, if_pos hb]
    rw [hrow]
    refine ⟨fun hidle => congrArg _ (hfree.boundary_work hreq hidle),
      fun hidle habandon htimer => congrArg _ (hfree.boundary_doze hreq hidle habandon htimer),
      fun hidle habandon htimer => ?_⟩
    obtain ⟨hpower, hframe⟩ := enterNap_sleeps (fwRuns_not_nap hruns) habandon
    exact ⟨_, congrArg _ (hfree.boundary_nap hreq hidle htimer), hpower, hframe⟩
  case begins =>
    obtain ⟨hquiesce, hup, hnvm⟩ := startHibernate_begins s true
    refine ⟨_, (exec_hibernateEntry_begins hentry hb hreq).trans ?_, hquiesce, hup, hnvm⟩
    exact congrArg _ (EntryFree.boundary_hibernate ⟨hentry, hruns⟩ hreq)
  case gated =>
    exact (exec_hibernateEntry_step he).trans (congrArg _ ((entryStep_gated he).trans (passPoint_goes habandon 2 _)))
  case saved =>
    obtain ⟨hlatched, hpads, hframe⟩ := latchPads_latches s
    exact ⟨_, (exec_hibernateEntry_step he).trans (congrArg _ ((entryStep_saved he).trans (passPoint_goes habandon 3 _))),
      hlatched, hpads, hframe⟩
  case latched =>
    exact (exec_hibernateEntry_step he).trans (congrArg _ (entryStep_latched he habandon))
  case abandoned =>
    obtain ⟨hentry, hup, hnone, hframe⟩ := abandonEntry_returns s 2
    exact ⟨_, (exec_hibernateEntry_step he).trans
      (congrArg _ ((entryStep_gated he).trans (passPoint_stops habandon hwake 2 _))), hentry, hup, hnone, hframe⟩
  case during =>
    rw [exec_wakeDuringEntry_entry he, wakeBy_entry he]
    split <;> rfl
  case comparator =>
    refine (congrArg Host.Outcome.next (tideComparator_armed hst harmed hdue)).trans ?_
    split <;> rfl
  case napWake =>
    obtain ⟨hpower, hframe⟩ := (napWake_wakes hst hwake).of_power
    exact ⟨_, rfl, hpower, hframe⟩
  case awake =>
    obtain ⟨hentry, hnap, hhib⟩ := h
    have hstays : ∀ src, wakeBy s src = s := wakeBy_awake hentry hnap hhib
    refine ⟨fun hms => (exec_wakeNEdge hms).trans (congrArg _ (hstays _)), ?_, congrArg _ (hstays _)⟩
    rw [exec_aonTimerWake, hstays, ite_self]
  case wakeN =>
    obtain ⟨hentry, hnap⟩ := h
    have hmask' : s.power.wakeMask.getLsbD 0 = true := hmask
    exact (exec_wakeNEdge hms).trans (congrArg _ (wakeBy_nap hentry hnap (by simp [State.wakeOn, hmask'])))
  case timer =>
    obtain ⟨hentry, hnap⟩ := h
    have hmask' : s.power.wakeMask.getLsbD 5 = true := hmask
    have htimer' : s.power.wakeTimer ≠ 0 := htimer
    rw [exec_aonTimerWake, if_pos hms]
    exact congrArg _ (wakeBy_nap hentry hnap (by simp [State.wakeOn, hmask', htimer']))
  case key =>
    obtain ⟨hentry, hnap⟩ := h
    have hmask' : s.power.wakeMask.getLsbD 6 = true := hmask
    exact congrArg Host.Outcome.next (wakeBy_nap hentry hnap (by simp [State.wakeOn, hmask', hfield, hmode]))
  case hibWake =>
    have hkept : WakeKept (wakeState s src) (wakeDone (wakeState s src)) :=
      wakeDone_kept (s := wakeState s src) PState.noConfusion
    obtain ⟨hup, hten⟩ := wakeDone_standing (wakeState s src)
    have hlink := wakeDone_fwReady (wakeState s src)
    refine ⟨_, congrArg Host.Outcome.next (hibernateWake_wakes hst hwake rd), hup, by rw [hlink], by rw [hlink]; rfl,
      by rw [hkept.power]; rfl, by rw [hkept.power]; rfl, by rw [hkept.core]; rfl, by rw [hkept.core]; rfl,
      fun t => (hten t).trans (wakeState_closed s src t), by rw [hkept.voices]; rfl, by rw [hkept.nvm]; rfl,
      by rw [hkept.vault]; rfl, by rw [hkept.cal]; rfl⟩

end Sys2Proof.Machine
end

section
/-! SUPPORT. The sections of a ring frame: what is discarded, what a marker, the gossip, SUM and TOTAL bring (R268 to R272,
R276, R277). -/

namespace Sys2Proof.Machine

/-! ## Sections that are not taken (R268, R271) -/

section
variable {s : State}

theorem markerIn_standalone (hr : s.ring.role = .standalone) (m : Marker) : markerIn s m = s :=
  if_pos (not_onRing_of_role hr)

theorem gossipIn_standalone (hr : s.ring.role = .standalone) (l : List GossipEntry) (crcOk : Bool) :
    gossipIn s l crcOk = s := if_pos (not_onRing_of_role hr)

theorem sumIn_standalone (hr : s.ring.role = .standalone) (l : List (List Int)) (crcOk : Bool) : sumIn s l crcOk = s :=
  if_pos (not_onRing_of_role hr)

theorem totalIn_standalone (hr : s.ring.role = .standalone) (l : List (List Int)) (crcOk : Bool) : totalIn s l crcOk = s :=
  if_pos (not_onRing_of_role hr)

theorem sumIn_bad (hr : s.ring.role ≠ .standalone) (l : List (List Int)) :
    sumIn s l false = s.setRing s.ring.miscoded := by
  rw [sumIn, if_neg (by simp [onRing_of_role hr]), if_pos rfl, codeError_eq]

theorem totalIn_bad (hr : s.ring.role ≠ .standalone) (l : List (List Int)) :
    totalIn s l false = s.setRing s.ring.miscoded := by
  rw [totalIn, if_neg (by simp [onRing_of_role hr]), if_pos rfl, codeError_eq]

theorem markerIn_bad (hr : s.ring.role ≠ .standalone) {m : Marker} (hcrc : m.crcOk = false) :
    markerIn s m = s.setRing s.ring.miscoded := by
  rw [markerIn, if_neg (by simp [onRing_of_role hr]), if_pos hcrc, codeError_eq]

theorem markerIn_passes (hr : s.ring.role ≠ .standalone) {m : Marker} (hcrc : m.crcOk = true)
    (h : s.ring.role = .keeper ∨ s.ring.markerSeen = true) : markerIn s m = s := by
  have hpass : s.ring.role ≠ .member ∨ s.ring.markerSeen = true := h.imp_left fun hk => by rw [hk]; decide
  rw [markerIn, if_neg (by simp [onRing_of_role hr]), if_neg (by simp [hcrc]), if_pos hpass]

/-! ## The marker on a member (R276, R277) -/

/-- A member on MCLK_IN whose boundary lies more than half a sample away. -/
abbrev State.slips (s : State) (m : Marker) : Prop :=
  s.core.mclkIn = true ∧ s.ring.st ≠ .rateMismatch ∧ 500 < m.drift.natAbs

theorem slips_iff (s : State) (m : Marker) :
    (s.core.mclkIn && s.ring.st != .rateMismatch && decide (500 < m.drift.natAbs)) = true ↔ s.slips m := by
  simp [State.slips, and_assoc]

/-- The ring's part with what a marker brings, and the slip that is then due. -/
def Ring.marked (r : Ring) (m : Marker) (due : Option Bool) : Ring :=
  { r with
    keeperFs := m.fsIndex, epoch := m.epoch, keeperGrant := m.grant, keeperDMax := m.dMax, hopNs := m.ownHopNs % 65536
    accNs := m.hopNs + m.ownHopNs, sentMarker := some { m with hopNs := m.hopNs + m.ownHopNs }, markerSeen := true
    slipDue := due }

theorem markerIn_member (hr : s.ring.role = .member) {m : Marker} (hcrc : m.crcOk = true)
    (hnew : s.ring.markerSeen = false) :
    markerIn s m = alignTide (s.setRing
      (s.ring.marked m (if s.slips m then some (decide (0 < m.drift)) else s.ring.slipDue))) m := by
  have hon : s.onRing = true := onRing_of_role (by rw [hr]; decide)
  have hslip : (if (s.core.mclkIn && s.ring.st != .rateMismatch && decide (500 < m.drift.natAbs)) = true then
      some (decide (0 < m.drift)) else s.ring.slipDue) =
      if s.slips m then some (decide (0 < m.drift)) else s.ring.slipDue := if_congr (slips_iff s m) rfl rfl
  rw [markerIn, if_neg (by simp [hon]), if_neg (by simp [hcrc]), if_neg (by simp [hr, hnew]), ← hslip]
  rfl

theorem alignTide_free {u : State} (m : Marker) (h : u.ring.st = .rateMismatch ∨ u.core.mclkIn = true) :
    alignTide u m = u := if_neg (by rcases h with h | h <;> simp [State.disciplined, h])

theorem alignTide_disciplined {u : State} (m : Marker) (hr : u.ring.role = .member) (hst : u.ring.st ≠ .rateMismatch)
    (hclk : u.core.mclkIn = false) : alignTide u m = { u with
      core := { u.core with tide := { u.core.tide with smp := Smp.plus m.smp (u.smp.toNat % 32) } } } :=
  if_pos (by simp [State.disciplined, hr, hst, hclk])

/-! ## Gossip (R281, R285) -/

/-- Counting the silent origins may send the ends that were kept, and changes nothing else. -/
theorem countSilent_sends (s : State) (l : List GossipEntry) : ∃ a h q o, countSilent s l =
    s.setRing { s.ring with silent := a, heldEnds := h, seq := q, out := o } := by
  unfold countSilent
  dsimp only
  refine foldS_keeps (fun u => ∃ a h q o, u =
    s.setRing { s.ring with silent := a, heldEnds := h, seq := q, out := o }) _ _ ?_ ⟨_, _, _, _, rfl⟩
  rintro u i ⟨a, h, q, o, rfl⟩
  exact ⟨_, _, _, _, rfl⟩

theorem gossipIn_good (hr : s.ring.role ≠ .standalone) (l : List GossipEntry) : gossipIn s l true =
    countSilent (s.setRing { s.ring with gossip := l, gossipSeen := true, lastGossip := l }) l :=
  if_neg (by simp [onRing_of_role hr])

theorem gossipIn_bad (hr : s.ring.role ≠ .standalone) (l : List GossipEntry) : gossipIn s l false =
    countSilent (s.setRing { s.ring.miscoded with gossip := [], gossipSeen := true }) [] := by
  refine (if_neg (by simp [onRing_of_role hr])).trans ?_
  simp only [Bool.false_eq_true, if_false, codeError_eq]
  rfl

/-! ## SUM and TOTAL (R271, R272) -/

theorem sumIn_mismatch (hst : s.ring.st = .rateMismatch) (l : List (List Int)) : sumIn s l true = s := by
  rw [sumIn, if_neg (by decide : ¬ true = false), if_pos hst]
  exact ite_self s

theorem totalIn_mismatch (hst : s.ring.st = .rateMismatch) (l : List (List Int)) : totalIn s l true = s := by
  have hout : s.ring.role ≠ .member ∨ s.ring.st = .rateMismatch := .inr hst
  rw [totalIn, if_neg (by decide : ¬ true = false), if_pos hout]
  exact ite_self s

theorem sumIn_keeper (hr : s.ring.role = .keeper) (hst : s.ring.st ≠ .rateMismatch) (l : List (List Int)) :
    sumIn s l true = s.setRing { s.ring with totalNext := l, totalSeen := true } := by
  have hon : s.onRing = true := onRing_of_role (by rw [hr]; decide)
  rw [sumIn, if_neg (by simp [hon]), if_neg (by decide), if_neg hst, if_pos hr]
  rfl

theorem sumIn_member (hr : s.ring.role = .member) (hst : s.ring.st ≠ .rateMismatch) (l : List (List Int)) :
    sumIn s l true = s.setRing { s.ring with sumOut := addBlocks l s.ring.block } := by
  have hon : s.onRing = true := onRing_of_role (by rw [hr]; decide)
  rw [sumIn, if_neg (by simp [hon]), if_neg (by decide), if_neg hst, if_neg (by rw [hr]; decide)]
  rfl

theorem totalIn_keeper (hr : s.ring.role = .keeper) (l : List (List Int)) : totalIn s l true = s := by
  have hon : s.onRing = true := onRing_of_role (by rw [hr]; decide)
  rw [totalIn, if_neg (by simp [hon]), if_neg (by decide), if_pos (.inl (by rw [hr]; decide))]

theorem totalIn_member (hr : s.ring.role = .member) (hst : s.ring.st ≠ .rateMismatch) (l : List (List Int)) :
    totalIn s l true = s.setRing { s.ring with totalNext := l, totalSeen := true } := by
  have hon : s.onRing = true := onRing_of_role (by rw [hr]; decide)
  rw [totalIn, if_neg (by simp [hon]), if_neg (by decide), if_neg (by simp [hr, hst])]
  rfl

end

theorem getD_map_range {α : Type} (f : Nat → α) {n i : Nat} (hi : i < n) (d : α) : ((List.range n).map f).getD i d = f i := by
  simp [List.getD, hi]

/-- A sum that 32 bits hold is the sum. -/
theorem ringAdd_fits {a b : Int} (hhi : a + b ≤ 2147483647) (hlo : -2147483648 ≤ a + b) : ringAdd a b = a + b := by
  have hsat : sat32 (a + b) = a + b := clampI_of_mem hlo hhi
  exact if_pos hsat

/-- Bus by bus and sample by sample the blocks are added. -/
theorem addBlocks_getD (a b : List (List Int)) {n i : Nat} (hn : n < 32) (hi : i < 32) :
    ((addBlocks a b).getD n []).getD i 0 = ringAdd ((a.getD n []).getD i 0) ((b.getD n []).getD i 0) := by
  rw [addBlocks, getD_map_range _ hn, getD_map_range _ hi]

end Sys2Proof.Machine
end

section
/-! SUPPORT. The items of the ring, its folds and its heals: what is resent and given up, what a lost lane leaves, what a
boundary renumbers (R269, R270, R273, R285 to R288). -/

namespace Sys2Proof.Machine

/-! ## Items that are resent (R273) -/

section
variable {slots used : Nat} {o : RingOut} {l : List RingOut}

/-- The item waits for another frame, or is given up. -/
def RingOut.waits (o : RingOut) (slots used : Nat) : Prop := 4 ≤ o.resends ∨ (o.isNote = true ∧ slots ≤ used)

/-- The item has been sent once more. -/
def RingOut.resent (o : RingOut) : RingOut := { o with resends := o.resends + 1 }

theorem resendIn_waits (h : o.waits slots used) :
    resendIn slots (o :: l) used = (o :: (resendIn slots l used).1, (resendIn slots l used).2) := if_pos h

theorem resendIn_sends (h : ¬ o.waits slots used) : resendIn slots (o :: l) used =
    (o.resent :: (resendIn slots l (if o.isNote then used + 1 else used)).1,
      (resendIn slots l (if o.isNote then used + 1 else used)).2) := if_neg h

end

theorem resendIn_seq (slots : Nat) (l : List RingOut) (used : Nat) :
    (resendIn slots l used).1.map (·.seq) = l.map (·.seq) := by
  induction l generalizing used with
  | nil => rfl
  | cons o l ih =>
    by_cases h : o.waits slots used
    · rw [resendIn_waits h, List.map_cons, ih, List.map_cons]
    · rw [resendIn_sends h, List.map_cons, ih, List.map_cons]
      rfl

/-- The notes of a frame stay within its spill slots. -/
theorem resendIn_slots (slots : Nat) (l : List RingOut) (used : Nat) : (resendIn slots l used).2 ≤ max used slots := by
  induction l generalizing used with
  | nil => exact le_max_left ..
  | cons o l ih =>
    by_cases h : o.waits slots used
    · rw [resendIn_waits h]
      exact ih used
    · rw [resendIn_sends h]
      refine (ih _).trans ?_
      split
      next hnote =>
        have hroom : used < slots := Nat.lt_of_not_le fun hfull => h (.inr ⟨hnote, hfull⟩)
        omega
      next => exact le_refl _

/-- An item that is no note is resent up to four times. -/
theorem resendIn_records (slots : Nat) (l : List RingOut) (used : Nat) (h : ∀ o ∈ l, o.isNote = false) :
    resendIn slots l used = (l.map fun o => if 4 ≤ o.resends then o else o.resent, used) := by
  induction l generalizing used with
  | nil => rfl
  | cons o l ih =>
    have ho : o.isNote = false := h o List.mem_cons_self
    have hl := ih used fun e he => h e (List.mem_cons_of_mem o he)
    by_cases hsent : 4 ≤ o.resends
    · rw [resendIn_waits (.inl hsent), hl, List.map_cons, if_pos hsent]
    · have hgo : ¬ o.waits slots used := fun hw => hw.elim hsent fun hn => by rw [ho] at hn; cases hn.1
      rw [resendIn_sends hgo, ho, if_neg Bool.false_ne_true, hl, List.map_cons, if_neg hsent]

section
variable {s : State}

theorem resend_eq (s : State) : resend s = s.setRing { s.ring with
    out := (resendIn (spillSlots s.core.fs) s.ring.out s.ring.frameNotes).1
    frameNotes := (resendIn (spillSlots s.core.fs) s.ring.out s.ring.frameNotes).2 } := rfl

theorem listens_iff (s : State) : s.listens = true ↔
    s.ring.role ≠ .standalone ∨ s.ring.electing ≠ none ∨ s.ring.joining ≠ none := by
  simp [State.listens, State.onRing, Option.isSome_iff_ne_none, or_assoc]

theorem listens_false (hr : s.ring.role = .standalone) (hel : s.ring.electing = none) (hj : s.ring.joining = none) :
    s.listens = false := by simp [State.listens, State.onRing, hr, hel, hj]

theorem exec_ringAckReceived (s : State) (q : BitVec 16) :
    exec (.ringAckReceived q) s = .next (if s.listens then dropItem s q else s) := rfl

theorem exec_ringItemResend (s : State) :
    exec .ringItemResend s = .next (if s.listens && s.fwRuns then resend s else s) := rfl

end

/-! ## Items that are given up (R283, R285) -/

/-- Tenants and the ring's waits for reports alone change. -/
def WaitsFrame (s u : State) : Prop :=
  u = { s with tenants := u.tenants, ring := { s.ring with waits := u.ring.waits } }

theorem WaitsFrame.trans {a b c : State} (h : WaitsFrame a b) (k : WaitsFrame b c) : WaitsFrame a c := by
  unfold WaitsFrame at *
  rw [k, h]

theorem WaitsFrame.fold {α : Type} (l : List α) (f : State → α → State) (h : ∀ s a, WaitsFrame s (f s a)) (s : State) :
    WaitsFrame s (foldS l s f) :=
  foldS_keeps (WaitsFrame s) l f (fun u a hu => hu.trans (h u a)) rfl

theorem TenantsOnly.waitsFrame {s u : State} (h : TenantsOnly s u) : WaitsFrame s u := by
  unfold TenantsOnly at h
  rw [h]
  rfl

theorem keepWaits_waitsFrame (s : State) (p : RingWait → Bool) : WaitsFrame s (s.keepWaits p) := rfl

theorem loseWaits_waitsFrame (s : State) (p : RingWait → Bool) : WaitsFrame s (loseWaits s p) := by
  rw [loseWaits_eq]
  exact (keepWaits_waitsFrame s _).trans (WaitsFrame.fold _ _
    (fun u _ => (keepWaits_waitsFrame u _).trans (finish_tenantsOnly ..).waitsFrame) _)

theorem updTen_waitsFrame (s : State) (t : Tenant) (f : TenantSt → TenantSt) : WaitsFrame s (s.updTen t f) := rfl

theorem loseNotesOn_waitsFrame (s : State) (unit : Nat) : WaitsFrame s (loseNotesOn s unit) := by
  unfold loseNotesOn
  refine WaitsFrame.fold _ _ (fun u t => ?_) s
  dsimp only
  refine ((updTen_waitsFrame u t _).trans (loseWaits_waitsFrame ..)).trans (WaitsFrame.fold _ _ (fun v o => ?_) _)
  split
  · rfl
  · exact (finishRef_tenantsOnly ..).waitsFrame

/-- No item but end orders is added to those that are sent; voices and engine stay. -/
structure OrdersEnds (s u : State) : Prop where
  out : ∀ e ∈ u.ring.out, e ∈ s.ring.out ∨ ∃ i t j, e.item = .endOrder i t j
  voices : u.voices = s.voices
  core : u.core = s.core

theorem OrdersEnds.refl (s : State) : OrdersEnds s s := ⟨fun _ h => .inl h, rfl, rfl⟩

theorem WaitsFrame.ordersEnds {s u : State} (h : WaitsFrame s u) : OrdersEnds s u := by
  unfold WaitsFrame at h
  rw [h]
  exact ⟨fun _ he => .inl he, rfl, rfl⟩

theorem endLost_waitsFrame (s : State) (t : Tenant) (o : SpilledOut) : WaitsFrame s (endLost s t o) :=
  ((updTen_waitsFrame s t _).trans (loseWaits_waitsFrame ..)).trans (finishRef_tenantsOnly ..).waitsFrame

theorem countLost_ordersEnds {s u : State} (h : OrdersEnds s u) : OrdersEnds s (countLost u) := ⟨h.out, h.voices, h.core⟩

theorem loseNote_ordersEnds (s : State) (t : Tenant) (o : SpilledOut) : OrdersEnds s (loseNote s t o) := by
  rw [loseNote_eq]
  exact countLost_ordersEnds (endLost_waitsFrame s t o).ordersEnds

theorem sendEnd_ordersEnds {s u : State} (h : OrdersEnds s u) (i : Nat) (t : Tenant) (j : BitVec 32) :
    OrdersEnds s (ringSend u (.endOrder i t j)) := by
  refine ⟨fun e he => ?_, h.voices, h.core⟩
  rcases List.mem_append.mp he with he | he
  · exact h.out e he
  · exact .inr ⟨i, t, j, by rw [List.mem_singleton.mp he]⟩

theorem loseCommand_ordersEnds (s : State) (t : Tenant) (g : Tag) (id : BitVec 32) :
    OrdersEnds s (loseCommand s t g id) := by
  have hlost := (loseWaits_waitsFrame s fun w => w.t == t && w.g == g).ordersEnds
  unfold loseCommand
  dsimp only
  split
  · exact sendEnd_ordersEnds hlost ..
  · exact hlost

theorem giveUp_ordersEnds (s : State) (i : RingItem) : OrdersEnds s (giveUp s i) := by
  unfold giveUp
  split
  · split
    · split
      · exact OrdersEnds.refl s
      · exact loseNote_ordersEnds ..
    · exact OrdersEnds.refl s
  · exact loseCommand_ordersEnds ..
  · split
    · exact countLost_ordersEnds (updTen_waitsFrame ..).ordersEnds
    · exact OrdersEnds.refl s
  · exact OrdersEnds.refl s

theorem exec_ringItemGiveUp (s : State) (q : BitVec 16) :
    exec (.ringItemGiveUp q) s = .next (if s.fwRuns then itemGiveUp s q else s) := rfl

section
variable {s : State} {q : BitVec 16}

theorem itemGiveUp_early (h : ∀ e ∈ s.ring.out, e.seq = q → e.resends < 4) : itemGiveUp s q = s := by
  have hnone : s.ring.out.find? (fun o => o.seq == q && decide (4 ≤ o.resends)) = none :=
    List.find?_eq_none.mpr fun e he => by simpa using h e he
  rw [itemGiveUp, hnone]

/-- After four resends the item is sent no more; what is left under its number are end orders. -/
theorem itemGiveUp_last (h : ∃ e ∈ s.ring.out, e.seq = q ∧ 4 ≤ e.resends) :
    (∀ e ∈ (itemGiveUp s q).ring.out, e.seq = q → ∃ i t j, e.item = .endOrder i t j) ∧
      (itemGiveUp s q).voices = s.voices ∧ (itemGiveUp s q).core = s.core := by
  obtain ⟨e, he, hseq, hlast⟩ := h
  have hsome : (s.ring.out.find? fun o => o.seq == q && decide (4 ≤ o.resends)).isSome = true :=
    List.find?_isSome.mpr ⟨e, he, by simp [hseq, hlast]⟩
  obtain ⟨o, ho⟩ := Option.isSome_iff_exists.mp hsome
  have hup : itemGiveUp s q = giveUp (dropItem s q) o.item := by rw [itemGiveUp, ho]
  have hends := giveUp_ordersEnds (dropItem s q) o.item
  rw [hup]
  refine ⟨fun x hx hq => (hends.out x hx).resolve_left fun hold => ?_, hends.voices, hends.core⟩
  have hne := List.of_mem_filter hold
  simp [hq] at hne

end

/-! ## An origin that is silent (R285) -/

theorem releaseFrom_released (s : State) (o : Nat) : ∀ v ∈ (releaseFrom s o).voices,
    v.fromUnit o = true → v.sounds = true → v.released = true := by
  intro v hv hfrom hsounds
  obtain ⟨w, -, rfl⟩ := List.mem_map.mp hv
  by_cases h : (w.fromUnit o && w.sounds && !w.released) = true
  · rw [if_pos h]
    rfl
  · rw [if_neg h] at hfrom hsounds ⊢
    simpa [hfrom, hsounds] using h

theorem releaseFrom_others (s : State) (o : Nat) : ∀ v ∈ s.voices, v.fromUnit o = false →
    v ∈ (releaseFrom s o).voices := by
  intro v hv hother
  refine List.mem_map.mpr ⟨v, hv, if_neg ?_⟩
  simp [hother]

theorem exec_originSilent (s : State) (o : Fin 16) : exec (.originSilent o) s =
    .next (if 4 ≤ bankAt s.ring.silent o.val 0 then releaseFrom s o.val else s) := rfl

/-! ## A lane is lost (R269, R286) -/

/-- The lane is folded. -/
def Ring.laneLost (r : Ring) (laneA : Bool) : Ring :=
  { r with laneA := if laneA then .folded else r.laneA, laneB := if laneA then r.laneB else .folded }

/-- The unit folds. -/
def Ring.folds (r : Ring) : Ring :=
  { r with st := if r.st = .rateMismatch then .rateMismatch else .folded, unhealed := true, totalNext := []
           totalSeen := false }

/-- A unit that listens notes the dark lane. -/
def State.laneNoted (s : State) (laneA : Bool) : State := if s.listens then s.setRing (s.ring.laneLost laneA) else s

/-- FOLDED is raised and the other units are told. -/
def State.tellFold (s : State) (d : BitVec 64) : State :=
  wakeKeeper (ringSend (ringState s 4 s.ring.position d) (.foldNotice (ringState s 4 s.ring.position d).fuse.dieId))

theorem laneLoss_eq (s : State) (laneA : Bool) (d : BitVec 64) : laneLoss s laneA d =
    if (s.laneNoted laneA).onRing then ((s.laneNoted laneA).setRing (s.laneNoted laneA).ring.folds).tellFold d
    else s.laneNoted laneA := rfl

section
variable {s : State}

theorem laneNoted_deaf (h : s.listens = false) (laneA : Bool) : s.laneNoted laneA = s := if_neg (by simp [h])

theorem laneNoted_listens (h : s.listens = true) (laneA : Bool) : s.laneNoted laneA = s.setRing (s.ring.laneLost laneA) :=
  if_pos h

theorem laneLoss_deaf (h : s.listens = false) (hr : s.ring.role = .standalone) (laneA : Bool) (d : BitVec 64) :
    laneLoss s laneA d = s := by
  rw [laneLoss_eq, laneNoted_deaf h]
  exact if_neg (by simp [not_onRing_of_role hr])

theorem laneLoss_joining (h : s.listens = true) (hr : s.ring.role = .standalone) (laneA : Bool) (d : BitVec 64) :
    laneLoss s laneA d = s.setRing (s.ring.laneLost laneA) := by
  rw [laneLoss_eq, laneNoted_listens h]
  exact if_neg (by simp [State.onRing, State.setRing, Ring.laneLost, hr])

theorem laneLoss_folds (hr : s.ring.role ≠ .standalone) (laneA : Bool) (d : BitVec 64) :
    laneLoss s laneA d = (s.setRing (s.ring.laneLost laneA).folds).tellFold d := by
  rw [laneLoss_eq, laneNoted_listens ((listens_iff s).mpr (.inl hr))]
  exact if_pos (onRing_of_role hr)

end

theorem wakeKeeper_eventFrame (s : State) : EventFrame s (wakeKeeper s) := by
  unfold wakeKeeper
  split <;> rfl

/-- What a unit that folds becomes: its ring's part, and no more than an event may touch. -/
structure Folded (s u : State) (laneA : Bool) : Prop where
  lanes : u.ring.laneA = (s.ring.laneLost laneA).laneA ∧ u.ring.laneB = (s.ring.laneLost laneA).laneB
  st : u.ring.st = if s.ring.st = .rateMismatch then .rateMismatch else .folded
  unhealed : u.ring.unhealed = true
  notice : (u.ring.out.any fun e => e.item == .foldNotice s.fuse.dieId) = true
  frame : u = { s with ring := u.ring, tenants := u.tenants, fw := u.fw, power := u.power }

/-- The fold notice is sent; nothing else changes but what an event may touch. -/
theorem tellFold_sends (s : State) (d : BitVec 64) : EventFrame (ringSend s (.foldNotice s.fuse.dieId)) (s.tellFold d) := by
  have htold := ringState_eventFrame s 4 s.ring.position d
  unfold State.tellFold
  generalize ringState s 4 s.ring.position d = v at htold ⊢
  refine EventFrame.trans ?_ (wakeKeeper_eventFrame _)
  unfold EventFrame at htold ⊢
  rw [htold]
  rfl

theorem laneLoss_folded {s : State} (hr : s.ring.role ≠ .standalone) (laneA : Bool) (d : BitVec 64) :
    Folded s (laneLoss s laneA d) laneA := by
  have hsent := tellFold_sends (s.setRing (s.ring.laneLost laneA).folds) d
  rw [laneLoss_folds hr]
  generalize (s.setRing (s.ring.laneLost laneA).folds).tellFold d = u at hsent ⊢
  have hring : u.ring = { (s.ring.laneLost laneA).folds with
      seq := s.ring.seq + 1, out := s.ring.out ++ [{ seq := s.ring.seq, item := .foldNotice s.fuse.dieId }] } := by
    rw [hsent]
    rfl
  refine ⟨by rw [hring]; exact ⟨rfl, rfl⟩, by rw [hring]; rfl, by rw [hring]; rfl, ?_, ?_⟩
  · rw [hring, List.any_append]
    simp
  · unfold EventFrame at hsent
    rw [hring]
    exact hsent

/-! ## Heals and unfolds (R270, R279, R287, R288) -/

theorem exec_ringHeal (s : State) (m : Membership) : exec (.ringHeal m) s =
    .next (if s.onRing && s.fwRuns && s.core.tide.isBoundary then heal s m else s) := rfl

theorem exec_ringUnfold (s : State) (m : Membership) : exec (.ringUnfold m) s =
    .next (if s.onRing && s.fwRuns && s.core.tide.isBoundary then unfold s m else s) := rfl

/-- No heal and no unfold: the unit stands alone, its firmware stops, or no block boundary is there. -/
def State.unhealing (s : State) : Prop :=
  s.ring.role = .standalone ∨ s.fwRuns = false ∨ s.core.tide.isBoundary = false

theorem unhealing_iff (s : State) : s.unhealing ↔ ¬ (s.onRing && s.fwRuns && s.core.tide.isBoundary) = true := by
  simp [State.unhealing, State.onRing, or_iff_not_imp_left]

/-- The ring's positions are renumbered; who is a member, keeper and heals stay. -/
theorem remap_frame (s : State) (f : Nat → Nat) : ∃ t v o h d n a q, remap s f = { s with
    tenants := t, voices := v
    ring := { s.ring with out := o, heldEnds := h, due := d, seen := n, acks := a, silent := q } } := by
  have h := TenantsOnly.fold allTenants (fun s t => s.updTen t fun x =>
    { x with spilledOut := x.spilledOut.map fun o => { o with unit := f o.unit } }) (fun _ _ => rfl) s
  unfold TenantsOnly at h
  unfold remap
  rw [h]
  exact ⟨_, _, _, _, _, _, _, _, rfl⟩

/-- The notes on the units that are lost, and those that came from them, end. -/
def State.lostEnded (s : State) (m : Membership) : State :=
  foldS m.lost s fun s l => releaseFrom (loseNotesOn s l.1) l.1

theorem lostEnded_frame (s : State) (m : Membership) : ∃ t v w, s.lostEnded m = { s with
    tenants := t, voices := v, ring := { s.ring with waits := w } } := by
  refine foldS_keeps (fun u => ∃ t v w, u = { s with tenants := t, voices := v, ring := { s.ring with waits := w } })
    _ _ ?_ ⟨_, _, _, rfl⟩
  rintro u l ⟨t, v, w, rfl⟩
  have h := loseNotesOn_waitsFrame { s with tenants := t, voices := v, ring := { s.ring with waits := w } } l.1
  unfold WaitsFrame at h
  rw [h]
  exact ⟨_, _, _, rfl⟩

/-- Role and heals of a unit at its heal boundary; a new keeper's rate is the ring's. -/
def State.healing (s : State) (m : Membership) : State :=
  let v := (s.lostEnded m).setRing { (s.lostEnded m).ring with
    role := if m.keeperId = (s.lostEnded m).fuse.dieId then .keeper else .member, unhealed := false
    heals := (s.lostEnded m).ring.heals + 1
    leavers := (s.lostEnded m).ring.leavers.filter fun d => m.lost.all fun l => l.2 != d }
  if m.keeperId = v.fuse.dieId then v.setRing { v.ring with keeperFs := v.core.fs } else v

theorem healing_frame (s : State) (m : Membership) : ∃ t v w l k, s.healing m = { s with
    tenants := t, voices := v
    ring := { s.ring with waits := w, leavers := l, keeperFs := k, unhealed := false, heals := s.ring.heals + 1
                          role := if m.keeperId = s.fuse.dieId then .keeper else .member } } := by
  obtain ⟨t, v, w, h⟩ := lostEnded_frame s m
  rw [State.healing, h]
  by_cases hk : m.keeperId = s.fuse.dieId
  · exact ⟨t, v, w, _, s.core.fs, if_pos hk⟩
  · exact ⟨t, v, w, _, s.ring.keeperFs, if_neg hk⟩

/-- A heal sets the members, renumbers, and raises its events. -/
theorem heal_sets (s : State) (m : Membership) : ∃ f, EventFrame (remap (setMembers (s.healing m) m (s.healedPosition m)
    (s.ring.units - (m.lost.map (·.1)).length) (m.lost.map (·.1))) f) (heal s m) := by
  refine ⟨healMap (m.lost.map (·.1)) (s.ring.units - (m.lost.map (·.1)).length) (s.lostEnded m).ring.position
    (s.healedPosition m), ?_⟩
  unfold heal
  extract_lets lost pos units a map old leavers r b r' c e g h
  have hg : EventFrame e g := by
    unfold g
    split
    · exact EventFrame.refl e
    · exact ringState_eventFrame ..
  refine (hg.trans (EventFrame.fold _ _ (fun u l => ?_) _)).trans (ringState_eventFrame ..)
  split
  · exact ringState_eventFrame ..
  · exact EventFrame.refl u

/-- What a unit is after a heal boundary. -/
structure Healed (s u : State) (m : Membership) : Prop where
  position : u.ring.position = s.healedPosition m
  units : u.ring.units = s.ring.units - m.lost.length
  keeperId : u.ring.keeperId = m.keeperId
  heals : u.ring.heals = s.ring.heals + 1
  unhealed : u.ring.unhealed = false
  role : u.ring.role = if m.keeperId = s.fuse.dieId then .keeper else .member
  dMax : u.ring.dMax = if m.keeperId = s.fuse.dieId then s.largestDelay (m.lost.map (·.1)) m.newDelay else m.dMax
  core : u.core = s.core

theorem healedPosition_keeper {s : State} {m : Membership} (hk : m.keeperId = s.fuse.dieId) : s.healedPosition m = 0 :=
  if_pos hk

theorem setMembers_heals (s : State) (m : Membership) (position units : Nat) (gone : List Nat) :
    (setMembers s m position units gone).ring.heals = s.ring.heals ∧
      (setMembers s m position units gone).ring.unhealed = s.ring.unhealed := ⟨rfl, rfl⟩

/-- The members of a heal, before anything is renumbered. -/
theorem healing_healed (s : State) (m : Membership) : Healed s (setMembers (s.healing m) m (s.healedPosition m)
    (s.ring.units - (m.lost.map (·.1)).length) (m.lost.map (·.1))) m := by
  obtain ⟨t, v, w, l, k, h⟩ := healing_frame s m
  obtain ⟨hheals, hunhealed⟩ := setMembers_heals (s.healing m) m (s.healedPosition m)
    (s.ring.units - (m.lost.map (·.1)).length) (m.lost.map (·.1))
  have hfuse : (s.healing m).fuse = s.fuse := by rw [h]
  have hdelay : (s.healing m).largestDelay (m.lost.map (·.1)) m.newDelay =
      s.largestDelay (m.lost.map (·.1)) m.newDelay := by rw [h]; rfl
  have hcore : (s.healing m).core = s.core := by rw [h]
  have hrole : (s.healing m).ring.role = if m.keeperId = s.fuse.dieId then .keeper else .member := by rw [h]
  have hcount : (s.healing m).ring.heals = s.ring.heals + 1 := by rw [h]
  have hdone : (s.healing m).ring.unhealed = false := by rw [h]
  by_cases hk : m.keeperId = s.fuse.dieId
  · have hset := setMembers_keeper (s := s.healing m) (hk.trans (congrArg _ hfuse).symm) (s.healedPosition m)
      (s.ring.units - (m.lost.map (·.1)).length) (m.lost.map (·.1))
    exact ⟨hset.position.trans (healedPosition_keeper hk).symm, by rw [hset.units, List.length_map], hset.keeperId,
      hheals.trans hcount, hunhealed.trans hdone, hset.role.trans hrole, by rw [hset.dMax, hdelay, if_pos hk],
      hset.core.trans hcore⟩
  · have hset := setMembers_member (s := s.healing m) (fun he => hk (he.trans (congrArg _ hfuse))) (s.healedPosition m)
      (s.ring.units - (m.lost.map (·.1)).length) (m.lost.map (·.1))
    exact ⟨hset.position, by rw [hset.units, List.length_map], hset.keeperId, hheals.trans hcount,
      hunhealed.trans hdone, hset.role.trans hrole, by rw [hset.dMax, if_neg hk], hset.core.trans hcore⟩

theorem Healed.remap {s u : State} {m : Membership} (h : Healed s u m) (f : Nat → Nat) : Healed s (remap u f) m := by
  obtain ⟨t, v, o, e, d, n, a, q, hf⟩ := remap_frame u f
  rw [hf]
  exact ⟨h.position, h.units, h.keeperId, h.heals, h.unhealed, h.role, h.dMax, h.core⟩

theorem Healed.event {s u v : State} {m : Membership} (h : Healed s u m) (hev : EventFrame u v) : Healed s v m := by
  unfold EventFrame at hev
  rw [hev]
  exact ⟨h.position, h.units, h.keeperId, h.heals, h.unhealed, h.role, h.dMax, h.core⟩

theorem heal_healed (s : State) (m : Membership) : Healed s (heal s m) m := by
  obtain ⟨f, hev⟩ := heal_sets s m
  exact ((healing_healed s m).remap f).event hev

/-- What a unit is after a fold is removed. -/
structure Unfolded (s u : State) (m : Membership) : Prop where
  position : u.ring.position = s.ring.position
  units : u.ring.units = s.ring.units
  heals : u.ring.heals = s.ring.heals + 1
  unhealed : u.ring.unhealed = false
  laneA : u.ring.laneA = s.ring.laneA.at (m.whole || m.lockA)
  laneB : u.ring.laneB = s.ring.laneB.at (m.whole || m.lockB)
  frame : u = { s with ring := u.ring, tenants := u.tenants, fw := u.fw, power := u.power }

theorem unfold_unfolded (s : State) (m : Membership) : Unfolded s (unfold s m) m := by
  have hev : EventFrame (setLanes (s.setRing { s.ring with unhealed := false, heals := s.ring.heals + 1 }) m)
      (unfold s m) := ringState_eventFrame ..
  unfold EventFrame at hev
  rw [hev]
  exact ⟨rfl, rfl, rfl, rfl, rfl, rfl, rfl⟩

theorem RingLane.at_or (x : RingLane) (whole lock : Bool) : x.at (whole || lock) =
    if whole = true ∨ lock = true then .locked else if x = .noLight then .folded else x :=
  if_congr (Bool.or_eq_true whole lock ▸ Iff.rfl) rfl rfl

end Sys2Proof.Machine
end

section
/-! The ring's frames, folds and items, put together. -/

namespace Sys2Proof.Machine

section
variable {s : State}

theorem exec_markerArrival (s : State) (m : Marker) : exec (.markerArrival m) s = .next (markerIn s m) := rfl

theorem exec_gossipSection (s : State) (l : List GossipEntry) (ok : Bool) :
    exec (.gossipSection l ok) s = .next (gossipIn s l ok) := rfl

theorem exec_sumSection (s : State) (l : List (List Int)) (ok : Bool) :
    exec (.sumSection l ok) s = .next (sumIn s l ok) := rfl

theorem exec_totalSection (s : State) (l : List (List Int)) (ok : Bool) :
    exec (.totalSection l ok) s = .next (totalIn s l ok) := rfl

theorem exec_ringLaneLoss (s : State) (laneA : Bool) (d : BitVec 64) :
    exec (.ringLaneLoss laneA d) s = .next (laneLoss s laneA d) := rfl

theorem exec_heals (h : ¬ s.unhealing) (m : Membership) :
    exec (.ringHeal m) s = .next (heal s m) ∧ exec (.ringUnfold m) s = .next (unfold s m) := by
  have hgo := not_not.mp (mt (unhealing_iff s).mpr h)
  rw [exec_ringHeal, exec_ringUnfold, if_pos hgo, if_pos hgo]
  exact ⟨rfl, rfl⟩

theorem exec_heals_waits (h : s.unhealing) (m : Membership) :
    exec (.ringHeal m) s = .next s ∧ exec (.ringUnfold m) s = .next s := by
  have hstay := (unhealing_iff s).mp h
  rw [exec_ringHeal, exec_ringUnfold, if_neg hstay, if_neg hstay]
  exact ⟨rfl, rfl⟩

/-- Gossip, good or bad, is all the ring's. -/
theorem gossipIn_keeps (hr : s.ring.role ≠ .standalone) (l : List GossipEntry) :
    ((gossipIn s l true).ring.gossip = l ∧ (gossipIn s l true).ring.lastGossip = l ∧
      (gossipIn s l true).ring.codeA = s.ring.codeA ∧ (gossipIn s l true).ring.codeB = s.ring.codeB ∧
      gossipIn s l true = { s with ring := (gossipIn s l true).ring }) ∧
    (gossipIn s l false).ring.gossip = [] ∧ (gossipIn s l false).ring.codeA = s.ring.miscoded.codeA ∧
      (gossipIn s l false).ring.codeB = s.ring.miscoded.codeB ∧
      gossipIn s l false = { s with ring := (gossipIn s l false).ring } := by
  obtain ⟨a, h, q, o, hgood⟩ :=
    countSilent_sends (s.setRing { s.ring with gossip := l, gossipSeen := true, lastGossip := l }) l
  obtain ⟨a', h', q', o', hbad⟩ := countSilent_sends (s.setRing { s.ring.miscoded with gossip := [], gossipSeen := true }) []
  rw [gossipIn_good hr, gossipIn_bad hr, hgood, hbad]
  exact ⟨⟨rfl, rfl, rfl, rfl, rfl⟩, rfl, rfl, rfl, rfl⟩

/-- The ring's part after a resend of items that are no notes. -/
theorem resend_sends (s : State) : ∃ x n, resend s = s.setRing { s.ring with out := x, frameNotes := n } ∧
    x.map (·.seq) = s.ring.out.map (·.seq) ∧ n ≤ max s.ring.frameNotes (spillSlots s.core.fs) ∧
    ((∀ e ∈ s.ring.out, e.isNote = false) → n = s.ring.frameNotes ∧
      x = s.ring.out.map fun e => if 4 ≤ e.resends then e else e.resent) := by
  refine ⟨_, _, resend_eq s, resendIn_seq .., resendIn_slots .., fun h => ?_⟩
  rw [resendIn_records _ _ _ h]
  exact ⟨rfl, rfl⟩

end

/-- Settles O57: each section, fold, heal and item is one law of the ring above. The lanes an unfold locks, the slips and the
sample count a PLL takes are the model's choice (log entry 37), and so is that a row out of its moment changes nothing (log
entry 2). -/
theorem ringFramesAndFoldsFollowTheRules : Obligations.RingFramesAndFoldsFollowTheRules := by
  unfold Obligations.RingFramesAndFoldsFollowTheRules
  intro s m l gs laneA ok d b q o r put count still slips marked lane
  refine ⟨fun hr => ?_, fun hr => ?_, fun hr hcrc hnew => ?_, fun hr => ?_, fun hst => ?_, fun hr hst => ?_, fun hr hel hj => ?_,
    fun hr hjoins => ?_, fun hr => ?_, fun hstill => exec_heals_waits hstill b, fun hgo => ?_, fun hl => ?_, fun h => ?_,
    fun hrun hlast => ?_, fun hfew => ?_, fun hmany => ?_⟩
  · rw [exec_markerArrival, exec_gossipSection, exec_sumSection, exec_totalSection, markerIn_standalone hr,
      gossipIn_standalone hr, sumIn_standalone hr, totalIn_standalone hr]
    exact ⟨rfl, rfl, rfl, rfl⟩
  · rw [exec_markerArrival, exec_sumSection, exec_totalSection, sumIn_bad hr, totalIn_bad hr]
    exact ⟨rfl, rfl, fun hcrc => congrArg _ (markerIn_bad hr hcrc), fun hcrc h => congrArg _ (markerIn_passes hr hcrc h)⟩
  · rw [exec_markerArrival, markerIn_member hr hcrc hnew]
    exact ⟨fun h => congrArg _ (alignTide_free m h), fun hst hclk => congrArg _ (alignTide_disciplined m hr hst hclk)⟩
  · obtain ⟨⟨hgossip, hlast, hA, hB, hframe⟩, hgossip', hA', hB', hframe'⟩ := gossipIn_keeps hr gs
    exact ⟨gossipIn s gs true, gossipIn s gs false, rfl, hgossip, hlast, hA, hB, hframe, rfl, hgossip', hA', hB', hframe'⟩
  · exact ⟨congrArg _ (sumIn_mismatch hst l), congrArg _ (totalIn_mismatch hst l)⟩
  · refine ⟨fun hk => ⟨congrArg _ (sumIn_keeper hk hst l), congrArg _ (totalIn_keeper hk l)⟩, fun hm =>
      ⟨congrArg _ (totalIn_member hm hst l), addBlocks l r.block, congrArg _ (sumIn_member hm hst l), ?_⟩⟩
    intro n i hn hi y hhi hlo
    rw [addBlocks_getD _ _ hn hi, ringAdd_fits hhi hlo]
  · have hdeaf := listens_false hr hel hj
    rw [exec_ringLaneLoss, exec_ringAckReceived, exec_ringItemResend, laneLoss_deaf hdeaf hr, hdeaf]
    exact ⟨rfl, rfl, rfl⟩
  · exact congrArg _ (laneLoss_joining ((listens_iff s).mpr (.inr hjoins)) hr laneA d)
  · obtain ⟨⟨hA, hB⟩, hst, hunhealed, hnotice, hframe⟩ := laneLoss_folded hr laneA d
    exact ⟨_, rfl, hA, hB, hst, hunhealed, hnotice, hframe⟩
  · obtain ⟨hheal, hunfold⟩ := exec_heals hgo b
    obtain ⟨hpos, hunits, hid, hheals, hdone, hrole, hdelay, hcore⟩ := heal_healed s b
    obtain ⟨hpos', hunits', hheals', hdone', hA, hB, hframe⟩ := unfold_unfolded s b
    exact ⟨_, _, hheal, hpos, hunits, hid, hheals, hdone, hrole, hdelay, hcore, hunfold, hpos', hunits', hheals', hdone',
      hA.trans (RingLane.at_or ..), hB.trans (RingLane.at_or ..), hframe⟩
  · have hlistens := (listens_iff s).mpr hl
    rw [exec_ringAckReceived, exec_ringItemResend, hlistens]
    refine ⟨rfl, fun hrun => by rw [hrun]; rfl, fun hrun => ?_⟩
    obtain ⟨x, n, hsent, hkept⟩ := resend_sends s
    refine ⟨x, n, ?_, hkept⟩
    rw [hrun]
    exact congrArg _ hsent
  · rw [exec_ringItemGiveUp]
    rcases h with hstop | hearly
    · rw [if_neg (by simp [hstop])]
    · rw [itemGiveUp_early hearly, ite_self]
  · exact ⟨_, (exec_ringItemGiveUp s q).trans (by rw [if_pos hrun]), itemGiveUp_last hlast⟩
  · rw [exec_originSilent, if_neg (Nat.not_le.mpr hfew)]
  · exact ⟨releaseFrom s o.val, (exec_originSilent s o).trans (by rw [if_pos hmany]), releaseFrom_released s o.val,
      releaseFrom_others s o.val, rfl⟩

end Sys2Proof.Machine
end
